-- ==== Sys2Proof/Syntax.lean ====
section
/-! DEFINITION. The instruction syntax: one constructor for each row of the opcode table. Encoded rows carry their guard
(R74, R75) and their fields as the format tables give them; event rows carry the object of the device that acts. -/

namespace Sys2Proof

/-- The two front ends of a task (R52). -/
inductive Side where
  | a
  | c
  deriving DecidableEq, Repr

/-- The guard of an instruction word (R74, R75): unguarded (E = 0, N = 0, G = 0), or guarded by predicate `p` with sense `n`. -/
inductive Guard where
  | always
  | on (n : Bool) (p : BitVec 4)
  deriving DecidableEq, Repr

/-- The structures that soft errors strike (R369). -/
inductive ErrSite where
  | context (core : Nat) (ctx : Nat)   -- registers, predicates, control registers, vector pool or queue slots of slot or handler ctx
  | localMem (core : Nat) (off : Nat)
  | l1d (core : Nat) (line : Nat) (sector : Nat)
  | memory (pa : Nat)
  | tlb (cl : Nat) (idx : Nat)
  | plate (sheet : Nat) (idx : Nat)
  | nodeCache (cl : Nat) (job : Nat) (unit : Nat)
  | replica (sheet : Nat) (line : Nat)
  | dispatcher (launch : Nat)
  deriving DecidableEq, Repr

/-- The instructions and events of the device, one constructor for each row of spec/opcode_table.json. -/
inductive Instr where
  /-- ADD (R103). -/
  | add (g : Guard) (d : BitVec 5) (a : BitVec 5) (b : BitVec 5)
  /-- SUB (R103). -/
  | sub (g : Guard) (d : BitVec 5) (a : BitVec 5) (b : BitVec 5)
  /-- AND (R103). -/
  | and (g : Guard) (d : BitVec 5) (a : BitVec 5) (b : BitVec 5)
  /-- OR (R103). -/
  | or (g : Guard) (d : BitVec 5) (a : BitVec 5) (b : BitVec 5)
  /-- XOR (R103). -/
  | xor (g : Guard) (d : BitVec 5) (a : BitVec 5) (b : BitVec 5)
  /-- ANDN (R103). -/
  | andn (g : Guard) (d : BitVec 5) (a : BitVec 5) (b : BitVec 5)
  /-- SHL (R103). -/
  | shl (g : Guard) (d : BitVec 5) (a : BitVec 5) (b : BitVec 5)
  /-- SHR (R103). -/
  | shr (g : Guard) (d : BitVec 5) (a : BitVec 5) (b : BitVec 5)
  /-- SAR (R103). -/
  | sar (g : Guard) (d : BitVec 5) (a : BitVec 5) (b : BitVec 5)
  /-- MIN (R103). -/
  | min (g : Guard) (d : BitVec 5) (a : BitVec 5) (b : BitVec 5)
  /-- MAX (R103). -/
  | max (g : Guard) (d : BitVec 5) (a : BitVec 5) (b : BitVec 5)
  /-- MINN (R103). -/
  | minn (g : Guard) (d : BitVec 5) (a : BitVec 5) (b : BitVec 5)
  /-- MAXN (R103). -/
  | maxn (g : Guard) (d : BitVec 5) (a : BitVec 5) (b : BitVec 5)
  /-- ADDW (R103). -/
  | addw (g : Guard) (d : BitVec 5) (a : BitVec 5) (b : BitVec 5)
  /-- SUBW (R103). -/
  | subw (g : Guard) (d : BitVec 5) (a : BitVec 5) (b : BitVec 5)
  /-- CLZ (R103). -/
  | clz (g : Guard) (d : BitVec 5) (a : BitVec 5)
  /-- CTZ (R103). -/
  | ctz (g : Guard) (d : BitVec 5) (a : BitVec 5)
  /-- POPC (R103). -/
  | popc (g : Guard) (d : BitVec 5) (a : BitVec 5)
  /-- SEXT8 (R103). -/
  | sext8 (g : Guard) (d : BitVec 5) (a : BitVec 5)
  /-- SEXT16 (R103). -/
  | sext16 (g : Guard) (d : BitVec 5) (a : BitVec 5)
  /-- SEXT32 (R103). -/
  | sext32 (g : Guard) (d : BitVec 5) (a : BitVec 5)
  /-- ZEXT32 (R103). -/
  | zext32 (g : Guard) (d : BitVec 5) (a : BitVec 5)
  /-- MUL (R104). -/
  | mul (g : Guard) (d : BitVec 5) (a : BitVec 5) (b : BitVec 5)
  /-- MULH (R104). -/
  | mulh (g : Guard) (d : BitVec 5) (a : BitVec 5) (b : BitVec 5)
  /-- MULHN (R104). -/
  | mulhn (g : Guard) (d : BitVec 5) (a : BitVec 5) (b : BitVec 5)
  /-- MULW (R104). -/
  | mulw (g : Guard) (d : BitVec 5) (a : BitVec 5) (b : BitVec 5)
  /-- DIV (R104). -/
  | div (g : Guard) (d : BitVec 5) (a : BitVec 5) (b : BitVec 5)
  /-- DIVN (R104). -/
  | divn (g : Guard) (d : BitVec 5) (a : BitVec 5) (b : BitVec 5)
  /-- REM (R104). -/
  | rem (g : Guard) (d : BitVec 5) (a : BitVec 5) (b : BitVec 5)
  /-- REMN (R104). -/
  | remn (g : Guard) (d : BitVec 5) (a : BitVec 5) (b : BitVec 5)
  /-- ADDI (R105). -/
  | addi (g : Guard) (d : BitVec 5) (a : BitVec 5) (i : BitVec 10)
  /-- ANDI (R105). -/
  | andi (g : Guard) (d : BitVec 5) (a : BitVec 5) (i : BitVec 10)
  /-- ORI (R105). -/
  | ori (g : Guard) (d : BitVec 5) (a : BitVec 5) (i : BitVec 10)
  /-- XORI (R105). -/
  | xori (g : Guard) (d : BitVec 5) (a : BitVec 5) (i : BitVec 10)
  /-- SHLI (R106). -/
  | shli (g : Guard) (d : BitVec 5) (a : BitVec 5) (s : BitVec 6)
  /-- SHRI (R106). -/
  | shri (g : Guard) (d : BitVec 5) (a : BitVec 5) (s : BitVec 6)
  /-- SARI (R106). -/
  | sari (g : Guard) (d : BitVec 5) (a : BitVec 5) (s : BitVec 6)
  /-- CMPI_EQ (R107). -/
  | cmpiEq (g : Guard) (p : BitVec 4) (a : BitVec 5) (i : BitVec 8)
  /-- CMPI_NE (R107). -/
  | cmpiNe (g : Guard) (p : BitVec 4) (a : BitVec 5) (i : BitVec 8)
  /-- CMPI_LT (R107). -/
  | cmpiLt (g : Guard) (p : BitVec 4) (a : BitVec 5) (i : BitVec 8)
  /-- CMPI_LTN (R107). -/
  | cmpiLtn (g : Guard) (p : BitVec 4) (a : BitVec 5) (i : BitVec 8)
  /-- CMPI_GE (R107). -/
  | cmpiGe (g : Guard) (p : BitVec 4) (a : BitVec 5) (i : BitVec 8)
  /-- CMPI_GEN (R107). -/
  | cmpiGen (g : Guard) (p : BitVec 4) (a : BitVec 5) (i : BitVec 8)
  /-- CMP_EQ (R107). -/
  | cmpEq (g : Guard) (p : BitVec 4) (a : BitVec 5) (b : BitVec 5)
  /-- CMP_NE (R107). -/
  | cmpNe (g : Guard) (p : BitVec 4) (a : BitVec 5) (b : BitVec 5)
  /-- CMP_LT (R107). -/
  | cmpLt (g : Guard) (p : BitVec 4) (a : BitVec 5) (b : BitVec 5)
  /-- CMP_LTN (R107). -/
  | cmpLtn (g : Guard) (p : BitVec 4) (a : BitVec 5) (b : BitVec 5)
  /-- CMP_GE (R107). -/
  | cmpGe (g : Guard) (p : BitVec 4) (a : BitVec 5) (b : BitVec 5)
  /-- CMP_GEN (R107). -/
  | cmpGen (g : Guard) (p : BitVec 4) (a : BitVec 5) (b : BitVec 5)
  /-- LEA (R108). -/
  | lea (g : Guard) (d : BitVec 5) (a : BitVec 5) (b : BitVec 5) (s : BitVec 2)
  /-- PAND (R110). -/
  | pand (g : Guard) (d : BitVec 4) (a : BitVec 4) (b : BitVec 4)
  /-- POR (R110). -/
  | por (g : Guard) (d : BitVec 4) (a : BitVec 4) (b : BitVec 4)
  /-- PXOR (R110). -/
  | pxor (g : Guard) (d : BitVec 4) (a : BitVec 4) (b : BitVec 4)
  /-- PANDN (R110). -/
  | pandn (g : Guard) (d : BitVec 4) (a : BitVec 4) (b : BitVec 4)
  /-- PNOT (R110). -/
  | pnot (g : Guard) (d : BitVec 4) (a : BitVec 4)
  /-- PSET (R110). -/
  | pset (g : Guard) (d : BitVec 4)
  /-- PCLR (R110). -/
  | pclr (g : Guard) (d : BitVec 4)
  /-- PMOVS (R110). -/
  | pmovs (g : Guard) (d : BitVec 4) (a : BitVec 5)
  /-- PANY (R110). -/
  | pany (g : Guard) (d : BitVec 5) (a : BitVec 4)
  /-- PALL (R110). -/
  | pall (g : Guard) (d : BitVec 5) (a : BitVec 4)
  /-- PCNT (R110). -/
  | pcnt (g : Guard) (d : BitVec 5) (a : BitVec 4)
  /-- PFIRST (R110). -/
  | pfirst (g : Guard) (d : BitVec 5) (a : BitVec 4)
  /-- SEL (R109). -/
  | sel (g : Guard) (d : BitVec 5) (a : BitVec 5) (b : BitVec 5) (p : BitVec 4)
  /-- J (R111). -/
  | jump (g : Guard) (o : BitVec 20)
  /-- JAL (R111). -/
  | jumpLink (g : Guard) (o : BitVec 20)
  /-- JR (R112). -/
  | jumpReg (g : Guard) (a : BitVec 5)
  /-- JALR (R112). -/
  | jumpLinkReg (g : Guard) (a : BitVec 5)
  /-- NOP (R114). -/
  | nop (g : Guard)
  /-- END (R116). -/
  | endTask (g : Guard)
  /-- COMMIT (R115). -/
  | commit (g : Guard)
  /-- YIELD (R117). -/
  | yield (g : Guard)
  /-- PARK (R118). -/
  | park (g : Guard)
  /-- TRAP (R119). -/
  | trap (g : Guard) (c : BitVec 5)
  /-- ERET (R364). -/
  | eret (g : Guard)
  /-- BRK (R119). -/
  | brk (g : Guard)
  /-- HRET (R121). -/
  | hret (g : Guard)
  /-- ASTART (R120). -/
  | astart (g : Guard) (a : BitVec 5)
  /-- AWAIT (R120). -/
  | await (g : Guard)
  /-- IFLUSH (R122). -/
  | iflush (g : Guard)
  /-- CRD (R123). -/
  | crd (g : Guard) (d : BitVec 5) (c : BitVec 10)
  /-- CWR (R123). -/
  | cwr (g : Guard) (a : BitVec 5) (c : BitVec 10)
  /-- LD (R127). -/
  | ld (g : Guard) (d : BitVec 5) (b : BitVec 5) (z : BitVec 3) (s : BitVec 1) (o : BitVec 6)
  /-- ST (R127). -/
  | st (g : Guard) (d : BitVec 5) (b : BitVec 5) (z : BitVec 3) (s : BitVec 1) (o : BitVec 6)
  /-- LDV (R129). -/
  | ldv (g : Guard) (d : BitVec 5) (b : BitVec 5) (p : BitVec 5) (s : BitVec 1) (t : BitVec 1)
  /-- STV (R129). -/
  | stv (g : Guard) (d : BitVec 5) (b : BitVec 5) (p : BitVec 5) (s : BitVec 1)
  /-- AMOADD (R282). -/
  | amoadd (g : Guard) (d : BitVec 5) (a : BitVec 5) (b : BitVec 5) (w : BitVec 1)
  /-- AMOAND (R282). -/
  | amoand (g : Guard) (d : BitVec 5) (a : BitVec 5) (b : BitVec 5) (w : BitVec 1)
  /-- AMOOR (R282). -/
  | amoor (g : Guard) (d : BitVec 5) (a : BitVec 5) (b : BitVec 5) (w : BitVec 1)
  /-- AMOXOR (R282). -/
  | amoxor (g : Guard) (d : BitVec 5) (a : BitVec 5) (b : BitVec 5) (w : BitVec 1)
  /-- AMOMIN (R282). -/
  | amomin (g : Guard) (d : BitVec 5) (a : BitVec 5) (b : BitVec 5) (w : BitVec 1)
  /-- AMOMAX (R282). -/
  | amomax (g : Guard) (d : BitVec 5) (a : BitVec 5) (b : BitVec 5) (w : BitVec 1)
  /-- AMOMINN (R282). -/
  | amominn (g : Guard) (d : BitVec 5) (a : BitVec 5) (b : BitVec 5) (w : BitVec 1)
  /-- AMOMAXN (R282). -/
  | amomaxn (g : Guard) (d : BitVec 5) (a : BitVec 5) (b : BitVec 5) (w : BitVec 1)
  /-- AMOSWAP (R282). -/
  | amoswap (g : Guard) (d : BitVec 5) (a : BitVec 5) (b : BitVec 5) (w : BitVec 1)
  /-- AMOCAS (R282). -/
  | amocas (g : Guard) (d : BitVec 5) (a : BitVec 5) (b : BitVec 5) (w : BitVec 1)
  /-- AMOFADD (R282). -/
  | amofadd (g : Guard) (d : BitVec 5) (a : BitVec 5) (b : BitVec 5)
  /-- AMOSTAG (R282). -/
  | amostag (g : Guard) (d : BitVec 5) (a : BitVec 5) (b : BitVec 5)
  /-- FENCE (R256). -/
  | fence (g : Guard) (k : BitVec 5) (s : BitVec 5)
  /-- WAITACK (R257). -/
  | waitack (g : Guard) (d : BitVec 5) (a : BitVec 5) (s : BitVec 5)
  /-- PFETCH (R287). -/
  | pfetch (g : Guard) (a : BitVec 5) (b : BitVec 5)
  /-- CCLEAN (R288). -/
  | cclean (g : Guard) (d : BitVec 5) (a : BitVec 5) (b : BitVec 5)
  /-- CINVAL (R288). -/
  | cinval (g : Guard) (d : BitVec 5) (a : BitVec 5) (b : BitVec 5)
  /-- CFLUSH (R288). -/
  | cflush (g : Guard) (d : BitVec 5) (a : BitVec 5) (b : BitVec 5)
  /-- ACQINV (R289). -/
  | acqinv (g : Guard) (b : BitVec 5)
  /-- VADD (R210). -/
  | vadd (g : Guard) (d : BitVec 5) (a : BitVec 5) (b : BitVec 5)
  /-- VSUB (R210). -/
  | vsub (g : Guard) (d : BitVec 5) (a : BitVec 5) (b : BitVec 5)
  /-- VMUL (R210). -/
  | vmul (g : Guard) (d : BitVec 5) (a : BitVec 5) (b : BitVec 5)
  /-- VMIN (R210). -/
  | vmin (g : Guard) (d : BitVec 5) (a : BitVec 5) (b : BitVec 5)
  /-- VMAX (R210). -/
  | vmax (g : Guard) (d : BitVec 5) (a : BitVec 5) (b : BitVec 5)
  /-- VABS (R210). -/
  | vabs (g : Guard) (d : BitVec 5) (a : BitVec 5)
  /-- VNEG (R210). -/
  | vneg (g : Guard) (d : BitVec 5) (a : BitVec 5)
  /-- VAND (R210). -/
  | vand (g : Guard) (d : BitVec 5) (a : BitVec 5) (b : BitVec 5)
  /-- VOR (R210). -/
  | vor (g : Guard) (d : BitVec 5) (a : BitVec 5) (b : BitVec 5)
  /-- VXOR (R210). -/
  | vxor (g : Guard) (d : BitVec 5) (a : BitVec 5) (b : BitVec 5)
  /-- VSHL (R210). -/
  | vshl (g : Guard) (d : BitVec 5) (a : BitVec 5) (b : BitVec 5)
  /-- VSHR (R210). -/
  | vshr (g : Guard) (d : BitVec 5) (a : BitVec 5) (b : BitVec 5)
  /-- VSAR (R210). -/
  | vsar (g : Guard) (d : BitVec 5) (a : BitVec 5) (b : BitVec 5)
  /-- VFMA (R210). -/
  | vfma (g : Guard) (d : BitVec 5) (a : BitVec 5) (b : BitVec 5)
  /-- VFMS (R210). -/
  | vfms (g : Guard) (d : BitVec 5) (a : BitVec 5) (b : BitVec 5)
  /-- VADDS (R212). -/
  | vadds (g : Guard) (d : BitVec 5) (a : BitVec 5) (b : BitVec 5)
  /-- VSUBS (R212). -/
  | vsubs (g : Guard) (d : BitVec 5) (a : BitVec 5) (b : BitVec 5)
  /-- VMULS (R212). -/
  | vmuls (g : Guard) (d : BitVec 5) (a : BitVec 5) (b : BitVec 5)
  /-- VMINS (R212). -/
  | vmins (g : Guard) (d : BitVec 5) (a : BitVec 5) (b : BitVec 5)
  /-- VMAXS (R212). -/
  | vmaxs (g : Guard) (d : BitVec 5) (a : BitVec 5) (b : BitVec 5)
  /-- VFMAS (R212). -/
  | vfmas (g : Guard) (d : BitVec 5) (a : BitVec 5) (b : BitVec 5)
  /-- VEXP2 (R213). -/
  | vexp2 (g : Guard) (d : BitVec 5) (a : BitVec 5)
  /-- VLOG2 (R213). -/
  | vlog2 (g : Guard) (d : BitVec 5) (a : BitVec 5)
  /-- VRCP (R213). -/
  | vrcp (g : Guard) (d : BitVec 5) (a : BitVec 5)
  /-- VRSQ (R213). -/
  | vrsq (g : Guard) (d : BitVec 5) (a : BitVec 5)
  /-- VSQRT (R213). -/
  | vsqrt (g : Guard) (d : BitVec 5) (a : BitVec 5)
  /-- VTANH (R213). -/
  | vtanh (g : Guard) (d : BitVec 5) (a : BitVec 5)
  /-- VRSUM (R215). -/
  | vrsum (g : Guard) (d : BitVec 5) (a : BitVec 5)
  /-- VRMAX (R215). -/
  | vrmax (g : Guard) (d : BitVec 5) (a : BitVec 5)
  /-- VRMIN (R215). -/
  | vrmin (g : Guard) (d : BitVec 5) (a : BitVec 5)
  /-- VCSUM (R215). -/
  | vcsum (g : Guard) (d : BitVec 5) (a : BitVec 5)
  /-- VCMAX (R215). -/
  | vcmax (g : Guard) (d : BitVec 5) (a : BitVec 5)
  /-- VRAMAX (R215). -/
  | vramax (g : Guard) (d : BitVec 5) (a : BitVec 5)
  /-- VCMP_EQ (R216). -/
  | vcmpEq (g : Guard) (p : BitVec 4) (a : BitVec 5) (b : BitVec 5)
  /-- VCMP_NE (R216). -/
  | vcmpNe (g : Guard) (p : BitVec 4) (a : BitVec 5) (b : BitVec 5)
  /-- VCMP_LT (R216). -/
  | vcmpLt (g : Guard) (p : BitVec 4) (a : BitVec 5) (b : BitVec 5)
  /-- VCMP_LE (R216). -/
  | vcmpLe (g : Guard) (p : BitVec 4) (a : BitVec 5) (b : BitVec 5)
  /-- VCMP_GT (R216). -/
  | vcmpGt (g : Guard) (p : BitVec 4) (a : BitVec 5) (b : BitVec 5)
  /-- VCMP_GE (R216). -/
  | vcmpGe (g : Guard) (p : BitVec 4) (a : BitVec 5) (b : BitVec 5)
  /-- VCMP_UN (R216). -/
  | vcmpUn (g : Guard) (p : BitVec 4) (a : BitVec 5) (b : BitVec 5)
  /-- VCVT (R217). -/
  | vcvt (g : Guard) (d : BitVec 5) (a : BitVec 5) (s : BitVec 1) (t : BitVec 4)
  /-- VMOV (R218). -/
  | vmov (g : Guard) (d : BitVec 5) (a : BitVec 5)
  /-- VSPLAT (R218). -/
  | vsplat (g : Guard) (d : BitVec 5) (a : BitVec 5)
  /-- VEXT (R219). -/
  | vext (g : Guard) (d : BitVec 5) (a : BitVec 5) (b : BitVec 5)
  /-- VINS (R219). -/
  | vins (g : Guard) (d : BitVec 5) (a : BitVec 5) (b : BitVec 5)
  /-- VBROW (R218). -/
  | vbrow (g : Guard) (d : BitVec 5) (a : BitVec 5) (b : BitVec 5)
  /-- VBCOL (R218). -/
  | vbcol (g : Guard) (d : BitVec 5) (a : BitVec 5) (b : BitVec 5)
  /-- VSHAPE (R222). -/
  | vshape (g : Guard) (d : BitVec 5) (a : BitVec 5)
  /-- VZERO (R218). -/
  | vzero (g : Guard) (d : BitVec 5)
  /-- VIOTA (R221). -/
  | viota (g : Guard) (d : BitVec 5) (a : BitVec 5)
  /-- VSHUF (R220). -/
  | vshuf (g : Guard) (d : BitVec 5) (a : BitVec 5) (b : BitVec 5)
  /-- VSCALE (R221). -/
  | vscale (g : Guard) (d : BitVec 5) (a : BitVec 5) (b : BitVec 5)
  /-- SMERGE (R200). -/
  | smerge (g : Guard) (d : BitVec 5) (a : BitVec 5) (b : BitVec 5)
  /-- SMERGEZ (R200). -/
  | smergez (g : Guard) (d : BitVec 5) (a : BitVec 5) (b : BitVec 5)
  /-- SMCOUNT (R199). -/
  | smcount (g : Guard) (d : BitVec 5) (a : BitVec 5) (b : BitVec 5)
  /-- SCAN (R201). -/
  | scan (g : Guard) (d : BitVec 5) (a : BitVec 5) (b : BitVec 5)
  /-- SCANX (R201). -/
  | scanx (g : Guard) (d : BitVec 5) (a : BitVec 5) (b : BitVec 5)
  /-- VPRUNE (R223). -/
  | vprune (g : Guard) (d : BitVec 5) (a : BitVec 5) (b : BitVec 5)
  /-- VPRUNES (R223). -/
  | vprunes (g : Guard) (d : BitVec 5) (a : BitVec 5) (b : BitVec 5)
  /-- VRNG (R224). -/
  | vrng (g : Guard) (d : BitVec 5)
  /-- VCOMPACT (R225). -/
  | vcompact (g : Guard) (d : BitVec 5) (a : BitVec 5) (p : BitVec 4)
  /-- PMERGE (R226). -/
  | pmerge (g : Guard) (d : BitVec 5) (a : BitVec 5) (b : BitVec 5) (f : BitVec 5)
  /-- QCFG (R235). -/
  | qcfg (g : Guard) (d : BitVec 5) (q : BitVec 3)
  /-- QPUB (R234). -/
  | qpub (g : Guard) (q : BitVec 3)
  /-- QADV (R197). -/
  | qadv (g : Guard) (q : BitVec 3)
  /-- QFILL (R236). -/
  | qfill (g : Guard) (d : BitVec 5) (q : BitVec 3) (b : BitVec 5)
  /-- SSTR (R195). -/
  | sstr (g : Guard) (q : BitVec 3) (a : BitVec 5)
  /-- ISTR (R239). -/
  | istr (g : Guard) (q : BitVec 3) (a : BitVec 5)
  /-- SCLOSE (R241). -/
  | sclose (g : Guard) (q : BitVec 3)
  /-- SSTAT (R242). -/
  | sstat (g : Guard) (d : BitVec 5) (q : BitVec 3)
  /-- SPSEND (R247). -/
  | spsend (g : Guard) (a : BitVec 5) (b : BitVec 5)
  /-- SPSENDV (R247). -/
  | spsendv (g : Guard) (d : BitVec 5) (a : BitVec 5)
  /-- SPCLOSE (R248). -/
  | spclose (g : Guard)
  /-- SPRECV (R249). -/
  | sprecv (g : Guard) (d : BitVec 5) (a : BitVec 5) (p : BitVec 4)
  /-- SPRECVV (R249). -/
  | sprecvv (g : Guard) (d : BitVec 5) (a : BitVec 5) (p : BitVec 4)
  /-- SPSTAT (R250). -/
  | spstat (g : Guard) (d : BitVec 5) (a : BitVec 5)
  /-- MWALK (R163). -/
  | mwalk (g : Guard) (d : BitVec 5) (a : BitVec 5)
  /-- MWALKG (R152). -/
  | mwalkg (g : Guard) (d : BitVec 5) (a : BitVec 5)
  /-- MPROG (R165). -/
  | mprog (g : Guard) (d : BitVec 5) (a : BitVec 5) (b : BitVec 5)
  /-- MCANCEL (R166). -/
  | mcancel (g : Guard) (d : BitVec 5) (a : BitVec 5)
  /-- MNODE (R167). -/
  | mnode (g : Guard) (d : BitVec 5) (a : BitVec 5) (b : BitVec 5)
  /-- GANG (R168). -/
  | gang (g : Guard) (a : BitVec 5)
  /-- JWAIT (R169). -/
  | jwait (g : Guard) (d : BitVec 5) (a : BitVec 5)
  /-- JPOLL (R169). -/
  | jpoll (g : Guard) (d : BitVec 5) (a : BitVec 5)
  /-- TCOPY (R292). -/
  | tcopy (g : Guard) (d : BitVec 4) (a : BitVec 5)
  /-- TGATHER (R292). -/
  | tgather (g : Guard) (d : BitVec 4) (a : BitVec 5)
  /-- TSCATTER (R292). -/
  | tscatter (g : Guard) (d : BitVec 4) (a : BitVec 5)
  /-- TSCADD (R292). -/
  | tscadd (g : Guard) (d : BitVec 4) (a : BitVec 5)
  /-- TFILL (R292). -/
  | tfill (g : Guard) (d : BitVec 4) (a : BitVec 5)
  /-- SLEEPU (R301). -/
  | sleepu (g : Guard) (d : BitVec 5) (a : BitVec 5) (b : BitVec 5)
  /-- PHREG (R357). -/
  | phreg (g : Guard) (d : BitVec 5) (a : BitVec 5) (b : BitVec 5)
  /-- PHDROP (R357). -/
  | phdrop (g : Guard) (d : BitVec 5) (a : BitVec 5) (b : BitVec 5)
  /-- PHSIG (R329). -/
  | phsig (g : Guard) (d : BitVec 5) (a : BitVec 5) (b : BitVec 5)
  /-- PHWAIT (R328). -/
  | phwait (g : Guard) (d : BitVec 5) (a : BitVec 5) (b : BitVec 5)
  /-- PHNEXT (R358). -/
  | phnext (g : Guard) (d : BitVec 5) (a : BitVec 5) (b : BitVec 5)
  /-- PHREAD (R358). -/
  | phread (g : Guard) (d : BitVec 5) (a : BitVec 5) (b : BitVec 5)
  /-- PHNEW (R356). -/
  | phnew (g : Guard) (d : BitVec 5) (a : BitVec 5)
  /-- PHFREE (R356). -/
  | phfree (g : Guard) (d : BitVec 5) (a : BitVec 5)
  /-- TSPAWN (R327). -/
  | tspawn (g : Guard) (d : BitVec 5) (a : BitVec 5) (b : BitVec 5)
  /-- TDEP (R354). -/
  | tdep (g : Guard) (d : BitVec 5) (a : BitVec 5) (b : BitVec 5)
  /-- TCTR (R354). -/
  | tctr (g : Guard) (d : BitVec 5) (a : BitVec 5)
  /-- TSHAPE (R355). -/
  | tshape (g : Guard) (d : BitVec 5) (a : BitVec 5) (b : BitVec 5)
  /-- TARG (R326). -/
  | targ (g : Guard) (d : BitVec 5) (b : BitVec 3)
  /-- TSELF (R355). -/
  | tself (g : Guard) (d : BitVec 5)
  /-- TLATE (R355). -/
  | tlate (g : Guard) (d : BitVec 5)
  /-- PGLD (R400). -/
  | pgld (g : Guard) (d : BitVec 5) (a : BitVec 5) (b : BitVec 5)
  /-- PDROP (R401). -/
  | pdrop (g : Guard) (d : BitVec 5) (a : BitVec 5)
  /-- PSTAT (R402). -/
  | pstat (g : Guard) (d : BitVec 5) (a : BitVec 5)
  /-- PNOREC (R403). -/
  | pnorec (g : Guard) (d : BitVec 5) (a : BitVec 5)
  /-- LTURN (R412). -/
  | lturn (g : Guard) (d : BitVec 5) (a : BitVec 5) (b : BitVec 5)
  /-- LSTAT (R415). -/
  | lstat (g : Guard) (d : BitVec 5) (a : BitVec 5) (b : BitVec 5)
  /-- LQUIET (R415). -/
  | lquiet (g : Guard) (d : BitVec 5) (a : BitVec 5)
  /-- GPUSH (R425). -/
  | gpush (g : Guard) (d : BitVec 5) (a : BitVec 5) (b : BitVec 5)
  /-- RPOP (R426). -/
  | rpop (g : Guard) (d : BitVec 4) (b : BitVec 5)
  /-- LXBEGIN (R427). -/
  | lxbegin (g : Guard) (d : BitVec 5) (a : BitVec 5)
  /-- LXACK (R428). -/
  | lxack (g : Guard) (d : BitVec 5) (a : BitVec 5) (b : BitVec 5)
  /-- LXEND (R429). -/
  | lxend (g : Guard) (d : BitVec 5) (a : BitVec 5)
  /-- LXSTAT (R429). -/
  | lxstat (g : Guard) (d : BitVec 5) (a : BitVec 5)
  /-- TLBINV (R280). -/
  | tlbinv (g : Guard) (d : BitVec 5) (a : BitVec 5) (b : BitVec 5)
  /-- FREEZE (R373). -/
  | freeze (g : Guard) (d : BitVec 5) (a : BitVec 5) (b : BitVec 5)
  /-- THAW (R373). -/
  | thaw (g : Guard) (d : BitVec 5) (a : BitVec 5) (b : BitVec 5)
  /-- PGMOVE (R281). -/
  | pgmove (g : Guard) (d : BitVec 5) (a : BitVec 5) (b : BitVec 5)
  /-- CSPARE (R368). Its operands A and B stand as a pair (R372). -/
  | cspare (g : Guard) (d : BitVec 5) (ab : BitVec 5 × BitVec 5)
  /-- WORLD (R373). -/
  | world (g : Guard) (d : BitVec 5) (a : BitVec 5) (b : BitVec 5)
  /-- IMMX (R85). -/
  | immxHint (x : BitVec 22)
  /-- REP (R86). -/
  | repHint (b : BitVec 3) (a : BitVec 3) (d : BitVec 3) (c : BitVec 8)
  /-- ORD (R91). -/
  | ordHint (k : BitVec 3) (s : BitVec 3)
  /-- LOC (R286). -/
  | locHint (m : BitVec 2) (l : BitVec 2)
  /-- MCOMP (R93). -/
  | mcompHint (p : BitVec 1) (m : BitVec 5)
  /-- QW (R95). -/
  | qwHint (o : BitVec 3) (c : BitVec 3) (k : BitVec 3) (j : BitVec 3) (f : BitVec 3) (h : BitVec 3)
  /-- RND (R92). -/
  | rndHint (r : BitVec 3)
  /-- ILLEGAL_INSTRUCTION (R78); event. -/
  | illegalInstruction (w : BitVec 32)
  /-- JOB_QUEUE_GRANT (R149); event. -/
  | jobQueueGrant (cl : Nat)
  /-- WALK_JOB_ACCEPT (R161); event. -/
  | walkJobAccept (cl job : Nat)
  /-- WALK_LOAD_DONE (R161); event. -/
  | walkLoadDone (cl job : Nat)
  /-- WALK_STEP (R148); event. -/
  | walkStep (cl job : Nat)
  /-- WALK_STEP_END (R161); event. -/
  | walkStepEnd (cl job : Nat)
  /-- WALK_SUSPEND (R16); event. -/
  | walkSuspend (cl job : Nat)
  /-- HANDLER_START (R157); event. -/
  | handlerStart (core : Nat)
  /-- WALK_JOB_COMPLETE (R161); event. -/
  | walkJobComplete (cl job : Nat)
  /-- TRACER_GRANT (R295); event. -/
  | tracerGrant (cl : Nat)
  /-- TRACER_JOB_START (R294); event. -/
  | tracerJobStart (cl job : Nat)
  /-- TRACER_PART (R294); event. -/
  | tracerPart (cl job : Nat)
  /-- TRACER_SIG (R299); event. -/
  | tracerSig (cl job : Nat)
  /-- TRACER_SUSPEND (R297); event. -/
  | tracerSuspend (cl job : Nat)
  /-- APPEND_READY_ADD (R298); event. -/
  | appendReadyAdd (cl job : Nat)
  /-- TRACER_JOB_COMPLETE (R300); event. -/
  | tracerJobComplete (cl job : Nat)
  /-- STREAM_START (R195); event. -/
  | streamStart (th q : Nat)
  /-- STREAM_SLOT_PUBLISH (R196); event. -/
  | streamSlotPublish (th q : Nat)
  /-- STREAM_SUSPEND (R240); event. -/
  | streamSuspend (th q : Nat)
  /-- PMERGE_RESULT (R227); event. -/
  | pmergeResult (th : Nat)
  /-- HOME_WRITE (R253); event. -/
  | homeWrite (pkt : Nat)
  /-- HOME_ATOMIC (R283); event. -/
  | homeAtomic (pkt : Nat)
  /-- ACK_RECEIVE (R255); event. -/
  | ackReceive (pkt : Nat)
  /-- NACK_RETRY (R279); event. -/
  | nackRetry (pkt : Nat)
  /-- TLB_MISS_WALK (R273); event. -/
  | tlbMissWalk (cl asid va : Nat)
  /-- TLB_HC_SPILL (R275); event. -/
  | tlbHcSpill (cl idx : Nat)
  /-- LLC_FILL (R188); event. -/
  | llcFill (sheet line : Nat)
  /-- PAGE_EPOCH_BOUNDARY (R276); event. -/
  | pageEpochBoundary (sheet : Nat)
  /-- WCFG_WRITE (R186); event. -/
  | wcfgWrite (sheet w : Nat) (v : BitVec 64)
  /-- WINDOW_EN_CHANGE_DONE (R187); event. -/
  | windowEnChangeDone (sheet w : Nat)
  /-- ATLAS_WRITE (R269); event. -/
  | atlasWrite (sheet : Nat) (v : BitVec 64)
  /-- REPCTL_WRITE (R277); event. -/
  | repctlWrite (sheet : Nat) (v : BitVec 64)
  /-- STQCFG_WRITE (R346); event. -/
  | stqcfgWrite (sheet stage : Nat) (v : BitVec 64)
  /-- SVITEM_WRITE (R367); event. -/
  | svitemWrite (sheet : Nat) (v : BitVec 64)
  /-- PLCTL_FLUSH (R397); event. -/
  | plctlFlush (sheet : Nat)
  /-- PLCTL_KIND (R396); event. -/
  | plctlKind (sheet : Nat)
  /-- LXLOST_WRITE (R423); event. -/
  | lxlostWrite (v : BitVec 64)
  /-- SECURITY_REGION_WRITE (R439); event. -/
  | securityRegionWrite (sheet region reg : Nat) (v : BitVec 64) (secure : Bool)
  /-- SURVEYOR_REG_WRITE (R270); event. -/
  | surveyorRegWrite (sheet k n : Nat) (v : BitVec 64)
  /-- ITEM_INTAKE (R340); event. -/
  | itemIntake (sheet : Nat)
  /-- DISPATCH_CYCLE (R344); event. -/
  | dispatchCycle (sheet : Nat)
  /-- PRINT_ENTRY_ISSUE (R393); event. -/
  | printEntryIssue (th : Nat)
  /-- INPUT_COPY_DONE (R348); event. -/
  | inputCopyDone (th : Nat)
  /-- INPUT_COPY_FAULT (R344); event. -/
  | inputCopyFault (th : Nat)
  /-- TASK_END_COMPLETE (R348); event. -/
  | taskEndComplete (th : Nat)
  /-- GOVERNOR_TICK (R347); event. -/
  | governorTick (sheet : Nat)
  /-- DEADLOCK_SWEEP (R353); event. -/
  | deadlockSweep (sheet : Nat)
  /-- SURVEYOR_TRAP (R364); event. -/
  | surveyorTrap (sheet : Nat)
  /-- WATCHDOG_EXPIRE (R362); event. -/
  | watchdogExpire (th : Nat) (side : Side)
  /-- SOFT_ERROR_CORRECTED (R369); event. -/
  | softErrorCorrected (site : ErrSite)
  /-- SOFT_ERROR_UNCORRECTED (R369); event. -/
  | softErrorUncorrected (site : ErrSite)
  /-- LATE_PACKET_RECORD (R371); event. -/
  | latePacketRecord (cl : Nat)
  /-- PACKET_FORWARD (R409); event. -/
  | packetForward (cl : Nat)
  /-- ROUTE_OPEN (R245); event. -/
  | routeOpen (th : Nat) (side : Side)
  /-- PORT_ITEM_ARRIVE (R245); event. -/
  | portItemArrive (th : Nat) (side : Side)
  /-- ROUTE_CLOSE_FLIT (R246); event. -/
  | routeCloseFlit (th : Nat) (side : Side)
  /-- TURN_GROUP_START (R406); event. -/
  | turnGroupStart (edge : Nat)
  /-- TURN_GROUP_RETRAIN (R406); event. -/
  | turnGroupRetrain (edge : Nat) (ok : Bool)
  /-- COMPASS_SPAWN (R420); event. -/
  | compassSpawn (sheet : Nat) (v : BitVec 64)
  /-- COMPASS_SEAL (R422); event. -/
  | compassSeal (sheet : Nat) (v : BitVec 64)
  /-- COMPASS_POPQ (R417); event. -/
  | compassPopq (sheet : Nat) (second : Bool) (v : BitVec 64)
  /-- COMPASS_INDEX_WRITE (R417); event. -/
  | compassIndexWrite (sheet : Nat) (v : BitVec 64)
  /-- COMPASS_INTAIL_WRITE (R417); event. -/
  | compassIntailWrite (sheet : Nat) (v : BitVec 64)
  /-- LX_COMMIT (R422); event. -/
  | lxCommit (sheet idx : Nat)
  /-- SHEET_LOST (R423); event. -/
  | sheetLost (sheet : Nat)
  /-- CMDBASE_WRITE (R433); event. -/
  | cmdbaseWrite (port : Nat) (v : BitVec 64)
  /-- CMDTAIL_WRITE (R433); event. -/
  | cmdtailWrite (port : Nat) (v : BitVec 64)
  /-- HOST_REG_WRITE (R432); event. -/
  | hostRegWrite (port off : Nat) (v : BitVec 64)
  /-- CMD_WRITE (R434); event. -/
  | cmdWrite (port : Nat)
  /-- CMD_READ (R434); event. -/
  | cmdRead (port : Nat)
  /-- CMD_CREATE_LAUNCH (R434); event. -/
  | cmdCreateLaunch (port : Nat)
  /-- CMD_SUBMIT_ITEM (R434); event. -/
  | cmdSubmitItem (port : Nat)
  /-- CMD_WAKE_TASK (R434); event. -/
  | cmdWakeTask (port : Nat)
  /-- CMD_END_LAUNCH (R434); event. -/
  | cmdEndLaunch (port : Nat)
  /-- CMD_ATTEST (R440); event. -/
  | cmdAttest (port : Nat)
  /-- CMD_INVALID_OP (R432); event. -/
  | cmdInvalidOp (port : Nat)
  /-- STATUS_WRITE (R437); event. -/
  | statusWrite (port : Nat) (v : BitVec 64)
  /-- BOOT_VERIFY_DONE (R438); event. -/
  | bootVerifyDone (reason : Nat)
  /-- MODULE_RESET (R436); event. -/
  | moduleReset
  /-- THERMAL_THROTTLE (R442); event. -/
  | thermalThrottle (sheet : Nat)
  /-- THERMAL_STOP (R442); event. -/
  | thermalStop
  /-- SLEEPU_WAKE (R301); event. -/
  | sleepuWake (th : Nat) (side : Side)
  /-- BAR2_WINDOW_ACCESS (R431); event. -/
  | bar2WindowAccess (port : Nat) (write : Bool) (pa : Nat) (v : BitVec 64)
  /-- MERIDIAN_LINK_TRAINING (R411); event. -/
  | meridianLinkTraining (port : Nat) (trained : Bool)
  /-- JUNCTION_TEMPERATURE_FALL (R442); event. -/
  | junctionTemperatureFall (sheet : Nat)
  deriving DecidableEq, Repr

end Sys2Proof
end

