-- ==== Sys2Proof/Word.lean ====
section
/-! DEFINITION. The word types of the device: 64-bit scalar registers (R55), bytes, 512-bit predicates (R56) and 512-byte vector
registers (R57). -/

namespace Sys2Proof

/-- A scalar register (R55). -/
abbrev Word := BitVec 64

/-- A byte of memory. -/
abbrev Byte := BitVec 8

/-- A C-side predicate: one bit for each byte of a tile of 16 rows of 32 bytes (R56). -/
abbrev Pred := BitVec 512

/-- A vector register: 512 bytes, byte 0 in the low bits (R57). -/
abbrev VReg := BitVec 4096

/-- A 256-byte line of memory (R261). -/
abbrev LineData := BitVec 2048

/-- A mask with one bit for each byte of a line (R261). -/
abbrev LineMask := BitVec 256

end Sys2Proof
end

