-- ==== Sys2Proof/Machine/State.lean ====
section
/-! DEFINITION. The state of the module (R1, R2): every register, memory, queue and engine the manual gives, as plain data.
Contexts, threads, cores, clusters and sheets are held in association lists keyed by number; an absent key stands for the value at
reset. Numbers: core = sheet * 2048 + cluster * 8 + core in cluster; cluster = core / 8; sheet = cluster / 256; thread = core * 8 + slot. -/

namespace Sys2Proof.Machine

/-- An association list. An absent key reads as the default its accessor names. -/
abbrev Map (K V : Type) := List (K × V)

/-- Bytes by address, in the canonical form of `Memory.wf`. -/
abbrev Memory := List Host.Cell

/-- A context: one side of a task, a handler context of a core, or a surveyor core (R2, R52, R54). -/
inductive CtxId where
  | task (th : Nat) (side : Side)
  | handler (core k : Nat)
  | surveyor (sheet k : Nat)
  deriving DecidableEq, Repr

/-- The REP hint (R86): count and the three signed steps. -/
structure RepHint where
  count : Nat
  dStep : Int
  aStep : Int
  bStep : Int
  deriving DecidableEq, Repr

/-- The QW hint (R95): wait count (1 to 8) and slot offset of each operand. -/
structure QwHint where
  dCount : Nat
  dOff : Nat
  aCount : Nat
  aOff : Nat
  bCount : Nat
  bOff : Nat
  deriving DecidableEq, Repr

/-- The hints issued so far in the group in progress (R81, R82). -/
structure Hints where
  immx : Option (BitVec 22)
  rep : Option RepHint
  ord : Option (Nat × Nat)     -- kind, scope
  loc : Option (Nat × Nat)     -- L1 policy, L2 policy
  mcomp : Option (Nat × Bool)  -- mask register field, zero-fill policy
  qw : Option QwHint
  rnd : Option Nat
  deriving DecidableEq, Repr

def Hints.none : Hints :=
  { immx := .none, rep := .none, ord := .none, loc := .none, mcomp := .none, qw := .none, rnd := .none }

/-- What a waiting context waits for (`WaitUntil` of R9). -/
inductive WaitCond where
  | acked                            -- every write and atomic the side sent is acknowledged (R255, R257, R312)
  | soDone                           -- no SO access of the side outstanding (R307)
  | reply                            -- the reply to the side's own atomic (R283)
  | filled (q n : Nat)               -- at least n filled slots in queue q (R96, R197, R236)
  | room (q n : Nat)                 -- at least n free slots in queue q (R96, R234, R236)
  | streamRoom (q : Nat)             -- fewer than four streams on queue q (R195)
  | streamQuiet (q : Nat)            -- the engine of queue q has no read outstanding (R241)
  | aIdle                            -- the A side is idle (R120)
  | endWaits                         -- the waits of END (R116)
  | wake                             -- the wake bit (R118)
  | jobEntry                         -- a job table entry (R151)
  | walkGrant                        -- a walk queue entry (R149)
  | tracerGrant                      -- a tracer queue entry (R294)
  | jobDone (id : Nat)               -- the job is complete (R169, R301)
  | gang                             -- the GANG barrier (R168)
  | mwalkg                           -- the MWALKG barrier (R152)
  | mwalkgForm                       -- room for the job of a formed gang (R149, R151, R152)
  | pmerge                           -- the PMERGE group (R227)
  | phase (id : Nat) (ph : Nat)      -- the phaser reaches the phase (R328)
  | cycle (n : Nat)                  -- CYCLE reaches n (R301)
  | pool (sheet : Nat)               -- room in the sheet's ready pool (R327, R343)
  | route                            -- the side's send route is open (R245)
  | destFree (n : Nat)               -- n free entries at the route's destination (R247)
  | portItem (port : Nat)            -- an item or close marker at the receive port (R249)
  | edgeRoom (e : Nat)               -- fewer than 8 commands queued on the edge (R412)
  | edgeDone (e : Nat) (seq : Nat)   -- the edge has completed the command seq (R415)
  | inboxRoom                        -- room in the Compass inbox (R425)
  | popRecord                        -- a record in the pop queue (R426)
  | lxFinal (sheet idx : Nat)        -- the transaction is CLOSED or FAILED (R429)
  | windowDone (sheet w : Nat)       -- the change of a window's EN is done (R187)
  | page (va : Nat)                  -- a page fault being serviced (R124)
  | held (core : Nat)                -- a frozen core (R125)
  | ring                             -- room in the event ring (R363)
  | performed (pkts : List Nat)      -- requests that are performed or NACKed (R280)
  | settled (pkts : List Nat)        -- requests that are acknowledged (R312)
  deriving DecidableEq, Repr

/-- A wait: its kind in R353 (0 when it is no synchronisation condition), the object that a deadlock record names, and the condition. -/
structure Wait where
  kind : Nat
  obj : Word
  cond : WaitCond
  deriving DecidableEq, Repr

/-- Run state of a front end (R53, R120, R362, R364). -/
inductive RunState where
  | idle
  | running
  | ended
  | frozen      -- stopped at a group boundary, awaiting THAW (R362, R366)
  | stopped     -- a surveyor core that raised a cause (R364)
  deriving DecidableEq, Repr

/-- A side's send route (R243 to R246, R250). -/
structure Route where
  opn : Bool          -- open
  opening : Bool      -- waiting to open
  broken : Bool
  dest : Word         -- destination port address
  free : Nat          -- destination entries free as last reported
  closing : Bool      -- the closing flit has entered the route
  flight : List (Bool × VReg)   -- items sent and not yet arrived: vector flag and bytes
  deriving DecidableEq, Repr

def Route.init : Route :=
  { opn := false, opening := false, broken := false, dest := 0, free := 32, closing := false, flight := [] }

/-- One front end: registers, control registers held per side, and the progress of the group that it issues (R52 to R67, R82). -/
structure Ctx where
  run : RunState
  x : Vector Word 32              -- s0 to s31 (R55)
  p : Vector Pred 16              -- p0 to p15; the A side uses bit 0 alone (R52, R56)
  v : Map Nat VReg                -- v0 to v23; an absent register reads 0 (R53, R57)
  pc : Word                       -- address of the next word
  grp : Word                      -- address of the first word of the group in progress (R82)
  buf : List (BitVec 32)          -- words of the group fetched and not issued (R82, R122)
  hints : Hints
  repDone : Nat                   -- repetitions completed in the REP group in progress (R86)
  seed : Word
  round : Word
  vshape : Word
  mcons : Word
  scanout : Word
  repcnt : Word
  cause : Word
  faultva : Word
  wait : Option Wait
  stage : Nat                     -- progress of a waiting instruction that has several waits
  begun : Bool                    -- the word in progress counts as issued and waits for the rest of its effect (R70, R72)
  keep : Word                     -- a value such an instruction keeps meanwhile
  kept : List Byte                -- the descriptor that it has read (R143, R195, R291)
  words : Nat                     -- words issued since commit (R115, R362)
  ackRecord : List (Nat × BitVec 32)  -- at most 4 (line VA, tag), most recent first (R255)
  route : Route
  yielded : List CtxId            -- contexts that must issue before a YIELDed context is chosen; its own YIELD counts first (R117)
  since : Nat                     -- cycle from which the wait of R71 counts
  hop : List (Word × BitVec 32)   -- forwarded words of a follower with the leader's pc (R72, R73), oldest first
  frozenCause : Nat               -- cause for which the side is frozen (R362, R373)
  deriving DecidableEq, Repr

def Ctx.init : Ctx :=
  { run := .idle, x := Vector.replicate 32 0, p := Vector.replicate 16 0, v := [], pc := 0, grp := 0, buf := [],
    hints := Hints.none, repDone := 0, seed := 1, round := 0, vshape := 0x7F0, mcons := 0, scanout := 0, repcnt := 0, cause := 0,
    faultva := 0, wait := none, stage := 0, begun := false, keep := 0, kept := [], words := 0, ackRecord := [], route := Route.init, yielded := [], since := 0,
    hop := [], frozenCause := 0 }

/-- A stream (R194, R237, R238): its descriptor and its progress. -/
structure Stream where
  mode : Nat
  base : Word         -- base VA, or table VA in mode 2
  aux : Word          -- bounds VA (mode 1), index VA (mode 2)
  stride : Word       -- mode 0
  count : Nat         -- rows, segments or indices
  esize : Nat         -- element or record size
  flags : Nat
  width : Nat         -- mode 0
  limit : Nat         -- mode 2
  started : Bool
  seg : Nat           -- current segment (mode 1), or slots done (modes 0 and 2)
  sub : Nat           -- slots done of the current segment (mode 1)
  suspVa : Option Nat -- suspended on a page fault at this address (R240)
  suspPos : Nat       -- the row or index position whose read has suspended it (R242)
  deriving DecidableEq, Repr

/-- A queue of a task (R230, R231), with its stream engine (R237 to R242). -/
structure Queue where
  depth : Nat
  stream : Bool       -- KIND
  prod : Nat          -- 0 A side, 1 C side, 2 stream
  cons : Nat          -- 0 A side, 1 C side
  filled : Nat
  pp : Nat
  cp : Nat
  slots : Map Nat VReg
  streams : List Stream
  why : Nat           -- WHY of the stream that ended last (R242)
  pos : Nat           -- POS of the stream that ended last
  deriving DecidableEq, Repr

def Queue.init : Queue :=
  { depth := 0, stream := false, prod := 0, cons := 0, filled := 0, pp := 0, cp := 0, slots := [], streams := [], why := 0, pos := 0 }

/-- An entry of a job table (R151). -/
structure JobEntry where
  id : Nat
  complete : Bool
  status : Word
  faultVa : Word          -- FAULTVA of R19 for a walk with faulted rows
  deriving DecidableEq, Repr

/-- A receive port (R244 to R250). Items are (vector flag, bytes, sender scope). -/
structure Port where
  bound : Option (Nat × Side)        -- the sending thread and side
  items : List (Bool × VReg × Nat)
  mark : Bool
  deriving DecidableEq, Repr

def Port.init : Port := { bound := none, items := [], mark := false }

/-- What a task before commit keeps in program order until its commit. -/
inductive Held where
  /-- An SO store, sent as one write of its own (R263): the side that made it, VA [55:8] of its line, whether it is the first line of its access, which counts
  among the 64 of the log, and whether it is performed after every earlier write of its task (R311, R314). -/
  | store (side : Side) (line : Nat) (first ordered : Bool) (mask : LineMask) (data : LineData)
  /-- Bytes that are written back there: by the release part of a release store (R312), or as the first part of a row that straddles pages of two kinds (R311). -/
  | flush (lines : List (Nat × LineMask × LineData))
  deriving DecidableEq, Repr

/-- The states of a member (R348). -/
inductive MemberState where
  | empty | placing | pre | post | ending | service
  deriving DecidableEq, Repr

/-- A mark of the recorder: the mark (0 to 15) with its field number, command or offset base (R376). -/
structure Mark where
  m : Nat
  f : Nat
  deriving DecidableEq, Repr

/-- A guard entry of a plate (R390). -/
structure PGuard where
  kind : Nat
  slot : Nat
  x : Int
  value : Word
  deriving DecidableEq, Repr

/-- A command or ordering entry of a plate (R391). -/
structure PEntry where
  typ : Nat
  side : Side
  insn : BitVec 32
  arg : Nat
  words : List Word
  marks : List Nat
  deriving DecidableEq, Repr

/-- A recording in progress (R375 to R379). -/
structure Recording where
  aMarks : Map Nat Mark     -- scalar registers of the A side
  cMarks : Map Nat Mark
  aPreds : Map Nat Mark
  cPreds : Map Nat Mark
  shadow : Map Nat Mark     -- 8-byte words of local offsets 0 to 0xFFF
  guards : List PGuard
  entries : List PEntry
  selfRead : Bool
  trapped : Bool            -- the instruction in progress took a user trap, so it did not execute (R360)
  deriving DecidableEq, Repr

/-- A print in progress (R381, R393): the plate's entries, and how many have been issued; jobs of the commands issued. -/
structure Printing where
  serial : Nat        -- the plate that it prints
  args : List Word    -- a0 to a7 as the plate recorded them (R390)
  entries : List PEntry
  next : Nat          -- entries issued
  cmds : Nat          -- commands issued
  jobs : List Nat     -- job of each command issued, 0 where it has none
  deriving DecidableEq, Repr

/-- A walk descriptor (R141). -/
structure WalkDesc where
  rows : Word
  stride : Nat
  rowsN : Nat
  k : Nat
  chart : Word
  chartLen : Nat
  maxDepth : Nat
  rowFmt : Nat
  accFmt : Nat
  serial : Bool
  handler : Word
  progress : Nat
  segTable : Nat
  scales : Word
  user : Word
  deriving DecidableEq, Repr

/-- What is held once per task thread slot (R52, R62). -/
structure Thread where
  st : MemberState
  item : Nat                  -- item held (key of `Sheet.items` on `itemSheet`)
  itemSheet : Nat
  launch : Nat
  rank : Nat
  member : Nat
  n : Nat
  q : Nat
  qcfg : Nat
  rerun : Bool
  late : Bool
  plate : Nat                 -- TSTAT.PLATE
  ovf : Bool
  post : Bool
  epca : Word
  epcc : Word
  utvec : Word
  prio : Nat
  deadline : Word
  wake : Bool
  lastTrc : Nat               -- the slot's latest tracer job, or 0 (R294)
  aStarted : Bool
  started : Nat               -- cycle of the start (R365)
  queues : List Queue
  jobs : List JobEntry
  ports : List Port
  soLog : List Held
  follow : Option Nat         -- leader thread of a follower team (R72)
  gangMask : Option Nat       -- waiting at GANG (R168)
  gangGo : Bool               -- released by the barrier
  mwalkg : Option WalkDesc    -- waiting at MWALKG, with its descriptor (R152)
  mwalkgId : Option Nat       -- the job id of the formed gang job
  pmerge : Option (Nat × Nat × Word × VReg)  -- waiting at PMERGE: span, operation, VSHAPE, vA (R227)
  pmergeRes : Option VReg
  held : Option Nat           -- faulting address while in SERVICE on its slot (R361)
  recd : Option Recording
  print : Option Printing
  segment : Nat               -- segment index, or 0xFFFF (R355)
  deriving DecidableEq, Repr

def Thread.init : Thread :=
  { st := .empty, item := 0, itemSheet := 0, launch := 0, rank := 0, member := 0, n := 8, q := 0, qcfg := 0, rerun := false,
    late := false, plate := 0, ovf := false, post := false, epca := 0, epcc := 0, utvec := 0, prio := 0, deadline := 0, wake := false, lastTrc := 0,
    aStarted := false, started := 0, queues := List.replicate 8 Queue.init, jobs := [], ports := [Port.init, Port.init], soLog := [],
    follow := none, gangMask := none, gangGo := false, mwalkg := none, mwalkgId := none, pmerge := none, pmergeRes := none,
    held := none, recd := none, print := none, segment := 0xFFFF }

/-- What an engine job and a handler keep of the member that issued them, whose slot may be freed before they end (R54, R66, R166, R326, R355). -/
structure Member where
  sheet : Nat           -- its item, by sheet and number
  item : Nat
  rank : Nat
  member : Nat          -- phaser member id
  segment : Nat
  follow : Bool
  deadline : Word
  deriving DecidableEq, Repr

def Member.none : Member := { sheet := 0, item := 0, rank := 0, member := 0, segment := 0xFFFF, follow := false, deadline := 0 }

/-- A handler context in use: its job and row, and the thread that issued the walk (R13, R54). -/
structure Handler where
  cl : Nat
  job : Nat
  row : Nat
  slice : Nat
  th : Nat
  launch : Nat          -- the launch of that thread, and its member, which outlive the slot (R166, R326)
  who : Member
  own : Map Nat Word    -- the handler's own copies of thread-held control registers that it has written (R54)
  deriving DecidableEq, Repr

/-- A page as a translation gives it: physical base, size in bytes, and leaf bits (R271). Kind: 0 RC, 1 SO, 2 UN. -/
structure Leaf where
  pa : Nat
  size : Nat
  kind : Nat
  imm : Bool
  r : Bool
  w : Bool
  x : Bool
  sec : Bool
  deriving DecidableEq, Repr

/-- An entry of the L1d (R262). -/
structure L1Entry where
  asid : Nat
  line : Nat            -- VA [55:8]
  kind : Nat
  imm : Bool
  r : Bool
  w : Bool
  valid : BitVec 4      -- one bit per sector
  dirty : LineMask
  data : LineData
  retain : Bool
  used : Nat            -- stamp of the latest use; 0 for evict-first (R286)
  after : List Nat      -- requests that must be acknowledged before its dirty bytes are performed (R311, R314)
  deriving DecidableEq, Repr

/-- A speculative entry of the L1d (R263). -/
structure SpecEntry where
  asid : Nat
  line : Nat
  slot : Nat
  kind : Nat
  imm : Bool
  r : Bool
  w : Bool
  mask : LineMask
  so : LineMask
  late : LineMask       -- bytes whose latest store is performed after every earlier write of the task (R311, R314)
  sent : LineMask       -- bytes whose latest store the log writes back (R312)
  data : LineData
  pol : Nat             -- L1 policy of the latest store (R286)
  used : Nat
  deriving DecidableEq, Repr

/-- A line of a PFETCH that is to be requested again (R279, R287). -/
structure Pfetch where
  asid : Nat
  line : Nat
  pol : Nat             -- L1 policy
  dl : Option Nat       -- deadline class of its packets (R409)
  due : Nat             -- the earliest cycle of the retry
  deriving DecidableEq, Repr

/-- A core (R1, R2). -/
structure Core where
  mem : Memory                    -- local memory by offset (R125)
  poison : List Nat               -- poisoned 8-byte words (R369)
  l1 : List L1Entry
  spec : List SpecEntry
  useCtr : Nat                    -- the next use stamp of the L1d
  pfetches : List Pfetch          -- lines of a PFETCH that were NACKed (R279, R287)
  ilines : Map (Nat × Nat) LineData   -- copies of instruction lines by (ASID, VA [55:8]) (R122)
  issuedA : Nat                   -- cycles in which the A front end issued (R71)
  issuedC : Nat
  lastA : Map Nat Nat             -- per priority, the slot that issued last (R70)
  lastC : Map Nat Nat
  frozen : Bool
  retired : Bool
  moved : Bool                    -- its state now stands on the cluster's spare (R368)
  unreadable : List Nat           -- contexts whose state cannot be read (R369)
  deriving DecidableEq, Repr

def Core.init : Core :=
  { mem := [], poison := [], l1 := [], spec := [], useCtr := 1, pfetches := [], ilines := [], issuedA := 0, issuedC := 0, lastA := [], lastC := [],
    frozen := false, retired := false, moved := false, unreadable := [] }

/-- An entry of a cluster TLB (R274), most recently used first. -/
structure TlbEntry where
  asid : Nat
  va : Nat              -- VA of the page
  leaf : Leaf
  hc : Nat
  deriving DecidableEq, Repr

/-- States of a walk job (R161). -/
inductive WalkState where
  | queued | loading | stepping | suspended | draining | complete
  deriving DecidableEq, Repr

/-- One row of a walk (R144 to R147). -/
structure WalkRow where
  st : Nat              -- STATE of R146
  depth : Nat
  unit : Nat
  elems : List Nat      -- the row's elements, as bit patterns of the row format
  scale : Nat           -- E8M0 block scale
  seg : Nat
  leaf : Bool           -- at a leaf, its result waiting for a handler or in one
  leafId : Nat
  leafN : Nat
  results : List VReg   -- one per slice
  hstart : List Nat     -- slices whose handler has started
  hdone : List Nat      -- slices whose handler has executed HRET
  deriving DecidableEq, Repr

/-- A walk job (R161). -/
structure WalkJob where
  gang : Bool
  threads : List Nat          -- the issuing thread, or the eight threads of a gang walk
  asid : Nat
  descs : List WalkDesc
  st : WalkState
  back : WalkState            -- the state left by a suspension
  retry : Bool                -- suspended, and a TLBINV covers the faulting address: the translation is retried (R16, R161)
  faultVa : Nat
  fmt : Nat                   -- row format, resolved (R142)
  rows : List WalkRow
  cache : Map Nat (List Byte) -- node cache by unit (R155)
  step : Option (Nat × List Nat × List Nat)  -- step in progress: node, its rows, and those not yet processed
  drain : List Nat            -- rows at leaves, in drain order (R148)
  sat : Bool
  canc : Bool
  susp : Bool
  released : List Nat         -- cores that have sent the write-backs of R14
  rounds : List Word          -- ROUND of each issuing thread (R54)
  launch : Nat                -- the launch of the threads, and their members, for the handlers (R326)
  items : List Member
  deriving DecidableEq, Repr

/-- States of a tracer job (R294 to R298). -/
inductive TracerState where
  | queued | running | suspended
  deriving DecidableEq, Repr

/-- A tracer descriptor (R291), with the command it belongs to: 0 TCOPY, 1 TGATHER, 2 TSCATTER, 3 TSCADD, 4 TFILL. -/
structure TracerDesc where
  fn : Nat
  src : Word
  dst : Word
  index : Word
  count : Nat
  size : Nat
  etype : Nat
  sig : Bool
  append : Bool
  skip : Bool
  slocal : Bool
  dlocal : Bool
  after : Bool
  sstride : Int
  dstride : Int
  limit : Nat
  phaser : Nat
  tail : Word
  deriving DecidableEq, Repr

/-- A tracer job (R292 to R299). -/
structure TracerJob where
  d : TracerDesc
  th : Nat                    -- the thread of the context that issued it
  ctx : CtxId                 -- that context, and its member (R299, R363)
  who : Member
  walk : Option (Nat × Nat)   -- the walk whose handler issued it (R292)
  asid : Nat
  prev : Nat                  -- the slot's previous tracer job, or 0 (R294)
  phPhase : BitVec 32         -- phase in force when the job issued (R352)
  st : TracerState
  rec0 : Nat                  -- next record
  part : Nat                  -- next part of that record
  idx : Option Nat            -- the record's index, once read
  base : Nat                  -- T of an APPEND (R298)
  reserved : Bool             -- the APPEND reservation is made
  readyDone : Bool            -- the ready add is performed
  sigDone : Bool              -- the signal is sent
  sent : Nat                  -- packets sent
  promise : Word
  suspVa : Nat
  susp : Bool
  err : Bool
  why : Nat
  deriving DecidableEq, Repr

/-- A cluster (R2). -/
structure Cluster where
  tlb : List TlbEntry
  rmap : Map Nat (Nat × Nat)      -- physical line to (ASID, VA [55:8]) (R265)
  walkQ : List Nat                -- jobs that hold a queue entry, oldest first (R149, R150)
  walkWait : List Nat             -- threads that wait for an entry
  walkLast : Nat                  -- core served last
  walks : Map Nat WalkJob
  tracerQ : List Nat              -- jobs that hold an entry and have not started, oldest first (R294)
  tracerWait : List CtxId         -- contexts that wait for an entry
  tracerLast : Nat
  tracers : Map Nat TracerJob
  horizon : Nat
  seqSolo : Nat
  seqGang : Nat
  seqTracer : Nat
  worldCl : Bool                  -- true: secure (R370, R439)
  worldArr : Bool
  worldTrc : Bool
  spare : Option Nat              -- the core whose place the spare has taken (R368)
  engineHeld : List Nat           -- engines held until THAW of their block (R370): 1 array, 2 tracer
  late : BitVec 32                -- late packets (R371)
  packets : List (Nat × Option Nat × Nat)  -- packets at the router: packet, deadline class, input port (R409)
  lateDue : List (BitVec 32)      -- counts at which a record of cause 0x0F is due (R371)
  deriving DecidableEq, Repr

def Cluster.init : Cluster :=
  { tlb := [], rmap := [], walkQ := [], walkWait := [], walkLast := 7, walks := [], tracerQ := [], tracerWait := [], tracerLast := 7,
    tracers := [], horizon := 0, seqSolo := 1, seqGang := 1, seqTracer := 1, worldCl := true, worldArr := true, worldTrc := true,
    spare := none, engineHeld := [], late := 0, packets := [], lateDue := [] }

/-- States of an item (R345, R348). -/
inductive ItemState where
  | intake | held | ready | placed | service | final
  deriving DecidableEq, Repr

/-- A member held for a page fault of its run (R361): its rank, the faulting address, and the record that reported it with its sheet and cause (R373). -/
structure Hold where
  rank : Nat
  va : Nat
  sheet : Nat
  no : Nat
  cause : Nat
  deriving DecidableEq, Repr

/-- An item as taken in, with its place in the ready pool (R339, R342 to R348). `words` are its sixteen 64-bit words. -/
structure Item where
  words : List Word
  shape : BitVec 512
  launch : Nat
  st : ItemState
  status : Nat                  -- final status (R345)
  order : Nat                   -- intake order (R343)
  system : Bool
  fromTask : Bool
  pin : Option Nat              -- pinned thread slot (R367)
  rerun : Bool
  ovf : List Nat                -- ranks of the members whose run before ended by overflow (R350)
  holds : List Hold             -- members held for page faults (R361)
  faults : Map Nat (Nat × Side × Word)   -- by rank, the cause, side and EPC that ended the run before (R361)
  members : List (Nat × Nat × Nat)  -- member rank, segment index, thread + 1 (0 when not placed)
  ended : List Nat              -- ranks that have ended
  failCause : Option Nat
  notify : Option (Nat × Nat × Nat)  -- port, record address, TAG (R434)
  tile : Option Nat             -- id of the layer transaction of a tile item (R420)
  acked : Bool                  -- it has executed its LXACK
  combine : Option Nat          -- id of the transaction whose combine item it is
  deriving DecidableEq, Repr

/-- A submission on its way to intake (R340). -/
structure Submission where
  words : List Word           -- the item's words, or none where intake snapshots them at `itemVa`
  itemVa : Word
  a0 : Option Word            -- argument overrides (R327, R420, R422)
  a1 : Option Word
  launch : Nat
  system : Bool
  fromTask : Bool
  pin : Option Nat
  svitem : Bool
  notify : Option (Nat × Nat × Nat)
  tile : Option Nat
  combine : Option Nat
  deriving DecidableEq, Repr

/-- A phaser (R351, R352). Members: mode, and the first phase in which the signal is expected. -/
structure Phaser where
  live : Bool
  gen : Nat
  scope : Nat
  counting : Bool
  launch : Nat
  phase : BitVec 32
  members : Map Nat (Nat × BitVec 32)
  signalled : List (Nat × BitVec 32)    -- member and phase of the signals given
  sums : Map (BitVec 32) Nat            -- expected sum of a phase
  deliveries : Map (BitVec 32) Nat
  broken : Bool
  deriving DecidableEq, Repr

/-- A format window (R185). -/
structure Window where
  cfg : Word
  base : Word
  size : Word
  store : Word
  scale : Word
  stat : Word
  changing : Bool          -- an EN change is completing (R187)
  target : Bool            -- the value EN will have
  deriving DecidableEq, Repr

def Window.init : Window :=
  { cfg := 0, base := 0, size := 0, store := 0, scale := 0, stat := 0, changing := false, target := false }

/-- The tag of a line filled through a window (R188). -/
structure WinTag where
  fmt : Nat
  blk : Nat
  scaleAt : Option Nat     -- the address of the scale byte of the line's first element
  phase : Nat              -- how many bytes that element lies behind the start of its block
  deriving DecidableEq, Repr

/-- A page record of a memory controller (R276). -/
structure PageRec where
  repl : Bool
  rr : Nat
  wseen : Bool
  hold : Bool
  mask : BitVec 32
  deriving DecidableEq, Repr

def PageRec.init : PageRec := { repl := false, rr := 0, wseen := false, hold := false, mask := 0 }

/-- An event record (R363). -/
structure EventRec where
  cause : Nat
  flags : Nat
  source : Word
  obj : Word
  epc : Word
  cycle : Nat
  freeze : Option Nat      -- the core whose freeze waits for this record (R363)
  deriving DecidableEq, Repr

/-- A plate (R389 to R391). -/
structure Plate where
  entryC : Word
  entryA : Word
  legend : Nat
  st : Nat                 -- STATE: 1 recording, 2 valid, 3 invalid
  vkey : Word
  wgen : Nat
  kgen : Nat
  page0 : Nat              -- PA [51:16]
  page1 : Nat
  plv : Bool
  selfBits : Nat
  args : List Word
  guards : List PGuard
  entries : List PEntry
  spans : List (Nat × Nat) -- units of the store that it takes: first unit and number (R387)
  serial : Nat             -- tells plates of one type apart
  pinned : Nat             -- prints that use it
  prints : Nat
  fallbacks : Nat
  owner : Nat              -- recording thread
  bad : Bool               -- it can no longer be read (R369, R382)
  deriving DecidableEq, Repr

/-- What PSTAT keeps for a task type apart from its plate (R402, R403): REASON and NOREC. -/
structure PlateType where
  reason : Nat
  norec : Bool
  deriving DecidableEq, Repr

/-- A layer transaction (R421, R422). State: 1 OPEN, 2 COMMITTING, 3 COMMITTED, 4 ABORTED, 5 and 6 CLOSED, 7 FAILED. -/
structure Lx where
  live : Bool
  gen : Nat
  desc : List Byte
  descVa : Word
  st : Nat
  why : Nat
  tiles : Nat
  acks : Nat
  ends : List Nat               -- ranks that have issued LXEND
  seals : Map Nat Nat
  launch : Nat
  deriving DecidableEq, Repr

/-- The Compass of a sheet (R417 to R420). -/
structure Compass where
  pad : Memory
  inhead : BitVec 32
  intail : BitVec 32
  spres : Nat
  pop0 : Option Word
  popq : List (Word × Word)
  index : Nat
  x : Vector Word 32           -- the RV64 core's registers, its program counter and its reservation (R1, R417)
  pc : Word
  resv : Option (Nat × BitVec 32)   -- the line of a load-reserved, and its tag
  halted : Bool                -- it does not run: routing code is not loaded, or it has met an instruction that it cannot execute
  deriving DecidableEq, Repr

/-- A reservation (R344): the item, and the threads reserved with their footprint. -/
structure Reservation where
  item : Nat
  slots : List Nat
  footprint : Nat
  deriving DecidableEq, Repr

/-- The output by which a route leaves a sheet (R410): an edge, the sheet itself, or a Meridian port. -/
inductive RouteOut where
  | east
  | north
  | west
  | south
  | here
  | meridian (port : Nat)
  deriving DecidableEq, Repr

/-- A sheet: its dispatcher, memory controller, surveyor registers, plate store and Compass (R2). -/
structure Sheet where
  items : Map Nat Item
  nextItem : Nat
  intakeQ : List Submission
  counters : Map (Nat × Nat) (Nat × Bool)   -- (launch, index) to (value, UNDER) (R342)
  phasers : Map Nat Phaser
  reservations : List Reservation
  stqcfg : Map Nat Word
  quota : Map Nat Nat
  dlbase : Word
  quiet : Nat                  -- successive sweeps that found the rectangle quiet (R353)
  evbase : Word
  evhead : BitVec 32
  drops : BitVec 16
  evtail : BitVec 32
  recordNo : BitVec 32
  evWait : List EventRec       -- events that wait for a free slot of the ring
  latectl : Word
  svitem : Word
  svsub : Word
  asidtab : Word
  shadow : Word
  atlas : Word
  repctl : Word
  plctl : Word
  plates : List Plate          -- oldest first (R387)
  plateTypes : Map (Word × Word × Nat) PlateType
  plateHead : Nat              -- head of the ring, in 16-byte units
  nextPlate : Nat              -- serial of the next plate
  gov : Nat                    -- intervals of 1,024 cycles that the governor has acted for (R347)
  swept : Nat                  -- intervals of 2^16 cycles whose sweep has been made (R353)
  epochAt : Nat                -- cycle of the next page epoch boundary (R276, R277)
  activeAt : Nat               -- cycle in which a context of the sheet last issued, or a print last advanced (R353)
  windows : Map Nat Window
  regions : Map Nat (Word × Word × Word)
  unbacked : BitVec 64
  pages : Map Nat PageRec
  replicas : Map Nat (LineData × BitVec 32 × Option WinTag)   -- replicas of other sheets' lines in this LLC, with their tags (R188, R276)
  llcTags : Map Nat WinTag
  moves : List (Nat × Nat)     -- pages moving: source and destination PA (R278)
  svec : Map Nat Word          -- of each surveyor core
  sepc : Map Nat Word
  sstat : Map Nat Word
  compass : Compass
  lxs : Map Nat Lx
  fallbacks : BitVec 32
  lost : Bool
  throttled : Bool
  routing : Map Nat (List ((Nat × Nat) × RouteOut))   -- of each launch that holds the sheet: the output toward the sheet at each place of the rectangle (R410)
  deriving DecidableEq, Repr

def Sheet.init : Sheet :=
  { items := [], nextItem := 1, intakeQ := [], counters := [], phasers := [], reservations := [], stqcfg := [], quota := [],
    dlbase := 0, quiet := 0, evbase := 0, evhead := 0, drops := 0, evtail := 0, recordNo := 1, evWait := [], latectl := 0,
    svitem := 0, svsub := 0, asidtab := 0, shadow := 0, atlas := 0, repctl := 0x1420, plctl := 0, plates := [], plateTypes := [],
    plateHead := 0, nextPlate := 1, gov := 0, swept := 0, epochAt := 2 ^ 20, activeAt := 0, windows := [], regions := [], unbacked := 0, pages := [], replicas := [], llcTags := [], moves := [], svec := [],
    sepc := [], sstat := [], compass := { pad := [], inhead := 0, intail := 0, spres := 0, pop0 := none, popq := [], index := 0, x := Vector.replicate 32 0, pc := 0, resv := none, halted := true },
    lxs := [], fallbacks := 0, lost := false, throttled := false, routing := [] }

/-- A launch (R332). -/
structure Launch where
  live : Bool
  x : Nat
  y : Nat
  w : Nat
  h : Nat
  asid : Nat
  secure : Bool
  legends : List (List Byte)           -- 128 bytes each (R333)
  qcfgs : List (List Byte)             -- 16 bytes each, configuration 1 upward (R230)
  drained : List Nat                   -- sheets on which FREEZE of kind 2 holds it (R366)
  port : Nat                           -- the port that created it (R434)
  deriving DecidableEq, Repr

/-- An Isthmus edge (R404 to R407). -/
structure Edge where
  pos : Nat
  neg : Nat
  dark : List (Nat × Bool)       -- cycle at which a group finishes retraining, and whether it turns positive
  retired : Nat
  queue : List (Nat × Nat)       -- commands: positive groups asked for, sequence
  left : Nat                     -- groups the command at the head has still to turn
  leftPos : Bool                 -- they turn positive
  seq : Nat                      -- next sequence
  done : Nat                     -- DONESEQ
  starts : List Nat              -- cycles of the group turns started in the window
  world : Bool
  turns : BitVec 32              -- lifetime counters (R441)
  retrains : BitVec 32
  retirements : BitVec 32
  deriving DecidableEq, Repr

def Edge.init : Edge :=
  { pos := 16, neg := 16, dark := [], retired := 0, queue := [], left := 0, leftPos := false, seq := 1, done := 0, starts := [],
    world := true, turns := 0, retrains := 0, retirements := 0 }

/-- The party that sent a request toward a home. -/
inductive Origin where
  | side (c : CtxId)             -- a side (its acknowledgement enters its record, R255)
  | core (core : Nat)            -- an eviction, a TLBINV, END, or the write-backs of R14 (R257)
  | tracer (cl job : Nat)
  | tlb (cl : Nat)
  deriving DecidableEq, Repr

/-- What a request does at its home (R253, R283). -/
inductive Req where
  | write (mask : LineMask) (data : LineData)
  | atomic (op : Nat) (w : Nat) (off : Nat) (b : Word) (cmp : Word)   -- AMO FN, width in bits, byte offset in the line
  deriving DecidableEq, Repr

/-- A request or its acknowledgement in flight (R253 to R255). -/
structure Packet where
  origin : Origin
  pa : Nat                       -- physical line address
  va : Nat                       -- VA of the line, for the acknowledgement record
  asid : Nat
  so : Bool
  req : Req
  dreg : Option Nat              -- destination of an atomic's result
  acq : Nat                      -- acquire scope + 1 of an atomic, or 0
  performed : Bool               -- performed; the acknowledgement is on its way
  answered : Nat                 -- the cycle at which it was performed, which orders the responses of a channel (R408)
  nacked : Option Nat            -- NACKed: the earliest cycle of its retry (R279)
  held : Bool                    -- NACKed, and its new translation has failed and been reported: it waits for a TLBINV that covers it (R273)
  tag : BitVec 32
  result : Word
  after : List Nat               -- requests that must be acknowledged before it is performed (R314)
  deriving DecidableEq, Repr

/-- A PCI Express port and its service core (R431 to R434). -/
structure HostPort where
  cmdbase : Word
  cmdtail : Word
  cmdhead : Word
  evport : Word
  secure : Bool                 -- world of the host function (R370)
  stopped : Bool                -- stopped by a world violation (R370)
  msix : List Nat               -- MSI-X vectors raised
  rdata : Word                  -- what the latest read through BAR2 returned (R431)
  cfgDone : Nat                 -- doublewords that a write command in progress has written to configuration space (R187, R434)
  cfgWait : Option (Nat × Nat)  -- the sheet and window whose change of EN the latest write waits for (R187)
  finished : List (Nat × Nat)   -- commands taken behind one that waits, with their status, which complete after it in ring order: index, status (R432, R433)
  deriving DecidableEq, Repr

def HostPort.init : HostPort :=
  { cmdbase := 0, cmdtail := 0, cmdhead := 0, evport := 0, secure := true, stopped := false, msix := [], rdata := 0, cfgDone := 0, cfgWait := none, finished := [] }

/-- Lifetime records (R441) that are not held with their structure: soft errors by structure, core freezes and spare takeovers. -/
structure Lifetime where
  corrected : Map Nat (BitVec 32)
  uncorrected : Map Nat (BitVec 32)
  freezes : BitVec 16
  takeovers : BitVec 16
  temperature : Map (Nat × Nat) (BitVec 32)   -- stack and bin
  voltage : Map Nat (BitVec 32)
  deriving DecidableEq, Repr

/-- Which step comes next: an event of a device, the issue of a front end of a core (R70, R71), or of one context, an instruction of a sheet's Compass, a sample of
a temperature or of the input voltage, or what follows the abort of a transaction. -/
inductive Turn where
  | event (i : Instr)
  | front (core : Nat) (side : Side)
  | ctx (c : CtxId)
  | compass (sheet : Nat)
  | temperature (stack bin : Nat)   -- the management controller counts a sample (R441)
  | voltage (bin : Nat)
  | aborted (sheet idx : Nat)       -- an ABORTED transaction becomes CLOSED or FAILED (R422)
  deriving DecidableEq, Repr

/-- The state of the module. -/
structure State where
  cur : CtxId                       -- the context in focus: the one that issues
  agenda : List Turn                -- the steps the surroundings have scheduled, next first
  freeCtr : Nat                     -- the model's own: index of the next free value
  cycle : BitVec 64                 -- CYCLE (R62)
  ctxs : Map CtxId Ctx
  threads : Map Nat Thread
  handlers : Map (Nat × Nat) Handler
  cores : Map Nat Core
  clusters : Map Nat Cluster
  sheets : Map Nat Sheet
  mem : Memory                      -- global memory by physical address (R260)
  memPoison : List Nat              -- poisoned bytes (R369)
  tags : Map Nat (BitVec 32)        -- sequence tag by line (R253)
  net : Map Nat Packet              -- requests in flight, by number
  nextPkt : Nat
  treePhasers : Map Nat Phaser
  launches : Map Nat Launch
  edges : Map Nat Edge
  meridian : List Nat               -- trained ports (R411)
  wgen : BitVec 16
  kgen : BitVec 16
  lxremap : Word
  lxlost : Word
  grid : Word
  ports : Map Nat HostPort
  hostMem : Memory                  -- host bus memory as the service cores see it (R433)
  hostErr : List (Nat × Nat)        -- ranges of host bus addresses, base and length, whose reads complete with an error (R433, R438)
  bootStage : Nat                   -- STATUS (R432, R436)
  bootReason : Nat
  bootPort : Nat
  bootImage : Word                  -- host bus address of the image being verified (R437)
  bootDigest : List Byte            -- SHA-384 of the running image (R440)
  lifetime : Lifetime
  deriving DecidableEq, Repr

/-- Why the machine stops. -/
inductive Fault where
  /-- Raised by an event row that is named while its precondition does not hold, so that the device would not take that step. Safe: the
  device does nothing there. -/
  | notEnabled
  deriving DecidableEq, Repr

/-- Why an instruction has no meaning. -/
inductive Refusal where
  /-- Raised by the dispatch for an instruction that has no meaning yet. Safe. -/
  | notModelled (mnemonic : String)
  deriving DecidableEq, Repr

/-- The module right after reset (R253, R436): no launch, no task, no request in flight, every register at its reset value. -/
def State.reset : State :=
  { cur := .task 0 .c, agenda := [], freeCtr := 0, cycle := 0, ctxs := [], threads := [], handlers := [], cores := [], clusters := [],
    sheets := [], mem := [], memPoison := [], tags := [], net := [], nextPkt := 0, treePhasers := [], launches := [], edges := [],
    meridian := [], wgen := 0, kgen := 0, lxremap := 0, lxlost := 0, grid := 0, ports := [], hostMem := [], hostErr := [], bootStage := 0,
    bootReason := 0, bootPort := 0, bootImage := 0, bootDigest := [],
    lifetime := { corrected := [], uncorrected := [], freezes := 0, takeovers := 0, temperature := [], voltage := [] } }

/-- The canonical form of a memory: addresses strictly rising and no entry equal to 0, which is what an unlisted address reads as. -/
def Memory.wf (m : Memory) : Bool :=
  match m with
  | [] => true
  | (a, b) :: rest => decide (b ≠ 0) && (match rest with | [] => true | (a', _) :: _ => decide (a < a')) && Memory.wf rest

end Sys2Proof.Machine
end

