-- ==== Sys2Proof/Machine/Maps.lean ====
section
/-! DEFINITION. Reading and writing association lists and memories. -/

namespace Sys2Proof.Machine

/-- The value at a key, or a default. -/
def Map.get [DecidableEq K] (d : V) (m : Map K V) (k : K) : V :=
  match m with
  | [] => d
  | (k', v) :: rest => if k' = k then v else Map.get d rest k

/-- The value at a key, if there is one. -/
def Map.get? [DecidableEq K] (m : Map K V) (k : K) : Option V :=
  match m with
  | [] => none
  | (k', v) :: rest => if k' = k then some v else Map.get? rest k

/-- Sets a key. -/
def Map.set [DecidableEq K] (m : Map K V) (k : K) (v : V) : Map K V :=
  match m with
  | [] => [(k, v)]
  | (k', v') :: rest => if k' = k then (k, v) :: rest else (k', v') :: Map.set rest k v

/-- Removes a key. -/
def Map.del [DecidableEq K] (m : Map K V) (k : K) : Map K V :=
  match m with
  | [] => []
  | (k', v') :: rest => if k' = k then Map.del rest k else (k', v') :: Map.del rest k

/-- The byte at an address; an unlisted address reads as 0. -/
def Memory.read (m : Memory) (a : Nat) : Byte :=
  match m with
  | [] => 0
  | (a', b) :: rest => if a' = a then b else if a < a' then 0 else Memory.read rest a

/-- Puts a byte in front of a memory unless it is what an unlisted address reads as. -/
def Memory.cons (a : Nat) (b : Byte) (m : Memory) : Memory := if b = 0 then m else (a, b) :: m

/-- Writes a byte, keeping the canonical form. -/
def Memory.write (m : Memory) (a : Nat) (b : Byte) : Memory :=
  match m with
  | [] => Memory.cons a b []
  | (a', b') :: rest =>
    if a = a' then Memory.cons a b rest
    else if a < a' then Memory.cons a b ((a', b') :: rest)
    else (a', b') :: Memory.write rest a b

/-- Writes consecutive bytes from an address upward. -/
def Memory.writeList (m : Memory) (a : Nat) (bs : List Byte) : Memory :=
  match bs with
  | [] => m
  | b :: rest => Memory.writeList (m.write a b) (a + 1) rest

/-- Reads n consecutive bytes from an address upward. -/
def Memory.readList (m : Memory) (a n : Nat) : List Byte := (List.range n).map (fun k => m.read (a + k))

end Sys2Proof.Machine
end

