-- ==== Sys2Proof/Machine/Bits.lean ====
section
/-! DEFINITION. Bit fields, sign extension, byte order and the other helpers of R7 to R9. -/

namespace Sys2Proof.Machine

/-- Bits [hi : lo] of a number (R7). -/
def bitsOf (x hi lo : Nat) : Nat := x / 2 ^ lo % 2 ^ (hi + 1 - lo)

/-- SignExt(x, n) of R9: x[n-1:0] extended to 64 bits from bit n - 1. -/
def signExt (x : Word) (n : Nat) : Word := (x <<< (64 - n)).sshiftRight (64 - n)

/-- ZeroExt(x, n) of R9. -/
def zeroExt (x : Word) (n : Nat) : Word := (x <<< (64 - n)) >>> (64 - n)

/-- The integer that the low n bits of a number stand for in two's complement. -/
def toSigned (x n : Nat) : Int :=
  let y := x % 2 ^ n
  if n ≠ 0 ∧ 2 ^ (n - 1) ≤ y then (y : Int) - 2 ^ n else y

/-- The low n bits of the two's complement pattern of an integer. -/
def ofSigned (x : Int) (n : Nat) : Nat := (x % (2 ^ n : Nat)).toNat

/-- The number held by bytes, lowest address first (R7: little-endian). -/
def leNat (bs : List Byte) : Nat :=
  match bs with
  | [] => 0
  | b :: rest => b.toNat + 256 * leNat rest

/-- The n bytes of a number, lowest address first. -/
def leBytes (n x : Nat) : List Byte :=
  match n with
  | 0 => []
  | k + 1 => BitVec.ofNat 8 x :: leBytes k (x / 256)

/-- The number in n bytes at an offset of a byte list. -/
def leAt (bs : List Byte) (off n : Nat) : Nat := leNat ((bs.drop off).take n)

/-- n bits set, from bit 0 upward. -/
def ones (n : Nat) : Nat := 2 ^ n - 1

/-- n bytes of a wide bit vector from byte off upward, as a number. -/
def getBytes (v : BitVec w) (off n : Nat) : Nat := v.toNat / 2 ^ (8 * off) % 2 ^ (8 * n)

/-- A wide bit vector with n bytes from byte off upward replaced. -/
def setBytes (v : BitVec w) (off n x : Nat) : BitVec w :=
  let m : BitVec w := BitVec.ofNat w (ones (8 * n) * 2 ^ (8 * off))
  (v &&& ~~~m) ||| BitVec.ofNat w (x % 2 ^ (8 * n) * 2 ^ (8 * off))

/-- A wide bit vector with bits lo to lo + n - 1 set to the low bits of x. -/
def setBits (v : BitVec w) (lo n x : Nat) : BitVec w :=
  let m : BitVec w := BitVec.ofNat w (ones n * 2 ^ lo)
  (v &&& ~~~m) ||| BitVec.ofNat w (x % 2 ^ n * 2 ^ lo)

/-- The bytes of a wide bit vector from byte off upward, lowest first. -/
def byteList (v : BitVec w) (off n : Nat) : List Byte := leBytes n (getBytes v off n)

/-- The mask of a line that marks n bytes from byte off upward. -/
def lineMask (off n : Nat) : LineMask := BitVec.ofNat 256 (ones n * 2 ^ off)

/-- The mask of a line widened to one byte of ones for each marked byte. -/
def widen (m : LineMask) : LineData :=
  (List.range 256).foldr (fun k acc => if m.getLsbD k then acc ||| BitVec.ofNat 2048 (255 * 2 ^ (8 * k)) else acc) 0

/-- A line with the marked bytes taken from another. -/
def overlay (old new : LineData) (m : LineMask) : LineData :=
  let wm := widen m
  (old &&& ~~~wm) ||| (new &&& wm)

/-- The number of set bits. -/
def popCount (n x : Nat) : Nat :=
  match n with
  | 0 => 0
  | k + 1 => x % 2 + popCount k (x / 2)

/-- The number of leading zero bits of the low n bits. -/
def leadingZeros (n x : Nat) : Nat :=
  match n with
  | 0 => 0
  | k + 1 => if x / 2 ^ k % 2 = 1 then 0 else 1 + leadingZeros k x

/-- The number of trailing zero bits of the low n bits. -/
def trailingZeros (n x : Nat) : Nat :=
  match n with
  | 0 => 0
  | k + 1 => if x % 2 = 1 then 0 else 1 + trailingZeros k (x / 2)

/-- The index of the first element that satisfies a test. -/
def firstIndex (l : List α) (f : α → Bool) : Option Nat :=
  match l with
  | [] => none
  | x :: rest => if f x then some 0 else (firstIndex rest f).map (· + 1)

/-- The elements of a list from the first to the last of least key; the first element of least key. -/
def argMin (l : List α) (key : α → Nat) : Option α :=
  match l with
  | [] => none
  | x :: rest =>
    match argMin rest key with
    | none => some x
    | some y => if key x ≤ key y then some x else some y

/-- One xorshift64 step (R9, Draw). -/
def xorshift (x : Word) : Word :=
  let x := x ^^^ (x <<< 13)
  let x := x ^^^ (x >>> 7)
  x ^^^ (x <<< 17)

end Sys2Proof.Machine
end

