-- ==== Sys2Proof/Machine/Crypto.lean ====
section
/-! DEFINITION. SHA-384, and ECDSA on the brainpool 384-bit random-parameter curve of RFC 5639 (R438, R440). The manual names both and gives neither's text:
the functions are those of FIPS 180-4 and of the RFC (log 12). -/

namespace Sys2Proof.Machine

/-! ## SHA-384 -/

/-- The constants of the rounds: the fractional parts of the cube roots of the first 80 primes. -/
def shaK0 : List Word :=
  [0x428a2f98d728ae22, 0x7137449123ef65cd, 0xb5c0fbcfec4d3b2f, 0xe9b5dba58189dbbc, 0x3956c25bf348b538,
   0x59f111f1b605d019, 0x923f82a4af194f9b, 0xab1c5ed5da6d8118, 0xd807aa98a3030242, 0x12835b0145706fbe,
   0x243185be4ee4b28c, 0x550c7dc3d5ffb4e2, 0x72be5d74f27b896f, 0x80deb1fe3b1696b1, 0x9bdc06a725c71235,
   0xc19bf174cf692694, 0xe49b69c19ef14ad2, 0xefbe4786384f25e3, 0x0fc19dc68b8cd5b5, 0x240ca1cc77ac9c65]
def shaK1 : List Word :=
  [0x2de92c6f592b0275, 0x4a7484aa6ea6e483, 0x5cb0a9dcbd41fbd4, 0x76f988da831153b5, 0x983e5152ee66dfab,
   0xa831c66d2db43210, 0xb00327c898fb213f, 0xbf597fc7beef0ee4, 0xc6e00bf33da88fc2, 0xd5a79147930aa725,
   0x06ca6351e003826f, 0x142929670a0e6e70, 0x27b70a8546d22ffc, 0x2e1b21385c26c926, 0x4d2c6dfc5ac42aed,
   0x53380d139d95b3df, 0x650a73548baf63de, 0x766a0abb3c77b2a8, 0x81c2c92e47edaee6, 0x92722c851482353b]
def shaK2 : List Word :=
  [0xa2bfe8a14cf10364, 0xa81a664bbc423001, 0xc24b8b70d0f89791, 0xc76c51a30654be30, 0xd192e819d6ef5218,
   0xd69906245565a910, 0xf40e35855771202a, 0x106aa07032bbd1b8, 0x19a4c116b8d2d0c8, 0x1e376c085141ab53,
   0x2748774cdf8eeb99, 0x34b0bcb5e19b48a8, 0x391c0cb3c5c95a63, 0x4ed8aa4ae3418acb, 0x5b9cca4f7763e373,
   0x682e6ff3d6b2b8a3, 0x748f82ee5defb2fc, 0x78a5636f43172f60, 0x84c87814a1f0ab72, 0x8cc702081a6439ec]
def shaK3 : List Word :=
  [0x90befffa23631e28, 0xa4506cebde82bde9, 0xbef9a3f7b2c67915, 0xc67178f2e372532b, 0xca273eceea26619c,
   0xd186b8c721c0c207, 0xeada7dd6cde0eb1e, 0xf57d4f7fee6ed178, 0x06f067aa72176fba, 0x0a637dc5a2c898a6,
   0x113f9804bef90dae, 0x1b710b35131c471b, 0x28db77f523047d84, 0x32caab7b40c72493, 0x3c9ebe0a15c9bebc,
   0x431d67c49c100d4c, 0x4cc5d4becb3e42b6, 0x597f299cfc657e2a, 0x5fcb6fab3ad6faec, 0x6c44198c4a475817]
def shaK : List Word := shaK0 ++ shaK1 ++ shaK2 ++ shaK3

/-- The eight working words. -/
structure Sha where
  a : Word
  b : Word
  c : Word
  d : Word
  e : Word
  f : Word
  g : Word
  h : Word
  deriving DecidableEq, Repr

def Sha.start : Sha :=
  { a := 0xcbbb9d5dc1059ed8, b := 0x629a292a367cd507, c := 0x9159015a3070dd17, d := 0x152fecd8f70e5939,
    e := 0x67332667ffc00b31, f := 0x8eb44a8768581511, g := 0xdb0c2e0d64f98fa7, h := 0x47b5481dbefa4fa4 }

def Sha.add (x y : Sha) : Sha :=
  { a := x.a + y.a, b := x.b + y.b, c := x.c + y.c, d := x.d + y.d, e := x.e + y.e, f := x.f + y.f, g := x.g + y.g, h := x.h + y.h }

def shaSmall0 (x : Word) : Word := x.rotateRight 1 ^^^ x.rotateRight 8 ^^^ (x >>> 7)
def shaSmall1 (x : Word) : Word := x.rotateRight 19 ^^^ x.rotateRight 61 ^^^ (x >>> 6)
def shaBig0 (x : Word) : Word := x.rotateRight 28 ^^^ x.rotateRight 34 ^^^ x.rotateRight 39
def shaBig1 (x : Word) : Word := x.rotateRight 14 ^^^ x.rotateRight 18 ^^^ x.rotateRight 41

/-- One round, with its constant and its word of the schedule. -/
def Sha.round (x : Sha) (k w : Word) : Sha :=
  let t1 := x.h + shaBig1 x.e + ((x.e &&& x.f) ^^^ (~~~x.e &&& x.g)) + k + w
  let t2 := shaBig0 x.a + ((x.a &&& x.b) ^^^ (x.a &&& x.c) ^^^ (x.b &&& x.c))
  { a := t1 + t2, b := x.a, c := x.b, d := x.c, e := x.d + t1, f := x.e, g := x.f, h := x.g }

/-- The message schedule, newest word first, with n more words. -/
def shaExtend (n : Nat) (w : List Word) : List Word :=
  match n with
  | 0 => w
  | k + 1 => shaExtend k ((shaSmall1 (w.getD 1 0) + w.getD 6 0 + shaSmall0 (w.getD 14 0) + w.getD 15 0) :: w)

/-- A big-endian number. -/
def bigNat (bs : List Byte) : Nat := leNat bs.reverse
def bigBytes (n x : Nat) : List Byte := (leBytes n x).reverse

/-- The sixteen words of a block of 128 bytes. -/
def shaWords (bs : List Byte) : List Word := (List.range 16).map (fun k => BitVec.ofNat 64 (bigNat ((bs.drop (8 * k)).take 8)))

def Sha.block (x : Sha) (bs : List Byte) : Sha := x.add ((shaK.zip (shaExtend 64 (shaWords bs).reverse).reverse).foldl (fun (y : Sha) p => y.round p.1 p.2) x)

def Sha.blocks (x : Sha) (bs : List Byte) (n : Nat) : Sha := match n with | 0 => x | k + 1 => (x.block (bs.take 128)).blocks (bs.drop 128) k

/-- A message with its padding and its length in bits. -/
def shaPad (bs : List Byte) : List Byte := bs ++ [0x80] ++ List.replicate ((239 - bs.length % 128) % 128) 0 ++ bigBytes 16 (8 * bs.length)

/-- SHA-384 of bytes (R438, R440). -/
def sha384 (bs : List Byte) : List Byte :=
  let m := shaPad bs
  let x := Sha.start.blocks m (m.length / 128)
  [x.a, x.b, x.c, x.d, x.e, x.f].flatMap (fun (w : Word) => bigBytes 8 w.toNat)

/-! ## The curve -/

/-- The prime, the coefficients, the base point and its order (RFC 5639, brainpoolP384r1). -/
def curveP : Nat := 0x8CB91E82A3386D280F5D6F7E50E641DF152F7109ED5456B412B1DA197FB71123ACD3A729901D1A71874700133107EC53
def curveA : Nat := 0x7BC382C63D8C150C3C72080ACE05AFA0C2BEA28E4FB22787139165EFBA91F90F8AA5814A503AD4EB04A8C7DD22CE2826
def curveB : Nat := 0x04A8C7DD22CE28268B39B55416F0447C2FB77DE107DCD2A62E880EA53EEB62D57CB4390295DBC9943AB78696FA504C11
def curveX : Nat := 0x1D1C64F068CF45FFA2A63A81B7C13F6B8847A3E77EF14FE3DB7FCAFE0CBD10E8E826E03436D646AAEF87B2E247D4AF1E
def curveY : Nat := 0x8ABE1D7520F9C2A45CB1EB8E95CFD55262B70B29FEEC5864E19C054FF99129280E4646217791811142820341263C5315
def curveN : Nat := 0x8CB91E82A3386D280F5D6F7E50E641DF152F7109ED5456B31F166E6CAC0425A7CF3AB6AF6B7FC3103B883202E9046565

/-- x to a power of at most n bits, modulo m. -/
def powMod (m x e n : Nat) : Nat := match n with | 0 => 1 % m | k + 1 => let y := powMod m (x * x % m) (e / 2) k; if e % 2 = 1 then x * y % m else y

/-- The inverse modulo a prime of 384 bits. -/
def invMod (m x : Nat) : Nat := powMod m (x % m) (m - 2) 384

/-- Points in affine form; none is the point at infinity. -/
abbrev CurvePoint := Option (Nat × Nat)

def onCurve (x y : Nat) : Bool := decide (x < curveP ∧ y < curveP ∧ y * y % curveP = (x * x * x + curveA * x + curveB) % curveP)

/-- The sum of two points. -/
def curveAdd (a b : CurvePoint) : CurvePoint :=
  match a, b with
  | none, q => q
  | p, none => p
  | some (x1, y1), some (x2, y2) =>
    let p := curveP
    let line := fun (l : Nat) => let x := (l * l + 2 * p - x1 - x2) % p; some (x, (l * (x1 + p - x) + p - y1) % p)
    if x1 = x2 then (if (y1 + y2) % p = 0 then none else line ((3 * x1 * x1 + curveA) * invMod p (2 * y1) % p))
    else line ((y2 + p - y1) * invMod p (x2 + p - x1) % p)

/-- A multiple of a point by a scalar of at most n bits. -/
def curveMul (e : Nat) (a : CurvePoint) (n : Nat) : CurvePoint :=
  match n with
  | 0 => none
  | k + 1 => let r := curveMul (e / 2) (curveAdd a a) k; if e % 2 = 1 then curveAdd a r else r

def curveBase : CurvePoint := some (curveX, curveY)

/-- A public key in uncompressed form: 0x04, X, Y. -/
def keyBytes (q : CurvePoint) : List Byte := match q with | some (x, y) => 0x04 :: bigBytes 48 x ++ bigBytes 48 y | none => 0x04 :: List.replicate 96 0

/-- Whether a signature r and s, 48 bytes each, over a digest verifies under a public key in uncompressed form (R438). -/
def ecdsaOk (key sig digest : List Byte) : Bool :=
  let x := bigNat ((key.drop 1).take 48)
  let y := bigNat ((key.drop 49).take 48)
  let r := bigNat (sig.take 48)
  let t := bigNat ((sig.drop 48).take 48)
  if key.headD 0 ≠ 0x04 ∨ !onCurve x y ∨ r = 0 ∨ curveN ≤ r ∨ t = 0 ∨ curveN ≤ t then false
  else
    let w := invMod curveN t
    match curveAdd (curveMul (bigNat digest * w % curveN) curveBase 384) (curveMul (r * w % curveN) (some (x, y)) 384) with
    | none => false
    | some (vx, _) => vx % curveN == r

/-- The signature of a digest under a private key, with the number that a signer draws (R440). -/
def ecdsaSign (d k : Nat) (digest : List Byte) : List Byte :=
  let r := (match curveMul k curveBase 384 with | some (x, _) => x | none => 0) % curveN
  bigBytes 48 r ++ bigBytes 48 (invMod curveN k * ((bigNat digest + r * d) % curveN) % curveN)

end Sys2Proof.Machine
end

