-- ==== Sys2Proof/WellFormed.lean ====
section
/-! DEFINITION. Well-formed instructions: no field holds a value that the encoding tables reserve (R79 to R81, R256, R257, R289).
A decoded instruction that is not well-formed raises cause 0x01 at issue, or 0x02 when it is a hint (R69, R83). -/

namespace Sys2Proof

/-- The control register numbers that CRD and CWR may name (R62, R80): the assigned ones below 0x200 and the surveyor range. -/
def crNumberOk (n : Nat) : Bool := decide (n ≤ 0x00D ∨ 0x010 ≤ n ∧ n ≤ 0x012 ∨ 0x200 ≤ n)

/-- No field of the instruction holds a reserved value. -/
def Instr.wellFormed (i : Instr) : Bool :=
  match i with
  | .add _ _ _ _ => true
  | .sub _ _ _ _ => true
  | .and _ _ _ _ => true
  | .or _ _ _ _ => true
  | .xor _ _ _ _ => true
  | .andn _ _ _ _ => true
  | .shl _ _ _ _ => true
  | .shr _ _ _ _ => true
  | .sar _ _ _ _ => true
  | .min _ _ _ _ => true
  | .max _ _ _ _ => true
  | .minn _ _ _ _ => true
  | .maxn _ _ _ _ => true
  | .addw _ _ _ _ => true
  | .subw _ _ _ _ => true
  | .clz _ _ _ => true
  | .ctz _ _ _ => true
  | .popc _ _ _ => true
  | .sext8 _ _ _ => true
  | .sext16 _ _ _ => true
  | .sext32 _ _ _ => true
  | .zext32 _ _ _ => true
  | .mul _ _ _ _ => true
  | .mulh _ _ _ _ => true
  | .mulhn _ _ _ _ => true
  | .mulw _ _ _ _ => true
  | .div _ _ _ _ => true
  | .divn _ _ _ _ => true
  | .rem _ _ _ _ => true
  | .remn _ _ _ _ => true
  | .addi _ _ _ _ => true
  | .andi _ _ _ _ => true
  | .ori _ _ _ _ => true
  | .xori _ _ _ _ => true
  | .shli _ _ _ _ => true
  | .shri _ _ _ _ => true
  | .sari _ _ _ _ => true
  | .cmpiEq _ _ _ _ => true
  | .cmpiNe _ _ _ _ => true
  | .cmpiLt _ _ _ _ => true
  | .cmpiLtn _ _ _ _ => true
  | .cmpiGe _ _ _ _ => true
  | .cmpiGen _ _ _ _ => true
  | .cmpEq _ _ _ _ => true
  | .cmpNe _ _ _ _ => true
  | .cmpLt _ _ _ _ => true
  | .cmpLtn _ _ _ _ => true
  | .cmpGe _ _ _ _ => true
  | .cmpGen _ _ _ _ => true
  | .lea _ _ _ _ _ => true
  | .pand _ _ _ _ => true
  | .por _ _ _ _ => true
  | .pxor _ _ _ _ => true
  | .pandn _ _ _ _ => true
  | .pnot _ _ _ => true
  | .pset _ _ => true
  | .pclr _ _ => true
  | .pmovs _ _ _ => true
  | .pany _ _ _ => true
  | .pall _ _ _ => true
  | .pcnt _ _ _ => true
  | .pfirst _ _ _ => true
  | .sel _ _ _ _ _ => true
  | .jump _ _ => true
  | .jumpLink _ _ => true
  | .jumpReg _ _ => true
  | .jumpLinkReg _ _ => true
  | .nop _ => true
  | .endTask _ => true
  | .commit _ => true
  | .yield _ => true
  | .park _ => true
  | .trap _ _ => true
  | .eret _ => true
  | .brk _ => true
  | .hret _ => true
  | .astart _ _ => true
  | .await _ => true
  | .iflush _ => true
  | .crd _ _ c => crNumberOk c.toNat
  | .cwr _ _ c => crNumberOk c.toNat
  | .ld _ _ _ z _ _ => decide (z.toNat ≠ 7)
  | .st _ _ _ z _ _ => decide (z.toNat < 4)
  | .ldv _ _ _ _ _ _ => true
  | .stv _ _ _ _ _ => true
  | .amoadd _ _ _ _ _ => true
  | .amoand _ _ _ _ _ => true
  | .amoor _ _ _ _ _ => true
  | .amoxor _ _ _ _ _ => true
  | .amomin _ _ _ _ _ => true
  | .amomax _ _ _ _ _ => true
  | .amominn _ _ _ _ _ => true
  | .amomaxn _ _ _ _ _ => true
  | .amoswap _ _ _ _ _ => true
  | .amocas _ _ _ _ _ => true
  | .amofadd _ _ _ _ => true
  | .amostag _ _ _ _ => true
  | .fence _ k s => decide (1 ≤ k.toNat ∧ k.toNat ≤ 3 ∧ s.toNat ≤ 6)
  | .waitack _ _ _ s => decide (s.toNat ≤ 6)
  | .pfetch _ _ _ => true
  | .cclean _ _ _ _ => true
  | .cinval _ _ _ _ => true
  | .cflush _ _ _ _ => true
  | .acqinv _ b => decide (b.toNat ≤ 1)
  | .vadd _ _ _ _ => true
  | .vsub _ _ _ _ => true
  | .vmul _ _ _ _ => true
  | .vmin _ _ _ _ => true
  | .vmax _ _ _ _ => true
  | .vabs _ _ _ => true
  | .vneg _ _ _ => true
  | .vand _ _ _ _ => true
  | .vor _ _ _ _ => true
  | .vxor _ _ _ _ => true
  | .vshl _ _ _ _ => true
  | .vshr _ _ _ _ => true
  | .vsar _ _ _ _ => true
  | .vfma _ _ _ _ => true
  | .vfms _ _ _ _ => true
  | .vadds _ _ _ _ => true
  | .vsubs _ _ _ _ => true
  | .vmuls _ _ _ _ => true
  | .vmins _ _ _ _ => true
  | .vmaxs _ _ _ _ => true
  | .vfmas _ _ _ _ => true
  | .vexp2 _ _ _ => true
  | .vlog2 _ _ _ => true
  | .vrcp _ _ _ => true
  | .vrsq _ _ _ => true
  | .vsqrt _ _ _ => true
  | .vtanh _ _ _ => true
  | .vrsum _ _ _ => true
  | .vrmax _ _ _ => true
  | .vrmin _ _ _ => true
  | .vcsum _ _ _ => true
  | .vcmax _ _ _ => true
  | .vramax _ _ _ => true
  | .vcmpEq _ _ _ _ => true
  | .vcmpNe _ _ _ _ => true
  | .vcmpLt _ _ _ _ => true
  | .vcmpLe _ _ _ _ => true
  | .vcmpGt _ _ _ _ => true
  | .vcmpGe _ _ _ _ => true
  | .vcmpUn _ _ _ _ => true
  | .vcvt _ _ _ _ _ => true
  | .vmov _ _ _ => true
  | .vsplat _ _ _ => true
  | .vext _ _ _ _ => true
  | .vins _ _ _ _ => true
  | .vbrow _ _ _ _ => true
  | .vbcol _ _ _ _ => true
  | .vshape _ _ _ => true
  | .vzero _ _ => true
  | .viota _ _ _ => true
  | .vshuf _ _ _ _ => true
  | .vscale _ _ _ _ => true
  | .smerge _ _ _ _ => true
  | .smergez _ _ _ _ => true
  | .smcount _ _ _ _ => true
  | .scan _ _ _ _ => true
  | .scanx _ _ _ _ => true
  | .vprune _ _ _ _ => true
  | .vprunes _ _ _ _ => true
  | .vrng _ _ => true
  | .vcompact _ _ _ _ => true
  | .pmerge _ _ _ _ f => decide (f.toNat = 2 ∨ f.toNat = 4 ∨ f.toNat = 8 ∨ f.toNat = 16)
  | .qcfg _ _ _ => true
  | .qpub _ _ => true
  | .qadv _ _ => true
  | .qfill _ _ _ _ => true
  | .sstr _ _ _ => true
  | .istr _ _ _ => true
  | .sclose _ _ => true
  | .sstat _ _ _ => true
  | .spsend _ _ _ => true
  | .spsendv _ _ _ => true
  | .spclose _ => true
  | .sprecv _ _ _ _ => true
  | .sprecvv _ _ _ _ => true
  | .spstat _ _ _ => true
  | .mwalk _ _ _ => true
  | .mwalkg _ _ _ => true
  | .mprog _ _ _ _ => true
  | .mcancel _ _ _ => true
  | .mnode _ _ _ _ => true
  | .gang _ _ => true
  | .jwait _ _ _ => true
  | .jpoll _ _ _ => true
  | .tcopy _ _ _ => true
  | .tgather _ _ _ => true
  | .tscatter _ _ _ => true
  | .tscadd _ _ _ => true
  | .tfill _ _ _ => true
  | .sleepu _ _ _ _ => true
  | .phreg _ _ _ _ => true
  | .phdrop _ _ _ _ => true
  | .phsig _ _ _ _ => true
  | .phwait _ _ _ _ => true
  | .phnext _ _ _ _ => true
  | .phread _ _ _ _ => true
  | .phnew _ _ _ => true
  | .phfree _ _ _ => true
  | .tspawn _ _ _ _ => true
  | .tdep _ _ _ _ => true
  | .tctr _ _ _ => true
  | .tshape _ _ _ _ => true
  | .targ _ _ _ => true
  | .tself _ _ => true
  | .tlate _ _ => true
  | .pgld _ _ _ _ => true
  | .pdrop _ _ _ => true
  | .pstat _ _ _ => true
  | .pnorec _ _ _ => true
  | .lturn _ _ _ _ => true
  | .lstat _ _ _ _ => true
  | .lquiet _ _ _ => true
  | .gpush _ _ _ _ => true
  | .rpop _ _ _ => true
  | .lxbegin _ _ _ => true
  | .lxack _ _ _ _ => true
  | .lxend _ _ _ => true
  | .lxstat _ _ _ => true
  | .tlbinv _ _ _ _ => true
  | .freeze _ _ _ _ => true
  | .thaw _ _ _ _ => true
  | .pgmove _ _ _ _ => true
  | .cspare _ _ _ => true
  | .world _ _ _ _ => true
  | .immxHint _ => true
  | .repHint _ _ _ _ => true
  | .ordHint k s => decide (k.toNat ≤ 4 ∧ s.toNat ≤ 6)
  | .locHint _ _ => true
  | .mcompHint _ _ => true
  | .qwHint _ _ _ _ _ _ => true
  | .rndHint r => decide (r.toNat ≤ 5)
  | .illegalInstruction _ => true
  | .jobQueueGrant _ => true
  | .walkJobAccept _ _ => true
  | .walkLoadDone _ _ => true
  | .walkStep _ _ => true
  | .walkStepEnd _ _ => true
  | .walkSuspend _ _ => true
  | .handlerStart _ => true
  | .walkJobComplete _ _ => true
  | .tracerGrant _ => true
  | .tracerJobStart _ _ => true
  | .tracerPart _ _ => true
  | .tracerSig _ _ => true
  | .tracerSuspend _ _ => true
  | .appendReadyAdd _ _ => true
  | .tracerJobComplete _ _ => true
  | .streamStart _ _ => true
  | .streamSlotPublish _ _ => true
  | .streamSuspend _ _ => true
  | .pmergeResult _ => true
  | .homeWrite _ => true
  | .homeAtomic _ => true
  | .ackReceive _ => true
  | .nackRetry _ => true
  | .tlbMissWalk _ _ _ => true
  | .tlbHcSpill _ _ => true
  | .llcFill _ _ => true
  | .pageEpochBoundary _ => true
  | .wcfgWrite _ _ _ => true
  | .windowEnChangeDone _ _ => true
  | .atlasWrite _ _ => true
  | .repctlWrite _ _ => true
  | .stqcfgWrite _ _ _ => true
  | .svitemWrite _ _ => true
  | .plctlFlush _ => true
  | .plctlKind _ => true
  | .lxlostWrite _ => true
  | .securityRegionWrite _ _ _ _ _ => true
  | .surveyorRegWrite _ _ _ _ => true
  | .itemIntake _ => true
  | .dispatchCycle _ => true
  | .printEntryIssue _ => true
  | .inputCopyDone _ => true
  | .inputCopyFault _ => true
  | .taskEndComplete _ => true
  | .governorTick _ => true
  | .deadlockSweep _ => true
  | .surveyorTrap _ => true
  | .watchdogExpire _ _ => true
  | .softErrorCorrected _ => true
  | .softErrorUncorrected _ => true
  | .latePacketRecord _ => true
  | .packetForward _ => true
  | .routeOpen _ _ => true
  | .portItemArrive _ _ => true
  | .routeCloseFlit _ _ => true
  | .turnGroupStart _ => true
  | .turnGroupRetrain _ _ => true
  | .compassSpawn _ _ => true
  | .compassSeal _ _ => true
  | .compassPopq _ _ _ => true
  | .compassIndexWrite _ _ => true
  | .compassIntailWrite _ _ => true
  | .lxCommit _ _ => true
  | .sheetLost _ => true
  | .cmdbaseWrite _ _ => true
  | .cmdtailWrite _ _ => true
  | .hostRegWrite _ _ _ => true
  | .cmdWrite _ => true
  | .cmdRead _ => true
  | .cmdCreateLaunch _ => true
  | .cmdSubmitItem _ => true
  | .cmdWakeTask _ => true
  | .cmdEndLaunch _ => true
  | .cmdAttest _ => true
  | .cmdInvalidOp _ => true
  | .statusWrite _ _ => true
  | .bootVerifyDone _ => true
  | .moduleReset => true
  | .thermalThrottle _ => true
  | .thermalStop => true
  | .sleepuWake _ _ => true
  | .bar2WindowAccess _ _ _ _ => true
  | .meridianLinkTraining _ _ => true
  | .junctionTemperatureFall _ => true

end Sys2Proof
end

