-- ==== Sys2Proof/Decode.lean ====
section
/-! DEFINITION. Decoding of instruction words (R74 to R81) and the encoder, both written from the format tables R76 and the
opcode map R78, R79. A word is split once into its raw fields; every field after that is a quotient and a remainder. -/

namespace Sys2Proof

/-- The raw fields of a word: MAJ [31:26], E [25], N [24], G [23:20] and the body [19:0] (R74). -/
structure RawWord where
  maj : Nat
  e : Nat
  n : Nat
  g : Nat
  body : Nat
  deriving DecidableEq, Repr

/-- Splits a word into its raw fields. -/
def RawWord.split (w : BitVec 32) : RawWord :=
  { maj := w.toNat / 2 ^ 26, e := w.toNat / 2 ^ 25 % 2, n := w.toNat / 2 ^ 24 % 2, g := w.toNat / 2 ^ 20 % 16,
    body := w.toNat % 2 ^ 20 }

/-- The word that has the given raw fields. -/
def RawWord.join (r : RawWord) : BitVec 32 :=
  BitVec.ofNat 32 (r.maj * 2 ^ 26 + r.e * 2 ^ 25 + r.n * 2 ^ 24 + r.g * 2 ^ 20 + r.body)

/-- Bits [lo + width - 1 : lo] of a number, as a field. -/
def field (x lo width : Nat) : BitVec width := BitVec.ofNat width (x / 2 ^ lo)

/-- Why a word is rejected. -/
inductive DecodeError where
  | unassigned   -- MAJ or FN selects nothing, or a fixed field does not hold its value (R77 to R80)
  | guardBits    -- E = 0 with a non-zero N or G (R75)
  deriving DecidableEq, Repr

/-- The guard of a word (R75). -/
def decodeGuard (r : RawWord) : Option Guard :=
  if r.e = 1 then some (.on (r.n == 1) (BitVec.ofNat 4 r.g)) else if r.n = 0 ∧ r.g = 0 then some .always else none

/-- MAJ 0x01 (R78, R79). -/
def decodeMaj01 (g : Guard) (b : Nat) : Option Instr :=
  match b % 32 with
  | 0 => some (.add g (field b 15 5) (field b 10 5) (field b 5 5))
  | 1 => some (.sub g (field b 15 5) (field b 10 5) (field b 5 5))
  | 2 => some (.and g (field b 15 5) (field b 10 5) (field b 5 5))
  | 3 => some (.or g (field b 15 5) (field b 10 5) (field b 5 5))
  | 4 => some (.xor g (field b 15 5) (field b 10 5) (field b 5 5))
  | 5 => some (.andn g (field b 15 5) (field b 10 5) (field b 5 5))
  | 6 => some (.shl g (field b 15 5) (field b 10 5) (field b 5 5))
  | 7 => some (.shr g (field b 15 5) (field b 10 5) (field b 5 5))
  | 8 => some (.sar g (field b 15 5) (field b 10 5) (field b 5 5))
  | 9 => some (.min g (field b 15 5) (field b 10 5) (field b 5 5))
  | 10 => some (.max g (field b 15 5) (field b 10 5) (field b 5 5))
  | 11 => some (.minn g (field b 15 5) (field b 10 5) (field b 5 5))
  | 12 => some (.maxn g (field b 15 5) (field b 10 5) (field b 5 5))
  | 13 => some (.addw g (field b 15 5) (field b 10 5) (field b 5 5))
  | 14 => some (.subw g (field b 15 5) (field b 10 5) (field b 5 5))
  | 16 => if b / 2 ^ 5 % 32 = 0 then some (.clz g (field b 15 5) (field b 10 5)) else none
  | 17 => if b / 2 ^ 5 % 32 = 0 then some (.ctz g (field b 15 5) (field b 10 5)) else none
  | 18 => if b / 2 ^ 5 % 32 = 0 then some (.popc g (field b 15 5) (field b 10 5)) else none
  | 19 => if b / 2 ^ 5 % 32 = 0 then some (.sext8 g (field b 15 5) (field b 10 5)) else none
  | 20 => if b / 2 ^ 5 % 32 = 0 then some (.sext16 g (field b 15 5) (field b 10 5)) else none
  | 21 => if b / 2 ^ 5 % 32 = 0 then some (.sext32 g (field b 15 5) (field b 10 5)) else none
  | 22 => if b / 2 ^ 5 % 32 = 0 then some (.zext32 g (field b 15 5) (field b 10 5)) else none
  | _ => none

/-- MAJ 0x02 (R78, R79): MUL, MULH, MULHN, MULW, DIV, DIVN, REM, REMN. -/
def decodeMaj02 (g : Guard) (b : Nat) : Option Instr :=
  match b % 32 with
  | 0 => some (.mul g (field b 15 5) (field b 10 5) (field b 5 5))
  | 1 => some (.mulh g (field b 15 5) (field b 10 5) (field b 5 5))
  | 2 => some (.mulhn g (field b 15 5) (field b 10 5) (field b 5 5))
  | 3 => some (.mulw g (field b 15 5) (field b 10 5) (field b 5 5))
  | 4 => some (.div g (field b 15 5) (field b 10 5) (field b 5 5))
  | 5 => some (.divn g (field b 15 5) (field b 10 5) (field b 5 5))
  | 6 => some (.rem g (field b 15 5) (field b 10 5) (field b 5 5))
  | 7 => some (.remn g (field b 15 5) (field b 10 5) (field b 5 5))
  | _ => none

/-- MAJ 0x04 (R78, R79): ADDI. -/
def decodeMaj04 (g : Guard) (b : Nat) : Option Instr :=
  some (.addi g (field b 15 5) (field b 10 5) (field b 0 10))

/-- MAJ 0x05 (R78, R79): ANDI. -/
def decodeMaj05 (g : Guard) (b : Nat) : Option Instr :=
  some (.andi g (field b 15 5) (field b 10 5) (field b 0 10))

/-- MAJ 0x06 (R78, R79): ORI. -/
def decodeMaj06 (g : Guard) (b : Nat) : Option Instr :=
  some (.ori g (field b 15 5) (field b 10 5) (field b 0 10))

/-- MAJ 0x07 (R78, R79): XORI. -/
def decodeMaj07 (g : Guard) (b : Nat) : Option Instr :=
  some (.xori g (field b 15 5) (field b 10 5) (field b 0 10))

/-- MAJ 0x08 (R78, R79): SHLI, SHRI, SARI. -/
def decodeMaj08 (g : Guard) (b : Nat) : Option Instr :=
  if b / 2 ^ 6 % 16 = 0 then some (.shli g (field b 15 5) (field b 10 5) (field b 0 6))
  else if b / 2 ^ 6 % 16 = 4 then some (.shri g (field b 15 5) (field b 10 5) (field b 0 6))
  else if b / 2 ^ 6 % 16 = 8 then some (.sari g (field b 15 5) (field b 10 5) (field b 0 6))
  else none

/-- MAJ 0x09 (R78, R79): CMPI_EQ, CMPI_NE, CMPI_LT, CMPI_LTN, CMPI_GE, CMPI_GEN. -/
def decodeMaj09 (g : Guard) (b : Nat) : Option Instr :=
  if b / 2 ^ 13 % 8 = 0 then some (.cmpiEq g (field b 16 4) (field b 8 5) (field b 0 8))
  else if b / 2 ^ 13 % 8 = 1 then some (.cmpiNe g (field b 16 4) (field b 8 5) (field b 0 8))
  else if b / 2 ^ 13 % 8 = 2 then some (.cmpiLt g (field b 16 4) (field b 8 5) (field b 0 8))
  else if b / 2 ^ 13 % 8 = 3 then some (.cmpiLtn g (field b 16 4) (field b 8 5) (field b 0 8))
  else if b / 2 ^ 13 % 8 = 4 then some (.cmpiGe g (field b 16 4) (field b 8 5) (field b 0 8))
  else if b / 2 ^ 13 % 8 = 5 then some (.cmpiGen g (field b 16 4) (field b 8 5) (field b 0 8))
  else none

/-- MAJ 0x0A (R78, R79): CMP_EQ, CMP_NE, CMP_LT, CMP_LTN, CMP_GE, CMP_GEN. -/
def decodeMaj0A (g : Guard) (b : Nat) : Option Instr :=
  match b % 32 with
  | 0 => if b / 2 ^ 19 % 2 = 0 then some (.cmpEq g (field b 15 4) (field b 10 5) (field b 5 5)) else none
  | 1 => if b / 2 ^ 19 % 2 = 0 then some (.cmpNe g (field b 15 4) (field b 10 5) (field b 5 5)) else none
  | 2 => if b / 2 ^ 19 % 2 = 0 then some (.cmpLt g (field b 15 4) (field b 10 5) (field b 5 5)) else none
  | 3 => if b / 2 ^ 19 % 2 = 0 then some (.cmpLtn g (field b 15 4) (field b 10 5) (field b 5 5)) else none
  | 4 => if b / 2 ^ 19 % 2 = 0 then some (.cmpGe g (field b 15 4) (field b 10 5) (field b 5 5)) else none
  | 5 => if b / 2 ^ 19 % 2 = 0 then some (.cmpGen g (field b 15 4) (field b 10 5) (field b 5 5)) else none
  | _ => none

/-- MAJ 0x0B (R78, R79): LEA. -/
def decodeMaj0B (g : Guard) (b : Nat) : Option Instr :=
  if b / 2 ^ 2 % 8 = 0 then some (.lea g (field b 15 5) (field b 10 5) (field b 5 5) (field b 0 2))
  else none

/-- MAJ 0x0C (R78, R79): PAND, POR, PXOR, PANDN, PNOT, PSET, PCLR, PMOVS, PANY, PALL, PCNT, PFIRST. -/
def decodeMaj0C (g : Guard) (b : Nat) : Option Instr :=
  match b % 32 with
  | 0 => if b / 2 ^ 9 % 2 = 0 ∧ b / 2 ^ 14 % 2 = 0 ∧ b / 2 ^ 19 % 2 = 0 then some (.pand g (field b 15 4) (field b 10 4) (field b 5 4)) else none
  | 1 => if b / 2 ^ 9 % 2 = 0 ∧ b / 2 ^ 14 % 2 = 0 ∧ b / 2 ^ 19 % 2 = 0 then some (.por g (field b 15 4) (field b 10 4) (field b 5 4)) else none
  | 2 => if b / 2 ^ 9 % 2 = 0 ∧ b / 2 ^ 14 % 2 = 0 ∧ b / 2 ^ 19 % 2 = 0 then some (.pxor g (field b 15 4) (field b 10 4) (field b 5 4)) else none
  | 3 => if b / 2 ^ 9 % 2 = 0 ∧ b / 2 ^ 14 % 2 = 0 ∧ b / 2 ^ 19 % 2 = 0 then some (.pandn g (field b 15 4) (field b 10 4) (field b 5 4)) else none
  | 4 => if b / 2 ^ 5 % 32 = 0 ∧ b / 2 ^ 14 % 2 = 0 ∧ b / 2 ^ 19 % 2 = 0 then some (.pnot g (field b 15 4) (field b 10 4)) else none
  | 5 => if b / 2 ^ 5 % 1024 = 0 ∧ b / 2 ^ 19 % 2 = 0 then some (.pset g (field b 15 4)) else none
  | 6 => if b / 2 ^ 5 % 1024 = 0 ∧ b / 2 ^ 19 % 2 = 0 then some (.pclr g (field b 15 4)) else none
  | 7 => if b / 2 ^ 5 % 32 = 0 ∧ b / 2 ^ 19 % 2 = 0 then some (.pmovs g (field b 15 4) (field b 10 5)) else none
  | 8 => if b / 2 ^ 5 % 32 = 0 ∧ b / 2 ^ 14 % 2 = 0 then some (.pany g (field b 15 5) (field b 10 4)) else none
  | 9 => if b / 2 ^ 5 % 32 = 0 ∧ b / 2 ^ 14 % 2 = 0 then some (.pall g (field b 15 5) (field b 10 4)) else none
  | 10 => if b / 2 ^ 5 % 32 = 0 ∧ b / 2 ^ 14 % 2 = 0 then some (.pcnt g (field b 15 5) (field b 10 4)) else none
  | 11 => if b / 2 ^ 5 % 32 = 0 ∧ b / 2 ^ 14 % 2 = 0 then some (.pfirst g (field b 15 5) (field b 10 4)) else none
  | _ => none

/-- MAJ 0x0D (R78, R79): SEL. -/
def decodeMaj0D (g : Guard) (b : Nat) : Option Instr :=
  if b / 2 ^ 4 % 2 = 0 then some (.sel g (field b 15 5) (field b 10 5) (field b 5 5) (field b 0 4))
  else none

/-- MAJ 0x10 (R78, R79): J. -/
def decodeMaj10 (g : Guard) (b : Nat) : Option Instr :=
  some (.jump g (field b 0 20))

/-- MAJ 0x11 (R78, R79): JAL. -/
def decodeMaj11 (g : Guard) (b : Nat) : Option Instr :=
  some (.jumpLink g (field b 0 20))

/-- MAJ 0x12 (R78, R79): JR, JALR. -/
def decodeMaj12 (g : Guard) (b : Nat) : Option Instr :=
  match b % 32 with
  | 0 => if b / 2 ^ 5 % 32 = 0 ∧ b / 2 ^ 15 % 32 = 0 then some (.jumpReg g (field b 10 5)) else none
  | 1 => if b / 2 ^ 5 % 32 = 0 ∧ b / 2 ^ 15 % 32 = 0 then some (.jumpLinkReg g (field b 10 5)) else none
  | _ => none

/-- MAJ 0x13 (R78, R79): NOP, END, COMMIT, YIELD, PARK, TRAP, ERET, BRK, HRET, ASTART, AWAIT, IFLUSH. -/
def decodeMaj13 (g : Guard) (b : Nat) : Option Instr :=
  match b % 32 with
  | 0 => if b / 2 ^ 5 % 32768 = 0 then some (.nop g) else none
  | 1 => if b / 2 ^ 5 % 32768 = 0 then some (.endTask g) else none
  | 2 => if b / 2 ^ 5 % 32768 = 0 then some (.commit g) else none
  | 3 => if b / 2 ^ 5 % 32768 = 0 then some (.yield g) else none
  | 4 => if b / 2 ^ 5 % 32768 = 0 then some (.park g) else none
  | 5 => if b / 2 ^ 10 % 1024 = 0 then some (.trap g (field b 5 5)) else none
  | 6 => if b / 2 ^ 5 % 32768 = 0 then some (.eret g) else none
  | 7 => if b / 2 ^ 5 % 32768 = 0 then some (.brk g) else none
  | 8 => if b / 2 ^ 5 % 32768 = 0 then some (.hret g) else none
  | 9 => if b / 2 ^ 5 % 32 = 0 ∧ b / 2 ^ 15 % 32 = 0 then some (.astart g (field b 10 5)) else none
  | 10 => if b / 2 ^ 5 % 32768 = 0 then some (.await g) else none
  | 11 => if b / 2 ^ 5 % 32768 = 0 then some (.iflush g) else none
  | _ => none

/-- MAJ 0x14 (R78, R79): CRD. -/
def decodeMaj14 (g : Guard) (b : Nat) : Option Instr :=
  if b / 2 ^ 10 % 32 = 0 then some (.crd g (field b 15 5) (field b 0 10))
  else none

/-- MAJ 0x15 (R78, R79): CWR. -/
def decodeMaj15 (g : Guard) (b : Nat) : Option Instr :=
  if b / 2 ^ 15 % 32 = 0 then some (.cwr g (field b 10 5) (field b 0 10))
  else none

/-- MAJ 0x18 (R78, R79): LD. -/
def decodeMaj18 (g : Guard) (b : Nat) : Option Instr :=
  some (.ld g (field b 15 5) (field b 10 5) (field b 7 3) (field b 6 1) (field b 0 6))

/-- MAJ 0x19 (R78, R79): ST. -/
def decodeMaj19 (g : Guard) (b : Nat) : Option Instr :=
  some (.st g (field b 15 5) (field b 10 5) (field b 7 3) (field b 6 1) (field b 0 6))

/-- MAJ 0x1A (R78, R79): LDV. -/
def decodeMaj1A (g : Guard) (b : Nat) : Option Instr :=
  if b % 8 = 0 then some (.ldv g (field b 15 5) (field b 10 5) (field b 5 5) (field b 4 1) (field b 3 1))
  else none

/-- MAJ 0x1B (R78, R79): STV. -/
def decodeMaj1B (g : Guard) (b : Nat) : Option Instr :=
  if b % 16 = 0 then some (.stv g (field b 15 5) (field b 10 5) (field b 5 5) (field b 4 1))
  else none

/-- MAJ 0x1C (R78, R79): AMOADD, AMOAND, AMOOR, AMOXOR, AMOMIN, AMOMAX, AMOMINN, AMOMAXN, AMOSWAP, AMOCAS, AMOFADD, AMOSTAG. -/
def decodeMaj1C (g : Guard) (b : Nat) : Option Instr :=
  if b % 16 = 0 then some (.amoadd g (field b 15 5) (field b 10 5) (field b 5 5) (field b 4 1))
  else if b % 16 = 1 then some (.amoand g (field b 15 5) (field b 10 5) (field b 5 5) (field b 4 1))
  else if b % 16 = 2 then some (.amoor g (field b 15 5) (field b 10 5) (field b 5 5) (field b 4 1))
  else if b % 16 = 3 then some (.amoxor g (field b 15 5) (field b 10 5) (field b 5 5) (field b 4 1))
  else if b % 16 = 4 then some (.amomin g (field b 15 5) (field b 10 5) (field b 5 5) (field b 4 1))
  else if b % 16 = 5 then some (.amomax g (field b 15 5) (field b 10 5) (field b 5 5) (field b 4 1))
  else if b % 16 = 6 then some (.amominn g (field b 15 5) (field b 10 5) (field b 5 5) (field b 4 1))
  else if b % 16 = 7 then some (.amomaxn g (field b 15 5) (field b 10 5) (field b 5 5) (field b 4 1))
  else if b % 16 = 8 then some (.amoswap g (field b 15 5) (field b 10 5) (field b 5 5) (field b 4 1))
  else if b % 16 = 9 then some (.amocas g (field b 15 5) (field b 10 5) (field b 5 5) (field b 4 1))
  else if b % 32 = 10 then some (.amofadd g (field b 15 5) (field b 10 5) (field b 5 5))
  else if b % 32 = 11 then some (.amostag g (field b 15 5) (field b 10 5) (field b 5 5))
  else none

/-- MAJ 0x1D (R78, R79): FENCE, WAITACK, PFETCH, CCLEAN, CINVAL, CFLUSH, ACQINV. -/
def decodeMaj1D (g : Guard) (b : Nat) : Option Instr :=
  match b % 32 with
  | 0 => if b / 2 ^ 15 % 32 = 0 then some (.fence g (field b 10 5) (field b 5 5)) else none
  | 1 => some (.waitack g (field b 15 5) (field b 10 5) (field b 5 5))
  | 2 => if b / 2 ^ 15 % 32 = 0 then some (.pfetch g (field b 10 5) (field b 5 5)) else none
  | 3 => some (.cclean g (field b 15 5) (field b 10 5) (field b 5 5))
  | 4 => some (.cinval g (field b 15 5) (field b 10 5) (field b 5 5))
  | 5 => some (.cflush g (field b 15 5) (field b 10 5) (field b 5 5))
  | 6 => if b / 2 ^ 10 % 1024 = 0 then some (.acqinv g (field b 5 5)) else none
  | _ => none

/-- MAJ 0x20 (R78, R79): VADD, VSUB, VMUL, VMIN, VMAX, VABS, VNEG, VAND, VOR, VXOR, VSHL, VSHR, VSAR, VFMA, VFMS. -/
def decodeMaj20 (g : Guard) (b : Nat) : Option Instr :=
  match b % 32 with
  | 0 => some (.vadd g (field b 15 5) (field b 10 5) (field b 5 5))
  | 1 => some (.vsub g (field b 15 5) (field b 10 5) (field b 5 5))
  | 2 => some (.vmul g (field b 15 5) (field b 10 5) (field b 5 5))
  | 3 => some (.vmin g (field b 15 5) (field b 10 5) (field b 5 5))
  | 4 => some (.vmax g (field b 15 5) (field b 10 5) (field b 5 5))
  | 5 => if b / 2 ^ 5 % 32 = 0 then some (.vabs g (field b 15 5) (field b 10 5)) else none
  | 6 => if b / 2 ^ 5 % 32 = 0 then some (.vneg g (field b 15 5) (field b 10 5)) else none
  | 7 => some (.vand g (field b 15 5) (field b 10 5) (field b 5 5))
  | 8 => some (.vor g (field b 15 5) (field b 10 5) (field b 5 5))
  | 9 => some (.vxor g (field b 15 5) (field b 10 5) (field b 5 5))
  | 10 => some (.vshl g (field b 15 5) (field b 10 5) (field b 5 5))
  | 11 => some (.vshr g (field b 15 5) (field b 10 5) (field b 5 5))
  | 12 => some (.vsar g (field b 15 5) (field b 10 5) (field b 5 5))
  | 13 => some (.vfma g (field b 15 5) (field b 10 5) (field b 5 5))
  | 14 => some (.vfms g (field b 15 5) (field b 10 5) (field b 5 5))
  | _ => none

/-- MAJ 0x21 (R78, R79): VADDS, VSUBS, VMULS, VMINS, VMAXS, VFMAS. -/
def decodeMaj21 (g : Guard) (b : Nat) : Option Instr :=
  match b % 32 with
  | 0 => some (.vadds g (field b 15 5) (field b 10 5) (field b 5 5))
  | 1 => some (.vsubs g (field b 15 5) (field b 10 5) (field b 5 5))
  | 2 => some (.vmuls g (field b 15 5) (field b 10 5) (field b 5 5))
  | 3 => some (.vmins g (field b 15 5) (field b 10 5) (field b 5 5))
  | 4 => some (.vmaxs g (field b 15 5) (field b 10 5) (field b 5 5))
  | 5 => some (.vfmas g (field b 15 5) (field b 10 5) (field b 5 5))
  | _ => none

/-- MAJ 0x22 (R78, R79): VEXP2, VLOG2, VRCP, VRSQ, VSQRT, VTANH. -/
def decodeMaj22 (g : Guard) (b : Nat) : Option Instr :=
  match b % 32 with
  | 0 => if b / 2 ^ 5 % 32 = 0 then some (.vexp2 g (field b 15 5) (field b 10 5)) else none
  | 1 => if b / 2 ^ 5 % 32 = 0 then some (.vlog2 g (field b 15 5) (field b 10 5)) else none
  | 2 => if b / 2 ^ 5 % 32 = 0 then some (.vrcp g (field b 15 5) (field b 10 5)) else none
  | 3 => if b / 2 ^ 5 % 32 = 0 then some (.vrsq g (field b 15 5) (field b 10 5)) else none
  | 4 => if b / 2 ^ 5 % 32 = 0 then some (.vsqrt g (field b 15 5) (field b 10 5)) else none
  | 5 => if b / 2 ^ 5 % 32 = 0 then some (.vtanh g (field b 15 5) (field b 10 5)) else none
  | _ => none

/-- MAJ 0x23 (R78, R79): VRSUM, VRMAX, VRMIN, VCSUM, VCMAX, VRAMAX. -/
def decodeMaj23 (g : Guard) (b : Nat) : Option Instr :=
  match b % 32 with
  | 0 => if b / 2 ^ 5 % 32 = 0 then some (.vrsum g (field b 15 5) (field b 10 5)) else none
  | 1 => if b / 2 ^ 5 % 32 = 0 then some (.vrmax g (field b 15 5) (field b 10 5)) else none
  | 2 => if b / 2 ^ 5 % 32 = 0 then some (.vrmin g (field b 15 5) (field b 10 5)) else none
  | 3 => if b / 2 ^ 5 % 32 = 0 then some (.vcsum g (field b 15 5) (field b 10 5)) else none
  | 4 => if b / 2 ^ 5 % 32 = 0 then some (.vcmax g (field b 15 5) (field b 10 5)) else none
  | 5 => if b / 2 ^ 5 % 32 = 0 then some (.vramax g (field b 15 5) (field b 10 5)) else none
  | _ => none

/-- MAJ 0x24 (R78, R79): VCMP_EQ, VCMP_NE, VCMP_LT, VCMP_LE, VCMP_GT, VCMP_GE, VCMP_UN. -/
def decodeMaj24 (g : Guard) (b : Nat) : Option Instr :=
  match b % 32 with
  | 0 => if b / 2 ^ 19 % 2 = 0 then some (.vcmpEq g (field b 15 4) (field b 10 5) (field b 5 5)) else none
  | 1 => if b / 2 ^ 19 % 2 = 0 then some (.vcmpNe g (field b 15 4) (field b 10 5) (field b 5 5)) else none
  | 2 => if b / 2 ^ 19 % 2 = 0 then some (.vcmpLt g (field b 15 4) (field b 10 5) (field b 5 5)) else none
  | 3 => if b / 2 ^ 19 % 2 = 0 then some (.vcmpLe g (field b 15 4) (field b 10 5) (field b 5 5)) else none
  | 4 => if b / 2 ^ 19 % 2 = 0 then some (.vcmpGt g (field b 15 4) (field b 10 5) (field b 5 5)) else none
  | 5 => if b / 2 ^ 19 % 2 = 0 then some (.vcmpGe g (field b 15 4) (field b 10 5) (field b 5 5)) else none
  | 6 => if b / 2 ^ 19 % 2 = 0 then some (.vcmpUn g (field b 15 4) (field b 10 5) (field b 5 5)) else none
  | _ => none

/-- MAJ 0x25 (R78, R79): VCVT. -/
def decodeMaj25 (g : Guard) (b : Nat) : Option Instr :=
  if b / 2 ^ 5 % 32 = 0 then some (.vcvt g (field b 15 5) (field b 10 5) (field b 4 1) (field b 0 4))
  else none

/-- MAJ 0x26 (R78, R79): VMOV, VSPLAT, VEXT, VINS, VBROW, VBCOL, VSHAPE, VZERO, VIOTA, VSHUF, VSCALE. -/
def decodeMaj26 (g : Guard) (b : Nat) : Option Instr :=
  match b % 32 with
  | 0 => if b / 2 ^ 5 % 32 = 0 then some (.vmov g (field b 15 5) (field b 10 5)) else none
  | 1 => if b / 2 ^ 5 % 32 = 0 then some (.vsplat g (field b 15 5) (field b 10 5)) else none
  | 2 => some (.vext g (field b 15 5) (field b 10 5) (field b 5 5))
  | 3 => some (.vins g (field b 15 5) (field b 10 5) (field b 5 5))
  | 4 => some (.vbrow g (field b 15 5) (field b 10 5) (field b 5 5))
  | 5 => some (.vbcol g (field b 15 5) (field b 10 5) (field b 5 5))
  | 6 => if b / 2 ^ 5 % 32 = 0 then some (.vshape g (field b 15 5) (field b 10 5)) else none
  | 7 => if b / 2 ^ 5 % 1024 = 0 then some (.vzero g (field b 15 5)) else none
  | 8 => if b / 2 ^ 5 % 32 = 0 then some (.viota g (field b 15 5) (field b 10 5)) else none
  | 9 => some (.vshuf g (field b 15 5) (field b 10 5) (field b 5 5))
  | 10 => some (.vscale g (field b 15 5) (field b 10 5) (field b 5 5))
  | _ => none

/-- MAJ 0x27 (R78, R79): SMERGE, SMERGEZ, SMCOUNT, SCAN, SCANX, VPRUNE, VPRUNES, VRNG, VCOMPACT. -/
def decodeMaj27 (g : Guard) (b : Nat) : Option Instr :=
  match b % 32 with
  | 0 => some (.smerge g (field b 15 5) (field b 10 5) (field b 5 5))
  | 1 => some (.smergez g (field b 15 5) (field b 10 5) (field b 5 5))
  | 2 => some (.smcount g (field b 15 5) (field b 10 5) (field b 5 5))
  | 3 => some (.scan g (field b 15 5) (field b 10 5) (field b 5 5))
  | 4 => some (.scanx g (field b 15 5) (field b 10 5) (field b 5 5))
  | 5 => some (.vprune g (field b 15 5) (field b 10 5) (field b 5 5))
  | 6 => some (.vprunes g (field b 15 5) (field b 10 5) (field b 5 5))
  | 7 => if b / 2 ^ 5 % 1024 = 0 then some (.vrng g (field b 15 5)) else none
  | 8 => if b / 2 ^ 9 % 2 = 0 then some (.vcompact g (field b 15 5) (field b 10 5) (field b 5 4)) else none
  | _ => none

/-- MAJ 0x28 (R78, R79): PMERGE. -/
def decodeMaj28 (g : Guard) (b : Nat) : Option Instr :=
  some (.pmerge g (field b 15 5) (field b 10 5) (field b 5 5) (field b 0 5))

/-- MAJ 0x2C (R78, R79): QCFG, QPUB, QADV, QFILL, SSTR, ISTR, SCLOSE, SSTAT. -/
def decodeMaj2C (g : Guard) (b : Nat) : Option Instr :=
  match b % 32 with
  | 0 => if b / 2 ^ 5 % 32 = 0 ∧ b / 2 ^ 13 % 4 = 3 then some (.qcfg g (field b 15 5) (field b 10 3)) else none
  | 1 => if b / 2 ^ 5 % 1024 = 0 ∧ b / 2 ^ 18 % 4 = 3 then some (.qpub g (field b 15 3)) else none
  | 2 => if b / 2 ^ 5 % 1024 = 0 ∧ b / 2 ^ 18 % 4 = 3 then some (.qadv g (field b 15 3)) else none
  | 3 => if b / 2 ^ 13 % 4 = 3 then some (.qfill g (field b 15 5) (field b 10 3) (field b 5 5)) else none
  | 4 => if b / 2 ^ 5 % 32 = 0 ∧ b / 2 ^ 18 % 4 = 3 then some (.sstr g (field b 15 3) (field b 10 5)) else none
  | 5 => if b / 2 ^ 5 % 32 = 0 ∧ b / 2 ^ 18 % 4 = 3 then some (.istr g (field b 15 3) (field b 10 5)) else none
  | 6 => if b / 2 ^ 5 % 1024 = 0 ∧ b / 2 ^ 18 % 4 = 3 then some (.sclose g (field b 15 3)) else none
  | 7 => if b / 2 ^ 5 % 32 = 0 ∧ b / 2 ^ 13 % 4 = 3 then some (.sstat g (field b 15 5) (field b 10 3)) else none
  | _ => none

/-- MAJ 0x2D (R78, R79): SPSEND, SPSENDV, SPCLOSE, SPRECV, SPRECVV, SPSTAT. -/
def decodeMaj2D (g : Guard) (b : Nat) : Option Instr :=
  match b % 32 with
  | 0 => if b / 2 ^ 15 % 32 = 0 then some (.spsend g (field b 10 5) (field b 5 5)) else none
  | 1 => if b / 2 ^ 5 % 32 = 0 then some (.spsendv g (field b 15 5) (field b 10 5)) else none
  | 2 => if b / 2 ^ 5 % 32768 = 0 then some (.spclose g) else none
  | 3 => if b / 2 ^ 9 % 2 = 0 then some (.sprecv g (field b 15 5) (field b 10 5) (field b 5 4)) else none
  | 4 => if b / 2 ^ 9 % 2 = 0 then some (.sprecvv g (field b 15 5) (field b 10 5) (field b 5 4)) else none
  | 5 => if b / 2 ^ 5 % 32 = 0 then some (.spstat g (field b 15 5) (field b 10 5)) else none
  | _ => none

/-- MAJ 0x30 (R78, R79): MWALK, MWALKG, MPROG, MCANCEL, MNODE. -/
def decodeMaj30 (g : Guard) (b : Nat) : Option Instr :=
  match b % 32 with
  | 0 => if b / 2 ^ 5 % 32 = 0 then some (.mwalk g (field b 15 5) (field b 10 5)) else none
  | 1 => if b / 2 ^ 5 % 32 = 0 then some (.mwalkg g (field b 15 5) (field b 10 5)) else none
  | 2 => some (.mprog g (field b 15 5) (field b 10 5) (field b 5 5))
  | 3 => if b / 2 ^ 5 % 32 = 0 then some (.mcancel g (field b 15 5) (field b 10 5)) else none
  | 4 => some (.mnode g (field b 15 5) (field b 10 5) (field b 5 5))
  | _ => none

/-- MAJ 0x31 (R78, R79): GANG. -/
def decodeMaj31 (g : Guard) (b : Nat) : Option Instr :=
  if b % 1024 = 0 ∧ b / 2 ^ 15 % 32 = 0 then some (.gang g (field b 10 5))
  else none

/-- MAJ 0x32 (R78, R79): JWAIT, JPOLL. -/
def decodeMaj32 (g : Guard) (b : Nat) : Option Instr :=
  match b % 32 with
  | 0 => if b / 2 ^ 5 % 32 = 0 then some (.jwait g (field b 15 5) (field b 10 5)) else none
  | 1 => if b / 2 ^ 5 % 32 = 0 then some (.jpoll g (field b 15 5) (field b 10 5)) else none
  | _ => none

/-- MAJ 0x33 (R78, R79): TCOPY, TGATHER, TSCATTER, TSCADD, TFILL. -/
def decodeMaj33 (g : Guard) (b : Nat) : Option Instr :=
  match b % 32 with
  | 0 => if b / 2 ^ 5 % 32 = 0 ∧ b / 2 ^ 15 % 2 = 0 then some (.tcopy g (field b 16 4) (field b 10 5)) else none
  | 1 => if b / 2 ^ 5 % 32 = 0 ∧ b / 2 ^ 15 % 2 = 0 then some (.tgather g (field b 16 4) (field b 10 5)) else none
  | 2 => if b / 2 ^ 5 % 32 = 0 ∧ b / 2 ^ 15 % 2 = 0 then some (.tscatter g (field b 16 4) (field b 10 5)) else none
  | 3 => if b / 2 ^ 5 % 32 = 0 ∧ b / 2 ^ 15 % 2 = 0 then some (.tscadd g (field b 16 4) (field b 10 5)) else none
  | 4 => if b / 2 ^ 5 % 32 = 0 ∧ b / 2 ^ 15 % 2 = 0 then some (.tfill g (field b 16 4) (field b 10 5)) else none
  | _ => none

/-- MAJ 0x34 (R78, R79): SLEEPU. -/
def decodeMaj34 (g : Guard) (b : Nat) : Option Instr :=
  if b % 32 = 0 then some (.sleepu g (field b 15 5) (field b 10 5) (field b 5 5))
  else none

/-- MAJ 0x38 (R78, R79): PHREG, PHDROP, PHSIG, PHWAIT, PHNEXT, PHREAD, PHNEW, PHFREE. -/
def decodeMaj38 (g : Guard) (b : Nat) : Option Instr :=
  match b % 32 with
  | 0 => some (.phreg g (field b 15 5) (field b 10 5) (field b 5 5))
  | 1 => some (.phdrop g (field b 15 5) (field b 10 5) (field b 5 5))
  | 2 => some (.phsig g (field b 15 5) (field b 10 5) (field b 5 5))
  | 3 => some (.phwait g (field b 15 5) (field b 10 5) (field b 5 5))
  | 4 => some (.phnext g (field b 15 5) (field b 10 5) (field b 5 5))
  | 5 => some (.phread g (field b 15 5) (field b 10 5) (field b 5 5))
  | 6 => if b / 2 ^ 5 % 32 = 0 then some (.phnew g (field b 15 5) (field b 10 5)) else none
  | 7 => if b / 2 ^ 5 % 32 = 0 then some (.phfree g (field b 15 5) (field b 10 5)) else none
  | _ => none

/-- MAJ 0x39 (R78, R79): TSPAWN, TDEP, TCTR, TSHAPE, TARG, TSELF, TLATE. -/
def decodeMaj39 (g : Guard) (b : Nat) : Option Instr :=
  match b % 32 with
  | 0 => some (.tspawn g (field b 15 5) (field b 10 5) (field b 5 5))
  | 1 => some (.tdep g (field b 15 5) (field b 10 5) (field b 5 5))
  | 2 => if b / 2 ^ 5 % 32 = 0 then some (.tctr g (field b 15 5) (field b 10 5)) else none
  | 3 => some (.tshape g (field b 15 5) (field b 10 5) (field b 5 5))
  | 4 => if b / 2 ^ 8 % 128 = 0 then some (.targ g (field b 15 5) (field b 5 3)) else none
  | 5 => if b / 2 ^ 5 % 1024 = 0 then some (.tself g (field b 15 5)) else none
  | 6 => if b / 2 ^ 5 % 1024 = 0 then some (.tlate g (field b 15 5)) else none
  | _ => none

/-- MAJ 0x3A (R78, R79): PGLD, PDROP, PSTAT, PNOREC. -/
def decodeMaj3A (g : Guard) (b : Nat) : Option Instr :=
  match b % 32 with
  | 0 => some (.pgld g (field b 15 5) (field b 10 5) (field b 5 5))
  | 1 => if b / 2 ^ 5 % 32 = 0 then some (.pdrop g (field b 15 5) (field b 10 5)) else none
  | 2 => if b / 2 ^ 5 % 32 = 0 then some (.pstat g (field b 15 5) (field b 10 5)) else none
  | 3 => if b / 2 ^ 5 % 32 = 0 then some (.pnorec g (field b 15 5) (field b 10 5)) else none
  | _ => none

/-- MAJ 0x3B (R78, R79): LTURN, LSTAT, LQUIET. -/
def decodeMaj3B (g : Guard) (b : Nat) : Option Instr :=
  match b % 32 with
  | 0 => some (.lturn g (field b 15 5) (field b 10 5) (field b 5 5))
  | 1 => some (.lstat g (field b 15 5) (field b 10 5) (field b 5 5))
  | 2 => if b / 2 ^ 5 % 32 = 0 then some (.lquiet g (field b 15 5) (field b 10 5)) else none
  | _ => none

/-- MAJ 0x3C (R78, R79): GPUSH, RPOP, LXBEGIN, LXACK, LXEND, LXSTAT. -/
def decodeMaj3C (g : Guard) (b : Nat) : Option Instr :=
  match b % 32 with
  | 0 => some (.gpush g (field b 15 5) (field b 10 5) (field b 5 5))
  | 1 => if b / 2 ^ 10 % 64 = 0 then some (.rpop g (field b 16 4) (field b 5 5)) else none
  | 2 => if b / 2 ^ 5 % 32 = 0 then some (.lxbegin g (field b 15 5) (field b 10 5)) else none
  | 3 => some (.lxack g (field b 15 5) (field b 10 5) (field b 5 5))
  | 4 => if b / 2 ^ 5 % 32 = 0 then some (.lxend g (field b 15 5) (field b 10 5)) else none
  | 5 => if b / 2 ^ 5 % 32 = 0 then some (.lxstat g (field b 15 5) (field b 10 5)) else none
  | _ => none

/-- MAJ 0x3D (R78, R79): TLBINV, FREEZE, THAW, PGMOVE, CSPARE, WORLD. -/
def decodeMaj3D (g : Guard) (b : Nat) : Option Instr :=
  match b % 32 with
  | 0 => some (.tlbinv g (field b 15 5) (field b 10 5) (field b 5 5))
  | 1 => some (.freeze g (field b 15 5) (field b 10 5) (field b 5 5))
  | 2 => some (.thaw g (field b 15 5) (field b 10 5) (field b 5 5))
  | 3 => some (.pgmove g (field b 15 5) (field b 10 5) (field b 5 5))
  | 4 => some (.cspare g (field b 15 5) (field b 10 5, field b 5 5))
  | 5 => some (.world g (field b 15 5) (field b 10 5) (field b 5 5))
  | _ => none

/-- Hint words, MAJ 0x3F (R81): kind [25:22] and payload [21:0]. -/
def decodeHint (kind p : Nat) : Option Instr :=
  match kind with
  | 0 => some (.immxHint (field p 0 22))
  | 1 => if p / 2 ^ 17 % 32 = 0 then some (.repHint (field p 14 3) (field p 11 3) (field p 8 3) (field p 0 8)) else none
  | 2 => if p / 2 ^ 6 % 65536 = 0 then some (.ordHint (field p 3 3) (field p 0 3)) else none
  | 3 => if p / 2 ^ 4 % 262144 = 0 then some (.locHint (field p 2 2) (field p 0 2)) else none
  | 4 => if p / 2 ^ 6 % 65536 = 0 then some (.mcompHint (field p 5 1) (field p 0 5)) else none
  | 5 => if p / 2 ^ 18 % 16 = 0 then some (.qwHint (field p 15 3) (field p 12 3) (field p 9 3) (field p 6 3) (field p 3 3) (field p 0 3)) else none
  | 6 => if p / 2 ^ 3 % 524288 = 0 then some (.rndHint (field p 0 3)) else none
  | _ => none

/-- The group of a major opcode (R78). -/
def decodeGroup (maj : Nat) (g : Guard) (b : Nat) : Option Instr :=
  match maj with
  | 1 => decodeMaj01 g b
  | 2 => decodeMaj02 g b
  | 4 => decodeMaj04 g b
  | 5 => decodeMaj05 g b
  | 6 => decodeMaj06 g b
  | 7 => decodeMaj07 g b
  | 8 => decodeMaj08 g b
  | 9 => decodeMaj09 g b
  | 10 => decodeMaj0A g b
  | 11 => decodeMaj0B g b
  | 12 => decodeMaj0C g b
  | 13 => decodeMaj0D g b
  | 16 => decodeMaj10 g b
  | 17 => decodeMaj11 g b
  | 18 => decodeMaj12 g b
  | 19 => decodeMaj13 g b
  | 20 => decodeMaj14 g b
  | 21 => decodeMaj15 g b
  | 24 => decodeMaj18 g b
  | 25 => decodeMaj19 g b
  | 26 => decodeMaj1A g b
  | 27 => decodeMaj1B g b
  | 28 => decodeMaj1C g b
  | 29 => decodeMaj1D g b
  | 32 => decodeMaj20 g b
  | 33 => decodeMaj21 g b
  | 34 => decodeMaj22 g b
  | 35 => decodeMaj23 g b
  | 36 => decodeMaj24 g b
  | 37 => decodeMaj25 g b
  | 38 => decodeMaj26 g b
  | 39 => decodeMaj27 g b
  | 40 => decodeMaj28 g b
  | 44 => decodeMaj2C g b
  | 45 => decodeMaj2D g b
  | 48 => decodeMaj30 g b
  | 49 => decodeMaj31 g b
  | 50 => decodeMaj32 g b
  | 51 => decodeMaj33 g b
  | 52 => decodeMaj34 g b
  | 56 => decodeMaj38 g b
  | 57 => decodeMaj39 g b
  | 58 => decodeMaj3A g b
  | 59 => decodeMaj3B g b
  | 60 => decodeMaj3C g b
  | 61 => decodeMaj3D g b
  | _ => none

/-- The decoder on raw fields: which row a word belongs to, with its fields. -/
def decodeRaw (r : RawWord) : Except DecodeError Instr :=
  if r.maj = 63 then
    match decodeHint (r.e * 8 + r.n * 4 + r.g / 4) (r.g % 4 * 2 ^ 20 + r.body) with
    | some i => .ok i
    | none => .error .unassigned
  else
    match decodeGuard r with
    | none => .error .guardBits
    | some g =>
      match decodeGroup r.maj g r.body with
      | some i => .ok i
      | none => .error .unassigned

/-- The instruction of a word, or the reason the word is rejected. -/
def decode (w : BitVec 32) : Except DecodeError Instr := decodeRaw (RawWord.split w)

/-- The word stored at four bytes, lowest address first (R7, R74). -/
def wordOfBytes : List (BitVec 8) → Option (BitVec 32)
  | b0 :: b1 :: b2 :: b3 :: _ => some (b3 ++ b2 ++ b1 ++ b0)
  | _ => none

/-- Decoding of a byte list: the instruction at its head and the bytes after it; none where fewer than four bytes are left or the word is rejected. -/
def decodeBytes (bs : List (BitVec 8)) : Option (Instr × List (BitVec 8)) :=
  match wordOfBytes bs with
  | none => none
  | some w => match decode w with
    | .ok i => some (i, bs.drop 4)
    | .error _ => none

/-- The instruction the decoder reads from an instruction of `nbits` bits with bits `w`, numbered as the opcode table numbers them; words are stored little-endian. -/
def decodeTableWord (nbits w : Nat) : Option Instr :=
  let v := BitVec.ofNat 32 (w % 2 ^ nbits)
  (decodeBytes [v.extractLsb' 0 8, v.extractLsb' 8 8, v.extractLsb' 16 8, v.extractLsb' 24 8]).map Prod.fst

/-- The guard bits E, N, G of a guard (R74, R75). -/
def encodeGuard (g : Guard) : Nat × Nat × Nat :=
  match g with
  | .always => (0, 0, 0)
  | .on n p => (1, if n then 1 else 0, p.toNat)

/-- A guarded word from its major opcode, guard and body. -/
def rawOf (maj : Nat) (g : Guard) (body : Nat) : RawWord :=
  { maj := maj, e := (encodeGuard g).1, n := (encodeGuard g).2.1, g := (encodeGuard g).2.2, body := body }

/-- A hint word from its kind and payload (R81). -/
def rawHint (kind payload : Nat) : RawWord :=
  { maj := 63, e := kind / 8, n := kind / 4 % 2, g := kind % 4 * 4 + payload / 2 ^ 20, body := payload % 2 ^ 20 }

/-- A field placed at bit lo of a body or payload. -/
def put (x : BitVec n) (lo : Nat) : Nat := x.toNat * 2 ^ lo

/-- The sum of placed fields and fixed bits. -/
def sumOf (l : List Nat) : Nat := match l with
  | [] => 0
  | x :: r => x + sumOf r

/-- The raw fields of an instruction, from the encoding tables R76 to R81; none for the events, which have no encoding. -/
def encodeRaw (i : Instr) : Option RawWord :=
  match i with
  | .add g x0 x1 x2 => some (rawOf 1 g (sumOf [put x0 15, put x1 10, put x2 5]))
  | .sub g x0 x1 x2 => some (rawOf 1 g (sumOf [put x0 15, put x1 10, put x2 5, 1]))
  | .and g x0 x1 x2 => some (rawOf 1 g (sumOf [put x0 15, put x1 10, put x2 5, 2]))
  | .or g x0 x1 x2 => some (rawOf 1 g (sumOf [put x0 15, put x1 10, put x2 5, 3]))
  | .xor g x0 x1 x2 => some (rawOf 1 g (sumOf [put x0 15, put x1 10, put x2 5, 4]))
  | .andn g x0 x1 x2 => some (rawOf 1 g (sumOf [put x0 15, put x1 10, put x2 5, 5]))
  | .shl g x0 x1 x2 => some (rawOf 1 g (sumOf [put x0 15, put x1 10, put x2 5, 6]))
  | .shr g x0 x1 x2 => some (rawOf 1 g (sumOf [put x0 15, put x1 10, put x2 5, 7]))
  | .sar g x0 x1 x2 => some (rawOf 1 g (sumOf [put x0 15, put x1 10, put x2 5, 8]))
  | .min g x0 x1 x2 => some (rawOf 1 g (sumOf [put x0 15, put x1 10, put x2 5, 9]))
  | .max g x0 x1 x2 => some (rawOf 1 g (sumOf [put x0 15, put x1 10, put x2 5, 10]))
  | .minn g x0 x1 x2 => some (rawOf 1 g (sumOf [put x0 15, put x1 10, put x2 5, 11]))
  | .maxn g x0 x1 x2 => some (rawOf 1 g (sumOf [put x0 15, put x1 10, put x2 5, 12]))
  | .addw g x0 x1 x2 => some (rawOf 1 g (sumOf [put x0 15, put x1 10, put x2 5, 13]))
  | .subw g x0 x1 x2 => some (rawOf 1 g (sumOf [put x0 15, put x1 10, put x2 5, 14]))
  | .clz g x0 x1 => some (rawOf 1 g (sumOf [put x0 15, put x1 10, 16]))
  | .ctz g x0 x1 => some (rawOf 1 g (sumOf [put x0 15, put x1 10, 17]))
  | .popc g x0 x1 => some (rawOf 1 g (sumOf [put x0 15, put x1 10, 18]))
  | .sext8 g x0 x1 => some (rawOf 1 g (sumOf [put x0 15, put x1 10, 19]))
  | .sext16 g x0 x1 => some (rawOf 1 g (sumOf [put x0 15, put x1 10, 20]))
  | .sext32 g x0 x1 => some (rawOf 1 g (sumOf [put x0 15, put x1 10, 21]))
  | .zext32 g x0 x1 => some (rawOf 1 g (sumOf [put x0 15, put x1 10, 22]))
  | .mul g x0 x1 x2 => some (rawOf 2 g (sumOf [put x0 15, put x1 10, put x2 5]))
  | .mulh g x0 x1 x2 => some (rawOf 2 g (sumOf [put x0 15, put x1 10, put x2 5, 1]))
  | .mulhn g x0 x1 x2 => some (rawOf 2 g (sumOf [put x0 15, put x1 10, put x2 5, 2]))
  | .mulw g x0 x1 x2 => some (rawOf 2 g (sumOf [put x0 15, put x1 10, put x2 5, 3]))
  | .div g x0 x1 x2 => some (rawOf 2 g (sumOf [put x0 15, put x1 10, put x2 5, 4]))
  | .divn g x0 x1 x2 => some (rawOf 2 g (sumOf [put x0 15, put x1 10, put x2 5, 5]))
  | .rem g x0 x1 x2 => some (rawOf 2 g (sumOf [put x0 15, put x1 10, put x2 5, 6]))
  | .remn g x0 x1 x2 => some (rawOf 2 g (sumOf [put x0 15, put x1 10, put x2 5, 7]))
  | .addi g x0 x1 x2 => some (rawOf 4 g (sumOf [put x0 15, put x1 10, put x2 0]))
  | .andi g x0 x1 x2 => some (rawOf 5 g (sumOf [put x0 15, put x1 10, put x2 0]))
  | .ori g x0 x1 x2 => some (rawOf 6 g (sumOf [put x0 15, put x1 10, put x2 0]))
  | .xori g x0 x1 x2 => some (rawOf 7 g (sumOf [put x0 15, put x1 10, put x2 0]))
  | .shli g x0 x1 x2 => some (rawOf 8 g (sumOf [put x0 15, put x1 10, put x2 0]))
  | .shri g x0 x1 x2 => some (rawOf 8 g (sumOf [put x0 15, put x1 10, put x2 0, 256]))
  | .sari g x0 x1 x2 => some (rawOf 8 g (sumOf [put x0 15, put x1 10, put x2 0, 512]))
  | .cmpiEq g x0 x1 x2 => some (rawOf 9 g (sumOf [put x0 16, put x1 8, put x2 0]))
  | .cmpiNe g x0 x1 x2 => some (rawOf 9 g (sumOf [put x0 16, put x1 8, put x2 0, 8192]))
  | .cmpiLt g x0 x1 x2 => some (rawOf 9 g (sumOf [put x0 16, put x1 8, put x2 0, 16384]))
  | .cmpiLtn g x0 x1 x2 => some (rawOf 9 g (sumOf [put x0 16, put x1 8, put x2 0, 24576]))
  | .cmpiGe g x0 x1 x2 => some (rawOf 9 g (sumOf [put x0 16, put x1 8, put x2 0, 32768]))
  | .cmpiGen g x0 x1 x2 => some (rawOf 9 g (sumOf [put x0 16, put x1 8, put x2 0, 40960]))
  | .cmpEq g x0 x1 x2 => some (rawOf 10 g (sumOf [put x0 15, put x1 10, put x2 5]))
  | .cmpNe g x0 x1 x2 => some (rawOf 10 g (sumOf [put x0 15, put x1 10, put x2 5, 1]))
  | .cmpLt g x0 x1 x2 => some (rawOf 10 g (sumOf [put x0 15, put x1 10, put x2 5, 2]))
  | .cmpLtn g x0 x1 x2 => some (rawOf 10 g (sumOf [put x0 15, put x1 10, put x2 5, 3]))
  | .cmpGe g x0 x1 x2 => some (rawOf 10 g (sumOf [put x0 15, put x1 10, put x2 5, 4]))
  | .cmpGen g x0 x1 x2 => some (rawOf 10 g (sumOf [put x0 15, put x1 10, put x2 5, 5]))
  | .lea g x0 x1 x2 x3 => some (rawOf 11 g (sumOf [put x0 15, put x1 10, put x2 5, put x3 0]))
  | .pand g x0 x1 x2 => some (rawOf 12 g (sumOf [put x0 15, put x1 10, put x2 5]))
  | .por g x0 x1 x2 => some (rawOf 12 g (sumOf [put x0 15, put x1 10, put x2 5, 1]))
  | .pxor g x0 x1 x2 => some (rawOf 12 g (sumOf [put x0 15, put x1 10, put x2 5, 2]))
  | .pandn g x0 x1 x2 => some (rawOf 12 g (sumOf [put x0 15, put x1 10, put x2 5, 3]))
  | .pnot g x0 x1 => some (rawOf 12 g (sumOf [put x0 15, put x1 10, 4]))
  | .pset g x0 => some (rawOf 12 g (sumOf [put x0 15, 5]))
  | .pclr g x0 => some (rawOf 12 g (sumOf [put x0 15, 6]))
  | .pmovs g x0 x1 => some (rawOf 12 g (sumOf [put x0 15, put x1 10, 7]))
  | .pany g x0 x1 => some (rawOf 12 g (sumOf [put x0 15, put x1 10, 8]))
  | .pall g x0 x1 => some (rawOf 12 g (sumOf [put x0 15, put x1 10, 9]))
  | .pcnt g x0 x1 => some (rawOf 12 g (sumOf [put x0 15, put x1 10, 10]))
  | .pfirst g x0 x1 => some (rawOf 12 g (sumOf [put x0 15, put x1 10, 11]))
  | .sel g x0 x1 x2 x3 => some (rawOf 13 g (sumOf [put x0 15, put x1 10, put x2 5, put x3 0]))
  | .jump g x0 => some (rawOf 16 g (sumOf [put x0 0]))
  | .jumpLink g x0 => some (rawOf 17 g (sumOf [put x0 0]))
  | .jumpReg g x0 => some (rawOf 18 g (sumOf [put x0 10]))
  | .jumpLinkReg g x0 => some (rawOf 18 g (sumOf [put x0 10, 1]))
  | .nop g => some (rawOf 19 g (sumOf [0]))
  | .endTask g => some (rawOf 19 g (sumOf [1]))
  | .commit g => some (rawOf 19 g (sumOf [2]))
  | .yield g => some (rawOf 19 g (sumOf [3]))
  | .park g => some (rawOf 19 g (sumOf [4]))
  | .trap g x0 => some (rawOf 19 g (sumOf [put x0 5, 5]))
  | .eret g => some (rawOf 19 g (sumOf [6]))
  | .brk g => some (rawOf 19 g (sumOf [7]))
  | .hret g => some (rawOf 19 g (sumOf [8]))
  | .astart g x0 => some (rawOf 19 g (sumOf [put x0 10, 9]))
  | .await g => some (rawOf 19 g (sumOf [10]))
  | .iflush g => some (rawOf 19 g (sumOf [11]))
  | .crd g x0 x1 => some (rawOf 20 g (sumOf [put x0 15, put x1 0]))
  | .cwr g x0 x1 => some (rawOf 21 g (sumOf [put x0 10, put x1 0]))
  | .ld g x0 x1 x2 x3 x4 => some (rawOf 24 g (sumOf [put x0 15, put x1 10, put x2 7, put x3 6, put x4 0]))
  | .st g x0 x1 x2 x3 x4 => some (rawOf 25 g (sumOf [put x0 15, put x1 10, put x2 7, put x3 6, put x4 0]))
  | .ldv g x0 x1 x2 x3 x4 => some (rawOf 26 g (sumOf [put x0 15, put x1 10, put x2 5, put x3 4, put x4 3]))
  | .stv g x0 x1 x2 x3 => some (rawOf 27 g (sumOf [put x0 15, put x1 10, put x2 5, put x3 4]))
  | .amoadd g x0 x1 x2 x3 => some (rawOf 28 g (sumOf [put x0 15, put x1 10, put x2 5, put x3 4]))
  | .amoand g x0 x1 x2 x3 => some (rawOf 28 g (sumOf [put x0 15, put x1 10, put x2 5, put x3 4, 1]))
  | .amoor g x0 x1 x2 x3 => some (rawOf 28 g (sumOf [put x0 15, put x1 10, put x2 5, put x3 4, 2]))
  | .amoxor g x0 x1 x2 x3 => some (rawOf 28 g (sumOf [put x0 15, put x1 10, put x2 5, put x3 4, 3]))
  | .amomin g x0 x1 x2 x3 => some (rawOf 28 g (sumOf [put x0 15, put x1 10, put x2 5, put x3 4, 4]))
  | .amomax g x0 x1 x2 x3 => some (rawOf 28 g (sumOf [put x0 15, put x1 10, put x2 5, put x3 4, 5]))
  | .amominn g x0 x1 x2 x3 => some (rawOf 28 g (sumOf [put x0 15, put x1 10, put x2 5, put x3 4, 6]))
  | .amomaxn g x0 x1 x2 x3 => some (rawOf 28 g (sumOf [put x0 15, put x1 10, put x2 5, put x3 4, 7]))
  | .amoswap g x0 x1 x2 x3 => some (rawOf 28 g (sumOf [put x0 15, put x1 10, put x2 5, put x3 4, 8]))
  | .amocas g x0 x1 x2 x3 => some (rawOf 28 g (sumOf [put x0 15, put x1 10, put x2 5, put x3 4, 9]))
  | .amofadd g x0 x1 x2 => some (rawOf 28 g (sumOf [put x0 15, put x1 10, put x2 5, 10]))
  | .amostag g x0 x1 x2 => some (rawOf 28 g (sumOf [put x0 15, put x1 10, put x2 5, 11]))
  | .fence g x0 x1 => some (rawOf 29 g (sumOf [put x0 10, put x1 5]))
  | .waitack g x0 x1 x2 => some (rawOf 29 g (sumOf [put x0 15, put x1 10, put x2 5, 1]))
  | .pfetch g x0 x1 => some (rawOf 29 g (sumOf [put x0 10, put x1 5, 2]))
  | .cclean g x0 x1 x2 => some (rawOf 29 g (sumOf [put x0 15, put x1 10, put x2 5, 3]))
  | .cinval g x0 x1 x2 => some (rawOf 29 g (sumOf [put x0 15, put x1 10, put x2 5, 4]))
  | .cflush g x0 x1 x2 => some (rawOf 29 g (sumOf [put x0 15, put x1 10, put x2 5, 5]))
  | .acqinv g x0 => some (rawOf 29 g (sumOf [put x0 5, 6]))
  | .vadd g x0 x1 x2 => some (rawOf 32 g (sumOf [put x0 15, put x1 10, put x2 5]))
  | .vsub g x0 x1 x2 => some (rawOf 32 g (sumOf [put x0 15, put x1 10, put x2 5, 1]))
  | .vmul g x0 x1 x2 => some (rawOf 32 g (sumOf [put x0 15, put x1 10, put x2 5, 2]))
  | .vmin g x0 x1 x2 => some (rawOf 32 g (sumOf [put x0 15, put x1 10, put x2 5, 3]))
  | .vmax g x0 x1 x2 => some (rawOf 32 g (sumOf [put x0 15, put x1 10, put x2 5, 4]))
  | .vabs g x0 x1 => some (rawOf 32 g (sumOf [put x0 15, put x1 10, 5]))
  | .vneg g x0 x1 => some (rawOf 32 g (sumOf [put x0 15, put x1 10, 6]))
  | .vand g x0 x1 x2 => some (rawOf 32 g (sumOf [put x0 15, put x1 10, put x2 5, 7]))
  | .vor g x0 x1 x2 => some (rawOf 32 g (sumOf [put x0 15, put x1 10, put x2 5, 8]))
  | .vxor g x0 x1 x2 => some (rawOf 32 g (sumOf [put x0 15, put x1 10, put x2 5, 9]))
  | .vshl g x0 x1 x2 => some (rawOf 32 g (sumOf [put x0 15, put x1 10, put x2 5, 10]))
  | .vshr g x0 x1 x2 => some (rawOf 32 g (sumOf [put x0 15, put x1 10, put x2 5, 11]))
  | .vsar g x0 x1 x2 => some (rawOf 32 g (sumOf [put x0 15, put x1 10, put x2 5, 12]))
  | .vfma g x0 x1 x2 => some (rawOf 32 g (sumOf [put x0 15, put x1 10, put x2 5, 13]))
  | .vfms g x0 x1 x2 => some (rawOf 32 g (sumOf [put x0 15, put x1 10, put x2 5, 14]))
  | .vadds g x0 x1 x2 => some (rawOf 33 g (sumOf [put x0 15, put x1 10, put x2 5]))
  | .vsubs g x0 x1 x2 => some (rawOf 33 g (sumOf [put x0 15, put x1 10, put x2 5, 1]))
  | .vmuls g x0 x1 x2 => some (rawOf 33 g (sumOf [put x0 15, put x1 10, put x2 5, 2]))
  | .vmins g x0 x1 x2 => some (rawOf 33 g (sumOf [put x0 15, put x1 10, put x2 5, 3]))
  | .vmaxs g x0 x1 x2 => some (rawOf 33 g (sumOf [put x0 15, put x1 10, put x2 5, 4]))
  | .vfmas g x0 x1 x2 => some (rawOf 33 g (sumOf [put x0 15, put x1 10, put x2 5, 5]))
  | .vexp2 g x0 x1 => some (rawOf 34 g (sumOf [put x0 15, put x1 10]))
  | .vlog2 g x0 x1 => some (rawOf 34 g (sumOf [put x0 15, put x1 10, 1]))
  | .vrcp g x0 x1 => some (rawOf 34 g (sumOf [put x0 15, put x1 10, 2]))
  | .vrsq g x0 x1 => some (rawOf 34 g (sumOf [put x0 15, put x1 10, 3]))
  | .vsqrt g x0 x1 => some (rawOf 34 g (sumOf [put x0 15, put x1 10, 4]))
  | .vtanh g x0 x1 => some (rawOf 34 g (sumOf [put x0 15, put x1 10, 5]))
  | .vrsum g x0 x1 => some (rawOf 35 g (sumOf [put x0 15, put x1 10]))
  | .vrmax g x0 x1 => some (rawOf 35 g (sumOf [put x0 15, put x1 10, 1]))
  | .vrmin g x0 x1 => some (rawOf 35 g (sumOf [put x0 15, put x1 10, 2]))
  | .vcsum g x0 x1 => some (rawOf 35 g (sumOf [put x0 15, put x1 10, 3]))
  | .vcmax g x0 x1 => some (rawOf 35 g (sumOf [put x0 15, put x1 10, 4]))
  | .vramax g x0 x1 => some (rawOf 35 g (sumOf [put x0 15, put x1 10, 5]))
  | .vcmpEq g x0 x1 x2 => some (rawOf 36 g (sumOf [put x0 15, put x1 10, put x2 5]))
  | .vcmpNe g x0 x1 x2 => some (rawOf 36 g (sumOf [put x0 15, put x1 10, put x2 5, 1]))
  | .vcmpLt g x0 x1 x2 => some (rawOf 36 g (sumOf [put x0 15, put x1 10, put x2 5, 2]))
  | .vcmpLe g x0 x1 x2 => some (rawOf 36 g (sumOf [put x0 15, put x1 10, put x2 5, 3]))
  | .vcmpGt g x0 x1 x2 => some (rawOf 36 g (sumOf [put x0 15, put x1 10, put x2 5, 4]))
  | .vcmpGe g x0 x1 x2 => some (rawOf 36 g (sumOf [put x0 15, put x1 10, put x2 5, 5]))
  | .vcmpUn g x0 x1 x2 => some (rawOf 36 g (sumOf [put x0 15, put x1 10, put x2 5, 6]))
  | .vcvt g x0 x1 x2 x3 => some (rawOf 37 g (sumOf [put x0 15, put x1 10, put x2 4, put x3 0]))
  | .vmov g x0 x1 => some (rawOf 38 g (sumOf [put x0 15, put x1 10]))
  | .vsplat g x0 x1 => some (rawOf 38 g (sumOf [put x0 15, put x1 10, 1]))
  | .vext g x0 x1 x2 => some (rawOf 38 g (sumOf [put x0 15, put x1 10, put x2 5, 2]))
  | .vins g x0 x1 x2 => some (rawOf 38 g (sumOf [put x0 15, put x1 10, put x2 5, 3]))
  | .vbrow g x0 x1 x2 => some (rawOf 38 g (sumOf [put x0 15, put x1 10, put x2 5, 4]))
  | .vbcol g x0 x1 x2 => some (rawOf 38 g (sumOf [put x0 15, put x1 10, put x2 5, 5]))
  | .vshape g x0 x1 => some (rawOf 38 g (sumOf [put x0 15, put x1 10, 6]))
  | .vzero g x0 => some (rawOf 38 g (sumOf [put x0 15, 7]))
  | .viota g x0 x1 => some (rawOf 38 g (sumOf [put x0 15, put x1 10, 8]))
  | .vshuf g x0 x1 x2 => some (rawOf 38 g (sumOf [put x0 15, put x1 10, put x2 5, 9]))
  | .vscale g x0 x1 x2 => some (rawOf 38 g (sumOf [put x0 15, put x1 10, put x2 5, 10]))
  | .smerge g x0 x1 x2 => some (rawOf 39 g (sumOf [put x0 15, put x1 10, put x2 5]))
  | .smergez g x0 x1 x2 => some (rawOf 39 g (sumOf [put x0 15, put x1 10, put x2 5, 1]))
  | .smcount g x0 x1 x2 => some (rawOf 39 g (sumOf [put x0 15, put x1 10, put x2 5, 2]))
  | .scan g x0 x1 x2 => some (rawOf 39 g (sumOf [put x0 15, put x1 10, put x2 5, 3]))
  | .scanx g x0 x1 x2 => some (rawOf 39 g (sumOf [put x0 15, put x1 10, put x2 5, 4]))
  | .vprune g x0 x1 x2 => some (rawOf 39 g (sumOf [put x0 15, put x1 10, put x2 5, 5]))
  | .vprunes g x0 x1 x2 => some (rawOf 39 g (sumOf [put x0 15, put x1 10, put x2 5, 6]))
  | .vrng g x0 => some (rawOf 39 g (sumOf [put x0 15, 7]))
  | .vcompact g x0 x1 x2 => some (rawOf 39 g (sumOf [put x0 15, put x1 10, put x2 5, 8]))
  | .pmerge g x0 x1 x2 x3 => some (rawOf 40 g (sumOf [put x0 15, put x1 10, put x2 5, put x3 0]))
  | .qcfg g x0 x1 => some (rawOf 44 g (sumOf [put x0 15, put x1 10, 24576]))
  | .qpub g x0 => some (rawOf 44 g (sumOf [put x0 15, 786433]))
  | .qadv g x0 => some (rawOf 44 g (sumOf [put x0 15, 786434]))
  | .qfill g x0 x1 x2 => some (rawOf 44 g (sumOf [put x0 15, put x1 10, put x2 5, 24579]))
  | .sstr g x0 x1 => some (rawOf 44 g (sumOf [put x0 15, put x1 10, 786436]))
  | .istr g x0 x1 => some (rawOf 44 g (sumOf [put x0 15, put x1 10, 786437]))
  | .sclose g x0 => some (rawOf 44 g (sumOf [put x0 15, 786438]))
  | .sstat g x0 x1 => some (rawOf 44 g (sumOf [put x0 15, put x1 10, 24583]))
  | .spsend g x0 x1 => some (rawOf 45 g (sumOf [put x0 10, put x1 5]))
  | .spsendv g x0 x1 => some (rawOf 45 g (sumOf [put x0 15, put x1 10, 1]))
  | .spclose g => some (rawOf 45 g (sumOf [2]))
  | .sprecv g x0 x1 x2 => some (rawOf 45 g (sumOf [put x0 15, put x1 10, put x2 5, 3]))
  | .sprecvv g x0 x1 x2 => some (rawOf 45 g (sumOf [put x0 15, put x1 10, put x2 5, 4]))
  | .spstat g x0 x1 => some (rawOf 45 g (sumOf [put x0 15, put x1 10, 5]))
  | .mwalk g x0 x1 => some (rawOf 48 g (sumOf [put x0 15, put x1 10]))
  | .mwalkg g x0 x1 => some (rawOf 48 g (sumOf [put x0 15, put x1 10, 1]))
  | .mprog g x0 x1 x2 => some (rawOf 48 g (sumOf [put x0 15, put x1 10, put x2 5, 2]))
  | .mcancel g x0 x1 => some (rawOf 48 g (sumOf [put x0 15, put x1 10, 3]))
  | .mnode g x0 x1 x2 => some (rawOf 48 g (sumOf [put x0 15, put x1 10, put x2 5, 4]))
  | .gang g x0 => some (rawOf 49 g (sumOf [put x0 10]))
  | .jwait g x0 x1 => some (rawOf 50 g (sumOf [put x0 15, put x1 10]))
  | .jpoll g x0 x1 => some (rawOf 50 g (sumOf [put x0 15, put x1 10, 1]))
  | .tcopy g x0 x1 => some (rawOf 51 g (sumOf [put x0 16, put x1 10]))
  | .tgather g x0 x1 => some (rawOf 51 g (sumOf [put x0 16, put x1 10, 1]))
  | .tscatter g x0 x1 => some (rawOf 51 g (sumOf [put x0 16, put x1 10, 2]))
  | .tscadd g x0 x1 => some (rawOf 51 g (sumOf [put x0 16, put x1 10, 3]))
  | .tfill g x0 x1 => some (rawOf 51 g (sumOf [put x0 16, put x1 10, 4]))
  | .sleepu g x0 x1 x2 => some (rawOf 52 g (sumOf [put x0 15, put x1 10, put x2 5]))
  | .phreg g x0 x1 x2 => some (rawOf 56 g (sumOf [put x0 15, put x1 10, put x2 5]))
  | .phdrop g x0 x1 x2 => some (rawOf 56 g (sumOf [put x0 15, put x1 10, put x2 5, 1]))
  | .phsig g x0 x1 x2 => some (rawOf 56 g (sumOf [put x0 15, put x1 10, put x2 5, 2]))
  | .phwait g x0 x1 x2 => some (rawOf 56 g (sumOf [put x0 15, put x1 10, put x2 5, 3]))
  | .phnext g x0 x1 x2 => some (rawOf 56 g (sumOf [put x0 15, put x1 10, put x2 5, 4]))
  | .phread g x0 x1 x2 => some (rawOf 56 g (sumOf [put x0 15, put x1 10, put x2 5, 5]))
  | .phnew g x0 x1 => some (rawOf 56 g (sumOf [put x0 15, put x1 10, 6]))
  | .phfree g x0 x1 => some (rawOf 56 g (sumOf [put x0 15, put x1 10, 7]))
  | .tspawn g x0 x1 x2 => some (rawOf 57 g (sumOf [put x0 15, put x1 10, put x2 5]))
  | .tdep g x0 x1 x2 => some (rawOf 57 g (sumOf [put x0 15, put x1 10, put x2 5, 1]))
  | .tctr g x0 x1 => some (rawOf 57 g (sumOf [put x0 15, put x1 10, 2]))
  | .tshape g x0 x1 x2 => some (rawOf 57 g (sumOf [put x0 15, put x1 10, put x2 5, 3]))
  | .targ g x0 x1 => some (rawOf 57 g (sumOf [put x0 15, put x1 5, 4]))
  | .tself g x0 => some (rawOf 57 g (sumOf [put x0 15, 5]))
  | .tlate g x0 => some (rawOf 57 g (sumOf [put x0 15, 6]))
  | .pgld g x0 x1 x2 => some (rawOf 58 g (sumOf [put x0 15, put x1 10, put x2 5]))
  | .pdrop g x0 x1 => some (rawOf 58 g (sumOf [put x0 15, put x1 10, 1]))
  | .pstat g x0 x1 => some (rawOf 58 g (sumOf [put x0 15, put x1 10, 2]))
  | .pnorec g x0 x1 => some (rawOf 58 g (sumOf [put x0 15, put x1 10, 3]))
  | .lturn g x0 x1 x2 => some (rawOf 59 g (sumOf [put x0 15, put x1 10, put x2 5]))
  | .lstat g x0 x1 x2 => some (rawOf 59 g (sumOf [put x0 15, put x1 10, put x2 5, 1]))
  | .lquiet g x0 x1 => some (rawOf 59 g (sumOf [put x0 15, put x1 10, 2]))
  | .gpush g x0 x1 x2 => some (rawOf 60 g (sumOf [put x0 15, put x1 10, put x2 5]))
  | .rpop g x0 x1 => some (rawOf 60 g (sumOf [put x0 16, put x1 5, 1]))
  | .lxbegin g x0 x1 => some (rawOf 60 g (sumOf [put x0 15, put x1 10, 2]))
  | .lxack g x0 x1 x2 => some (rawOf 60 g (sumOf [put x0 15, put x1 10, put x2 5, 3]))
  | .lxend g x0 x1 => some (rawOf 60 g (sumOf [put x0 15, put x1 10, 4]))
  | .lxstat g x0 x1 => some (rawOf 60 g (sumOf [put x0 15, put x1 10, 5]))
  | .tlbinv g x0 x1 x2 => some (rawOf 61 g (sumOf [put x0 15, put x1 10, put x2 5]))
  | .freeze g x0 x1 x2 => some (rawOf 61 g (sumOf [put x0 15, put x1 10, put x2 5, 1]))
  | .thaw g x0 x1 x2 => some (rawOf 61 g (sumOf [put x0 15, put x1 10, put x2 5, 2]))
  | .pgmove g x0 x1 x2 => some (rawOf 61 g (sumOf [put x0 15, put x1 10, put x2 5, 3]))
  | .cspare g x0 x1 => some (rawOf 61 g (sumOf [put x0 15, put x1.1 10, put x1.2 5, 4]))
  | .world g x0 x1 x2 => some (rawOf 61 g (sumOf [put x0 15, put x1 10, put x2 5, 5]))
  | .immxHint x0 => some (rawHint 0 (sumOf [put x0 0]))
  | .repHint x0 x1 x2 x3 => some (rawHint 1 (sumOf [put x0 14, put x1 11, put x2 8, put x3 0]))
  | .ordHint x0 x1 => some (rawHint 2 (sumOf [put x0 3, put x1 0]))
  | .locHint x0 x1 => some (rawHint 3 (sumOf [put x0 2, put x1 0]))
  | .mcompHint x0 x1 => some (rawHint 4 (sumOf [put x0 5, put x1 0]))
  | .qwHint x0 x1 x2 x3 x4 x5 => some (rawHint 5 (sumOf [put x0 15, put x1 12, put x2 9, put x3 6, put x4 3, put x5 0]))
  | .rndHint x0 => some (rawHint 6 (sumOf [put x0 0]))
  | .illegalInstruction _ => none
  | .jobQueueGrant _ => none
  | .walkJobAccept _ _ => none
  | .walkLoadDone _ _ => none
  | .walkStep _ _ => none
  | .walkStepEnd _ _ => none
  | .walkSuspend _ _ => none
  | .handlerStart _ => none
  | .walkJobComplete _ _ => none
  | .tracerGrant _ => none
  | .tracerJobStart _ _ => none
  | .tracerPart _ _ => none
  | .tracerSig _ _ => none
  | .tracerSuspend _ _ => none
  | .appendReadyAdd _ _ => none
  | .tracerJobComplete _ _ => none
  | .streamStart _ _ => none
  | .streamSlotPublish _ _ => none
  | .streamSuspend _ _ => none
  | .pmergeResult _ => none
  | .homeWrite _ => none
  | .homeAtomic _ => none
  | .ackReceive _ => none
  | .nackRetry _ => none
  | .tlbMissWalk _ _ _ => none
  | .tlbHcSpill _ _ => none
  | .llcFill _ _ => none
  | .pageEpochBoundary _ => none
  | .wcfgWrite _ _ _ => none
  | .windowEnChangeDone _ _ => none
  | .atlasWrite _ _ => none
  | .repctlWrite _ _ => none
  | .stqcfgWrite _ _ _ => none
  | .svitemWrite _ _ => none
  | .plctlFlush _ => none
  | .plctlKind _ => none
  | .lxlostWrite _ => none
  | .securityRegionWrite _ _ _ _ _ => none
  | .surveyorRegWrite _ _ _ _ => none
  | .itemIntake _ => none
  | .dispatchCycle _ => none
  | .printEntryIssue _ => none
  | .inputCopyDone _ => none
  | .inputCopyFault _ => none
  | .taskEndComplete _ => none
  | .governorTick _ => none
  | .deadlockSweep _ => none
  | .surveyorTrap _ => none
  | .watchdogExpire _ _ => none
  | .softErrorCorrected _ => none
  | .softErrorUncorrected _ => none
  | .latePacketRecord _ => none
  | .packetForward _ => none
  | .routeOpen _ _ => none
  | .portItemArrive _ _ => none
  | .routeCloseFlit _ _ => none
  | .turnGroupStart _ => none
  | .turnGroupRetrain _ _ => none
  | .compassSpawn _ _ => none
  | .compassSeal _ _ => none
  | .compassPopq _ _ _ => none
  | .compassIndexWrite _ _ => none
  | .compassIntailWrite _ _ => none
  | .lxCommit _ _ => none
  | .sheetLost _ => none
  | .cmdbaseWrite _ _ => none
  | .cmdtailWrite _ _ => none
  | .hostRegWrite _ _ _ => none
  | .cmdWrite _ => none
  | .cmdRead _ => none
  | .cmdCreateLaunch _ => none
  | .cmdSubmitItem _ => none
  | .cmdWakeTask _ => none
  | .cmdEndLaunch _ => none
  | .cmdAttest _ => none
  | .cmdInvalidOp _ => none
  | .statusWrite _ _ => none
  | .bootVerifyDone _ => none
  | .moduleReset => none
  | .thermalThrottle _ => none
  | .thermalStop => none
  | .sleepuWake _ _ => none
  | .bar2WindowAccess _ _ _ _ => none
  | .meridianLinkTraining _ _ => none
  | .junctionTemperatureFall _ => none

/-- The word of an instruction; none for the events. -/
def encode (i : Instr) : Option (BitVec 32) := (encodeRaw i).map RawWord.join

end Sys2Proof
end

