-- ==== Sys2Proof/Machine/Groups.lean ====
section
/-! DEFINITION. What the tables of R68, R84 and R88 say of each instruction: its guard, its group, and its register fields. -/

namespace Sys2Proof.Machine

/-- The groups that R68 and R84 tell apart. -/
inductive Group where
  | ialu   -- IALU, IMUL, LEA and SEL
  | immediate   -- ADDI, ANDI, ORI, XORI
  | shi   -- SHI
  | cmpi   -- CMPI
  | compare   -- CMP and PRED
  | jump   -- J, JAL and JX
  | ctlAny   -- NOP, TRAP, BRK, IFLUSH
  | ctlTask   -- END, COMMIT, YIELD, PARK
  | ctlC   -- ASTART, AWAIT
  | hret   -- HRET
  | eret   -- ERET
  | control   -- CRD, CWR
  | loadStore   -- LD, ST
  | tile   -- LDV, STV
  | amo   -- AMO
  | pfetch   -- PFETCH
  | memc   -- the other MEMC
  | vector   -- VALU, VALUS, VSFU, VCVT and VSCALE
  | vred   -- VRED
  | vcmp   -- VCMP and VSPARSE
  | vmisc   -- VMISC except VSHAPE and VSCALE
  | vshape   -- VSHAPE
  | pmerge   -- PMERGE
  | queue   -- QCFG, QPUB, QADV, QFILL, SSTAT
  | stream   -- SSTR, ISTR, SCLOSE
  | port   -- SPSEND, SPCLOSE, SPRECV, SPSTAT
  | portV   -- SPSENDV, SPRECVV
  | matrix   -- MAT and GANG
  | taskOnly   -- JOB, SLEEPU, PHASER but PHSIG, TSPAWN, TDEP, PLATE, LINK and XPRT but GPUSH
  | every   -- TRC, PHSIG and the TASK instructions that handlers may issue
  | gpush   -- GPUSH
  | surveyor   -- SYS
  | hint   -- hint words
  | event   -- a step of a device, which no context issues
  deriving DecidableEq, Repr

/-- The use of a register field at [19:15], [14:10] or [9:5]: none, a scalar register, a vector field read, or a vector field written (which counts as a
destination also where the instruction reads it, R96). -/
inductive Opnd where
  | none
  | scalar (r : Nat)
  | src (r : Nat)
  | dst (r : Nat)
  deriving DecidableEq, Repr

/-- The register fields of an instruction, by position. -/
structure Opnds where
  d : Opnd
  a : Opnd
  b : Opnd
  deriving DecidableEq, Repr

def Opnds.empty : Opnds := { d := .none, a := .none, b := .none }

/-- The guard of an instruction word (R75); hints and events have none. -/
def guardOf (i : Instr) : Guard :=
  match i with
  | .add g _ _ _ => g
  | .sub g _ _ _ => g
  | .and g _ _ _ => g
  | .or g _ _ _ => g
  | .xor g _ _ _ => g
  | .andn g _ _ _ => g
  | .shl g _ _ _ => g
  | .shr g _ _ _ => g
  | .sar g _ _ _ => g
  | .min g _ _ _ => g
  | .max g _ _ _ => g
  | .minn g _ _ _ => g
  | .maxn g _ _ _ => g
  | .addw g _ _ _ => g
  | .subw g _ _ _ => g
  | .clz g _ _ => g
  | .ctz g _ _ => g
  | .popc g _ _ => g
  | .sext8 g _ _ => g
  | .sext16 g _ _ => g
  | .sext32 g _ _ => g
  | .zext32 g _ _ => g
  | .mul g _ _ _ => g
  | .mulh g _ _ _ => g
  | .mulhn g _ _ _ => g
  | .mulw g _ _ _ => g
  | .div g _ _ _ => g
  | .divn g _ _ _ => g
  | .rem g _ _ _ => g
  | .remn g _ _ _ => g
  | .addi g _ _ _ => g
  | .andi g _ _ _ => g
  | .ori g _ _ _ => g
  | .xori g _ _ _ => g
  | .shli g _ _ _ => g
  | .shri g _ _ _ => g
  | .sari g _ _ _ => g
  | .cmpiEq g _ _ _ => g
  | .cmpiNe g _ _ _ => g
  | .cmpiLt g _ _ _ => g
  | .cmpiLtn g _ _ _ => g
  | .cmpiGe g _ _ _ => g
  | .cmpiGen g _ _ _ => g
  | .cmpEq g _ _ _ => g
  | .cmpNe g _ _ _ => g
  | .cmpLt g _ _ _ => g
  | .cmpLtn g _ _ _ => g
  | .cmpGe g _ _ _ => g
  | .cmpGen g _ _ _ => g
  | .lea g _ _ _ _ => g
  | .pand g _ _ _ => g
  | .por g _ _ _ => g
  | .pxor g _ _ _ => g
  | .pandn g _ _ _ => g
  | .pnot g _ _ => g
  | .pset g _ => g
  | .pclr g _ => g
  | .pmovs g _ _ => g
  | .pany g _ _ => g
  | .pall g _ _ => g
  | .pcnt g _ _ => g
  | .pfirst g _ _ => g
  | .sel g _ _ _ _ => g
  | .jump g _ => g
  | .jumpLink g _ => g
  | .jumpReg g _ => g
  | .jumpLinkReg g _ => g
  | .nop g => g
  | .endTask g => g
  | .commit g => g
  | .yield g => g
  | .park g => g
  | .trap g _ => g
  | .eret g => g
  | .brk g => g
  | .hret g => g
  | .astart g _ => g
  | .await g => g
  | .iflush g => g
  | .crd g _ _ => g
  | .cwr g _ _ => g
  | .ld g _ _ _ _ _ => g
  | .st g _ _ _ _ _ => g
  | .ldv g _ _ _ _ _ => g
  | .stv g _ _ _ _ => g
  | .amoadd g _ _ _ _ => g
  | .amoand g _ _ _ _ => g
  | .amoor g _ _ _ _ => g
  | .amoxor g _ _ _ _ => g
  | .amomin g _ _ _ _ => g
  | .amomax g _ _ _ _ => g
  | .amominn g _ _ _ _ => g
  | .amomaxn g _ _ _ _ => g
  | .amoswap g _ _ _ _ => g
  | .amocas g _ _ _ _ => g
  | .amofadd g _ _ _ => g
  | .amostag g _ _ _ => g
  | .fence g _ _ => g
  | .waitack g _ _ _ => g
  | .pfetch g _ _ => g
  | .cclean g _ _ _ => g
  | .cinval g _ _ _ => g
  | .cflush g _ _ _ => g
  | .acqinv g _ => g
  | .vadd g _ _ _ => g
  | .vsub g _ _ _ => g
  | .vmul g _ _ _ => g
  | .vmin g _ _ _ => g
  | .vmax g _ _ _ => g
  | .vabs g _ _ => g
  | .vneg g _ _ => g
  | .vand g _ _ _ => g
  | .vor g _ _ _ => g
  | .vxor g _ _ _ => g
  | .vshl g _ _ _ => g
  | .vshr g _ _ _ => g
  | .vsar g _ _ _ => g
  | .vfma g _ _ _ => g
  | .vfms g _ _ _ => g
  | .vadds g _ _ _ => g
  | .vsubs g _ _ _ => g
  | .vmuls g _ _ _ => g
  | .vmins g _ _ _ => g
  | .vmaxs g _ _ _ => g
  | .vfmas g _ _ _ => g
  | .vexp2 g _ _ => g
  | .vlog2 g _ _ => g
  | .vrcp g _ _ => g
  | .vrsq g _ _ => g
  | .vsqrt g _ _ => g
  | .vtanh g _ _ => g
  | .vrsum g _ _ => g
  | .vrmax g _ _ => g
  | .vrmin g _ _ => g
  | .vcsum g _ _ => g
  | .vcmax g _ _ => g
  | .vramax g _ _ => g
  | .vcmpEq g _ _ _ => g
  | .vcmpNe g _ _ _ => g
  | .vcmpLt g _ _ _ => g
  | .vcmpLe g _ _ _ => g
  | .vcmpGt g _ _ _ => g
  | .vcmpGe g _ _ _ => g
  | .vcmpUn g _ _ _ => g
  | .vcvt g _ _ _ _ => g
  | .vmov g _ _ => g
  | .vsplat g _ _ => g
  | .vext g _ _ _ => g
  | .vins g _ _ _ => g
  | .vbrow g _ _ _ => g
  | .vbcol g _ _ _ => g
  | .vshape g _ _ => g
  | .vzero g _ => g
  | .viota g _ _ => g
  | .vshuf g _ _ _ => g
  | .vscale g _ _ _ => g
  | .smerge g _ _ _ => g
  | .smergez g _ _ _ => g
  | .smcount g _ _ _ => g
  | .scan g _ _ _ => g
  | .scanx g _ _ _ => g
  | .vprune g _ _ _ => g
  | .vprunes g _ _ _ => g
  | .vrng g _ => g
  | .vcompact g _ _ _ => g
  | .pmerge g _ _ _ _ => g
  | .qcfg g _ _ => g
  | .qpub g _ => g
  | .qadv g _ => g
  | .qfill g _ _ _ => g
  | .sstr g _ _ => g
  | .istr g _ _ => g
  | .sclose g _ => g
  | .sstat g _ _ => g
  | .spsend g _ _ => g
  | .spsendv g _ _ => g
  | .spclose g => g
  | .sprecv g _ _ _ => g
  | .sprecvv g _ _ _ => g
  | .spstat g _ _ => g
  | .mwalk g _ _ => g
  | .mwalkg g _ _ => g
  | .mprog g _ _ _ => g
  | .mcancel g _ _ => g
  | .mnode g _ _ _ => g
  | .gang g _ => g
  | .jwait g _ _ => g
  | .jpoll g _ _ => g
  | .tcopy g _ _ => g
  | .tgather g _ _ => g
  | .tscatter g _ _ => g
  | .tscadd g _ _ => g
  | .tfill g _ _ => g
  | .sleepu g _ _ _ => g
  | .phreg g _ _ _ => g
  | .phdrop g _ _ _ => g
  | .phsig g _ _ _ => g
  | .phwait g _ _ _ => g
  | .phnext g _ _ _ => g
  | .phread g _ _ _ => g
  | .phnew g _ _ => g
  | .phfree g _ _ => g
  | .tspawn g _ _ _ => g
  | .tdep g _ _ _ => g
  | .tctr g _ _ => g
  | .tshape g _ _ _ => g
  | .targ g _ _ => g
  | .tself g _ => g
  | .tlate g _ => g
  | .pgld g _ _ _ => g
  | .pdrop g _ _ => g
  | .pstat g _ _ => g
  | .pnorec g _ _ => g
  | .lturn g _ _ _ => g
  | .lstat g _ _ _ => g
  | .lquiet g _ _ => g
  | .gpush g _ _ _ => g
  | .rpop g _ _ => g
  | .lxbegin g _ _ => g
  | .lxack g _ _ _ => g
  | .lxend g _ _ => g
  | .lxstat g _ _ => g
  | .tlbinv g _ _ _ => g
  | .freeze g _ _ _ => g
  | .thaw g _ _ _ => g
  | .pgmove g _ _ _ => g
  | .cspare g _ _ => g
  | .world g _ _ _ => g
  | .immxHint _ => .always
  | .repHint _ _ _ _ => .always
  | .ordHint _ _ => .always
  | .locHint _ _ => .always
  | .mcompHint _ _ => .always
  | .qwHint _ _ _ _ _ _ => .always
  | .rndHint _ => .always
  | .illegalInstruction _ => .always
  | .jobQueueGrant _ => .always
  | .walkJobAccept _ _ => .always
  | .walkLoadDone _ _ => .always
  | .walkStep _ _ => .always
  | .walkStepEnd _ _ => .always
  | .walkSuspend _ _ => .always
  | .handlerStart _ => .always
  | .walkJobComplete _ _ => .always
  | .tracerGrant _ => .always
  | .tracerJobStart _ _ => .always
  | .tracerPart _ _ => .always
  | .tracerSig _ _ => .always
  | .tracerSuspend _ _ => .always
  | .appendReadyAdd _ _ => .always
  | .tracerJobComplete _ _ => .always
  | .streamStart _ _ => .always
  | .streamSlotPublish _ _ => .always
  | .streamSuspend _ _ => .always
  | .pmergeResult _ => .always
  | .homeWrite _ => .always
  | .homeAtomic _ => .always
  | .ackReceive _ => .always
  | .nackRetry _ => .always
  | .tlbMissWalk _ _ _ => .always
  | .tlbHcSpill _ _ => .always
  | .llcFill _ _ => .always
  | .pageEpochBoundary _ => .always
  | .wcfgWrite _ _ _ => .always
  | .windowEnChangeDone _ _ => .always
  | .atlasWrite _ _ => .always
  | .repctlWrite _ _ => .always
  | .stqcfgWrite _ _ _ => .always
  | .svitemWrite _ _ => .always
  | .plctlFlush _ => .always
  | .plctlKind _ => .always
  | .lxlostWrite _ => .always
  | .securityRegionWrite _ _ _ _ _ => .always
  | .surveyorRegWrite _ _ _ _ => .always
  | .itemIntake _ => .always
  | .dispatchCycle _ => .always
  | .printEntryIssue _ => .always
  | .inputCopyDone _ => .always
  | .inputCopyFault _ => .always
  | .taskEndComplete _ => .always
  | .governorTick _ => .always
  | .deadlockSweep _ => .always
  | .surveyorTrap _ => .always
  | .watchdogExpire _ _ => .always
  | .softErrorCorrected _ => .always
  | .softErrorUncorrected _ => .always
  | .latePacketRecord _ => .always
  | .packetForward _ => .always
  | .routeOpen _ _ => .always
  | .portItemArrive _ _ => .always
  | .routeCloseFlit _ _ => .always
  | .turnGroupStart _ => .always
  | .turnGroupRetrain _ _ => .always
  | .compassSpawn _ _ => .always
  | .compassSeal _ _ => .always
  | .compassPopq _ _ _ => .always
  | .compassIndexWrite _ _ => .always
  | .compassIntailWrite _ _ => .always
  | .lxCommit _ _ => .always
  | .sheetLost _ => .always
  | .cmdbaseWrite _ _ => .always
  | .cmdtailWrite _ _ => .always
  | .hostRegWrite _ _ _ => .always
  | .cmdWrite _ => .always
  | .cmdRead _ => .always
  | .cmdCreateLaunch _ => .always
  | .cmdSubmitItem _ => .always
  | .cmdWakeTask _ => .always
  | .cmdEndLaunch _ => .always
  | .cmdAttest _ => .always
  | .cmdInvalidOp _ => .always
  | .statusWrite _ _ => .always
  | .bootVerifyDone _ => .always
  | .moduleReset => .always
  | .thermalThrottle _ => .always
  | .thermalStop => .always
  | .sleepuWake _ _ => .always
  | .bar2WindowAccess _ _ _ _ => .always
  | .meridianLinkTraining _ _ => .always
  | .junctionTemperatureFall _ => .always

/-- The group of an instruction (R68, R84). -/
def groupOf (i : Instr) : Group :=
  match i with
  | .add _ _ _ _ => .ialu
  | .sub _ _ _ _ => .ialu
  | .and _ _ _ _ => .ialu
  | .or _ _ _ _ => .ialu
  | .xor _ _ _ _ => .ialu
  | .andn _ _ _ _ => .ialu
  | .shl _ _ _ _ => .ialu
  | .shr _ _ _ _ => .ialu
  | .sar _ _ _ _ => .ialu
  | .min _ _ _ _ => .ialu
  | .max _ _ _ _ => .ialu
  | .minn _ _ _ _ => .ialu
  | .maxn _ _ _ _ => .ialu
  | .addw _ _ _ _ => .ialu
  | .subw _ _ _ _ => .ialu
  | .clz _ _ _ => .ialu
  | .ctz _ _ _ => .ialu
  | .popc _ _ _ => .ialu
  | .sext8 _ _ _ => .ialu
  | .sext16 _ _ _ => .ialu
  | .sext32 _ _ _ => .ialu
  | .zext32 _ _ _ => .ialu
  | .mul _ _ _ _ => .ialu
  | .mulh _ _ _ _ => .ialu
  | .mulhn _ _ _ _ => .ialu
  | .mulw _ _ _ _ => .ialu
  | .div _ _ _ _ => .ialu
  | .divn _ _ _ _ => .ialu
  | .rem _ _ _ _ => .ialu
  | .remn _ _ _ _ => .ialu
  | .addi _ _ _ _ => .immediate
  | .andi _ _ _ _ => .immediate
  | .ori _ _ _ _ => .immediate
  | .xori _ _ _ _ => .immediate
  | .shli _ _ _ _ => .shi
  | .shri _ _ _ _ => .shi
  | .sari _ _ _ _ => .shi
  | .cmpiEq _ _ _ _ => .cmpi
  | .cmpiNe _ _ _ _ => .cmpi
  | .cmpiLt _ _ _ _ => .cmpi
  | .cmpiLtn _ _ _ _ => .cmpi
  | .cmpiGe _ _ _ _ => .cmpi
  | .cmpiGen _ _ _ _ => .cmpi
  | .cmpEq _ _ _ _ => .compare
  | .cmpNe _ _ _ _ => .compare
  | .cmpLt _ _ _ _ => .compare
  | .cmpLtn _ _ _ _ => .compare
  | .cmpGe _ _ _ _ => .compare
  | .cmpGen _ _ _ _ => .compare
  | .lea _ _ _ _ _ => .ialu
  | .pand _ _ _ _ => .compare
  | .por _ _ _ _ => .compare
  | .pxor _ _ _ _ => .compare
  | .pandn _ _ _ _ => .compare
  | .pnot _ _ _ => .compare
  | .pset _ _ => .compare
  | .pclr _ _ => .compare
  | .pmovs _ _ _ => .compare
  | .pany _ _ _ => .compare
  | .pall _ _ _ => .compare
  | .pcnt _ _ _ => .compare
  | .pfirst _ _ _ => .compare
  | .sel _ _ _ _ _ => .ialu
  | .jump _ _ => .jump
  | .jumpLink _ _ => .jump
  | .jumpReg _ _ => .jump
  | .jumpLinkReg _ _ => .jump
  | .nop _ => .ctlAny
  | .endTask _ => .ctlTask
  | .commit _ => .ctlTask
  | .yield _ => .ctlTask
  | .park _ => .ctlTask
  | .trap _ _ => .ctlAny
  | .eret _ => .eret
  | .brk _ => .ctlAny
  | .hret _ => .hret
  | .astart _ _ => .ctlC
  | .await _ => .ctlC
  | .iflush _ => .ctlAny
  | .crd _ _ _ => .control
  | .cwr _ _ _ => .control
  | .ld _ _ _ _ _ _ => .loadStore
  | .st _ _ _ _ _ _ => .loadStore
  | .ldv _ _ _ _ _ _ => .tile
  | .stv _ _ _ _ _ => .tile
  | .amoadd _ _ _ _ _ => .amo
  | .amoand _ _ _ _ _ => .amo
  | .amoor _ _ _ _ _ => .amo
  | .amoxor _ _ _ _ _ => .amo
  | .amomin _ _ _ _ _ => .amo
  | .amomax _ _ _ _ _ => .amo
  | .amominn _ _ _ _ _ => .amo
  | .amomaxn _ _ _ _ _ => .amo
  | .amoswap _ _ _ _ _ => .amo
  | .amocas _ _ _ _ _ => .amo
  | .amofadd _ _ _ _ => .amo
  | .amostag _ _ _ _ => .amo
  | .fence _ _ _ => .memc
  | .waitack _ _ _ _ => .memc
  | .pfetch _ _ _ => .pfetch
  | .cclean _ _ _ _ => .memc
  | .cinval _ _ _ _ => .memc
  | .cflush _ _ _ _ => .memc
  | .acqinv _ _ => .memc
  | .vadd _ _ _ _ => .vector
  | .vsub _ _ _ _ => .vector
  | .vmul _ _ _ _ => .vector
  | .vmin _ _ _ _ => .vector
  | .vmax _ _ _ _ => .vector
  | .vabs _ _ _ => .vector
  | .vneg _ _ _ => .vector
  | .vand _ _ _ _ => .vector
  | .vor _ _ _ _ => .vector
  | .vxor _ _ _ _ => .vector
  | .vshl _ _ _ _ => .vector
  | .vshr _ _ _ _ => .vector
  | .vsar _ _ _ _ => .vector
  | .vfma _ _ _ _ => .vector
  | .vfms _ _ _ _ => .vector
  | .vadds _ _ _ _ => .vector
  | .vsubs _ _ _ _ => .vector
  | .vmuls _ _ _ _ => .vector
  | .vmins _ _ _ _ => .vector
  | .vmaxs _ _ _ _ => .vector
  | .vfmas _ _ _ _ => .vector
  | .vexp2 _ _ _ => .vector
  | .vlog2 _ _ _ => .vector
  | .vrcp _ _ _ => .vector
  | .vrsq _ _ _ => .vector
  | .vsqrt _ _ _ => .vector
  | .vtanh _ _ _ => .vector
  | .vrsum _ _ _ => .vred
  | .vrmax _ _ _ => .vred
  | .vrmin _ _ _ => .vred
  | .vcsum _ _ _ => .vred
  | .vcmax _ _ _ => .vred
  | .vramax _ _ _ => .vred
  | .vcmpEq _ _ _ _ => .vcmp
  | .vcmpNe _ _ _ _ => .vcmp
  | .vcmpLt _ _ _ _ => .vcmp
  | .vcmpLe _ _ _ _ => .vcmp
  | .vcmpGt _ _ _ _ => .vcmp
  | .vcmpGe _ _ _ _ => .vcmp
  | .vcmpUn _ _ _ _ => .vcmp
  | .vcvt _ _ _ _ _ => .vector
  | .vmov _ _ _ => .vmisc
  | .vsplat _ _ _ => .vmisc
  | .vext _ _ _ _ => .vmisc
  | .vins _ _ _ _ => .vmisc
  | .vbrow _ _ _ _ => .vmisc
  | .vbcol _ _ _ _ => .vmisc
  | .vshape _ _ _ => .vshape
  | .vzero _ _ => .vmisc
  | .viota _ _ _ => .vmisc
  | .vshuf _ _ _ _ => .vmisc
  | .vscale _ _ _ _ => .vector
  | .smerge _ _ _ _ => .vcmp
  | .smergez _ _ _ _ => .vcmp
  | .smcount _ _ _ _ => .vcmp
  | .scan _ _ _ _ => .vcmp
  | .scanx _ _ _ _ => .vcmp
  | .vprune _ _ _ _ => .vcmp
  | .vprunes _ _ _ _ => .vcmp
  | .vrng _ _ => .vcmp
  | .vcompact _ _ _ _ => .vcmp
  | .pmerge _ _ _ _ _ => .pmerge
  | .qcfg _ _ _ => .queue
  | .qpub _ _ => .queue
  | .qadv _ _ => .queue
  | .qfill _ _ _ _ => .queue
  | .sstr _ _ _ => .stream
  | .istr _ _ _ => .stream
  | .sclose _ _ => .stream
  | .sstat _ _ _ => .queue
  | .spsend _ _ _ => .port
  | .spsendv _ _ _ => .portV
  | .spclose _ => .port
  | .sprecv _ _ _ _ => .port
  | .sprecvv _ _ _ _ => .portV
  | .spstat _ _ _ => .port
  | .mwalk _ _ _ => .matrix
  | .mwalkg _ _ _ => .matrix
  | .mprog _ _ _ _ => .matrix
  | .mcancel _ _ _ => .matrix
  | .mnode _ _ _ _ => .matrix
  | .gang _ _ => .matrix
  | .jwait _ _ _ => .taskOnly
  | .jpoll _ _ _ => .taskOnly
  | .tcopy _ _ _ => .every
  | .tgather _ _ _ => .every
  | .tscatter _ _ _ => .every
  | .tscadd _ _ _ => .every
  | .tfill _ _ _ => .every
  | .sleepu _ _ _ _ => .taskOnly
  | .phreg _ _ _ _ => .taskOnly
  | .phdrop _ _ _ _ => .taskOnly
  | .phsig _ _ _ _ => .every
  | .phwait _ _ _ _ => .taskOnly
  | .phnext _ _ _ _ => .taskOnly
  | .phread _ _ _ _ => .taskOnly
  | .phnew _ _ _ => .taskOnly
  | .phfree _ _ _ => .taskOnly
  | .tspawn _ _ _ _ => .taskOnly
  | .tdep _ _ _ _ => .taskOnly
  | .tctr _ _ _ => .every
  | .tshape _ _ _ _ => .every
  | .targ _ _ _ => .every
  | .tself _ _ => .every
  | .tlate _ _ => .every
  | .pgld _ _ _ _ => .taskOnly
  | .pdrop _ _ _ => .taskOnly
  | .pstat _ _ _ => .taskOnly
  | .pnorec _ _ _ => .taskOnly
  | .lturn _ _ _ _ => .taskOnly
  | .lstat _ _ _ _ => .taskOnly
  | .lquiet _ _ _ => .taskOnly
  | .gpush _ _ _ _ => .gpush
  | .rpop _ _ _ => .taskOnly
  | .lxbegin _ _ _ => .taskOnly
  | .lxack _ _ _ _ => .taskOnly
  | .lxend _ _ _ => .taskOnly
  | .lxstat _ _ _ => .taskOnly
  | .tlbinv _ _ _ _ => .surveyor
  | .freeze _ _ _ _ => .surveyor
  | .thaw _ _ _ _ => .surveyor
  | .pgmove _ _ _ _ => .surveyor
  | .cspare _ _ _ => .surveyor
  | .world _ _ _ _ => .surveyor
  | .immxHint _ => .hint
  | .repHint _ _ _ _ => .hint
  | .ordHint _ _ => .hint
  | .locHint _ _ => .hint
  | .mcompHint _ _ => .hint
  | .qwHint _ _ _ _ _ _ => .hint
  | .rndHint _ => .hint
  | .illegalInstruction _ => .event
  | .jobQueueGrant _ => .event
  | .walkJobAccept _ _ => .event
  | .walkLoadDone _ _ => .event
  | .walkStep _ _ => .event
  | .walkStepEnd _ _ => .event
  | .walkSuspend _ _ => .event
  | .handlerStart _ => .event
  | .walkJobComplete _ _ => .event
  | .tracerGrant _ => .event
  | .tracerJobStart _ _ => .event
  | .tracerPart _ _ => .event
  | .tracerSig _ _ => .event
  | .tracerSuspend _ _ => .event
  | .appendReadyAdd _ _ => .event
  | .tracerJobComplete _ _ => .event
  | .streamStart _ _ => .event
  | .streamSlotPublish _ _ => .event
  | .streamSuspend _ _ => .event
  | .pmergeResult _ => .event
  | .homeWrite _ => .event
  | .homeAtomic _ => .event
  | .ackReceive _ => .event
  | .nackRetry _ => .event
  | .tlbMissWalk _ _ _ => .event
  | .tlbHcSpill _ _ => .event
  | .llcFill _ _ => .event
  | .pageEpochBoundary _ => .event
  | .wcfgWrite _ _ _ => .event
  | .windowEnChangeDone _ _ => .event
  | .atlasWrite _ _ => .event
  | .repctlWrite _ _ => .event
  | .stqcfgWrite _ _ _ => .event
  | .svitemWrite _ _ => .event
  | .plctlFlush _ => .event
  | .plctlKind _ => .event
  | .lxlostWrite _ => .event
  | .securityRegionWrite _ _ _ _ _ => .event
  | .surveyorRegWrite _ _ _ _ => .event
  | .itemIntake _ => .event
  | .dispatchCycle _ => .event
  | .printEntryIssue _ => .event
  | .inputCopyDone _ => .event
  | .inputCopyFault _ => .event
  | .taskEndComplete _ => .event
  | .governorTick _ => .event
  | .deadlockSweep _ => .event
  | .surveyorTrap _ => .event
  | .watchdogExpire _ _ => .event
  | .softErrorCorrected _ => .event
  | .softErrorUncorrected _ => .event
  | .latePacketRecord _ => .event
  | .packetForward _ => .event
  | .routeOpen _ _ => .event
  | .portItemArrive _ _ => .event
  | .routeCloseFlit _ _ => .event
  | .turnGroupStart _ => .event
  | .turnGroupRetrain _ _ => .event
  | .compassSpawn _ _ => .event
  | .compassSeal _ _ => .event
  | .compassPopq _ _ _ => .event
  | .compassIndexWrite _ _ => .event
  | .compassIntailWrite _ _ => .event
  | .lxCommit _ _ => .event
  | .sheetLost _ => .event
  | .cmdbaseWrite _ _ => .event
  | .cmdtailWrite _ _ => .event
  | .hostRegWrite _ _ _ => .event
  | .cmdWrite _ => .event
  | .cmdRead _ => .event
  | .cmdCreateLaunch _ => .event
  | .cmdSubmitItem _ => .event
  | .cmdWakeTask _ => .event
  | .cmdEndLaunch _ => .event
  | .cmdAttest _ => .event
  | .cmdInvalidOp _ => .event
  | .statusWrite _ _ => .event
  | .bootVerifyDone _ => .event
  | .moduleReset => .event
  | .thermalThrottle _ => .event
  | .thermalStop => .event
  | .sleepuWake _ _ => .event
  | .bar2WindowAccess _ _ _ _ => .event
  | .meridianLinkTraining _ _ => .event
  | .junctionTemperatureFall _ => .event

/-- The register fields of an instruction that may be stepped or may name a vector register or a queue window (R60, R88). -/
def opndsOf (i : Instr) : Opnds :=
  match i with
  | .add _ d a b => ⟨.scalar d.toNat, .scalar a.toNat, .scalar b.toNat⟩
  | .sub _ d a b => ⟨.scalar d.toNat, .scalar a.toNat, .scalar b.toNat⟩
  | .and _ d a b => ⟨.scalar d.toNat, .scalar a.toNat, .scalar b.toNat⟩
  | .or _ d a b => ⟨.scalar d.toNat, .scalar a.toNat, .scalar b.toNat⟩
  | .xor _ d a b => ⟨.scalar d.toNat, .scalar a.toNat, .scalar b.toNat⟩
  | .andn _ d a b => ⟨.scalar d.toNat, .scalar a.toNat, .scalar b.toNat⟩
  | .shl _ d a b => ⟨.scalar d.toNat, .scalar a.toNat, .scalar b.toNat⟩
  | .shr _ d a b => ⟨.scalar d.toNat, .scalar a.toNat, .scalar b.toNat⟩
  | .sar _ d a b => ⟨.scalar d.toNat, .scalar a.toNat, .scalar b.toNat⟩
  | .min _ d a b => ⟨.scalar d.toNat, .scalar a.toNat, .scalar b.toNat⟩
  | .max _ d a b => ⟨.scalar d.toNat, .scalar a.toNat, .scalar b.toNat⟩
  | .minn _ d a b => ⟨.scalar d.toNat, .scalar a.toNat, .scalar b.toNat⟩
  | .maxn _ d a b => ⟨.scalar d.toNat, .scalar a.toNat, .scalar b.toNat⟩
  | .addw _ d a b => ⟨.scalar d.toNat, .scalar a.toNat, .scalar b.toNat⟩
  | .subw _ d a b => ⟨.scalar d.toNat, .scalar a.toNat, .scalar b.toNat⟩
  | .clz _ d a => ⟨.scalar d.toNat, .scalar a.toNat, .none⟩
  | .ctz _ d a => ⟨.scalar d.toNat, .scalar a.toNat, .none⟩
  | .popc _ d a => ⟨.scalar d.toNat, .scalar a.toNat, .none⟩
  | .sext8 _ d a => ⟨.scalar d.toNat, .scalar a.toNat, .none⟩
  | .sext16 _ d a => ⟨.scalar d.toNat, .scalar a.toNat, .none⟩
  | .sext32 _ d a => ⟨.scalar d.toNat, .scalar a.toNat, .none⟩
  | .zext32 _ d a => ⟨.scalar d.toNat, .scalar a.toNat, .none⟩
  | .mul _ d a b => ⟨.scalar d.toNat, .scalar a.toNat, .scalar b.toNat⟩
  | .mulh _ d a b => ⟨.scalar d.toNat, .scalar a.toNat, .scalar b.toNat⟩
  | .mulhn _ d a b => ⟨.scalar d.toNat, .scalar a.toNat, .scalar b.toNat⟩
  | .mulw _ d a b => ⟨.scalar d.toNat, .scalar a.toNat, .scalar b.toNat⟩
  | .div _ d a b => ⟨.scalar d.toNat, .scalar a.toNat, .scalar b.toNat⟩
  | .divn _ d a b => ⟨.scalar d.toNat, .scalar a.toNat, .scalar b.toNat⟩
  | .rem _ d a b => ⟨.scalar d.toNat, .scalar a.toNat, .scalar b.toNat⟩
  | .remn _ d a b => ⟨.scalar d.toNat, .scalar a.toNat, .scalar b.toNat⟩
  | .addi _ d a _ => ⟨.scalar d.toNat, .scalar a.toNat, .none⟩
  | .andi _ d a _ => ⟨.scalar d.toNat, .scalar a.toNat, .none⟩
  | .ori _ d a _ => ⟨.scalar d.toNat, .scalar a.toNat, .none⟩
  | .xori _ d a _ => ⟨.scalar d.toNat, .scalar a.toNat, .none⟩
  | .shli _ d a _ => ⟨.scalar d.toNat, .scalar a.toNat, .none⟩
  | .shri _ d a _ => ⟨.scalar d.toNat, .scalar a.toNat, .none⟩
  | .sari _ d a _ => ⟨.scalar d.toNat, .scalar a.toNat, .none⟩
  | .cmpiEq _ _ _ _ => .empty
  | .cmpiNe _ _ _ _ => .empty
  | .cmpiLt _ _ _ _ => .empty
  | .cmpiLtn _ _ _ _ => .empty
  | .cmpiGe _ _ _ _ => .empty
  | .cmpiGen _ _ _ _ => .empty
  | .cmpEq _ _ _ _ => .empty
  | .cmpNe _ _ _ _ => .empty
  | .cmpLt _ _ _ _ => .empty
  | .cmpLtn _ _ _ _ => .empty
  | .cmpGe _ _ _ _ => .empty
  | .cmpGen _ _ _ _ => .empty
  | .lea _ d a b _ => ⟨.scalar d.toNat, .scalar a.toNat, .scalar b.toNat⟩
  | .pand _ _ _ _ => .empty
  | .por _ _ _ _ => .empty
  | .pxor _ _ _ _ => .empty
  | .pandn _ _ _ _ => .empty
  | .pnot _ _ _ => .empty
  | .pset _ _ => .empty
  | .pclr _ _ => .empty
  | .pmovs _ _ _ => .empty
  | .pany _ _ _ => .empty
  | .pall _ _ _ => .empty
  | .pcnt _ _ _ => .empty
  | .pfirst _ _ _ => .empty
  | .sel _ d a b _ => ⟨.scalar d.toNat, .scalar a.toNat, .scalar b.toNat⟩
  | .jump _ _ => .empty
  | .jumpLink _ _ => .empty
  | .jumpReg _ _ => .empty
  | .jumpLinkReg _ _ => .empty
  | .nop _ => .empty
  | .endTask _ => .empty
  | .commit _ => .empty
  | .yield _ => .empty
  | .park _ => .empty
  | .trap _ _ => .empty
  | .eret _ => .empty
  | .brk _ => .empty
  | .hret _ => .empty
  | .astart _ _ => .empty
  | .await _ => .empty
  | .iflush _ => .empty
  | .crd _ _ _ => .empty
  | .cwr _ _ _ => .empty
  | .ld _ d b _ _ _ => ⟨.scalar d.toNat, .scalar b.toNat, .none⟩
  | .st _ d b _ _ _ => ⟨.scalar d.toNat, .scalar b.toNat, .none⟩
  | .ldv _ d b p _ _ => ⟨.dst d.toNat, .scalar b.toNat, .scalar p.toNat⟩
  | .stv _ d b p _ => ⟨.src d.toNat, .scalar b.toNat, .scalar p.toNat⟩
  | .amoadd _ _ _ _ _ => .empty
  | .amoand _ _ _ _ _ => .empty
  | .amoor _ _ _ _ _ => .empty
  | .amoxor _ _ _ _ _ => .empty
  | .amomin _ _ _ _ _ => .empty
  | .amomax _ _ _ _ _ => .empty
  | .amominn _ _ _ _ _ => .empty
  | .amomaxn _ _ _ _ _ => .empty
  | .amoswap _ _ _ _ _ => .empty
  | .amocas _ _ _ _ _ => .empty
  | .amofadd _ _ _ _ => .empty
  | .amostag _ _ _ _ => .empty
  | .fence _ _ _ => .empty
  | .waitack _ _ _ _ => .empty
  | .pfetch _ _ _ => .empty
  | .cclean _ _ _ _ => .empty
  | .cinval _ _ _ _ => .empty
  | .cflush _ _ _ _ => .empty
  | .acqinv _ _ => .empty
  | .vadd _ d a b => ⟨.dst d.toNat, .src a.toNat, .src b.toNat⟩
  | .vsub _ d a b => ⟨.dst d.toNat, .src a.toNat, .src b.toNat⟩
  | .vmul _ d a b => ⟨.dst d.toNat, .src a.toNat, .src b.toNat⟩
  | .vmin _ d a b => ⟨.dst d.toNat, .src a.toNat, .src b.toNat⟩
  | .vmax _ d a b => ⟨.dst d.toNat, .src a.toNat, .src b.toNat⟩
  | .vabs _ d a => ⟨.dst d.toNat, .src a.toNat, .none⟩
  | .vneg _ d a => ⟨.dst d.toNat, .src a.toNat, .none⟩
  | .vand _ d a b => ⟨.dst d.toNat, .src a.toNat, .src b.toNat⟩
  | .vor _ d a b => ⟨.dst d.toNat, .src a.toNat, .src b.toNat⟩
  | .vxor _ d a b => ⟨.dst d.toNat, .src a.toNat, .src b.toNat⟩
  | .vshl _ d a b => ⟨.dst d.toNat, .src a.toNat, .src b.toNat⟩
  | .vshr _ d a b => ⟨.dst d.toNat, .src a.toNat, .src b.toNat⟩
  | .vsar _ d a b => ⟨.dst d.toNat, .src a.toNat, .src b.toNat⟩
  | .vfma _ d a b => ⟨.dst d.toNat, .src a.toNat, .src b.toNat⟩
  | .vfms _ d a b => ⟨.dst d.toNat, .src a.toNat, .src b.toNat⟩
  | .vadds _ d a b => ⟨.dst d.toNat, .src a.toNat, .scalar b.toNat⟩
  | .vsubs _ d a b => ⟨.dst d.toNat, .src a.toNat, .scalar b.toNat⟩
  | .vmuls _ d a b => ⟨.dst d.toNat, .src a.toNat, .scalar b.toNat⟩
  | .vmins _ d a b => ⟨.dst d.toNat, .src a.toNat, .scalar b.toNat⟩
  | .vmaxs _ d a b => ⟨.dst d.toNat, .src a.toNat, .scalar b.toNat⟩
  | .vfmas _ d a b => ⟨.dst d.toNat, .src a.toNat, .scalar b.toNat⟩
  | .vexp2 _ d a => ⟨.dst d.toNat, .src a.toNat, .none⟩
  | .vlog2 _ d a => ⟨.dst d.toNat, .src a.toNat, .none⟩
  | .vrcp _ d a => ⟨.dst d.toNat, .src a.toNat, .none⟩
  | .vrsq _ d a => ⟨.dst d.toNat, .src a.toNat, .none⟩
  | .vsqrt _ d a => ⟨.dst d.toNat, .src a.toNat, .none⟩
  | .vtanh _ d a => ⟨.dst d.toNat, .src a.toNat, .none⟩
  | .vrsum _ d a => ⟨.dst d.toNat, .src a.toNat, .none⟩
  | .vrmax _ d a => ⟨.dst d.toNat, .src a.toNat, .none⟩
  | .vrmin _ d a => ⟨.dst d.toNat, .src a.toNat, .none⟩
  | .vcsum _ d a => ⟨.dst d.toNat, .src a.toNat, .none⟩
  | .vcmax _ d a => ⟨.dst d.toNat, .src a.toNat, .none⟩
  | .vramax _ d a => ⟨.dst d.toNat, .src a.toNat, .none⟩
  | .vcmpEq _ _ a b => ⟨.none, .src a.toNat, .src b.toNat⟩
  | .vcmpNe _ _ a b => ⟨.none, .src a.toNat, .src b.toNat⟩
  | .vcmpLt _ _ a b => ⟨.none, .src a.toNat, .src b.toNat⟩
  | .vcmpLe _ _ a b => ⟨.none, .src a.toNat, .src b.toNat⟩
  | .vcmpGt _ _ a b => ⟨.none, .src a.toNat, .src b.toNat⟩
  | .vcmpGe _ _ a b => ⟨.none, .src a.toNat, .src b.toNat⟩
  | .vcmpUn _ _ a b => ⟨.none, .src a.toNat, .src b.toNat⟩
  | .vcvt _ d a _ _ => ⟨.dst d.toNat, .src a.toNat, .none⟩
  | .vmov _ d a => ⟨.dst d.toNat, .src a.toNat, .none⟩
  | .vsplat _ d a => ⟨.dst d.toNat, .scalar a.toNat, .none⟩
  | .vext _ d a b => ⟨.scalar d.toNat, .src a.toNat, .scalar b.toNat⟩
  | .vins _ d a b => ⟨.dst d.toNat, .scalar a.toNat, .scalar b.toNat⟩
  | .vbrow _ d a b => ⟨.dst d.toNat, .src a.toNat, .scalar b.toNat⟩
  | .vbcol _ d a b => ⟨.dst d.toNat, .src a.toNat, .scalar b.toNat⟩
  | .vshape _ _ _ => .empty
  | .vzero _ d => ⟨.dst d.toNat, .none, .none⟩
  | .viota _ d a => ⟨.dst d.toNat, .scalar a.toNat, .none⟩
  | .vshuf _ d a b => ⟨.dst d.toNat, .src a.toNat, .src b.toNat⟩
  | .vscale _ d a b => ⟨.dst d.toNat, .src a.toNat, .scalar b.toNat⟩
  | .smerge _ d a b => ⟨.dst d.toNat, .src a.toNat, .src b.toNat⟩
  | .smergez _ d a b => ⟨.dst d.toNat, .src a.toNat, .src b.toNat⟩
  | .smcount _ d a b => ⟨.scalar d.toNat, .src a.toNat, .src b.toNat⟩
  | .scan _ d a b => ⟨.dst d.toNat, .src a.toNat, .scalar b.toNat⟩
  | .scanx _ d a b => ⟨.dst d.toNat, .src a.toNat, .scalar b.toNat⟩
  | .vprune _ d a b => ⟨.dst d.toNat, .src a.toNat, .scalar b.toNat⟩
  | .vprunes _ d a b => ⟨.dst d.toNat, .src a.toNat, .scalar b.toNat⟩
  | .vrng _ d => ⟨.dst d.toNat, .none, .none⟩
  | .vcompact _ d a _ => ⟨.dst d.toNat, .src a.toNat, .none⟩
  | .pmerge _ d a _ _ => ⟨.dst d.toNat, .src a.toNat, .none⟩
  | .qcfg _ _ _ => .empty
  | .qpub _ _ => .empty
  | .qadv _ _ => .empty
  | .qfill _ _ _ _ => .empty
  | .sstr _ _ _ => .empty
  | .istr _ _ _ => .empty
  | .sclose _ _ => .empty
  | .sstat _ _ _ => .empty
  | .spsend _ _ _ => .empty
  | .spsendv _ d _ => ⟨.src d.toNat, .none, .none⟩
  | .spclose _ => .empty
  | .sprecv _ _ _ _ => .empty
  | .sprecvv _ d _ _ => ⟨.dst d.toNat, .none, .none⟩
  | .spstat _ _ _ => .empty
  | .mwalk _ _ _ => .empty
  | .mwalkg _ _ _ => .empty
  | .mprog _ _ _ _ => .empty
  | .mcancel _ _ _ => .empty
  | .mnode _ _ _ _ => .empty
  | .gang _ _ => .empty
  | .jwait _ _ _ => .empty
  | .jpoll _ _ _ => .empty
  | .tcopy _ _ _ => .empty
  | .tgather _ _ _ => .empty
  | .tscatter _ _ _ => .empty
  | .tscadd _ _ _ => .empty
  | .tfill _ _ _ => .empty
  | .sleepu _ _ _ _ => .empty
  | .phreg _ _ _ _ => .empty
  | .phdrop _ _ _ _ => .empty
  | .phsig _ _ _ _ => .empty
  | .phwait _ _ _ _ => .empty
  | .phnext _ _ _ _ => .empty
  | .phread _ _ _ _ => .empty
  | .phnew _ _ _ => .empty
  | .phfree _ _ _ => .empty
  | .tspawn _ _ _ _ => .empty
  | .tdep _ _ _ _ => .empty
  | .tctr _ _ _ => .empty
  | .tshape _ _ _ _ => .empty
  | .targ _ _ _ => .empty
  | .tself _ _ => .empty
  | .tlate _ _ => .empty
  | .pgld _ _ _ _ => .empty
  | .pdrop _ _ _ => .empty
  | .pstat _ _ _ => .empty
  | .pnorec _ _ _ => .empty
  | .lturn _ _ _ _ => .empty
  | .lstat _ _ _ _ => .empty
  | .lquiet _ _ _ => .empty
  | .gpush _ _ a _ => ⟨.none, .src a.toNat, .none⟩
  | .rpop _ _ _ => .empty
  | .lxbegin _ _ _ => .empty
  | .lxack _ _ _ _ => .empty
  | .lxend _ _ _ => .empty
  | .lxstat _ _ _ => .empty
  | .tlbinv _ _ _ _ => .empty
  | .freeze _ _ _ _ => .empty
  | .thaw _ _ _ _ => .empty
  | .pgmove _ _ _ _ => .empty
  | .cspare _ _ _ => .empty
  | .world _ _ _ _ => .empty
  | .immxHint _ => .empty
  | .repHint _ _ _ _ => .empty
  | .ordHint _ _ => .empty
  | .locHint _ _ => .empty
  | .mcompHint _ _ => .empty
  | .qwHint _ _ _ _ _ _ => .empty
  | .rndHint _ => .empty
  | .illegalInstruction _ => .empty
  | .jobQueueGrant _ => .empty
  | .walkJobAccept _ _ => .empty
  | .walkLoadDone _ _ => .empty
  | .walkStep _ _ => .empty
  | .walkStepEnd _ _ => .empty
  | .walkSuspend _ _ => .empty
  | .handlerStart _ => .empty
  | .walkJobComplete _ _ => .empty
  | .tracerGrant _ => .empty
  | .tracerJobStart _ _ => .empty
  | .tracerPart _ _ => .empty
  | .tracerSig _ _ => .empty
  | .tracerSuspend _ _ => .empty
  | .appendReadyAdd _ _ => .empty
  | .tracerJobComplete _ _ => .empty
  | .streamStart _ _ => .empty
  | .streamSlotPublish _ _ => .empty
  | .streamSuspend _ _ => .empty
  | .pmergeResult _ => .empty
  | .homeWrite _ => .empty
  | .homeAtomic _ => .empty
  | .ackReceive _ => .empty
  | .nackRetry _ => .empty
  | .tlbMissWalk _ _ _ => .empty
  | .tlbHcSpill _ _ => .empty
  | .llcFill _ _ => .empty
  | .pageEpochBoundary _ => .empty
  | .wcfgWrite _ _ _ => .empty
  | .windowEnChangeDone _ _ => .empty
  | .atlasWrite _ _ => .empty
  | .repctlWrite _ _ => .empty
  | .stqcfgWrite _ _ _ => .empty
  | .svitemWrite _ _ => .empty
  | .plctlFlush _ => .empty
  | .plctlKind _ => .empty
  | .lxlostWrite _ => .empty
  | .securityRegionWrite _ _ _ _ _ => .empty
  | .surveyorRegWrite _ _ _ _ => .empty
  | .itemIntake _ => .empty
  | .dispatchCycle _ => .empty
  | .printEntryIssue _ => .empty
  | .inputCopyDone _ => .empty
  | .inputCopyFault _ => .empty
  | .taskEndComplete _ => .empty
  | .governorTick _ => .empty
  | .deadlockSweep _ => .empty
  | .surveyorTrap _ => .empty
  | .watchdogExpire _ _ => .empty
  | .softErrorCorrected _ => .empty
  | .softErrorUncorrected _ => .empty
  | .latePacketRecord _ => .empty
  | .packetForward _ => .empty
  | .routeOpen _ _ => .empty
  | .portItemArrive _ _ => .empty
  | .routeCloseFlit _ _ => .empty
  | .turnGroupStart _ => .empty
  | .turnGroupRetrain _ _ => .empty
  | .compassSpawn _ _ => .empty
  | .compassSeal _ _ => .empty
  | .compassPopq _ _ _ => .empty
  | .compassIndexWrite _ _ => .empty
  | .compassIntailWrite _ _ => .empty
  | .lxCommit _ _ => .empty
  | .sheetLost _ => .empty
  | .cmdbaseWrite _ _ => .empty
  | .cmdtailWrite _ _ => .empty
  | .hostRegWrite _ _ _ => .empty
  | .cmdWrite _ => .empty
  | .cmdRead _ => .empty
  | .cmdCreateLaunch _ => .empty
  | .cmdSubmitItem _ => .empty
  | .cmdWakeTask _ => .empty
  | .cmdEndLaunch _ => .empty
  | .cmdAttest _ => .empty
  | .cmdInvalidOp _ => .empty
  | .statusWrite _ _ => .empty
  | .bootVerifyDone _ => .empty
  | .moduleReset => .empty
  | .thermalThrottle _ => .empty
  | .thermalStop => .empty
  | .sleepuWake _ _ => .empty
  | .bar2WindowAccess _ _ _ _ => .empty
  | .meridianLinkTraining _ _ => .empty
  | .junctionTemperatureFall _ => .empty

end Sys2Proof.Machine
end

