-- ==== Sys2Proof/Config.lean ====
section
/-! DEFINITION. What an implementation fixes and the manual does not give, as constants without a body (free values), and the figures of R1. -/

namespace Sys2Proof.Config

/-- A vector register that the manual leaves undefined (v1 to v3 of a handler, R13), by the index of the free value (log 5). -/
opaque freeV : Nat → VReg

/-- The choice of VEXP2, VLOG2, VRCP, VRSQ and VTANH in FP32 among the values within the bound of R214, by operation, mode, draw and operand bits: the function
of the part is not published (log 6). -/
opaque sfuPick (op mode draw a : Nat) : Nat

/-- The stepping of the part, IDENT [31:16] (R432). -/
opaque stepping : BitVec 16

/-- The private identity key of an image, by its digest: it is derived from a fused seed in a way that R440 does not give (log 12). -/
opaque identityKey : List Byte → Nat

/-- The number that a signature draws, by the digest of the image and the digest signed: R440 gives the signer no rule for it (log 12). -/
opaque signNonce : List Byte → List Byte → Nat

/-- The key hash in fuses (R438), (log 12). -/
opaque fusedKeyHash : List Byte

/-- Task thread slots of a core (R1). -/
def slots : Nat := 8

/-- Bytes of local memory of a core (R1, R125). -/
def localBytes : Nat := 0x18000

/-- Cores of a sheet (R1). -/
def coresPerSheet : Nat := 2048

/-- Ready pool of a sheet (R343). -/
def poolSize : Nat := 8192

/-- The base VA that ewld gives an image (R49). -/
def imageBase : Nat := 0x0000010000000000

end Sys2Proof.Config
end

