-- ==== Sys2Proof/Machine/Num.lean ====
section
/-! DEFINITION. The number formats (R170 to R172), the rounding codes (R175 to R177), conversions (R178) and the scalar arithmetic of every
element type (R211), on exact values. Elements are bit patterns held as numbers; type codes are those of R57. -/

namespace Sys2Proof.Machine

/-- Bits of an element type (R57). -/
def elemBits (ty : Nat) : Nat :=
  if ty = 0 ∨ ty = 8 ∨ ty = 11 then 32 else if ty = 1 ∨ ty = 2 ∨ ty = 7 ∨ ty = 10 then 16 else 8

/-- Bytes of an element type (R57). -/
def elemSize (ty : Nat) : Nat := elemBits ty / 8

/-- A float type other than L6. -/
def isFloat (ty : Nat) : Bool := decide (ty ≤ 4)

def isL6 (ty : Nat) : Bool := decide (ty = 5)

def isSignedInt (ty : Nat) : Bool := decide (6 ≤ ty ∧ ty ≤ 8)

def isInt (ty : Nat) : Bool := decide (6 ≤ ty)

/-- Bits of the fraction field F (R170). -/
def fracBits (ty : Nat) : Nat := match ty with | 0 => 23 | 1 => 7 | 2 => 10 | 3 => 3 | _ => 2

/-- Exponent of the smallest normal value (R170). -/
def minExp (ty : Nat) : Int := match ty with | 0 => -126 | 1 => -126 | 2 => -14 | 3 => -6 | _ => -14

/-- The pattern of the largest finite magnitude (R170). -/
def maxFinite (ty : Nat) : Nat := match ty with | 0 => 0x7F7FFFFF | 1 => 0x7F7F | 2 => 0x7BFF | 3 => 0x7E | 4 => 0x7B | _ => 31

/-- The pattern of infinity; E4M3 and L6 have none (R170, R172). -/
def infBits (ty : Nat) : Option Nat := match ty with | 0 => some 0x7F800000 | 1 => some 0x7F80 | 2 => some 0x7C00 | 4 => some 0x7C | _ => none

/-- The canonical NaN (R173). -/
def canonNaN (ty : Nat) : Nat := match ty with | 0 => 0x7FC00000 | 1 => 0x7FC0 | 2 => 0x7E00 | 3 => 0x7F | 4 => 0x7E | _ => 0x20

/-- The sign bit of a pattern. -/
def signBit (ty : Nat) : Nat := if ty = 5 then 32 else 2 ^ (elemBits ty - 1)

/-- The value of an element: NaN or NaR, an infinity, or the exact number (-1)^neg * m * 2^e. -/
inductive FVal where
  | nan
  | inf (neg : Bool)
  | fin (neg : Bool) (m : Nat) (e : Int)
  deriving DecidableEq, Repr

/-- The table T of R172. -/
def l6Table (f : Nat) : Nat := match f with | 0 => 16384 | 1 => 19484 | 2 => 23170 | _ => 27554

/-- v(M) of R172 as m and e, for M from 1 upward; the table goes on past 31, as an exponent range unbounded above asks (R175). -/
def l6Mag (mc : Nat) : Nat × Int :=
  let d : Int := (mc : Int) - 16
  let q := d / 4
  (l6Table (d - 4 * q).toNat, q - 14)

/-- The value of a pattern (R170 to R172). -/
def valueOf (ty x : Nat) : FVal :=
  if ty = 5 then
    let mc := x % 32
    let neg := x / 32 % 2 == 1
    if mc = 0 then (if neg then .nan else .fin false 0 0) else let p := l6Mag mc; .fin neg p.1 p.2
  else if 6 ≤ ty then
    let n := elemBits ty
    let i : Int := if isSignedInt ty then toSigned x n else (x % 2 ^ n : Nat)
    .fin (decide (i < 0)) i.natAbs 0
  else
    let n := elemBits ty
    let f := fracBits ty
    let neg := x / 2 ^ (n - 1) % 2 == 1
    let mag := x % 2 ^ (n - 1)
    match infBits ty with
    | some ib => if mag = ib then .inf neg else if ib < mag then .nan else
        if mag < 2 ^ f then .fin neg mag (minExp ty - f) else .fin neg (mag % 2 ^ f + 2 ^ f) (minExp ty - f + (mag / 2 ^ f : Nat) - 1)
    | none => if mag = 0x7F then .nan else
        if mag < 2 ^ f then .fin neg mag (minExp ty - f) else .fin neg (mag % 2 ^ f + 2 ^ f) (minExp ty - f + (mag / 2 ^ f : Nat) - 1)

/-- Numerator and denominator of m * 2^e. -/
def ratio (m : Nat) (e : Int) : Nat × Nat := if 0 ≤ e then (m * 2 ^ e.toNat, 1) else (m, 2 ^ (-e).toNat)

/-- floor(log2(num / den)) for a positive quotient. -/
def floorLog2 (num den : Nat) : Int :=
  let e : Int := (Nat.log2 num : Int) - Nat.log2 den
  let r := ratio den e
  if num * r.2 < r.1 then e - 1 else e

/-- Whether the rounding code takes the magnitude lo + rem / step up (R175, R176). `odd` says whether lo is odd; u is the draw of RSTO. -/
def roundUp (mode : Nat) (neg odd : Bool) (rem step u : Nat) : Bool :=
  if rem = 0 then false
  else match mode with
    | 0 => decide (step < 2 * rem) || (decide (2 * rem = step) && odd)
    | 1 => false
    | 2 => !neg
    | 3 => neg
    | 4 => decide (step ≤ 2 * rem)
    | _ => decide (u < rem * 2 ^ 24 / step)

/-- The largest L6 magnitude code whose table value is at most num / den, searched downward from n. -/
def l6Floor (num den n : Nat) : Nat :=
  match n with
  | 0 => 0
  | k + 1 => let p := l6Mag (k + 1); let r := ratio p.1 p.2
             if r.1 * den ≤ num * r.2 then k + 1 else l6Floor num den k

/-- The magnitude pattern of num / den rounded once, with the exponent range unbounded above (RoundTo of R9, R175). -/
def roundMag (ty mode : Nat) (neg : Bool) (u num den : Nat) : Nat :=
  if num = 0 then 0
  else if ty = 5 then
    let top := if num < 16 * den then 32 else 4 * (Nat.log2 (num / den) + 1) + 17
    let lo := l6Floor num den top
    let lv := if lo = 0 then (0, 1) else ratio (l6Mag lo).1 (l6Mag lo).2
    let hv := ratio (l6Mag (lo + 1)).1 (l6Mag (lo + 1)).2
    -- rem / step = (x - lo) / (hi - lo), over the common denominator
    let rem := num * lv.2 * hv.2 - lv.1 * den * hv.2
    let step := hv.1 * lv.2 * den - lv.1 * hv.2 * den
    if roundUp mode neg (lo % 2 == 1) rem step u then lo + 1 else lo
  else
    let f := fracBits ty
    let ex := floorLog2 num den
    let ex' := if ex < minExp ty then minExp ty else ex
    let se := ex' - f
    -- x / 2^se = num / (den * 2^se)
    let r := ratio den se
    let n' := num * r.2
    let lo := n' / r.1
    let rem := n' % r.1
    let m := if roundUp mode neg (lo % 2 == 1) rem r.1 u then lo + 1 else lo
    -- the pattern is linear in the exponent and the significand
    (ex' - minExp ty).toNat * 2 ^ f + m

/-- A rounded magnitude with its sign, after R177. -/
def finish (ty mode : Nat) (sat neg : Bool) (mag : Nat) : Nat :=
  let s := if neg then signBit ty else 0
  if maxFinite ty < mag then
    if sat then maxFinite ty + s
    else match infBits ty with
      | none => canonNaN ty
      | some ib =>
        let toInf := match mode with | 1 => false | 2 => !neg | 3 => neg | _ => true
        (if toInf then ib else maxFinite ty) + s
  else if ty = 5 ∧ mag = 0 then 0 else mag + s

/-- An exact number, given as sign and quotient, rounded to a float type or L6 (R175, R177). -/
def roundTo (ty mode : Nat) (sat neg : Bool) (u num den : Nat) : Nat := finish ty mode sat neg (roundMag ty mode neg u num den)

/-- An infinity in a type (R178). -/
def infTo (ty : Nat) (sat neg : Bool) : Nat :=
  if sat then maxFinite ty + (if neg then signBit ty else 0)
  else match infBits ty with
    | some ib => ib + (if neg then signBit ty else 0)
    | none => canonNaN ty

/-- A value rounded to a float type or L6 (R178). -/
def toFloat (ty mode : Nat) (sat : Bool) (u : Nat) (v : FVal) : Nat :=
  match v with
  | .nan => canonNaN ty
  | .inf neg => infTo ty sat neg
  | .fin neg m e => let r := ratio m e; roundTo ty mode sat neg u r.1 r.2

/-- A number rounded to an integer by mode (R178). -/
def roundInt (mode : Nat) (u : Nat) (neg : Bool) (m : Nat) (e : Int) : Int :=
  let r := ratio m e
  let lo := r.1 / r.2
  let q := if roundUp mode neg (lo % 2 == 1) (r.1 % r.2) r.2 u then lo + 1 else lo
  if neg then -(q : Int) else q

/-- The least and the greatest value of an integer type (R171). -/
def intRange (ty : Nat) : Int × Int :=
  let n := elemBits ty
  if isSignedInt ty then (-(2 ^ (n - 1) : Nat), (2 ^ (n - 1) : Nat) - 1) else (0, (2 ^ n : Nat) - 1)

/-- An integer clamped to the range of an integer type. -/
def clampInt (ty : Nat) (i : Int) : Int := max (intRange ty).1 (min (intRange ty).2 i)

/-- Conversion between element types (R178); a copy where the types are the same (R217). DESIGN CHOICE (log 161): bits [7:6] of an L6 byte are written as 0, as R172
states for every L6 result, also in the copy, of which R217 says that it leaves the bits unchanged. -/
def convert (src dst mode : Nat) (sat : Bool) (u x : Nat) : Nat :=
  if src = dst then (if dst = 5 then x % 64 else x)
  else if isInt dst then
    if isInt src then
      match valueOf src x with
      | .fin neg m _ => let i : Int := if neg then -(m : Int) else m
                        ofSigned (if sat then clampInt dst i else i) (elemBits dst)
      | _ => 0
    else match valueOf src x with
      | .nan => 0
      | .inf neg => ofSigned (if neg then (intRange dst).1 else (intRange dst).2) (elemBits dst)
      | .fin neg m e => ofSigned (clampInt dst (roundInt mode u neg m e)) (elemBits dst)
  else toFloat dst mode sat u (valueOf src x)

/-- The exact sum of two values; `down` is rounding toward -infinity, which gives an exact zero sum of opposite signs the sign -. -/
def addVal (down : Bool) (a b : FVal) : FVal :=
  match a, b with
  | .nan, _ => .nan
  | _, .nan => .nan
  | .inf n, .inf n' => if n = n' then .inf n else .nan
  | .inf n, _ => .inf n
  | _, .inf n => .inf n
  | .fin n m e, .fin n' m' e' =>
    let lo := min e e'
    let i : Int := (if n then -1 else 1) * ((m * 2 ^ (e - lo).toNat : Nat) : Int)
    let j : Int := (if n' then -1 else 1) * ((m' * 2 ^ (e' - lo).toNat : Nat) : Int)
    let s := i + j
    if s = 0 then .fin (if m = 0 ∧ m' = 0 ∧ n = n' then n else down) 0 0 else .fin (decide (s < 0)) s.natAbs lo

/-- The exact product of two values (R211). -/
def mulVal (a b : FVal) : FVal :=
  match a, b with
  | .nan, _ => .nan
  | _, .nan => .nan
  | .inf n, .inf n' => .inf (n != n')
  | .inf n, .fin n' m _ => if m = 0 then .nan else .inf (n != n')
  | .fin n m _, .inf n' => if m = 0 then .nan else .inf (n != n')
  | .fin n m e, .fin n' m' e' => .fin (n != n') (m * m') (e + e')

def negVal (a : FVal) : FVal := match a with | .nan => .nan | .inf n => .inf (!n) | .fin n m e => .fin (!n) m e

/-- a < b for values that are not NaN, zeros equal. -/
def ltVal (a b : FVal) : Bool :=
  match a, b with
  | .nan, _ => false
  | _, .nan => false
  | .inf n, .inf n' => n && !n'
  | .inf n, .fin .. => n
  | .fin .., .inf n' => !n'
  | .fin n m e, .fin n' m' e' =>
    let lo := min e e'
    let i : Int := (if n then -1 else 1) * ((m * 2 ^ (e - lo).toNat : Nat) : Int)
    let j : Int := (if n' then -1 else 1) * ((m' * 2 ^ (e' - lo).toNat : Nat) : Int)
    decide (i < j)

def isNaNVal (a : FVal) : Bool := match a with | .nan => true | _ => false

/-- Whether a value is negative, minus zero included. -/
def negOf (a : FVal) : Bool := match a with | .nan => false | .inf n => n | .fin n _ _ => n

/-- The arithmetic operations of R210 and R212 that round. -/
inductive Arith where
  | add | sub | mul | fma | fms
  deriving DecidableEq, Repr

/-- An arithmetic operation on elements (R211): integers wrap, floats and L6 round once. -/
def arith (op : Arith) (ty mode u a b d : Nat) : Nat :=
  if isInt ty then
    let n := elemBits ty
    let x := toSigned a n
    let y := toSigned b n
    let z := toSigned d n
    ofSigned (match op with | .add => x + y | .sub => x - y | .mul => x * y | .fma => x * y + z | .fms => z - x * y) n
  else
    let x := valueOf ty a
    let y := valueOf ty b
    let z := valueOf ty d
    let down := mode == 3
    toFloat ty mode false u (match op with
      | .add => addVal down x y
      | .sub => addVal down x (negVal y)
      | .mul => mulVal x y
      | .fma => addVal down (mulVal x y) z
      | .fms => addVal down z (negVal (mulVal x y)))

/-- The number an integer element stands for. -/
def intOf (ty x : Nat) : Int := if isSignedInt ty then toSigned x (elemBits ty) else (x % 2 ^ elemBits ty : Nat)

/-- Minimum and maximum (R211): one NaN operand gives the other, two give the canonical NaN, and -0.0 ranks below +0.0. -/
def minMax (isMax : Bool) (ty a b : Nat) : Nat :=
  if isInt ty then
    let lt := decide (intOf ty a < intOf ty b)
    if lt != isMax then a else b
  else
    let x := valueOf ty a
    let y := valueOf ty b
    if isNaNVal x then (if isNaNVal y then canonNaN ty else b)
    else if isNaNVal y then a
    else
      let below := ltVal x y || (!ltVal y x && negOf x && !negOf y)
      if below != isMax then a else b

/-- |a| (R211). -/
def absElem (ty x : Nat) : Nat :=
  if isInt ty then ofSigned (if isSignedInt ty then (toSigned x (elemBits ty)).natAbs else (x : Int)) (elemBits ty)
  else if ty = 5 then (if x % 64 = 32 then 32 else x % 32)
  else x % signBit ty

/-- -a (R211). -/
def negElem (ty x : Nat) : Nat :=
  if isInt ty then ofSigned (-(toSigned x (elemBits ty))) (elemBits ty)
  else if ty = 5 then (if x % 32 = 0 then x % 64 else if x / 32 % 2 = 1 then x % 32 else x % 32 + 32)
  else if x / signBit ty % 2 = 1 then x % signBit ty else x % signBit ty + signBit ty

/-- The conditions of VCMP (R216): 0 eq, 1 ne, 2 lt, 3 le, 4 gt, 5 ge, 6 un. -/
def compareElem (cond ty a b : Nat) : Bool :=
  let x := valueOf ty a
  let y := valueOf ty b
  let un := isNaNVal x || isNaNVal y
  let lt := ltVal x y
  let gt := ltVal y x
  match cond with
  | 0 => !un && !lt && !gt
  | 1 => un || lt || gt
  | 2 => lt
  | 3 => !un && !gt
  | 4 => gt
  | 5 => !un && !lt
  | _ => un

/-- Whether an element is ±0.0, L6 zero or the integer 0 (R200). -/
def isZeroElem (ty x : Nat) : Bool := match valueOf ty x with | .fin _ m _ => decide (m = 0) | _ => false

/-- floor of the square root, bit by bit from 2^k downward. -/
def isqrtFrom (k n acc : Nat) : Nat :=
  match k with
  | 0 => if (acc + 1) * (acc + 1) ≤ n then acc + 1 else acc
  | j + 1 => let t := acc + 2 ^ (j + 1); isqrtFrom j n (if t * t ≤ n then t else acc)

def isqrt (n : Nat) : Nat := isqrtFrom (Nat.log2 n / 2 + 1) n 0

/-- √(m * 2^e) as m' * 2^e', with an odd last bit standing for a discarded remainder (R214: VSQRT is rounded once from the exact root). -/
def sqrtVal (m : Nat) (e : Int) : Nat × Int :=
  let odd := e % 2 != 0
  let m' := (if odd then 2 * m else m) * 2 ^ 160
  let h := ((if odd then e - 1 else e) - 160) / 2
  let s := isqrt m'
  (2 * s + (if s * s = m' then 0 else 1), h - 1)

/-- 1 / √(m * 2^e) likewise, for m ≠ 0. -/
def rsqrtVal (m : Nat) (e : Int) : Nat × Int :=
  let odd := e % 2 != 0
  let m' := if odd then 2 * m else m
  let h := (if odd then e - 1 else e) / 2
  let k := 160 + Nat.log2 m'
  let s := isqrt (2 ^ (2 * k) / m')
  (2 * s + (if s * s * m' = 2 ^ (2 * k) then 0 else 1), -h - k - 1)

/-- The position of a power of two: m * 2^e = 2^p. -/
def log2Exact (m : Nat) (e : Int) : Option Int := if m ≠ 0 ∧ 2 ^ Nat.log2 m = m then some (Nat.log2 m + e) else none

/-- The integer a value stands for, if it is one. -/
def integerOf (neg : Bool) (m : Nat) (e : Int) : Option Int :=
  let r := ratio m e
  if r.1 % r.2 = 0 then some (if neg then -((r.1 / r.2 : Nat) : Int) else (r.1 / r.2 : Nat)) else none

/-- The FP32 magnitudes within 2 ulp of a result that lies between lo and the next one, hi; below a power of two they stand closer together, `low` says that
the result lies in the lower half between lo and hi (R214). -/
def ulpDown (lo : Nat) (low : Bool) : List Nat :=
  if lo % 2 ^ 23 = 0 ∧ 2 ^ 24 ≤ lo then [lo, lo - 1, lo - 2] ++ (if low then [lo - 3] else []) else [lo, lo - 1]
def ulpUp (hi : Nat) : List Nat := if (hi % 2 ^ 23 = 0 ∧ 2 ^ 24 ≤ hi) ∨ 0x7F7FFFFF ≤ hi then [hi] else [hi, hi + 1]

/-- An FP32 quotient within the bound of R214: the exact one where it is representable, otherwise a free choice among the values within 2 ulp on the side that
the mode requires; overflow, BF16 and FP16 round by the mode. -/
def sfuQuotient (op ty mode u a : Nat) (neg : Bool) (num den : Nat) : Nat :=
  let lo := roundMag ty 1 neg u num den
  let hi := roundMag ty 2 false u num den
  if ty ≠ 0 ∨ lo = hi ∨ 0x7F800000 ≤ hi then roundTo ty mode false neg u num den
  else
    let pick := Config.sfuPick op mode (if mode = 5 then u else 0) a
    let down := ulpDown lo (roundMag ty 0 neg u num den == lo)
    let up := ulpUp hi
    let cands := match mode with
      | 1 => down
      | 2 => if neg then down else up
      | 3 => if neg then up else down
      | _ => down ++ up
    finish ty mode false neg (cands.getD (pick % cands.length) lo)

/-- ln 2 in units of 2^-320, rounded down. -/
def ln2Fix : Nat := 0xb17217f7d1cf79abc9e3b39803f2f6af40f343267298b62d8a0d175b8baafa2be7b876206debac98

/-- The sum of y^k / k! from the term t at k upward, in units of 2^-320. -/
def expTerms (n y k t : Nat) : Nat := match n with | 0 => 0 | j + 1 => t + expTerms j y (k + 1) (t * y / 2 ^ 320 / (k + 1))

/-- e^y for 0 ≤ y < 1, in units of 2^-320. -/
def expFix (y : Nat) : Nat := expTerms 80 y 0 (2 ^ 320)

/-- Bits of log2 x for 1 ≤ x < 2 in units of 2^-320: n bits, each from one squaring. -/
def logBits (n x acc : Nat) : Nat :=
  match n with
  | 0 => acc
  | j + 1 => let y := x * x / 2 ^ 320; if 2 ^ 321 ≤ y then logBits j (y / 2) (2 * acc + 1) else logBits j y (2 * acc)

/-- A bound beyond which a magnitude overflows or vanishes in every type. -/
def huge : Nat := 2 ^ 400

/-- 2^a for a = ±m * 2^e that is no integer, as a quotient close enough to tell the neighbours and their sides (R214). -/
def exp2Val (neg : Bool) (m : Nat) (e : Int) : Nat × Nat :=
  let r := ratio m e
  let whole := r.1 / r.2
  if 300 < whole then (if neg then (1, huge) else (huge, 1))
  else
    let frac := r.1 % r.2
    -- a = n + f with 0 < f < 1
    let n : Int := if neg then -(whole : Int) - 1 else whole
    let f := if neg then r.2 - frac else frac
    let y := 2 * expFix (f * ln2Fix / r.2) + 1
    let q := ratio y (n - 321)
    (q.1, q.2)

/-- log2 of m * 2^e that is no power of two: its sign and magnitude (R214). -/
def log2Val (m : Nat) (e : Int) : Bool × Nat × Nat :=
  let k : Int := (Nat.log2 m : Int) + e
  let x := m * 2 ^ 320 / 2 ^ Nat.log2 m
  let v : Int := k * (2 ^ 120 : Nat) + (logBits 120 x 0 : Nat)
  if 0 ≤ v then (false, 2 * v.toNat + 1, 2 ^ 121) else (true, 2 * v.natAbs - 1, 2 ^ 121)

/-- tanh of m * 2^e for m ≠ 0, as a quotient (R214). -/
def tanhVal (m : Nat) (e : Int) : Nat × Nat :=
  let r := ratio m e
  if r.1 * 2 ^ 60 < r.2 then (r.1 * 2 ^ 100 - 1, r.2 * 2 ^ 100)
  else if 100 * r.2 < r.1 then (2 ^ 200 - 1, 2 ^ 200)
  else
    let y := 2 * r.1 * 2 ^ 320 / r.2
    let n := y / ln2Fix
    let x := expFix (y % ln2Fix) * 2 ^ n
    (x - 2 ^ 320, x + 2 ^ 320)

/-- A function of VSFU on an element (R213, R214): the special inputs, the exact result where it is representable, and otherwise a value within the bounds,
free where they leave a choice. -/
def sfu (op ty mode u a : Nat) : Nat :=
  let near := fun (neg : Bool) (q : Nat × Nat) => sfuQuotient op ty mode u a neg q.1 q.2
  match op, valueOf ty a with
  | _, .nan => canonNaN ty
  | 0, .inf neg => if neg then 0 else infTo ty false false
  | 0, .fin neg m e =>
    match integerOf neg m e with
    | some p =>
      near false (if p < -300 then (1, huge) else if 300 < p then (huge, 1) else ratio 1 p)
    | none => near false (exp2Val neg m e)
  | 1, .inf neg => if neg then canonNaN ty else infTo ty false false
  | 1, .fin neg m e =>
    if m = 0 then infTo ty false true
    else if neg then canonNaN ty
    else match log2Exact m e with
      | some p => roundTo ty mode false (decide (p < 0)) u p.natAbs 1
      | none => let q := log2Val m e; near q.1 q.2
  | 2, .inf neg => if neg then signBit ty else 0
  | 2, .fin neg m e => if m = 0 then infTo ty false neg else let r := ratio m e; near neg (r.2, r.1)
  | 3, .inf neg => if neg then canonNaN ty else 0
  | 3, .fin neg m e =>
    if m = 0 then infTo ty false neg else if neg then canonNaN ty
    else let p := rsqrtVal m e; near false (ratio p.1 p.2)
  | 4, .inf neg => if neg then canonNaN ty else infTo ty false false
  | 4, .fin neg m e =>
    if m = 0 then (if neg then signBit ty else 0) else if neg then canonNaN ty
    else let p := sqrtVal m e; let r := ratio p.1 p.2; roundTo ty mode false false u r.1 r.2
  | _, .inf neg => roundTo ty mode false neg u 1 1
  | _, .fin neg m e => if m = 0 then (if neg then signBit ty else 0) else near neg (tanhVal m e)

/-- IEEE 754 addition of FP32 patterns, rounded to nearest even (AMO FADD and TSCADD, R174, R282, R293). -/
def fadd32 (a b : Nat) : Nat := arith .add 0 0 0 a b 0

/-- A product of L6 codes in the burin array, in units of 2^-22 (R179); none is NaN. -/
def l6Product (a b : Nat) : Option Int :=
  let ma := a % 32
  let mb := b % 32
  if a % 64 = 32 ∨ b % 64 = 32 then none
  else if ma = 0 ∨ mb = 0 then some 0
  else
    let p : Int := (ma : Int) + mb - 16
    let q := (p - 16) / 4
    let f := ((p - 16) - 4 * q).toNat
    let mag : Int := (l6Table f * 2 ^ (q + 8).toNat : Nat)
    some (if (a / 32 % 2 == 1) != (b / 32 % 2 == 1) then -mag else mag)

/-- A value scaled by 2^(c) and rounded to FP32 under RNE (R183). -/
def scaleVal (v : FVal) (c : Int) : FVal := match v with | .fin n m e => .fin n m (e + c) | x => x

/-- A BF16 subnormal flushed to zero of the same sign (R174). -/
def flushBF16 (x : Nat) : Nat := if x / 128 % 256 = 0 then x / 32768 * 32768 else x

/-- The exact sum of the products of a chunk (R181); minus zero only when every product is minus zero. -/
def chunkSum (ps : List FVal) : FVal :=
  let allNegZero := ps.all (fun p => match p with | .fin true 0 _ => true | _ => false)
  let t := ps.foldl (fun acc p => addVal false acc p) (.fin false 0 0)
  if allNegZero && !ps.isEmpty then .fin true 0 0 else t

end Sys2Proof.Machine
end

