-- ==== Sys2Proof/Machine/View.lean ====
section
/-! DEFINITION. Reading and replacing the parts of the state: contexts, threads, cores, clusters, sheets, launches, items. -/

namespace Sys2Proof.Machine

/-- The outcome of a step of this machine. -/
abbrev Out := Host.Outcome State Fault Refusal

def State.ctxOf (s : State) (c : CtxId) : Ctx := s.ctxs.get Ctx.init c
def State.setCtx (c : CtxId) (k : Ctx) (s : State) : State := { s with ctxs := s.ctxs.set c k }
/-- The context in focus. -/
def State.ctx (s : State) : Ctx := s.ctxOf s.cur
def State.mapCtx (c : CtxId) (f : Ctx → Ctx) (s : State) : State := s.setCtx c (f (s.ctxOf c))
/-- Changes the context in focus. -/
def State.upd (f : Ctx → Ctx) (s : State) : State := s.mapCtx s.cur f

def State.thread (s : State) (t : Nat) : Thread := s.threads.get Thread.init t
def State.setThread (t : Nat) (k : Thread) (s : State) : State := { s with threads := s.threads.set t k }
def State.mapThread (t : Nat) (f : Thread → Thread) (s : State) : State := s.setThread t (f (s.thread t))

def State.core (s : State) (c : Nat) : Core := s.cores.get Core.init c
def State.mapCore (c : Nat) (f : Core → Core) (s : State) : State := { s with cores := s.cores.set c (f (s.core c)) }

def State.cluster (s : State) (c : Nat) : Cluster := s.clusters.get Cluster.init c
def State.mapCluster (c : Nat) (f : Cluster → Cluster) (s : State) : State := { s with clusters := s.clusters.set c (f (s.cluster c)) }

def State.sheet (s : State) (h : Nat) : Sheet := s.sheets.get Sheet.init h
def State.mapSheet (h : Nat) (f : Sheet → Sheet) (s : State) : State := { s with sheets := s.sheets.set h (f (s.sheet h)) }

def State.edge (s : State) (e : Nat) : Edge := s.edges.get Edge.init e
def State.mapEdge (e : Nat) (f : Edge → Edge) (s : State) : State := { s with edges := s.edges.set e (f (s.edge e)) }

def State.port (s : State) (p : Nat) : HostPort := s.ports.get HostPort.init p
def State.mapPort (p : Nat) (f : HostPort → HostPort) (s : State) : State := { s with ports := s.ports.set p (f (s.port p)) }

def Launch.none : Launch :=
  { live := false, x := 0, y := 0, w := 0, h := 0, asid := 0, secure := true, legends := [], qcfgs := [], drained := [], port := 0 }
def State.launch (s : State) (l : Nat) : Launch := s.launches.get Launch.none l

def Item.none : Item :=
  { words := [], shape := 0, launch := 0, st := .final, status := 0, order := 0, system := false, fromTask := false, pin := Option.none,
    rerun := false, ovf := [], holds := [], faults := [], members := [], ended := [],
    failCause := Option.none, notify := Option.none, tile := Option.none, acked := false, combine := Option.none }
def State.item (s : State) (sheet i : Nat) : Item := (s.sheet sheet).items.get Item.none i
def State.mapItem (sheet i : Nat) (f : Item → Item) (s : State) : State :=
  s.mapSheet sheet (fun h => { h with items := h.items.set i (f (h.items.get Item.none i)) })

def State.walk? (s : State) (cl job : Nat) : Option WalkJob := (s.cluster cl).walks.get? job
def State.setWalk (cl job : Nat) (j : WalkJob) (s : State) : State := s.mapCluster cl (fun c => { c with walks := c.walks.set job j })

def State.tracer? (s : State) (cl job : Nat) : Option TracerJob := (s.cluster cl).tracers.get? job
def State.setTracer (cl job : Nat) (j : TracerJob) (s : State) : State := s.mapCluster cl (fun c => { c with tracers := c.tracers.set job j })

/-- Sheet of a core, cluster of a core, core of a thread. -/
def sheetOfCore (core : Nat) : Nat := core / 2048
def clusterOfCore (core : Nat) : Nat := core / 8
def coreOfThread (th : Nat) : Nat := th / 8
def sheetOfCluster (cl : Nat) : Nat := cl / 256
def sheetOfThread (th : Nat) : Nat := sheetOfCore (coreOfThread th)
def clusterOfThread (th : Nat) : Nat := clusterOfCore (coreOfThread th)

/-- The core that a context stands on; a surveyor core has none of the numbered cores. -/
def CtxId.core? (c : CtxId) : Option Nat := match c with | .task th _ => some (coreOfThread th) | .handler core _ => some core | .surveyor .. => none

/-- The core of the context in focus. The surveyor cores, which are not counted among the usable cores (R2), are numbered after them. -/
def State.coreId (s : State) : Nat := match s.cur with | .task th _ => coreOfThread th | .handler core _ => core | .surveyor sheet k => 65536 + sheet * 4 + k

/-- The task thread of a context; for a handler, the thread that issued its walk (R54). -/
def State.threadOf (s : State) (c : CtxId) : Nat :=
  match c with | .task th _ => th | .handler core k => ((s.handlers.get? (core, k)).map Handler.th).getD 0 | .surveyor .. => 0

def State.threadId (s : State) : Nat := s.threadOf s.cur

def State.sheetId (s : State) : Nat := match s.cur with | .surveyor sheet _ => sheet | _ => sheetOfCore s.coreId

def State.clusterId (s : State) : Nat := clusterOfCore s.coreId

def CtxId.isTask (c : CtxId) : Bool := match c with | .task .. => true | _ => false
def CtxId.isHandler (c : CtxId) : Bool := match c with | .handler .. => true | _ => false
def CtxId.isSurveyor (c : CtxId) : Bool := match c with | .surveyor .. => true | _ => false
/-- The A side of a task; every other context has C-side registers (R54). -/
def CtxId.isA (c : CtxId) : Bool := match c with | .task _ .a => true | _ => false

/-- The side bit of a context: 0 A side, 1 C side or handler (R66, R67). -/
def CtxId.sideBit (c : CtxId) : Nat := if c.isA then 0 else 1

/-- Whether the context's accesses take place after commit: handlers and surveyor cores are never speculative (R12, R159). -/
def State.isPost (s : State) (c : CtxId) : Bool := match c with | .task th _ => (s.thread th).post | _ => true

/-- The launch of a context; a handler keeps that of its walk's issuer while the issuer's slot goes on without it (R166, R368). -/
def State.launchOf (s : State) (c : CtxId) : Nat :=
  match c with
  | .handler core k => ((s.handlers.get? (core, k)).map Handler.launch).getD 0
  | c => (s.thread (s.threadOf c)).launch

/-- The ASID of a context (R332). -/
def State.asidOf (s : State) (c : CtxId) : Nat := (s.launch (s.launchOf c)).asid

/-- A context's address in the layout of R243, with bit 4 set for the C side. -/
def addrOf (c : CtxId) : Word :=
  match c with
  | .task th side => BitVec.ofNat 64 ((th / 8 / 2048) * 2 ^ 17 + (th / 64 % 256) * 2 ^ 9 + (th / 8 % 8) * 2 ^ 6 + (match side with | .a => 0 | .c => 16) + th % 8)
  | .handler core k => BitVec.ofNat 64 ((core / 2048) * 2 ^ 17 + (core / 8 % 256) * 2 ^ 9 + (core % 8) * 2 ^ 6 + 16 + k)
  | .surveyor sheet k => BitVec.ofNat 64 (sheet * 2 ^ 17 + k)

/-- The thread that a port or slot address names (R243). -/
def threadOfAddr (a : Word) : Nat :=
  let x := a.toNat
  ((x / 2 ^ 17 % 32) * 2048 + (x / 2 ^ 9 % 256) * 8 + x / 2 ^ 6 % 8) * 8 + x % 8

/-- The core that an address names (R243). -/
def coreOfAddr (a : Word) : Nat := threadOfAddr a / 8

/-- An item's fields (R37, R339). -/
def Item.word (i : Item) (k : Nat) : Word := i.words.getD k 0
def Item.entryA (i : Item) : Word := i.word 0
def Item.entryC (i : Item) : Word := i.word 1
def Item.deadline (i : Item) : Word := i.word 2
def Item.shapeVa (i : Item) : Word := i.word 3
def Item.legend (i : Item) : Nat := bitsOf (i.word 4).toNat 15 0
def Item.flags (i : Item) : Nat := bitsOf (i.word 4).toNat 31 16
def Item.prio (i : Item) : Nat := i.flags % 16
def Item.gang (i : Item) : Bool := i.flags / 16 % 2 == 1
def Item.plate (i : Item) : Bool := i.flags / 32 % 2 == 1
def Item.late (i : Item) : Nat := i.flags / 64 % 4
def Item.follow (i : Item) : Bool := i.flags / 256 % 2 == 1
def Item.allot (i : Item) : Nat := bitsOf (i.word 4).toNat 47 32
def Item.member (i : Item) : Nat := bitsOf (i.word 4).toNat 63 48
def Item.gate (i : Item) : Nat := bitsOf (i.word 5).toNat 31 0
def Item.done (i : Item) : Nat := bitsOf (i.word 5).toNat 63 32
def Item.linputAddr (i : Item) : Word := i.word 6
def Item.linputLen (i : Item) : Nat := bitsOf (i.word 7).toNat 31 0
def Item.linputOff (i : Item) : Nat := bitsOf (i.word 7).toNat 63 32
def Item.arg (i : Item) (k : Nat) : Word := i.word (8 + k)
def Item.shapeField (i : Item) (f : Nat) : Nat := getBytes i.shape (2 * f) 2

/-- The member that a thread holds. -/
def Thread.self (t : Thread) : Member :=
  { sheet := t.itemSheet, item := t.item, rank := t.rank, member := t.member, segment := t.segment, follow := t.follow.isSome, deadline := t.deadline }

/-- The member of a context's task; for a handler, that of its walk's issuer (R54, R326). -/
def State.memberOf (s : State) (c : CtxId) : Member :=
  match c with
  | .handler core k => ((s.handlers.get? (core, k)).map Handler.who).getD Member.none
  | c => (s.thread (s.threadOf c)).self

/-- The item of a context's task; for a handler, the item of its walk's issuer (R326). -/
def State.itemOf (s : State) (c : CtxId) : Item := let m := s.memberOf c; s.item m.sheet m.item

/-- Rank of a sheet in a launch's rectangle, row-major from the origin (R421). -/
def Launch.rankOf (l : Launch) (sheet : Nat) : Nat := (sheet / 8 - l.y) * l.w + (sheet % 8 - l.x)
/-- The sheet at a rank; 32, which names none, where the rectangle has left the module (R411, log 30). -/
def Launch.sheetOfRank (l : Launch) (r : Nat) : Nat :=
  let x := l.x + r % l.w
  let y := l.y + r / l.w
  if x < 8 ∧ y < 4 then y * 8 + x else 32
def Launch.covers (l : Launch) (sheet : Nat) : Bool :=
  decide (l.x ≤ sheet % 8 ∧ sheet % 8 < l.x + l.w ∧ l.y ≤ sheet / 8 ∧ sheet / 8 < l.y + l.h)
def Launch.origin (l : Launch) : Nat := l.y * 8 + l.x

end Sys2Proof.Machine
end

