-- ==== Sys2Proof/Machine/Home.lean ====
section
/-! DEFINITION. The physical map and the homes (R260, R266, R267): reading and writing memory at its home, sequence tags (R253), page modes and
replicas (R276), format windows (R188 to R190), poison (R369), plate invalidation (R395), and the event ring (R363). -/

namespace Sys2Proof.Machine

/-- CFG, MODULE, SHEET and OFFSET of a physical address (R260). -/
def paCfg (pa : Nat) : Bool := pa / 2 ^ 51 % 2 == 1
def paSheet (pa : Nat) : Nat := pa / 2 ^ 36 % 32
def paOff (pa : Nat) : Nat := pa % 2 ^ 36

/-- The home slice of a line within its sheet (R266). -/
def homeSlice (pa : Nat) : Nat := ((pa / 2 ^ 8 % 256) ^^^ (pa / 2 ^ 16 % 256)) ^^^ ((pa / 2 ^ 24 % 256) ^^^ (pa / 2 ^ 32 % 16))

/-- The regions of a sheet's memory (R260). -/
inductive Region where
  | hbm | aperture | atlas | unbacked
  deriving DecidableEq, Repr

/-- MODULE of a physical address. This module is number 0 (log 30). -/
def paModule (pa : Nat) : Nat := pa / 2 ^ 41 % 2 ^ 10

/-- The region of a physical address; the atlas store reaches as far as ATLAS.SIZE carves it out (R269). Configuration space is no memory (R435). -/
def State.region (s : State) (pa : Nat) : Region :=
  let o := paOff pa
  if paModule pa ≠ 0 ∨ paCfg pa then .unbacked
  else if o < 0xC00000000 then .hbm
  else if o < 0xE00000000 then .aperture
  else if o < 0xE00000000 + (s.sheet (paSheet pa)).atlas.toNat % 16 * 2 ^ 26 then .atlas
  else .unbacked

def Window.en (w : Window) : Bool := w.cfg.toNat / 2 ^ 63 == 1
def Window.fmt (w : Window) : Nat := bitsOf w.cfg.toNat 23 20
def Window.scl (w : Window) : Bool := bitsOf w.cfg.toNat 16 16 == 1
def Window.blk (w : Window) : Nat := bitsOf w.cfg.toNat 10 0
def Window.lo (w : Window) : Nat := bitsOf w.base.toNat 51 16 * 2 ^ 16
def Window.bytes (w : Window) : Nat := bitsOf w.size.toNat 31 0 * 2 ^ 16
def Window.covers (w : Window) (pa : Nat) : Bool := decide (w.lo ≤ pa ∧ pa < w.lo + w.bytes)

/-- The enabled window whose decoded range holds an address, if there is one (R188). -/
def State.windowOf (s : State) (pa : Nat) : Option Window :=
  if paModule pa ≠ 0 ∨ paCfg pa then none else (((s.sheet (paSheet pa)).windows).find? (fun p => p.2.en && p.2.covers pa)).map Prod.snd

/-- The tag of a line filled through a window (R188). -/
def Window.tagOf (w : Window) (pa : Nat) : WinTag :=
  { fmt := w.fmt, blk := w.blk, scaleAt := if w.scl then some (bitsOf w.scale.toNat 51 0 + (pa - w.lo) / w.blk) else none, phase := (pa - w.lo) % w.blk }

/-- The address of the three packed bytes of the group that holds a decoded L6 byte (R189). -/
def Window.packedAt (w : Window) (pa : Nat) : Nat := bitsOf w.store.toNat 51 0 + 3 * ((pa - w.lo) / 4)

/-- Whether an address is backed: reads of any other give zero and writes to it are dropped (R188, R260). -/
def State.backed (s : State) (pa : Nat) : Bool :=
  match s.region pa with
  | .hbm => true
  | .atlas => true
  | .unbacked => false
  | .aperture => match s.windowOf pa with | some w => w.fmt == 5 && (s.region (w.packedAt pa) == .hbm || s.region (w.packedAt pa) == .atlas) | none => false

/-- The byte at a physical address, at its home (R188, R189, R260). -/
def State.homeByte (s : State) (pa : Nat) : Byte :=
  match s.region pa with
  | .hbm => s.mem.read pa
  | .atlas => s.mem.read pa
  | .unbacked => 0
  | .aperture =>
    match s.windowOf pa with
    | some w =>
      if w.fmt = 5 then
        let g := leNat (s.mem.readList (w.packedAt pa) 3)
        BitVec.ofNat 8 (g / 2 ^ (6 * ((pa - w.lo) % 4)) % 64)
      else 0
    | none => 0

def State.homeBytes (s : State) (pa n : Nat) : List Byte := (List.range n).map (fun k => s.homeByte (pa + k))

/-- A little-endian number of n bytes at its home. -/
def State.homeNat (s : State) (pa n : Nat) : Nat := leNat (s.homeBytes pa n)

/-- A 256-byte line at its home. -/
def State.homeLine (s : State) (line : Nat) : LineData := BitVec.ofNat 2048 (leNat (s.homeBytes line 256))

/-- The sequence tag of a line (R253). -/
def State.tagOf (s : State) (line : Nat) : BitVec 32 := s.tags.get 0 line

def State.setTag (line : Nat) (t : BitVec 32) (s : State) : State := { s with tags := s.tags.set line t }

/-- One byte stored at its home; a byte of an L6 window replaces the code of its packed group (R190). -/
def State.storeByte (pa : Nat) (b : Byte) (s : State) : State :=
  let s := { s with memPoison := s.memPoison.filter (· ≠ pa) }
  match s.region pa, s.windowOf pa with
  | .aperture, some w =>
    let at3 := w.packedAt pa
    let sh := 6 * ((pa - w.lo) % 4)
    let g := leNat (s.mem.readList at3 3)
    let g' := g - g / 2 ^ sh % 64 * 2 ^ sh + b.toNat % 64 * 2 ^ sh
    { s with mem := s.mem.writeList at3 (leBytes 3 g') }
  | _, _ => { s with mem := s.mem.write pa b }

/-- The bytes of a line marked by a mask, stored at their home. -/
def State.storeLine (line : Nat) (mask : LineMask) (data : LineData) (s : State) : State :=
  (List.range 256).foldl (fun s k => if mask.getLsbD k then s.storeByte (line + k) (BitVec.ofNat 8 (getBytes data k 1)) else s) s

/-- The page record of a physical page (R276). -/
def State.page (s : State) (pa : Nat) : PageRec := (s.sheet (paSheet pa)).pages.get PageRec.init (pa / 65536)

def State.setPage (pa : Nat) (r : PageRec) (s : State) : State :=
  s.mapSheet (paSheet pa) (fun h => { h with pages := h.pages.set (pa / 65536) r })

/-- Drops the replicas of a page in every sheet of a mask (R276). -/
def State.dropReplicas (pa : Nat) (mask : BitVec 32) (s : State) : State :=
  (List.range 32).foldl (fun s r => if mask.getLsbD r then
    s.mapSheet r (fun h => { h with replicas := h.replicas.filter (fun p => p.1 / 65536 ≠ pa / 65536) }) else s) s

/-- A write, write-back or atomic performed at a home slice of the page (R276). -/
def State.pageWritten (pa : Nat) (s : State) : State :=
  if s.region pa = .hbm then
    let r := s.page pa
    if r.repl then (s.dropReplicas pa r.mask).setPage pa { r with repl := false, hold := true, wseen := true, mask := 0 }
    else s.setPage pa { r with wseen := true }
  else s

/-- A remote read: an LLC fill that a sheet of the module requests of another sheet's page (R276). -/
def State.remoteRead (sheet line : Nat) (s : State) : State :=
  if s.region line = .hbm then
    let r := s.page line
    let rthr := (s.sheet (paSheet line)).repctl.toNat % 256
    let r := { r with rr := min 255 (r.rr + 1) }
    let r := if !r.repl && decide (rthr ≠ 0 ∧ rthr ≤ r.rr) && !r.wseen && !r.hold then { r with repl := true } else r
    if r.repl then
      ((s.setPage line { r with mask := r.mask ||| (1 <<< sheet) })).mapSheet sheet
        (fun h => { h with replicas := h.replicas.set line (s.homeLine line, s.tagOf line, (s.windowOf line).map (fun w => w.tagOf line)) })
    else s.setPage line r
  else s

/-- The window tag of a line as a sheet reads it: that of its replica, or what the home's window gives (R188). -/
def State.lineTag (s : State) (sheet line : Nat) : Option WinTag :=
  match (if paSheet line ≠ sheet then (s.sheet sheet).replicas.get? line else none) with
  | some r => r.2.2
  | none => (s.windowOf line).map (fun w => w.tagOf line)

/-- Reads a line for a sheet: from a replica in its own LLC, or at the home, where a window tags the line (R188, R267, R276). -/
def State.readLine (sheet line : Nat) (s : State) : LineData × State :=
  match (if paSheet line ≠ sheet then (s.sheet sheet).replicas.get? line else none) with
  | some (d, _) => (d, s)
  | none =>
    let d := s.homeLine line
    let s := match s.windowOf line with
      | some w => s.mapSheet (paSheet line) (fun h => { h with llcTags := h.llcTags.set line (w.tagOf line) })
      | none => s
    (d, if paSheet line ≠ sheet then s.remoteRead sheet line else s)

/-- Reads a line for a sheet at its home, past the sheet's own replicas: an LLC fill of another sheet's line like any other (R276, R307, R313, log 156). -/
def State.readHome (sheet line : Nat) (s : State) : LineData × State := (s.homeLine line, if paSheet line ≠ sheet then s.remoteRead sheet line else s)

/-- Counts an access to an unbacked offset (R260). -/
def State.countUnbacked (pa : Nat) (s : State) : State :=
  if s.region pa = .unbacked ∧ paModule pa = 0 ∧ !paCfg pa then s.mapSheet (paSheet pa) (fun h => { h with unbacked := h.unbacked + 1 }) else s

/-- What a read by a sheet leaves at the home of an address, beside its data: the unbacked counter, the page record and its replica (R260, R276). -/
def State.readTouch (sheet pa : Nat) (s : State) : State := ((s.countUnbacked pa).readLine sheet (pa / 256 * 256)).2

/-- Whether a page is moving, so that its homes NACK every request (R278). -/
def State.moving (s : State) (pa : Nat) : Bool := (s.sheet (paSheet pa)).moves.any (fun m => m.1 / 65536 == pa / 65536)

/-! ## The event ring -/

/-- The number of records of a sheet's ring (R363). -/
def Sheet.ringSize (h : Sheet) : Nat := 128 * 2 ^ (h.evbase.toNat % 16)

def Sheet.ringFull (h : Sheet) : Bool := (h.evhead - h.evtail).toNat == h.ringSize

/-- The 32 bytes of a record (R363). -/
def EventRec.bytes (e : EventRec) (no : BitVec 32) : List Byte :=
  leBytes 1 e.cause ++ leBytes 1 e.flags ++ leBytes 2 0 ++ leBytes 4 e.source.toNat ++ leBytes 8 e.obj.toNat ++ leBytes 8 e.epc.toNat ++
    leBytes 4 no.toNat ++ leBytes 4 e.cycle

/-- The address of the slot that a sheet's next record takes. -/
def Sheet.slotAt (h : Sheet) : Nat := bitsOf h.evbase.toNat 51 12 * 4096 + 32 * (h.evhead.toNat % h.ringSize)

/-- Writes a record into a ring that has room. It is a write at the home of its line: dropped where that is unbacked, and counted in the line's tag and
its page's record (R253, R260, R276). -/
def State.writeRecord (sheet : Nat) (e : EventRec) (s : State) : State :=
  let h := s.sheet sheet
  let line := h.slotAt / 256 * 256
  let s :=
    if s.backed line then
      ((s.storeLine line (lineMask (h.slotAt % 256) 32) (BitVec.ofNat 2048 (leNat (e.bytes h.recordNo) * 2 ^ (8 * (h.slotAt % 256))))).setTag line
        (s.tagOf line + 1)).pageWritten line
    else s.countUnbacked line
  s.mapSheet sheet (fun h => { h with evhead := h.evhead + 1, recordNo := h.recordNo + 1 })

/-- A record cannot be written now: the ring is full, its page moves (R278), or an earlier event waits. -/
def State.ringBlocked (s : State) (sheet : Nat) : Bool :=
  let h := s.sheet sheet
  h.ringFull || s.moving h.slotAt || !h.evWait.isEmpty

/-- The flags of an event record (R363). -/
def recFlags (side hint post frozen held : Bool) : Nat :=
  (if side then 1 else 0) + (if hint then 2 else 0) + (if post then 4 else 0) + (if frozen then 8 else 0) + (if held then 16 else 0)

/-- An event: its record is written, waits for a free slot, or is dropped and counted for causes 0x12 and 0x16 at a full ring (R363). -/
def State.logEvent (sheet : Nat) (e : EventRec) (s : State) : State :=
  if (s.sheet sheet).ringFull ∧ (e.cause = 0x12 ∨ e.cause = 0x16) then s.mapSheet sheet (fun h => { h with drops := h.drops + 1 })
  else if s.ringBlocked sheet then s.mapSheet sheet (fun h => { h with evWait := h.evWait ++ [e] })
  else s.writeRecord sheet e

/-! ## Plates and writes -/

/-- Abandons the recording of a thread: TSTAT.PLATE becomes 10, PSTAT keeps the reason, and a record of cause 0x12 is written (R378, R386). -/
def State.abandonRec (th code : Nat) (s : State) : State :=
  match (s.thread th).recd with
  | none => s
  | some _ =>
    let t := s.thread th
    let sh := sheetOfThread th
    let it := s.item t.itemSheet t.item
    let key := (it.entryC, it.entryA, it.legend)
    let s := s.setThread th { t with recd := none, plate := 2 }
    let s := s.mapSheet sh (fun h => { h with
      plates := h.plates.filter (fun p => !(p.st == 1 && p.owner == th)),
      plateTypes := h.plateTypes.set key { h.plateTypes.get { reason := 0, norec := false } key with reason := code } })
    s.logEvent sh { cause := 0x12, flags := recFlags true false (t.post) false false, source := addrOf (.task th .c), obj := BitVec.ofNat 64 code, epc := 0,
                    cycle := s.cycle.toNat % 2 ^ 32, freeze := none }

/-- A write reaches a physical page: plates made from that page, on every sheet, become invalid, and recordings from it are abandoned (R395, R396). -/
def State.invalidatePlates (pa : Nat) (s : State) : State :=
  let pg := pa / 65536
  let hit := fun (p : Plate) => p.page0 == pg || (p.page1 != 0 && p.page1 == pg)
  s.sheets.foldl (fun s e =>
    let s := ((s.sheet e.1).plates.filter (fun p => hit p && p.st == 1)).foldl (fun s p => s.abandonRec p.owner 14) s
    if (s.sheet e.1).plates.any (fun p => hit p && p.st == 2) then
      s.mapSheet e.1 (fun h =>
        let ps := h.plates.map (fun p => if hit p && p.st == 2 then { p with st := 3 } else p)
        { h with plates := ps.filter (fun p => !(p.st == 3 && p.pinned == 0)) })
    else s) s

/-- An event of a context or a device (R363). The write of its record is a write of its page for plates too (R395). -/
def State.record (sheet : Nat) (e : EventRec) (s : State) : State :=
  let t := s.logEvent sheet e
  if (t.sheet sheet).evhead = (s.sheet sheet).evhead then t else t.invalidatePlates (s.sheet sheet).slotAt

/-- An event of an engine or block with no context: cause, flags, source, object. -/
def State.eventOf (s : State) (cause flags : Nat) (source obj : Word) : EventRec :=
  { cause := cause, flags := flags, source := source, obj := obj, epc := 0, cycle := s.cycle.toNat % 2 ^ 32, freeze := none }

def State.recordOf (sheet cause flags : Nat) (source obj : Word) (s : State) : State := s.record sheet (s.eventOf cause flags source obj)

/-- Everything that a write at a home does beside its bytes: tag, page mode, plates (R253, R276, R395). -/
def State.afterWrite (line : Nat) (s : State) : State :=
  ((s.setTag line (s.tagOf line + 1)).pageWritten line).invalidatePlates line

/-- Performs a write of masked bytes of a line at its home; an unbacked write is dropped (R253, R260). -/
def State.performWrite (line : Nat) (mask : LineMask) (data : LineData) (s : State) : State :=
  if s.backed line then (s.storeLine line mask data).afterWrite line else s.countUnbacked line

/-- Performs a write of consecutive bytes that lie within one line. -/
def State.performBytes (pa : Nat) (bs : List Byte) (s : State) : State :=
  s.performWrite (pa / 256 * 256) (lineMask (pa % 256) bs.length) (BitVec.ofNat 2048 (leNat bs * 2 ^ (8 * (pa % 256))))

/-- Performs a write of consecutive bytes line by line, one write for each line. -/
def State.performSpan (pa : Nat) (bs : List Byte) (n : Nat) (s : State) : State :=
  match n with
  | 0 => s
  | k + 1 =>
    if bs = [] then s
    else
      let m := 256 - pa % 256
      (s.performBytes pa (bs.take m)).performSpan (pa + m) (bs.drop m) k

/-- The tag that an acknowledgement carries after a write to a line: 0 where the write was dropped (R253). -/
def State.ackTag (s : State) (line : Nat) : BitVec 32 := if s.backed line then s.tagOf line else 0

/-- Whether a byte range is poisoned at its home (R369). -/
def State.poisoned (s : State) (pa n : Nat) : Bool := s.memPoison.any (fun a => decide (pa ≤ a ∧ a < pa + n))

/-! ## Routes

Directions are numbered as in edge ids (R404): 0 east, 1 north, 2 west, 3 south; as an input port, 4 is the cluster itself. -/

/-- The place of a cluster on the grid of the routers of the whole module (R66, R404, R409). -/
def gridX (cl : Nat) : Nat := cl / 256 % 8 * 16 + cl % 16
def gridY (cl : Nat) : Nat := cl / 2048 * 16 + cl / 16 % 16
def clusterAt (x y : Nat) : Nat := (y / 16 * 8 + x / 16) * 256 + y % 16 * 16 + x % 16

/-- The direction in which a route leaves a router: first along x, then along y; none where it has arrived (R409). -/
def direction (cl dst : Nat) : Option Nat :=
  if gridX cl < gridX dst then some 0
  else if gridX dst < gridX cl then some 2
  else if gridY cl < gridY dst then some 1
  else if gridY dst < gridY cl then some 3
  else none

/-- The next router in a direction. -/
def neighbour (cl d : Nat) : Nat :=
  match d with
  | 0 => clusterAt (gridX cl + 1) (gridY cl)
  | 1 => clusterAt (gridX cl) (gridY cl + 1)
  | 2 => clusterAt (gridX cl - 1) (gridY cl)
  | _ => clusterAt (gridX cl) (gridY cl - 1)

/-- The router outputs of a route, in order. -/
def outputs (cl dst fuel : Nat) : List (Nat × Nat) :=
  match fuel with
  | 0 => []
  | k + 1 => match direction cl dst with | some d => (cl, d) :: outputs (neighbour cl d) dst k | none => []

/-- The most hops that a route in a module has. -/
def maxHops : Nat := 256

/-- Whether class a is earlier than class b (R409). -/
def earlier (a b : Nat) : Bool := let d := (b + 65536 - a % 65536) % 65536; decide (1 ≤ d ∧ d < 32768)

/-- Whether a packet is late: CYCLE [33:18] has passed its class (R409). -/
def State.isLate (s : State) (c : Option Nat) : Bool := c.any (fun x => earlier x (bitsOf s.cycle.toNat 33 18))

/-- The cluster whose slice is the home of an address (R266). -/
def homeCluster (pa : Nat) : Nat := paSheet pa * 256 + homeSlice pa

/-- The router counts a late packet, and a record is due at each multiple of LATECTL.THR (R371). -/
def State.countLate (cl : Nat) (s : State) : State :=
  let n := (s.cluster cl).late + 1
  let ctl := (s.sheet (sheetOfCluster cl)).latectl.toNat
  let due := ctl / 2 ^ 63 = 1 ∧ ctl % 2 ^ 32 ≠ 0 ∧ n.toNat % (ctl % 2 ^ 32) = 0
  s.mapCluster cl (fun c => { c with late := n, lateDue := if due then c.lateDue ++ [n] else c.lateDue })

/-- A packet that needs no step of its own passes every router of its way, from a cluster to another: the late ones are counted there (R371, R409, log 149). -/
def State.pass (src dst : Nat) (c : Option Nat) (s : State) : State :=
  if s.isLate c then ((outputs src dst maxHops).map Prod.fst ++ [dst]).foldl (fun (s : State) r => s.countLate r) s else s

/-! ## Deadline classes (R409) -/

/-- Whether the first packet goes before the second: by class, a packet without one last, then by the lower input port. -/
def goesFirst (a b : Nat × Option Nat × Nat) : Bool :=
  match a.2.1, b.2.1 with
  | some x, some y => if earlier x y then true else if earlier y x then false else decide (a.2.2 < b.2.2)
  | some _, none => true
  | none, some _ => false
  | none, none => decide (a.2.2 < b.2.2)

/-- The packet that a router forwards next; among equals, the one that came first. -/
def bestPacket (l : List (Nat × Option Nat × Nat)) : Option (Nat × Option Nat × Nat) :=
  match l with
  | [] => none
  | p :: rest => match bestPacket rest with | none => some p | some q => if goesFirst q p then some q else some p

/-- A router forwards a packet that it holds: to the next router, or to the home slice beside it (R371, R409). -/
def State.forwardPacket (cl : Nat) (p : Nat × Option Nat × Nat) (s : State) : State :=
  let s := s.mapCluster cl (fun c => { c with packets := c.packets.filter (· ≠ p) })
  let s := if s.isLate p.2.1 then s.countLate cl else s
  match s.net.get? p.1 with
  | none => s
  | some k =>
    match direction cl (homeCluster k.pa) with
    | none => s
    | some d => s.mapCluster (neighbour cl d) (fun c => { c with packets := c.packets ++ [(p.1, p.2.1, (d + 2) % 4)] })

/-- A router forwards, before a packet that reaches it, those that it holds and that go first: of an earlier class, or of the same one by a lower input port, or
that came first (R409). -/
def State.yieldAt (cl : Nat) (x : Nat × Option Nat × Nat) (n : Nat) (s : State) : State :=
  match n with
  | 0 => s
  | k + 1 => match bestPacket (s.cluster cl).packets with
    | none => s
    | some p => if goesFirst x p then s else (s.forwardPacket cl p).yieldAt cl x k

/-- The routers of a route in order, each with the input port at which the route enters it. -/
def routers (src dst : Nat) : List (Nat × Nat) :=
  let out := outputs src dst maxHops
  (src, 4) :: out.map (fun o => (neighbour o.1 o.2, (o.2 + 2) % 4))

/-- The request or the response of a read crosses the routers, from a cluster to another, in one cycle: each of them forwards first what goes before it, and counts it if
it is late (R371, R408, R409, log 149). -/
def State.travel (src dst : Nat) (c : Option Nat) (s : State) : State :=
  let s := if s.clusters.all (fun k => k.2.packets.isEmpty) then s
    else (routers src dst).foldl (fun (s : State) r => s.yieldAt r.1 (0, c, r.2) (s.cluster r.1).packets.length) s
  s.pass src dst c

/-- The request of a read of a line by a cluster, and its response: to the home slice, or to the slice of its own sheet that holds a replica (R276, R409). -/
def State.readPass (cl pa : Nat) (c : Option Nat) (s : State) : State :=
  let line := pa / 256 * 256
  let own := paSheet pa ≠ sheetOfCluster cl ∧ ((s.sheet (sheetOfCluster cl)).replicas.get? line).isSome
  let dst := if own then sheetOfCluster cl * 256 + homeSlice pa else homeCluster pa
  (s.travel cl dst c).travel dst cl c

/-! ## Requests toward homes -/

/-- The deadline class of a DEADLINE value; 0 carries none (R409). -/
def classOf (deadline : Word) : Option Nat := if deadline = 0 then none else some (bitsOf deadline.toNat 33 18)

/-- The cluster at which a request enters the network, and the class that it carries: DEADLINE [33:18] of the task or job that sent it (R409). -/
def State.entryOf (s : State) (o : Origin) : Nat × Option Nat :=
  match o with
  | .side (.task th _) => (clusterOfThread th, classOf (s.thread th).deadline)
  | .side (.handler core k) => (clusterOfCore core, classOf (s.memberOf (.handler core k)).deadline)
  | .side (.surveyor sheet _) => (sheet * 256, none)
  | .core core => (clusterOfCore core, none)
  | .tracer cl job => (cl, (s.tracer? cl job).bind (fun j => classOf j.who.deadline))
  | .tlb cl => (cl, none)

/-- Sends a request toward its home: it enters the router of its cluster, by the input port of the cluster itself, 4 (R409). -/
def State.send (p : Packet) (s : State) : State :=
  let e := s.entryOf p.origin
  { s with net := s.net.set s.nextPkt p, nextPkt := s.nextPkt + 1 }.mapCluster e.1 (fun c => { c with packets := c.packets ++ [(s.nextPkt, e.2, 4)] })

/-- A request that a moving page refuses stands as such, and is retried at least 64 cycles later (R279). -/
def State.refused (p : Packet) (s : State) : State :=
  { s with net := s.net.set s.nextPkt { p with nacked := some (s.cycle.toNat + 64) }, nextPkt := s.nextPkt + 1 }

/-- Requests of an origin that are not yet acknowledged. -/
def State.outstanding (s : State) (o : Origin) : Bool := s.net.any (fun p => decide (p.2.origin = o))

/-- SO accesses of a side that are not yet acknowledged (R307). -/
def State.soOutstanding (s : State) (c : CtxId) : Bool := s.net.any (fun p => decide (p.2.origin = .side c) && p.2.so)

/-- A write request of masked bytes of a line. -/
def writePacket (o : Origin) (line va asid : Nat) (so : Bool) (mask : LineMask) (data : LineData) : Packet :=
  { origin := o, pa := line, va := va, asid := asid, so := so, req := .write mask data, dreg := none, acq := 0,
    performed := false, answered := 0, nacked := none, held := false, tag := 0, result := 0, after := [] }

/-- Enters an acknowledgement into a side's record of four lines (R255). -/
def ackInto (r : List (Nat × BitVec 32)) (line : Nat) (tag : BitVec 32) : List (Nat × BitVec 32) :=
  ((line, tag) :: r.filter (fun p => p.1 ≠ line)).take 4

end Sys2Proof.Machine
end

