-- ==== Sys2Proof/Machine/Xlat.lean ====
section
/-! DEFINITION. Translation: page tables (R271 to R273), the cluster TLB with its hit counts (R274, R275), worlds and security regions on
translated accesses (R273, R370, R439), and the dispatcher's reads through a sheet's tables. -/

namespace Sys2Proof.Machine

/-- The kinds of access that a translation serves (R273). -/
inductive Access where
  | load | store | fetch | writeBack
  deriving DecidableEq, Repr

/-- The result of a translation: a page, a cause, or a NACK of a table read by a moving page (R278). -/
inductive Xlat where
  | page (l : Leaf) (pa : Nat)
  | cause (c : Nat)
  | nack
  deriving DecidableEq, Repr

/-- The cause of an entry that is not valid (R273). -/
def Access.notMapped (a : Access) : Nat := match a with | .store => 7 | .writeBack => 7 | .load => 6 | .fetch => 6

/-- Lowest VA bit and index bits of a walk level, by the levels that remain below it (R272). -/
def levelShift (k : Nat) : Nat := match k with | 0 => 16 | 1 => 21 | 2 => 30 | 3 => 39 | _ => 48
def levelBits (k : Nat) : Nat := match k with | 0 => 5 | 4 => 8 | _ => 9

/-- The leaf that an entry maps, if it is well formed (R271, R272). -/
def leafOf (k e : Nat) : Option Leaf :=
  let size := 2 ^ levelShift k
  let pa := bitsOf e 51 8 * 256
  let kind := bitsOf e 61 60
  let imm := bitsOf e 59 59 == 1
  let w := bitsOf e 57 57 == 1
  if 2 < k ∨ e % 256 ≠ 0 ∨ pa % size ≠ 0 ∨ kind = 3 ∨ (imm && (w || kind == 1)) = true then none
  else some { pa := pa, size := size, kind := kind, imm := imm, r := bitsOf e 58 58 == 1, w := w, x := bitsOf e 56 56 == 1, sec := bitsOf e 55 55 == 1 }

/-- A pointer breaks a rule of R271 or R272; j levels remain below the table that it names. -/
def pointerBad (j e : Nat) : Bool := decide (bitsOf e 61 55 ≠ 0 ∨ e % 256 ≠ 0 ∨ (j ≠ 0 ∧ bitsOf e 11 8 ≠ 0))

/-- Walks the tables from a level; k levels remain below the present one (R272). Configuration space holds no table: only service cores and surveyor contexts
reach it (R435). -/
def State.walkFrom (s : State) (acc : Access) (table va k : Nat) : Xlat :=
  let at8 := table + 8 * (va / 2 ^ levelShift k % 2 ^ levelBits k)
  let e := s.homeNat at8 8
  if paCfg at8 then .cause 8
  else if s.moving at8 then .nack
  else if e < 2 ^ 63 then .cause acc.notMapped
  else if bitsOf e 62 62 = 1 then
    match leafOf k e with
    | some l => .page l (l.pa + va % l.size)
    | none => .cause 8
  else
    match k with
    | 0 => .cause 8
    | j + 1 => if pointerBad j e then .cause 8 else s.walkFrom acc (bitsOf e 51 8 * 256) va j

/-- A walk of a sheet's tables for an ASID (R273). -/
def State.pageWalk (s : State) (sheet asid va : Nat) (acc : Access) : Xlat :=
  let tab := (s.sheet sheet).asidtab.toNat
  let at8 := bitsOf tab 51 15 * 2 ^ 15 + 8 * asid
  let e := s.homeNat at8 8
  if 2 ^ 56 ≤ va ∨ tab % 2 = 0 then .cause acc.notMapped
  else if paCfg at8 then .cause 8
  else if s.moving at8 then .nack
  else if e < 2 ^ 63 ∨ bitsOf e 62 52 ≠ 0 ∨ bitsOf e 10 0 ≠ 0 then .cause acc.notMapped
  else s.walkFrom acc (bitsOf e 51 11 * 2 ^ 11) va 4

/-- The addresses of the entries that a walk reads from a level. -/
def State.walkSeen (s : State) (table va k : Nat) : List Nat :=
  let at8 := table + 8 * (va / 2 ^ levelShift k % 2 ^ levelBits k)
  let e := s.homeNat at8 8
  at8 :: (match k with
    | 0 => []
    | j + 1 => if paCfg at8 ∨ s.moving at8 ∨ e < 2 ^ 63 ∨ bitsOf e 62 62 = 1 ∨ pointerBad j e then [] else s.walkSeen (bitsOf e 51 8 * 256) va j)

/-- What the reads of a walk leave at the homes of the entries read: the unbacked counter. They never go through an LLC (R260, R272). -/
def State.walked (sheet asid va : Nat) (s : State) : State :=
  let tab := (s.sheet sheet).asidtab.toNat
  let at8 := bitsOf tab 51 15 * 2 ^ 15 + 8 * asid
  let e := s.homeNat at8 8
  if 2 ^ 56 ≤ va ∨ tab % 2 = 0 ∨ paCfg at8 ∨ s.moving at8 then s
  else
    let rest := if e < 2 ^ 63 ∨ bitsOf e 62 52 ≠ 0 ∨ bitsOf e 10 0 ≠ 0 then [] else s.walkSeen (bitsOf e 51 11 * 2 ^ 11) va 4
    (at8 :: rest.filter (fun a => !paCfg a && !s.moving a)).foldl (fun (s : State) a => s.countUnbacked a) s

/-- Whether a physical address lies in a secure region of its sheet's memory controller (R439). -/
def State.secureRegion (s : State) (pa : Nat) : Bool :=
  (s.sheet (paSheet pa)).regions.any (fun r =>
    let base := bitsOf r.2.1.toNat 51 16 * 65536
    r.2.2.2.toNat % 4 == 3 && decide (base ≤ pa ∧ pa < base + r.2.2.1.toNat * 65536))

/-- Permission and world of an access to a page; no translated access reaches configuration space (R185, R273, R370, R435, R439). -/
def State.leafCause (s : State) (acc : Access) (secure : Bool) (l : Leaf) (pa : Nat) : Option Nat :=
  let ok := match acc with | .load => l.r | .store => l.w | .fetch => l.x | .writeBack => true
  if !ok || paCfg pa then some 8 else if !secure && (l.sec || s.secureRegion pa) then some 9 else none

def State.checkLeaf (s : State) (acc : Access) (secure : Bool) (x : Xlat) : Xlat :=
  match x with
  | .page l pa => match s.leafCause acc secure l pa with | some c => .cause c | none => .page l pa
  | y => y

def TlbEntry.covers (e : TlbEntry) (asid va : Nat) : Bool := e.asid == asid && decide (e.va ≤ va ∧ va < e.va + e.leaf.size)

/-- The operation code that a request of a TLB carries: the saturating add of a hit count (R275). -/
def hcAdd : Nat := 16

/-- Spills the hit count of an entry to the shadow table of its cluster's sheet: an atomic add at its home, like any atomic (R275). -/
def State.spillHc (cl : Nat) (e : TlbEntry) (s : State) : State :=
  let sh := (s.sheet (sheetOfCluster cl)).shadow.toNat
  if sh % 2 = 0 ∨ paModule e.leaf.pa ≠ 0 then s
  else
    let at4 := bitsOf sh 51 27 * 2 ^ 27 + 4 * bitsOf e.leaf.pa 40 16
    s.send { origin := .tlb cl, pa := at4 / 256 * 256, va := at4 / 256, asid := 0, so := false, req := .atomic hcAdd 32 (at4 % 256) (BitVec.ofNat 64 e.hc) 0,
             dreg := none, acq := 0, performed := false, answered := 0, nacked := none, held := false, tag := 0, result := 0, after := [] }

/-- Enters a page into a cluster TLB; the least recently used entry of a full TLB leaves and spills (R274, R275). -/
def State.tlbFill (cl asid va : Nat) (l : Leaf) (s : State) : State :=
  let old := (s.cluster cl).tlb
  let s := if 2048 ≤ old.length then old.getLast?.elim s (fun e => s.spillHc cl e) else s
  s.mapCluster cl (fun c => { c with tlb := { asid := asid, va := va / l.size * l.size, leaf := l, hc := 1 } :: old.take 2047 })

/-- A translation at a cluster TLB: a hit counts, spills a count of 0xFFFF, and becomes the most recent entry; a miss walks the tables and fills (R273 to R275). -/
def State.translate (cl asid va : Nat) (acc : Access) (secure : Bool) (s : State) : Xlat × State :=
  match (s.cluster cl).tlb.find? (fun e => e.covers asid va) with
  | some e =>
    let n := e.hc + 1
    let s := if 0xFFFF ≤ n then s.spillHc cl { e with hc := n } else s
    let e' := { e with hc := if 0xFFFF ≤ n then 0 else n }
    let s := s.mapCluster cl (fun c => { c with tlb := e' :: c.tlb.filter (fun x => !(x.covers asid va)) })
    (s.checkLeaf acc secure (.page e.leaf (e.leaf.pa + va % e.leaf.size)), s)
  | none =>
    let s' := s.walked (sheetOfCluster cl) asid va
    match s.pageWalk (sheetOfCluster cl) asid va acc with
    | .page l pa => let s' := s'.tlbFill cl asid va l; (s'.checkLeaf acc secure (.page l pa), s')
    | x => (x, s')

/-- The kind of the page that a cluster's translation would give, without a translation taking place. -/
def State.peekKind (s : State) (cl asid va : Nat) : Option Nat :=
  match (s.cluster cl).tlb.find? (fun e => e.covers asid va) with
  | some e => some e.leaf.kind
  | none => match s.pageWalk (sheetOfCluster cl) asid va .load with | .page l _ => some l.kind | _ => none

/-- The reads of n bytes from an address, in pieces that stay within a line. -/
def spanReads (va n : Nat) (fuel : Nat) : List (Nat × Nat) :=
  match fuel with
  | 0 => []
  | k + 1 => if n = 0 then [] else let m := min n (256 - va % 256); (va % 2 ^ 64, m) :: spanReads (va + m) (n - m) k

/-- A read of bytes within one line through a sheet's tables, at their home, as the dispatcher and the Compass read: the bytes, a cause, or none where a
page moves and the read is retried (R278, R279, R340, R344). -/
def State.readPiece (sheet asid va n : Nat) (secure : Bool) (s : State) : Except (Option Nat) (List Byte) × State :=
  let s' := s.walked sheet asid va
  match s.checkLeaf .load secure (s.pageWalk sheet asid va .load) with
  | .cause c => (.error (some c), s')
  | .nack => (.error none, s')
  | .page _ pa => if s.moving pa then (.error none, s') else (.ok (s.homeBytes pa n), s'.readTouch sheet pa)

/-- Reads pieces in order, up to the first that fails. -/
def State.readPieces (sheet asid : Nat) (secure : Bool) (l : List (Nat × Nat)) (s : State) : Except (Option Nat) (List Byte) × State :=
  match l with
  | [] => (.ok [], s)
  | (va, n) :: rest =>
    match s.readPiece sheet asid va n secure with
    | (.error e, s) => (.error e, s)
    | (.ok bs, s) => match s.readPieces sheet asid secure rest with | (.error e, s) => (.error e, s) | (.ok r, s) => (.ok (bs ++ r), s)

/-- Reads n bytes of an ASID through a sheet's tables, at their homes. -/
def State.readVa (sheet asid va n : Nat) (secure : Bool) (s : State) : Except (Option Nat) (List Byte) × State :=
  s.readPieces sheet asid secure (spanReads va n (n / 256 + 2))

/-- The physical address of a VA as a sheet's tables give it for reads. -/
def State.vaToPa (s : State) (sheet asid va : Nat) : Option Nat :=
  match s.pageWalk sheet asid va .load with | .page _ pa => some pa | _ => none

end Sys2Proof.Machine
end

