-- ==== Sys2Proof/Machine/Finish.lean ====
section
/-! DEFINITION. Legends (R333, R334), dependence counters and gates (R342), the final states of items (R345), transaction aborts (R422), the end of a
launch (R332), and the freezing of a core (R368). -/

namespace Sys2Proof.Machine

/-! ## Legends -/

structure Level where
  domain : Nat
  scope : Nat
  place : Nat
  follow : Bool
  extent : Nat
  deriving DecidableEq, Repr

def levelAt (lg : List Byte) (l : Nat) : Level :=
  { domain := leAt lg (64 + 8 * l) 1, scope := leAt lg (65 + 8 * l) 1, place := leAt lg (66 + 8 * l) 1,
    follow := leAt lg (67 + 8 * l) 1 % 2 == 1, extent := leAt lg (68 + 8 * l) 2 }

def legendLevels (lg : List Byte) : List Level := (List.range (leAt lg 0 1)).map (levelAt lg)

def State.legendOf (s : State) (it : Item) : List Byte := ((s.launch it.launch).legends.getD (it.legend % 64) [])

/-- The memory scope of a team's members: the scope of the last level that is not a handler level (R336). -/
def State.scopeOf (s : State) (it : Item) : Nat :=
  (((legendLevels (s.legendOf it)).filter (fun l => l.domain ≠ 6)).getLast?.map Level.scope).getD 0

/-- The stage of an item's legend (R346). -/
def State.stageOf (s : State) (it : Item) : Nat := leAt (s.legendOf it) 1 1

/-- Whether an item runs in follower mode (R72). -/
def State.follows (s : State) (it : Item) : Bool := it.follow || (legendLevels (s.legendOf it)).any (fun l => l.follow)

/-! ## Counters and final states -/

/-- Items gated on a counter that stands at 0 enter the ready pool (R342). -/
def State.gateRelease (sheet launch idx : Nat) (s : State) : State :=
  if ((s.sheet sheet).counters.get (0, false) (launch, idx)).1 = 0 then
    s.mapSheet sheet (fun h => { h with items := h.items.map (fun p =>
      if p.2.launch = launch ∧ p.2.gate = idx ∧ p.2.st = .held then (p.1, { p.2 with st := .ready }) else p) })
  else s

/-- Adds to a counter, with the clamps of R354 (R342). -/
def State.addCounter (sheet launch idx : Nat) (d : Int) (s : State) : State :=
  let c := (s.sheet sheet).counters.get (0, false) (launch, idx)
  let v : Int := c.1 + d
  let c' : Nat × Bool := if v < 0 then (0, true) else if 2 ^ 31 - 1 < v then (2 ^ 31 - 1, true) else (v.toNat, c.2)
  (s.mapSheet sheet (fun h => { h with counters := h.counters.set (launch, idx) c' })).gateRelease sheet launch idx

/-- The id of a layer transaction (R424). -/
def lxId (home gen idx : Nat) : Nat := home * 2 ^ 25 + gen * 2 ^ 16 + idx

def Lx.none : Lx :=
  { live := false, gen := 0, desc := [], descVa := 0, st := 0, why := 0, tiles := 0, acks := 0, ends := [], seals := [], launch := 0 }

def State.lx (s : State) (home idx : Nat) : Lx := (s.sheet home).lxs.get Lx.none idx
/-- The home of a transaction id. -/
def lxHome (id : Nat) : Nat := id / 2 ^ 25 % 32

/-- The transaction of an id, while the id is not stale (R424). -/
def State.lxOf (s : State) (id : Nat) : Option Lx := let t := s.lx (lxHome id) (id % 4096); if t.live ∧ t.gen = id / 2 ^ 16 % 512 then some t else none

def State.setLx (home idx : Nat) (t : Lx) (s : State) : State := s.mapSheet home (fun h => { h with lxs := h.lxs.set idx t })

def Submission.ofVa (va : Word) (launch : Nat) : Submission :=
  { words := [], itemVa := va, a0 := none, a1 := none, launch := launch, system := false, fromTask := false, pin := none, svitem := false,
    notify := none, tile := none, combine := none }

def State.submit (sheet : Nat) (b : Submission) (s : State) : State := s.mapSheet sheet (fun h => { h with intakeQ := h.intakeQ ++ [b] })

/-- The cause that intake reports for a translation finding: 0x08 for a permission finding, otherwise 0x06 (R340). -/
def snapCause (c : Nat) : Nat := if c = 8 ∨ c = 9 then 8 else 6

/-- A sequence of bytes as 64-bit words. -/
def wordsOf (bs : List Byte) (n : Nat) : List Word := (List.range n).map (fun k => BitVec.ofNat 64 (leAt bs (8 * k) 8))

/-- A submission as an item that holds the given words. -/
def Submission.item (b : Submission) (words : List Word) (order : Nat) : Item :=
  let words := match b.a0 with | some v => words.set 8 v | none => words
  let words := match b.a1 with | some v => words.set 9 v | none => words
  { Item.none with words := words, launch := b.launch, st := .intake, order := order, system := b.system, pin := b.pin, fromTask := b.fromTask,
                   notify := b.notify, tile := b.tile, combine := b.combine }

/-- The snapshot of an item's words: those of the submission, or read from its VA (R340). The error is the finding, or none where a page moves. -/
def State.itemWords (sheet : Nat) (b : Submission) (s : State) : Except (Option Nat) (List Word) × State :=
  if b.words ≠ [] then (.ok b.words, s)
  else
    let l := s.launch b.launch
    match s.readVa sheet l.asid b.itemVa.toNat 128 l.secure with
    | (.ok bs, s) => (.ok (wordsOf bs 16), s)
    | (.error c, s) => (.error (c.map snapCause), s)

/-- A transaction aborts: it is ABORTED, and WHY is recorded (R422). -/
def State.lxAbort (home idx why : Nat) (s : State) : State :=
  let t := s.lx home idx
  if t.live && (t.st == 1 || t.st == 2) then s.setLx home idx { t with st := 4, why := why } else s

/-- What follows ABORTED: the replay item is spawned at the home and the transaction is CLOSED, or it is FAILED with a record of cause 0x19 (R422). -/
def State.lxResolve (home idx : Nat) (s : State) : Out :=
  let t := s.lx home idx
  let replay := leAt t.desc 0x28 8
  let id := lxId home t.gen idx
  if !t.live || t.st != 4 then .fault .notEnabled
  else if leAt t.desc 0x37 1 < 3 ∧ replay ≠ 0 then
    .next ((s.setLx home idx { t with st := 6 }).submit home { Submission.ofVa (BitVec.ofNat 64 replay) t.launch with a0 := some (BitVec.ofNat 64 id) })
  else if s.ringBlocked home then .fault .notEnabled
  else .next ((s.setLx home idx { t with st := 7 }).recordOf home 0x19 0 (BitVec.ofNat 64 (home * 2 ^ 17)) (BitVec.ofNat 64 id))

/-- Whether a launch has work that has not reached a final state, a replay item that is still to be spawned included (R332, R422). -/
def State.launchBusy (s : State) (l : Nat) : Bool :=
  s.sheets.any (fun h => h.2.items.any (fun p => decide (p.2.launch = l ∧ p.2.st ≠ .final)) || h.2.intakeQ.any (fun b => decide (b.launch = l)) ||
    h.2.lxs.any (fun x => decide (x.2.launch = l ∧ x.2.live = true ∧ x.2.st = 4)))

/-- The launch ends: its counters, phasers and transactions are freed, its rectangle is released, and its port raises MSI-X vector 2 (R332, R434). Memory, format windows and
plates stay, so that a later launch may use code and plates that nobody has written since (R50). -/
def State.endLaunch (l : Nat) (s : State) : State :=
  let k := s.launch l
  let free := fun (m : Map Nat Phaser) => m.map (fun p => if p.2.launch = l ∧ p.2.live then (p.1, { p.2 with live := false, gen := (p.2.gen + 1) % 512 }) else p)
  let lx := fun (m : Map Nat Lx) => m.map (fun p => if p.2.launch = l ∧ p.2.live then (p.1, { p.2 with live := false, gen := (p.2.gen + 1) % 512 }) else p)
  let clear := fun (h : Sheet) => { h with counters := h.counters.filter (fun c => c.1.1 ≠ l), phasers := free h.phasers, lxs := lx h.lxs, routing := h.routing.del l }
  let s := { s with launches := s.launches.set l { k with live := false }, treePhasers := free s.treePhasers, sheets := s.sheets.map (fun (h : Nat × Sheet) => (h.1, clear h.2)) }
  s.mapPort k.port (fun p => { p with msix := p.msix ++ [2] })

def State.launchEndCheck (l : Nat) (s : State) : State :=
  if (s.launch l).live && !s.launchBusy l then s.endLaunch l else s

/-- The service core writes the final-status record of a host submission and raises MSI-X vector 1 (R434). -/
def State.notifyHost (it : Item) (status : Nat) (s : State) : State :=
  match it.notify with
  | none => s
  | some (port, addr, tag) =>
    let s := if addr = 0 then s else
      { s with hostMem := s.hostMem.writeList addr (leBytes 4 status ++ leBytes 4 tag ++ leBytes 8 s.cycle.toNat) }
    s.mapPort port (fun p => { p with msix := p.msix ++ [1] })

/-- An item reaches its final state (R342, R345, R348, R422, R434). -/
def State.finalItem (sheet i status : Nat) (s : State) : State :=
  let it := s.item sheet i
  if it.st = .final then s
  else
    let s := s.mapItem sheet i (fun t => { t with st := .final, status := status })
    let s := s.mapSheet sheet (fun h => { h with reservations := h.reservations.filter (fun r => r.item ≠ i) })
    let s := if it.done = 0 ∨ 16384 ≤ it.done then s else s.addCounter sheet it.launch it.done (-1)
    let s := s.notifyHost it status
    let s := match it.tile with
      | some id => if it.acked || (s.lxOf id).isNone then s else s.lxAbort (lxHome id) (id % 4096) 2
      | none => s
    s.launchEndCheck it.launch

/-- A submission that no dispatcher has taken in yet fails with a cause: its final status, its done counter, its host's notice and SVITEM are those of an item that
fails (R345, R367, R368, R434). The words of one given by its VA are read as intake reads them; where they cannot be read it names no done counter. -/
def State.failQueued (sheet cause : Nat) (b : Submission) (s : State) : State :=
  let i := (s.sheet sheet).nextItem
  let r := s.itemWords sheet b
  let it := b.item (match r.1 with | .ok ws => ws | .error _ => []) i
  let s := (r.2.mapSheet sheet (fun h => { h with nextItem := i + 1, items := h.items.set i { it with failCause := some cause } })).finalItem sheet i (512 + cause)
  if b.svitem then s.mapSheet sheet (fun h => { h with svitem := BitVec.ofNat 64 cause }) else s

/-! ## Freezing -/

/-- A saturating 16-bit lifetime counter (R441). -/
def sat16 (x : BitVec 16) : BitVec 16 := if x = 0xFFFF then x else x + 1
def sat32 (x : BitVec 32) : BitVec 32 := if x = 0xFFFFFFFF then x else x + 1

/-- REPCNT of a REP group that is interrupted: VALID with the repetitions completed; a count of 0 leaves it at 0 (R87, R89). -/
def Ctx.progress (k : Ctx) : Word :=
  match k.hints.rep with | some r => if r.count = 0 then 0 else BitVec.ofNat 64 (256 + k.repDone % 256) | none => k.repcnt

/-- Leaves the group in progress and goes to an address. -/
def Ctx.goTo (k : Ctx) (pc : Word) : Ctx :=
  { k with pc := pc, grp := pc, buf := [], hints := Hints.none, repDone := 0, wait := none, stage := 0, begun := false, keep := 0, kept := [] }

/-- The wait for the service of a page fault, which a stop does not end (R124). -/
def Ctx.pageWait (k : Ctx) : Option Wait := k.wait.filter (fun w => match w.cond with | .page _ => true | _ => false)

/-- A context is brought to a boundary of its group, with the progress of a REP group recorded (R89, R97): to the start of the group where its word has had no
effect yet; a word that has begun its effect stays in its wait. -/
def Ctx.toBoundary (k : Ctx) : Ctx :=
  if k.stage = 0 ∧ k.keep = 0 then { k.goTo k.grp with wait := k.pageWait, repcnt := k.progress } else { k with repcnt := k.progress }

/-- EPCA or EPCC of a side, or a handler's own EPCC (R54, R62, R67). -/
def State.putEpc (c : CtxId) (epc : Word) (s : State) : State :=
  match c with
  | .task th .a => s.mapThread th (fun t => { t with epca := epc &&& ~~~3 })
  | .task th .c => s.mapThread th (fun t => { t with epcc := epc &&& ~~~3 })
  | .handler core k => (match s.handlers.get? (core, k) with
    | some h => { s with handlers := s.handlers.set (core, k) { h with own := h.own.set 0x00B (epc &&& ~~~3) } }
    | none => s)
  | .surveyor .. => s

/-- A running context of a core that freezes stops at a boundary of its group; R89 records where a REP group stood (R97, R368). -/
def State.stopAtBoundary (c : CtxId) (s : State) : State :=
  let k := s.ctxOf c
  if k.run ≠ .running then s else (if k.hints.rep.isSome then s.putEpc c k.grp else s).mapCtx c Ctx.toBoundary

/-- A side that is stopped where it stands for a cause, 0 for FREEZE: at the boundary of its group, with the progress of a REP group recorded (R89, R97), also while
a word waits that has had no effect; an instruction that has begun its effect and waits stays in its wait. -/
def State.freezeSide (th : Nat) (side : Side) (cause : Nat) (s : State) : State :=
  let c : CtxId := .task th side
  (s.putEpc c (s.ctxOf c).grp).mapCtx c (fun k => { k.toBoundary with run := .frozen, frozenCause := cause })

/-- The contexts of a core. -/
def State.ctxsOn (s : State) (core : Nat) : List CtxId := (s.ctxs.map Prod.fst).filter (fun c => c.core? == some core)

/-- Freezes a core: its contexts stop at a group boundary, and a record of cause 0x18 follows unless FREEZE caused it (R368). -/
def State.freezeCore (core : Nat) (rec18 : Bool) (s : State) : State :=
  let s := ((s.ctxsOn core).foldl (fun (s : State) c => s.stopAtBoundary c) s).mapCore core (fun k => { k with frozen := true })
  let s := { s with lifetime := { s.lifetime with freezes := sat16 s.lifetime.freezes } }
  if rec18 then s.recordOf (sheetOfCore core) 0x18 0 (addrOf (.handler core 0) &&& ~~~(0x3F : Word)) 0 else s

/-- An event that freezes a core: while its record waits for the ring, the freeze stays pending (R363, R368). -/
def State.freezeOn (core : Nat) (e : EventRec) (s : State) : State :=
  let sheet := sheetOfCore core
  if s.ringBlocked sheet then s.mapSheet sheet (fun h => { h with evWait := h.evWait ++ [{ e with freeze := some core }] })
  else (s.record sheet e).freezeCore core true

/-- Events that waited enter the ring, oldest first, and the freezes that waited with them take place (R363). -/
def State.drainRing (sheet n : Nat) (s : State) : State :=
  match n with
  | 0 => s
  | k + 1 =>
    match (s.sheet sheet).evWait with
    | [] => s
    | e :: rest =>
      if (s.sheet sheet).ringFull || s.moving (s.sheet sheet).slotAt then s
      else
        let s := (s.mapSheet sheet (fun h => { h with evWait := [] })).record sheet { e with freeze := none }
        let s := s.mapSheet sheet (fun h => { h with evWait := rest ++ h.evWait })
        (match e.freeze with | some core => s.freezeCore core true | none => s).drainRing sheet k

end Sys2Proof.Machine
end

