-- ==== Sys2Proof/Machine/Discard.lean ====
section
/-! DEFINITION. The end of a run: what is cleared when a task leaves its slot (R53, R246, R361), the discard of a run (R330, R348, R350, R361) and the
failing of an item (R345, R373). -/

namespace Sys2Proof.Machine

/-- Why a run is discarded: a thread-side fault with its cause, side and EPC, an overflow, or a page fault for which the member is
held (R361); none of them for a pre-emption or the discard of a team. -/
structure Why where
  fault : Option (Nat × Side × Word)
  ovf : Bool
  held : Option Hold
  deriving DecidableEq, Repr

def Why.plain : Why := { fault := none, ovf := false, held := none }

/-- A head flit, an item or a closing flit of a thread's route passes the routers of its way (R244, R409). -/
def State.flitPass (th : Nat) (dest : Word) (s : State) : State :=
  s.pass (clusterOfThread th) (threadOfAddr dest / 64) (classOf (s.thread th).deadline)

/-- The items that a route still carries and its closing flit pass the routers (R371). -/
def State.flushPass (c : CtxId) (r : Route) (s : State) : State :=
  match c with
  | .task th _ => (List.range (r.flight.length + 1)).foldl (fun (s : State) _ => s.flitPass th r.dest) s
  | _ => s

/-- Delivers what a send route still carries, and its close marker (R246). -/
def State.closeRoute (c : CtxId) (s : State) : State :=
  let r := (s.ctxOf c).route
  let s := s.mapCtx c (fun k => { k with route := Route.init })
  if !r.opn then s
  else
    let t := threadOfAddr r.dest
    let p := r.dest.toNat / 8 % 2
    let scope := match c.core? with
      | some a => if a = coreOfThread t then 1 else if clusterOfCore a = clusterOfThread t then 2 else if sheetOfCore a = sheetOfThread t then 3 else 4
      | none => 4
    (s.flushPass c r).mapThread t (fun t =>
      { t with ports := t.ports.modify p (fun q => { q with items := q.items ++ r.flight.map (fun i => (i.1, i.2, scope)), mark := true }) })

/-- Drops a recording without a report, as the discard of an engraving run does (R375). -/
def State.dropRec (th : Nat) (s : State) : State :=
  match (s.thread th).recd with
  | none => s
  | some _ =>
    (s.mapThread th (fun t => { t with recd := none })).mapSheet (sheetOfThread th)
      (fun h => { h with plates := h.plates.filter (fun p => !(p.st == 1 && p.owner == th)) })

/-- A print no longer uses its plate; a plate that has become invalid is freed (R387, R395). -/
def State.unpinPlate (th : Nat) (s : State) : State :=
  match (s.thread th).print with
  | none => s
  | some p => s.mapSheet (sheetOfThread th) (fun h =>
      { h with plates := (h.plates.map (fun q => if q.serial = p.serial then { q with pinned := q.pinned - 1 } else q)).filter (fun q => !(q.st == 3 && q.pinned == 0)) })

/-- The mark by which a granted entry of the walk queue waits for its thread's job (R149). -/
def grantMark (th : Nat) : Nat := 65536 + th

/-- What a run leaves behind goes: registers, queues and streams, speculative entries and the SO log, barrier arrivals, ports, routes, the recording,
and the tracer jobs that it issued with DLOCAL before commit (R53, R246, R263, R361). -/
def State.clearRun (th : Nat) (s : State) : State :=
  let core := coreOfThread th
  let post := (s.thread th).post
  let table := (s.thread th).jobs.map JobEntry.id
  let s := (s.closeRoute (.task th .a)).closeRoute (.task th .c)
  let s := (s.dropRec th).unpinPlate th
  let waits := (s.ctxOf (.task th .c)).wait.any (fun w => match w.cond with | .walkGrant => true | .mwalkgForm => true | _ => false)
  let s := if waits then s.mapCluster (clusterOfThread th) (fun c =>
      { c with walkWait := c.walkWait.filter (· ≠ th), walkQ := c.walkQ.filter (· ≠ grantMark th) }) else s
  let s := { s with ctxs := s.ctxs.map (fun (p : CtxId × Ctx) => if p.2.route.opn && threadOfAddr p.2.route.dest == th then
      (p.1, { p.2 with route := { p.2.route with opn := false, broken := true, flight := [] } }) else p) }
  let s := (s.setCtx (.task th .a) Ctx.init).setCtx (.task th .c) Ctx.init
  let mine := fun (o : Origin) => decide (o = .side (.task th .a) ∨ o = .side (.task th .c))
  let s := { s with net := (s.net.filter (fun (p : Nat × Packet) => !(mine p.2.origin && p.2.held))).map (fun (p : Nat × Packet) => if mine p.2.origin then (p.1, { p.2 with origin := .core core }) else p) }
  let s := s.mapCore core (fun k => { k with spec := k.spec.filter (fun e => e.slot ≠ th % 8) })
  if post then s
  else s.mapCluster (clusterOfThread th) (fun c =>
    let mine := (c.tracers.filter (fun p => decide (p.2.th = th ∧ p.2.walk = none) && table.contains p.1)).map Prod.fst
    { c with tracers := c.tracers.filter (fun p => !mine.contains p.1), tracerQ := c.tracerQ.filter (fun j => !mine.contains j),
             tracerWait := c.tracerWait.filter (fun k => k ≠ .task th .a && k ≠ .task th .c) })

/-- A member that keeps its slot for its next run. DESIGN CHOICE (log 140): TSTAT.LATE stands as its placement set it (R344); R65 leaves open whether a rerun
on a kept slot is measured against its deadline again. -/
def Thread.fresh (t : Thread) (it : Item) (st : MemberState) : Thread :=
  { Thread.init with st := st, item := t.item, itemSheet := t.itemSheet, launch := t.launch, rank := t.rank, member := t.member, n := t.n, q := t.q,
                     qcfg := t.qcfg, rerun := true, late := t.late, ovf := it.ovf.contains t.rank, prio := it.prio, deadline := t.deadline, follow := t.follow,
                     segment := t.segment }

/-- Frees a slot and its footprint (R58). -/
def State.freeSlot (th : Nat) (s : State) : State := s.setThread th Thread.init

/-- Takes a member off its slot. -/
def State.unplace (th : Nat) (s : State) : State :=
  let t := s.thread th
  ((s.clearRun th).freeSlot th).mapItem t.itemSheet t.item (fun i =>
    { i with members := i.members.map (fun m => if m.2.2 = th + 1 then (m.1, m.2.1, 0) else m) })

/-- The threads that hold members of an item. -/
def Item.threads (i : Item) : List Nat := (i.members.filter (fun m => m.2.2 ≠ 0)).map (fun m => m.2.2 - 1)

/-- An item fails: its members stop, and its final status holds the cause (R345, R348). -/
def State.failItem (sheet i cause : Nat) (s : State) : State :=
  (((s.item sheet i).threads.foldl (fun s th => s.unplace th) s).mapItem sheet i (fun t => { t with failCause := some cause })).finalItem sheet i (512 + cause)

/-- Some member of a team has committed (R348). -/
def State.teamCommitted (s : State) (it : Item) : Bool :=
  !it.ended.isEmpty || it.threads.any (fun x => decide ((s.thread x).st = .post ∨ (s.thread x).st = .ending))

/-- The threads whose runs end with a run of an item, and whether they keep their slots (R73, R348): the whole team in follower mode, the members of a GANG team
that have not committed, which keep their slots where another has, and otherwise the one member. -/
def State.discarded (s : State) (it : Item) (th : Nat) : List Nat × Bool :=
  if s.follows it then (it.threads, false)
  else if it.gang then
    (it.threads.filter (fun x => decide ((s.thread x).st = .pre ∨ (s.thread x).st = .placing ∨ x = th)), s.teamCommitted it)
  else ([th], false)

/-- The state of an item whose members stand as they do: placed, held for a member without a slot that waits for service, or ready (R348, R361, log 141). -/
def Item.settled (it : Item) : ItemState :=
  let out := (it.members.filter (fun m => m.2.2 == 0 && !it.ended.contains m.1)).map Prod.fst
  if it.st = .final then .final
  else if out.isEmpty then .placed
  else if it.holds.any (fun h => out.contains h.rank) then .service
  else .ready

/-- What an item keeps of the runs that end: of the run of rank r the reason, of the other ranks nothing (R350, R361). -/
def Item.noteDiscard (it : Item) (ranks : List Nat) (r : Nat) (w : Why) : Item :=
  { it with rerun := true, ovf := it.ovf.filter (fun x => !ranks.contains x) ++ (if w.ovf then [r] else []),
            faults := it.faults.filter (fun p => !ranks.contains p.1) ++ w.fault.toList.map (fun f => (r, f)),
            holds := it.holds.filter (fun h => !ranks.contains h.rank) ++ w.held.toList }

/-- A discard of a run (R73, R330, R348, R350, R361). -/
def State.discard (th : Nat) (w : Why) (s : State) : State :=
  let t := s.thread th
  let it := s.item t.itemSheet t.item
  if w.ovf && it.ovf.contains t.rank then s.failItem t.itemSheet t.item 0x0E
  else if w.fault.isSome && it.faults.get? t.rank == w.fault then s.failItem t.itemSheet t.item ((w.fault.map Prod.fst).getD 0)
  else
    let (mine, kept) := s.discarded it th
    let s := s.mapItem t.itemSheet t.item (fun i => i.noteDiscard (mine.map (fun x => (s.thread x).rank)) t.rank w)
    if kept then
      mine.foldl (fun s x =>
        let tx := s.thread x
        let i := s.item t.itemSheet t.item
        (s.clearRun x).setThread x (if x = th ∧ w.held.isSome then { tx.fresh i .service with held := w.held.map Hold.va } else tx.fresh i .placing)) s
    else
      (mine.foldl (fun s x => s.unplace x) s).mapItem t.itemSheet t.item (fun i =>
        let i := if s.follows it then { i with ended := [] } else i
        { i with st := i.settled })

/-- The holds of an item that a test selects are released (R361, R373): a member that waits on its slot reruns there (R348). -/
def State.releaseHolds (sheet i : Nat) (f : Hold → Bool) (s : State) : State :=
  let it := s.item sheet i
  if it.st = .final || !it.holds.any f then s
  else
    let ranks := (it.holds.filter f).map Hold.rank
    let s := (it.members.filter (fun m => ranks.contains m.1 && m.2.2 != 0)).foldl (fun (s : State) m =>
      s.mapThread (m.2.2 - 1) (fun t => if t.st = .service then { t with st := .placing, held := none } else t)) s
    s.mapItem sheet i (fun i => let i := { i with holds := i.holds.filter (fun h => !f h) }; { i with st := i.settled })

/-- The speculative entry of a thread is forced out: its run overflows (R264). -/
def State.overflow (th : Nat) (s : State) : State :=
  if (s.thread th).st = .pre then s.discard th { Why.plain with ovf := true } else s

/-! ## Walk rows and cancellation -/

/-- Bytes written to local memory; a write of a whole word clears its poison (R369). -/
def State.putLocal (core off : Nat) (bs : List Byte) (s : State) : State :=
  s.mapCore core (fun k => { k with mem := k.mem.writeList off bs,
                                    poison := k.poison.filter (fun w => !decide (off ≤ 8 * w ∧ 8 * w + 8 ≤ off + bs.length)) })

/-- A progress entry (R146). -/
def WalkRow.entry (r : WalkRow) : Nat := r.st % 4 * 2 ^ 30 + r.depth % 16 * 2 ^ 26 + r.unit % 2 ^ 24

/-- Writes the progress mirror of a row on every core of the job (R147, R153). -/
def State.mirror (j : WalkJob) (row : Nat) (s : State) : State :=
  match j.rows[row]? with
  | none => s
  | some r =>
    (j.threads.zip j.descs).foldl (fun (s : State) p => s.putLocal (coreOfThread p.1) (p.2.progress + 4 * row) (leBytes 4 r.entry)) s

/-- A job's status word (R18). -/
def WalkJob.status (j : WalkJob) : Word :=
  let b := fun (x : Bool) (k : Nat) => if x then 2 ^ k else 0
  let n := fun (st : Nat) => (j.rows.filter (fun r => r.st == st)).length
  BitVec.ofNat 64 (b j.susp 34 + b j.canc 33 + b j.sat 32 + n 2 * 2 ^ 16 + n 1)

/-- FAULTVA of R19: the node of the lowest-numbered faulted row. -/
def WalkJob.faultAddr (j : WalkJob) : Word :=
  match j.rows.find? (fun r => r.st == 2), j.descs.head? with
  | some r, some d => d.chart + BitVec.ofNat 64 (64 * r.unit)
  | _, _ => 0

/-- Completion in the table of a thread; it sets the wake bit (R118, R151). -/
def Thread.jobDone (t : Thread) (id : Nat) (status va : Word) : Thread :=
  if t.jobs.any (fun e => e.id == id) then
    { t with wake := true, jobs := t.jobs.map (fun e => if e.id = id then { e with complete := true, status := status, faultVa := va } else e) }
  else t

/-- The job is complete: its entries in the tables of its threads, its queue entry and its slices are free (R149, R151, R161). -/
def State.walkComplete (cl job : Nat) (s : State) : State :=
  match s.walk? cl job with
  | none => s
  | some j =>
    let s := j.threads.foldl (fun (s : State) th => s.mapThread th (fun t => t.jobDone job j.status j.faultAddr)) s
    s.mapCluster cl (fun c => { c with walks := c.walks.del job, walkQ := c.walkQ.filter (· ≠ job) })

/-- Cancels a walk job that is not draining (R161, R166): rows whose handler has not started become masked, except those that a step in progress has still to
process, which its end masks; that step ends as any other, with its entries written. A job that was suspended takes no further part of its step, so the entries of
the rows processed in it are written here (R147). DESIGN CHOICE (log 158): a gang row of which only some slices' handlers have started is not masked, and its other
handlers still start; R166 does not speak of such a row. -/
def State.walkCancel (cl job : Nat) (s : State) : State :=
  match s.walk? cl job with
  | none => s
  | some j =>
    if j.canc then s
    else match j.st with
      | .draining => s
      | .complete => s
      | st =>
        let left := if st = .stepping then (match j.step with | some (_, _, l) => l | none => []) else []
        let masks := (List.range j.rows.length).filter (fun k => match j.rows[k]? with | some r => r.st == 0 && r.hstart.isEmpty && !left.contains k | none => false)
        let rows := masks.foldl (fun (l : List WalkRow) k => l.modify k (fun r => { r with st := 3, leaf := false })) j.rows
        let done := if st = .suspended then (match j.step with | some (_, l, _) => l | none => []) else []
        let j := { j with rows := rows, drain := j.drain.filter (fun k => !masks.contains k), step := if st = .stepping then j.step else none, canc := true,
                          st := .draining }
        let s := (masks ++ done).foldl (fun (s : State) k => s.mirror j k) (s.setWalk cl job j)
        if st = .queued then s.walkComplete cl job else s

/-- The tracer jobs of an ASID end (R368). -/
def State.endTracers (asid : Nat) (s : State) : State :=
  { s with clusters := s.clusters.map (fun (c : Nat × Cluster) =>
      let gone := (c.2.tracers.filter (fun p => p.2.asid == asid)).map Prod.fst
      (c.1, { c.2 with tracers := c.2.tracers.filter (fun p => !gone.contains p.1), tracerQ := c.2.tracerQ.filter (fun j => !gone.contains j) })) }

/-- The whole launch fails, as R368 states: its items fail, those that wait for intake among them, its running tasks stop, its jobs are cancelled, and it ends. No
replay item of a transaction that aborts with it is spawned. -/
def State.failLaunch (l cause : Nat) (s : State) : State :=
  let asid := (s.launch l).asid
  let ids := s.sheets.flatMap (fun h => (h.2.items.filter (fun p => decide (p.2.launch = l ∧ p.2.st ≠ .final))).map (fun p => (h.1, p.1)))
  let jobs := s.clusters.flatMap (fun (c : Nat × Cluster) => (c.2.walks.filter (fun (w : Nat × WalkJob) => w.2.asid == asid)).map (fun w => (c.1, w.1)))
  let s := (jobs.foldl (fun (s : State) p => s.walkCancel p.1 p.2) s).endTracers asid
  let queued := s.sheets.flatMap (fun (h : Nat × Sheet) => (h.2.intakeQ.filter (fun b => decide (b.launch = l))).map (fun b => (h.1, b)))
  let s := { s with sheets := s.sheets.map (fun (h : Nat × Sheet) => (h.1, { h.2 with intakeQ := h.2.intakeQ.filter (fun b => b.launch ≠ l) })) }
  let s := queued.foldl (fun (s : State) p => s.failQueued p.1 cause p.2) s
  let s := ids.foldl (fun (s : State) p => s.failItem p.1 p.2 cause) s
  if (s.launch l).live then s.endLaunch l else s

end Sys2Proof.Machine
end

