-- ==== Sys2Proof/Machine/Regs.lean ====
section
/-! DEFINITION. The registers of the sheets and of the module: format windows (R185 to R187), security regions (R439), surveyor control registers (R270,
R346, R353, R363, R367, R397, R423), the loss of a sheet (R423), and configuration space (R435). -/

namespace Sys2Proof.Machine

/-! ## Plates and generations -/

/-- Abandons every recording that a generation change or a flush reaches, on the sheets of a list (R396). -/
def State.abandonAll (sheets : List Nat) (s : State) : State :=
  sheets.foldl (fun s h => ((s.sheet h).plates.filter (fun p => p.st == 1)).foldl (fun s p => s.abandonRec p.owner 14) s) s

/-- Every plate of a sheet becomes invalid; one that a print uses is freed afterwards (R395). -/
def State.flushPlates (sheet : Nat) (s : State) : State :=
  (s.abandonAll [sheet]).mapSheet sheet (fun h => { h with plates := (h.plates.filter (fun p => p.pinned ≠ 0)).map (fun p => { p with st := 3 }) })

def State.sheetIds (s : State) : List Nat := s.sheets.map Prod.fst

/-- WGEN increases, and every plate becomes invalid (R395, R396). -/
def State.bumpWgen (s : State) : State := s.sheetIds.foldl (fun s h => s.flushPlates h) { s with wgen := s.wgen + 1 }

/-- KGEN increases, and every plate becomes invalid (R395, R396). -/
def State.bumpKgen (s : State) : State := s.sheetIds.foldl (fun s h => s.flushPlates h) { s with kgen := s.kgen + 1 }

/-! ## Format windows -/

def State.window (s : State) (sheet w : Nat) : Window := (s.sheet sheet).windows.get Window.init w
def State.setWindow (sheet w : Nat) (k : Window) (s : State) : State := s.mapSheet sheet (fun h => { h with windows := h.windows.set w k })

/-- Whether a range lies in one sheet's memory between two offsets. -/
def inSheet (sheet pa len lo hi : Nat) : Bool :=
  decide (pa / 2 ^ 41 = 0 ∧ paSheet pa = sheet ∧ lo ≤ paOff pa ∧ paOff pa + len ≤ hi)

def overlaps (a n b m : Nat) : Bool := decide (a < b + m ∧ b < a + n)

/-- A range lies in a sheet's memory as R186 asks: in its HBM, or in the atlas store. -/
def inMemory (sheet pa len : Nat) : Bool := inSheet sheet pa len 0 0xC00000000 || inSheet sheet pa len 0xE00000000 0xE20000000

/-- The reason for which a window's configuration is refused, or 0 (R186). DESIGN CHOICE: a WSIZE of 0, and for FMT 5 a STORE that is no multiple of 64 KiB,
give reason 3 (log 35); the ranges that reason 4 names are those of windows that are enabled or being enabled, and of the window itself (log 157). -/
def State.windowWhy (s : State) (sheet w : Nat) (k : Window) : Nat :=
  let c := k.cfg.toNat
  let others := ((s.sheet sheet).windows.filter (fun p => p.1 ≠ w && (p.2.en || (p.2.changing && p.2.target)))).map Prod.snd
  let packed := k.bytes / 4 * 3
  let st := bitsOf k.store.toNat 51 0
  let scaleLen := if k.scl then (k.bytes + k.blk - 1) / max 1 k.blk else 0
  if ¬(3 ≤ k.fmt ∧ k.fmt ≤ 5) ∨ bitsOf c 62 24 ≠ 0 ∨ bitsOf c 19 17 ≠ 0 ∨ bitsOf c 15 11 ≠ 0 ∨ bitsOf k.base.toNat 63 52 ≠ 0 ∨
      bitsOf k.base.toNat 15 0 ≠ 0 ∨ bitsOf k.size.toNat 63 32 ≠ 0 ∨ bitsOf k.store.toNat 63 52 ≠ 0 ∨ bitsOf k.scale.toNat 63 52 ≠ 0 then 1
  else if (if k.scl then k.blk % 16 ≠ 0 ∨ k.blk < 16 ∨ 1024 < k.blk else k.blk ≠ 0) then 2
  else if k.bytes = 0 ∨
      !(if k.fmt = 5 then inSheet sheet k.lo k.bytes 0xC00000000 0xE00000000 && decide (st % 65536 = 0) &&
          inMemory sheet st packed
        else inMemory sheet k.lo k.bytes) ∨
      !(!k.scl || inMemory sheet (bitsOf k.scale.toNat 51 0) scaleLen) then 3
  else if others.any (fun o => overlaps o.lo o.bytes k.lo k.bytes || (k.fmt == 5 && overlaps o.lo o.bytes st packed) ||
      (o.fmt == 5 && overlaps k.lo k.bytes (bitsOf o.store.toNat 51 0) (o.bytes / 4 * 3))) || (k.fmt == 5 && overlaps k.lo k.bytes st packed) then 4
  else if k.fmt ≠ 5 ∧ st ≠ k.lo then 5
  else 0

def setErr (why : Nat) : Word := BitVec.ofNat 64 (2 ^ 63 + why)

/-- An EN change starts: WGEN increases at the write (R396), and the change completes under R187. -/
def State.windowChange (sheet w : Nat) (k : Window) (target : Bool) (s : State) : State :=
  (s.setWindow sheet w { k with changing := true, target := target }).bumpWgen

/-- A write of a window register: 0 WCFG, 1 WBASE, 2 WSIZE, 3 WSTORE, 4 WSCALE, 5 WSTAT (R185, R186). -/
def State.windowWrite (sheet w reg : Nat) (v : Word) (s : State) : State :=
  let k := s.window sheet w
  let low := v &&& 0x7FFFFFFFFFFFFFFF
  let en := v.toNat / 2 ^ 63 == 1
  if k.en || (k.changing && k.target) then
    if reg ≠ 0 ∨ low ≠ k.cfg &&& 0x7FFFFFFFFFFFFFFF then s.setWindow sheet w { k with stat := setErr 6 }
    else if en then s
    else s.windowChange sheet w k false
  else match reg with
    | 0 =>
      let k := { k with cfg := low }
      if !en then s.setWindow sheet w k
      else
        let why := s.windowWhy sheet w k
        if why ≠ 0 then s.setWindow sheet w { k with stat := setErr why }
        else s.windowChange sheet w { k with stat := 0 } true
    | 1 => s.setWindow sheet w { k with base := v }
    | 2 => s.setWindow sheet w { k with size := v }
    | 3 => s.setWindow sheet w { k with store := v }
    | 4 => s.setWindow sheet w { k with scale := v }
    | _ => if en then s.setWindow sheet w { k with stat := k.stat &&& 0x7FFFFFFFFFFFFFFF } else s

/-- The bits of a window register that are fields; the others are reserved and read 0, though the check of R186 sees what was written to them (R8, R185). -/
def windowFields (reg : Nat) : Word :=
  match reg with
  | 0 => 0x8000000000F107FF | 1 => 0x000FFFFFFFFF0000 | 2 => 0xFFFFFFFF | 3 => 0x000FFFFFFFFFFFFF | 4 => 0x000FFFFFFFFFFFFF | _ => 0x80000000000000FF

def State.windowRead (s : State) (sheet w reg : Nat) : Word :=
  let k := s.window sheet w
  (match reg with | 0 => k.cfg | 1 => k.base | 2 => k.size | 3 => k.store | 4 => k.scale | 5 => k.stat | _ => 0) &&& windowFields reg

/-! ## Security regions -/

def State.regionRead (s : State) (sheet g reg : Nat) : Word :=
  let r := (s.sheet sheet).regions.get (0, 0, 0) g
  match reg with | 0 => r.1 | 1 => r.2.1 | 2 => r.2.2 &&& 3 | _ => 0

/-- Only secure service-core code writes the regions; other writes are dropped (R439). -/
def State.regionWrite (sheet g reg : Nat) (v : Word) (secureService : Bool) (s : State) : State :=
  if !secureService then s
  else s.mapSheet sheet (fun h =>
    let r := h.regions.get (0, 0, 0) g
    { h with regions := h.regions.set g (match reg with | 0 => (v, r.2.1, r.2.2) | 1 => (r.1, v, r.2.2) | 2 => (r.1, r.2.1, v) | _ => r) })

/-! ## Loss of a sheet -/

/-- What waits for intake on a lost sheet: a tile item is abandoned, another fails with cause 0x19 (R423). -/
def State.loseQueued (sh : Nat) (b : Submission) (s : State) : State := if b.tile.isSome then s.launchEndCheck b.launch else s.failQueued sh 0x19 b

/-- The module loses a sheet: transactions that it takes part in abort, its tile items are abandoned and its other items fail (R422, R423). -/
def State.loseSheet (sh : Nat) (s : State) : State :=
  if (s.sheet sh).lost then s
  else
    let s := s.mapSheet sh (fun h => { h with lost := true })
    let queued := (s.sheet sh).intakeQ
    let hosts := fun (home idx : Nat) => let id := lxId home (s.lx home idx).gen idx
      (s.sheet sh).items.any (fun p => decide (p.2.tile = some id ∧ p.2.st ≠ .final)) || queued.any (fun b => decide (b.tile = some id))
    let hit := s.sheets.flatMap (fun h => (h.2.lxs.filter (fun p =>
      let l := s.launch p.2.launch
      p.2.live && (p.2.st == 1 || p.2.st == 2) && ((l.covers sh && decide (leAt p.2.desc 0 8 / 2 ^ l.rankOf sh % 2 = 1)) || hosts h.1 p.1))).map (fun p => (h.1, p.1)))
    let s := hit.foldl (fun s p => s.lxAbort p.1 p.2 3) s
    let s := queued.foldl (fun (s : State) b => s.loseQueued sh b) (s.mapSheet sh (fun h => { h with intakeQ := [] }))
    ((s.sheet sh).items.filter (fun p => decide (p.2.st ≠ .final))).foldl (fun s p =>
      if p.2.tile.isSome then
        ((p.2.threads.foldl (fun s th => s.unplace th) s).mapItem sh p.1 (fun i => { i with st := .final, status := 512 + 0x19 })).launchEndCheck p.2.launch
      else s.failItem sh p.1 0x19) s

/-- The sheets of a launch at the ranks whose bits are set are lost (R423). -/
def State.loseRanks (bits : Word) (l : Launch) (s : State) : State :=
  ((List.range (min 64 (l.w * l.h))).filter (fun r => bits.getLsbD r && decide (l.sheetOfRank r < 32))).foldl (fun (s : State) r => s.loseSheet (l.sheetOfRank r)) s

/-- A write of LXLOST: every rank whose bit is newly set loses its sheet in each live launch (R423); a launch created while a bit is set loses that rank then. -/
def State.lxlostWrite (v : Word) (s : State) : State :=
  let new := v &&& ~~~s.lxlost
  (s.launches.filter (fun p => p.2.live)).foldl (fun (s : State) p => s.loseRanks new p.2) { s with lxlost := v }

/-! ## Surveyor control registers -/

/-- Slots that tasks of a stage hold on a sheet, and its ready items (R346). -/
def State.stageHeld (s : State) (sheet stage : Nat) : Nat :=
  (s.threads.filter (fun p => decide (p.2.st ≠ .empty ∧ sheetOfThread p.1 = sheet) && s.stageOf (s.item p.2.itemSheet p.2.item) == stage)).length
def State.stageReady (s : State) (sheet stage : Nat) : Nat :=
  ((s.sheet sheet).items.filter (fun p => decide (p.2.st = .ready) && s.stageOf p.2 == stage)).length

/-- The stage and kind of a register number from 0x220 to 0x23D (R346). -/
def stqStage (n : Nat) : Nat := (n - 0x220) / 2 + 1

/-- The value of a surveyor control register; none for a number that is not assigned. -/
def State.svRead (s : State) (sheet k n : Nat) : Option Word :=
  let h := s.sheet sheet
  match n with
  | 0x200 => some (h.svec.get 0 k)
  | 0x201 => some (h.sepc.get 0 k)
  | 0x202 => some (h.sstat.get 0 k)
  | 0x203 => some h.evbase
  | 0x204 => some (BitVec.ofNat 64 (h.drops.toNat * 2 ^ 32 + h.evhead.toNat))
  | 0x205 => some (BitVec.ofNat 64 h.evtail.toNat)
  | 0x206 => some h.svitem
  | 0x207 => some h.svsub
  | 0x210 => some h.asidtab
  | 0x211 => some h.shadow
  | 0x212 => some h.atlas
  | 0x213 => some h.repctl
  | 0x218 => some h.dlbase
  | 0x240 => some h.latectl
  | 0x248 => some 0
  | 0x249 => some (BitVec.ofNat 64 (s.kgen.toNat * 2 ^ 16 + s.wgen.toNat))
  | 0x250 => some s.lxremap
  | 0x251 => some s.lxlost
  | _ =>
    if 0x220 ≤ n ∧ n ≤ 0x23D then
      let st := stqStage n
      if n % 2 = 0 then some (h.stqcfg.get 0 st)
      else some (BitVec.ofNat 64 (s.stageHeld sheet st * 2 ^ 30 + h.quota.get 0 st % 2 ^ 15 * 2 ^ 15 + s.stageReady sheet st % 2 ^ 14))
    else none

/-- The reserved bits of a surveyor control register; a write that sets one raises cause 0x01 (R270, R346, R353, R363, R367, R397). -/
def svReserved (n : Nat) : Word :=
  match n with
  | 0x202 => ~~~3
  | 0x203 => 0xFFF0000000000FF0
  | 0x204 => 0xFFFF000000000000
  | 0x205 => 0xFFFFFFFF00000000
  | 0x207 => 0x7000FFFFFFC00038
  | 0x210 => 0xFFF0000000007FFE
  | 0x211 => 0xFFF0000007FFFFFE
  | 0x212 => ~~~0xF
  | 0x213 => ~~~0x1FFF
  | 0x218 => 0xFFF0000000000FFE
  | 0x240 => 0x7FFFFFFF00000000
  | 0x248 => ~~~3
  | 0x250 => 0xFFF000000000003F
  | 0x251 => 0xFFFFFFFF00000000
  | _ => if 0x220 ≤ n ∧ n ≤ 0x23D ∧ n % 2 = 0 then 0xFC00000000000000 else 0

/-- ATLAS takes a new size: capacity newly carved reads as zero with tag 0, and capacity released loses its contents (R269). -/
def State.setAtlas (sheet : Nat) (v : Word) (s : State) : State :=
  let a := (s.sheet sheet).atlas.toNat % 16
  let b := v.toNat % 16
  let base := sheet * 2 ^ 36 + 0xE00000000
  let lo := base + min a b * 2 ^ 26
  let hi := base + max a b * 2 ^ 26
  let gone := fun (x : Nat) => decide (lo ≤ x ∧ x < hi)
  ({ s with mem := s.mem.filter (fun c => !gone c.1), tags := s.tags.filter (fun t => !gone t.1), memPoison := s.memPoison.filter (fun x => !gone x) }).mapSheet
    sheet (fun h => { h with atlas := v })

/-- The live launch of an ASID that covers a sheet. -/
def State.launchOfAsid (s : State) (sheet asid : Nat) : Option Nat :=
  (s.launches.find? (fun p => p.2.live && p.2.asid == asid && p.2.covers sheet)).map Prod.fst

/-- A write of SVITEM: a submission, or result 0x1B while ASID names no launch on the sheet (R367). -/
def State.svitemWrite (sheet : Nat) (v : Word) (s : State) : State :=
  let sub := (s.sheet sheet).svsub.toNat
  match s.launchOfAsid sheet (bitsOf sub 59 48) with
  | none => s.mapSheet sheet (fun h => { h with svitem := 0x1B })
  | some l =>
    let pin := if sub / 2 ^ 63 = 1 then some (threadOfAddr (BitVec.ofNat 64 sub)) else none
    (s.submit sheet { Submission.ofVa v l with system := true, svitem := true, pin := pin }).mapSheet sheet (fun h => { h with svitem := 0xFF })

/-- A write of a surveyor control register (R63): the new state, or the cause that it raises. -/
def State.svWrite (sheet k n : Nat) (v : Word) (s : State) : Except Nat State :=
  if (s.svRead sheet k n).isNone then .error 1
  else if n = 0x249 ∨ (0x220 ≤ n ∧ n ≤ 0x23D ∧ n % 2 = 1) then .error 8
  else if v &&& svReserved n ≠ 0 then .error 1
  else
    let x := v.toNat
    let m := fun (f : Sheet → Sheet) => Except.ok (s.mapSheet sheet f)
    match n with
    | 0x200 => m (fun h => { h with svec := h.svec.set k (v &&& ~~~3) })
    | 0x201 => m (fun h => { h with sepc := h.sepc.set k (v &&& ~~~3) })
    | 0x202 => m (fun h => { h with sstat := h.sstat.set k v })
    | 0x203 => if 6 ≤ x % 16 then .error 1 else m (fun h => { h with evbase := v })
    | 0x204 => .ok s
    | 0x205 => .ok ((s.mapSheet sheet (fun h => { h with evtail := BitVec.ofNat 32 x })).drainRing sheet (s.sheet sheet).evWait.length)
    | 0x206 => .ok (s.svitemWrite sheet v)
    | 0x207 => if x / 2 ^ 63 = 1 ∧ x / 2 ^ 17 % 32 ≠ sheet then .error 1 else m (fun h => { h with svsub := v })
    | 0x210 => m (fun h => { h with asidtab := v })
    | 0x211 => m (fun h => { h with shadow := v })
    | 0x212 => if 9 ≤ x then .error 1 else .ok (s.setAtlas sheet v)
    | 0x213 => if x / 256 % 32 < 16 then .error 1 else m (fun h => { h with repctl := v })
    | 0x218 => m (fun h => { h with dlbase := v })
    | 0x240 => m (fun h => { h with latectl := v })
    | 0x248 =>
      let s := if x / 2 % 2 = 1 then s.bumpKgen else s
      .ok (if x % 2 = 1 then s.flushPlates sheet else s)
    | 0x250 => .ok { s with lxremap := v }
    | 0x251 => .ok (s.lxlostWrite v)
    | _ =>
      -- STQCFG: MIN at most MAX, and QUOTA becomes MIN (R346)
      if bitsOf x 29 15 < bitsOf x 14 0 ∨ 16384 < bitsOf x 29 15 then .error 1
      else m (fun h => { h with stqcfg := h.stqcfg.set (stqStage n) v, quota := h.quota.set (stqStage n) (bitsOf x 14 0) })

/-! ## Configuration space -/

/-- Whether a register is held by a surveyor core. -/
def coreHeld (n : Nat) : Bool := decide (n = 0x200 ∨ n = 0x201 ∨ n = 0x202)

/-- Reads a doubleword of configuration space (R435). Another module's reads 0 (log 30). -/
def State.configRead (s : State) (pa : Nat) : Word :=
  let o := paOff pa
  let sh := paSheet pa
  if paModule pa ≠ 0 then 0
  else if o < 0x1000 then (if coreHeld (0x200 + o / 8) then 0 else (s.svRead sh 0 (0x200 + o / 8)).getD 0)
  else if 0x4000 ≤ o ∧ o < 0x8000 then
    let n := 0x200 + o % 0x1000 / 8
    if coreHeld n then (s.svRead sh ((o - 0x4000) / 0x1000) n).getD 0 else 0
  else if 0x10000 ≤ o ∧ o < 0x10400 then s.windowRead sh ((o - 0x10000) / 64) (o % 64 / 8)
  else if 0x10400 ≤ o ∧ o < 0x10600 then s.regionRead sh ((o - 0x10400) / 32) (o % 32 / 8)
  else if o / 8 = 0x10800 / 8 then (s.sheet sh).unbacked
  else if 0x20000 ≤ o ∧ o < 0x20800 then BitVec.ofNat 64 (s.cluster (sh * 256 + (o - 0x20000) / 8)).late.toNat
  else 0

/-- Writes a doubleword of configuration space (R435): the new state, or the cause that a surveyor register raises. -/
def State.configWrite (pa : Nat) (v : Word) (secureService : Bool) (s : State) : Except Nat State :=
  let o := paOff pa
  let sh := paSheet pa
  if paModule pa ≠ 0 then .ok s
  else if o < 0x1000 then
    let n := 0x200 + o / 8
    if coreHeld n ∨ (s.svRead sh 0 n).isNone then .ok s else s.svWrite sh 0 n v
  else if 0x4000 ≤ o ∧ o < 0x8000 then
    let n := 0x200 + o % 0x1000 / 8
    if coreHeld n then s.svWrite sh ((o - 0x4000) / 0x1000) n v else .ok s
  else if 0x10000 ≤ o ∧ o < 0x10400 then
    if o % 64 / 8 < 6 then .ok (s.windowWrite sh ((o - 0x10000) / 64) (o % 64 / 8) v) else .ok s
  else if 0x10400 ≤ o ∧ o < 0x10600 then .ok (s.regionWrite sh ((o - 0x10400) / 32) (o % 32 / 8) v secureService)
  else .ok s

end Sys2Proof.Machine
end

