-- ==== Sys2Proof/Machine/Cache.lean ====
section
/-! DEFINITION. The L1 data cache and the routes of accesses: entries and eviction (R261 to R264), the reverse map (R265), loads and stores to global memory
(R124, R128, R254, R285, R307), local memory (R125, R126, R128, R369), release and acquire (R312, R313), and the accesses of a surveyor core. -/

namespace Sys2Proof.Machine

/-- The outcome of an access: a value, a cause with its FAULTVA, a wait, or the discard of the accessing task. -/
inductive Acc (α : Type) where
  | ok (a : α) (s : State)
  | trap (cause : Nat) (va : Word) (s : State)
  | wait (w : Wait) (s : State)
  | gone (s : State)
  deriving DecidableEq, Repr

def Acc.bind (x : Acc α) (f : α → State → Acc β) : Acc β :=
  match x with
  | .ok a s => f a s
  | .trap c v s => .trap c v s
  | .wait w s => .wait w s
  | .gone s => .gone s

/-- A wait that is no synchronisation condition. -/
def Wait.plain (c : WaitCond) : Wait := { kind := 0, obj := 0, cond := c }

/-- A retry after a NACK: at least 64 cycles later (R279). -/
def State.retry (s : State) : Wait := Wait.plain (.cycle (s.cycle.toNat + 64))

/-! ## Entries -/

def Core.entry? (k : Core) (asid line : Nat) : Option L1Entry := k.l1.find? (fun e => e.asid == asid && e.line == line)
def Core.spec? (k : Core) (asid line slot : Nat) : Option SpecEntry := k.spec.find? (fun e => e.asid == asid && e.line == line && e.slot == slot)

/-- Replaces or adds an entry. -/
def Core.putEntry (k : Core) (e : L1Entry) : Core := { k with l1 := e :: k.l1.filter (fun x => !(x.asid == e.asid && x.line == e.line)) }

def Core.touch (k : Core) (asid line : Nat) : Core :=
  { k with useCtr := k.useCtr + 1, l1 := k.l1.map (fun e => if e.asid = asid ∧ e.line = line then { e with used := k.useCtr } else e) }

/-- A use of the speculative entry of a slot (R264). -/
def Core.touchSpec (k : Core) (asid line slot : Nat) : Core :=
  { k with useCtr := k.useCtr + 1, spec := k.spec.map (fun e => if e.asid = asid ∧ e.line = line ∧ e.slot = slot then { e with used := k.useCtr } else e) }

def Core.dropEntry (k : Core) (asid line : Nat) : Core := { k with l1 := k.l1.filter (fun x => !(x.asid == asid && x.line == line)) }

/-- The bytes of the sectors that are valid. -/
def sectorBytes (v : BitVec 4) : LineMask :=
  (List.range 4).foldl (fun m k => if v.getLsbD k then m ||| lineMask (64 * k) 64 else m) 0

/-- The sectors in which a mask marks a byte. -/
def sectorsOf (m : LineMask) : BitVec 4 :=
  (List.range 4).foldl (fun v k => if m &&& lineMask (64 * k) 64 ≠ 0 then v ||| (1 <<< k) else v) 0

/-- The bytes of an entry that a load may take. -/
def L1Entry.present (e : L1Entry) : LineMask := e.dirty ||| sectorBytes e.valid

def Origin.core? (o : Origin) : Option Nat := match o with
  | .side (.surveyor sheet k) => some (65536 + sheet * 4 + k)
  | .side c => c.core?
  | .core k => some k
  | _ => none

/-- A request for a line: by its physical address, or by its VA, whose translation may have changed since it was sent (R279, R304). -/
def Packet.targets (p : Packet) (asid line pa : Nat) : Bool := p.pa == pa || (p.asid == asid && p.va == line)

/-- A write of a core that is not performed yet. -/
def Packet.pendingOf (p : Packet) (core : Nat) : Bool :=
  !p.performed && decide (p.origin.core? = some core) && (match p.req with | .write .. => true | .atomic .. => false)

/-- The writes of a core to a line that are not performed yet. -/
def State.coreWrites (s : State) (core asid line pa : Nat) : List Nat := (s.net.filter (fun p => p.2.pendingOf core && p.2.targets asid line pa)).map Prod.fst

/-- The writes of a core on their way to a line, over its data at the home: a core reads its own writes before they are performed (R132, R304). -/
def State.inflight (s : State) (core asid line pa : Nat) (d : LineData) : LineData :=
  s.net.foldl (fun d p => if p.2.pendingOf core && p.2.targets asid line pa then (match p.2.req with | .write m x => overlay d x m | _ => d) else d) d

/-- The world of a core's accesses (R370). -/
def State.coreSecure (s : State) (core : Nat) : Bool := (s.cluster (clusterOfCore core)).worldCl

/-- The source field of a record for a core (R243). -/
def coreAddr (core : Nat) : Word := addrOf (.handler core 0) &&& ~~~(0x3F : Word)

/-- Writes back the dirty bytes of an entry under their mask; a failed translation holds them and is reported (R261, R273). -/
def State.writeBack (core : Nat) (o : Origin) (e : L1Entry) (s : State) : Bool × State :=
  if e.dirty = 0 then (true, s)
  else
    match s.translate (clusterOfCore core) e.asid (e.line * 256) .writeBack (s.coreSecure core) with
    | (.page _ pa, s) =>
      (true, (s.send { writePacket o (pa / 256 * 256) e.line e.asid false e.dirty e.data with after := e.after }).mapCore core (fun k => k.putEntry { e with dirty := 0, after := [] }))
    | (.cause c, s) =>
      let e := s.eventOf c 1 (coreAddr core) (BitVec.ofNat 64 (e.line * 256))
      (false, if c = 9 then s.freezeOn core e else s.record (sheetOfCore core) e)
    | (.nack, s) => (false, s)

/-- Writes back every dirty entry that a test selects: whether all went, and the number written back. -/
def State.writeBackAll (core : Nat) (o : Origin) (f : L1Entry → Bool) (s : State) : Bool × Nat × State :=
  ((s.core core).l1.filter (fun e => f e && decide (e.dirty ≠ 0))).foldl (fun (acc : Bool × Nat × State) e =>
    let r := acc.2.2.writeBack core o e
    (acc.1 && r.1, acc.2.1 + (if r.1 then 1 else 0), r.2)) (true, 0, s)

/-! ## Room in a set -/

def setOf (line : Nat) : Nat := line % 128
def Core.ways (k : Core) (line : Nat) : Nat :=
  (k.l1.filter (fun e => setOf e.line == setOf line)).length + (k.spec.filter (fun e => setOf e.line == setOf line)).length

/-- The rank of an ordinary entry for replacement: unretained lines first, then least recent use (R264, R286). -/
def L1Entry.rank (e : L1Entry) : Nat := (if e.retain then 2 ^ 64 else 0) + e.used

/-- Evicts an ordinary entry of the set; when its write-back is held, a clean one goes instead. -/
def State.evictOrdinary (core line : Nat) (s : State) : State :=
  let es := (s.core core).l1.filter (fun e => setOf e.line == setOf line)
  match argMin es L1Entry.rank with
  | none => s
  | some e =>
    match s.writeBack core (.core core) e with
    | (true, s) => s.mapCore core (fun k => k.dropEntry e.asid e.line)
    | (false, s) =>
      match argMin (es.filter (fun x => x.dirty == 0)) L1Entry.rank with
      | some x => s.mapCore core (fun k => k.dropEntry x.asid x.line)
      | none => s

/-- Makes room for one more entry in the set of a line (R264). -/
def State.makeRoom (core line : Nat) (s : State) : State :=
  let k := s.core core
  if k.ways line < 10 then s
  else
    let es := k.l1.filter (fun e => setOf e.line == setOf line)
    match argMin (k.spec.filter (fun e => setOf e.line == setOf line)) SpecEntry.used with
    | none => s.evictOrdinary core line
    | some p =>
      if es.all (fun e => e.dirty != 0 && decide (p.used < e.used)) then s.overflow (core * 8 + p.slot) else s.evictOrdinary core line

/-- What an entry records of its page (R262). -/
structure PageBits where
  kind : Nat
  imm : Bool
  r : Bool
  w : Bool
  deriving DecidableEq, Repr

def Leaf.bits (l : Leaf) : PageBits := { kind := l.kind, imm := l.imm, r := l.r, w := l.w }
def L1Entry.bits (e : L1Entry) : PageBits := { kind := e.kind, imm := e.imm, r := e.r, w := e.w }
def SpecEntry.bits (e : SpecEntry) : PageBits := { kind := e.kind, imm := e.imm, r := e.r, w := e.w }

/-- Under policy 3 a line is retained, while fewer than five others of its set are (R286). -/
def Core.retains (k : Core) (asid line pol : Nat) : Bool :=
  pol == 3 && decide ((k.l1.filter (fun e => setOf e.line == setOf line && e.retain && !(e.asid == asid && e.line == line))).length < 5)

/-- The entry of a line; where it is absent, room is made and it has no valid sector (R261, R286). -/
def State.allocLine (core asid line : Nat) (b : PageBits) (pol : Nat) (s : State) : L1Entry × State :=
  match (s.core core).entry? asid line with
  | some e => ({ e with retain := e.retain || (s.core core).retains asid line pol }, s)
  | none =>
    let s := s.makeRoom core line
    ({ asid := asid, line := line, kind := b.kind, imm := b.imm, r := b.r, w := b.w, valid := 0, dirty := 0, data := 0,
       retain := (s.core core).retains asid line pol, used := 0, after := [] }, s)

/-- A hit uses an entry under an L1 policy: it counts as used, and policy 3 retains it (R264, R286). -/
def State.hitLine (core asid line pol : Nat) (s : State) : State :=
  s.mapCore core (fun k =>
    let keep := k.retains asid line pol
    { k.touch asid line with l1 := (k.touch asid line).l1.map (fun e => if e.asid = asid ∧ e.line = line then { e with retain := e.retain || keep } else e) })

/-- An entry is stored and counts as used, but under the policies that make it the next victim (R286). -/
def State.keepLine (core : Nat) (e : L1Entry) (pol : Nat) (s : State) : State :=
  let s := s.mapCore core (fun k => k.putEntry e)
  if pol = 1 ∨ pol = 2 then s else s.mapCore core (fun k => k.touch e.asid e.line)

/-- Allocates or extends the entry of a line with the sectors of a mask, from data read at its home. Policies: 0 normal, 1 evict first, 2 no allocate,
3 retain (R261, R286). -/
def State.fillLine (core asid line : Nat) (l : Leaf) (d : LineData) (m : LineMask) (pol : Nat) (s : State) : State :=
  if pol = 2 ∧ ((s.core core).entry? asid line).isNone then s
  else
    let r := s.allocLine core asid line l.bits pol
    let v := sectorsOf m
    let new := sectorBytes (v &&& ~~~r.1.valid) &&& ~~~r.1.dirty
    r.2.keepLine core { r.1 with kind := l.kind, imm := l.imm, r := l.r, w := l.w, valid := r.1.valid ||| v, data := overlay r.1.data d new } pol

/-- Whether an L1d of a cluster holds a line under an alias (R265). -/
def State.aliasHeld (s : State) (cl asid line : Nat) : Bool :=
  (List.range 8).any (fun i => let k := s.core (cl * 8 + i)
    k.l1.any (fun e => e.asid == asid && e.line == line) || k.spec.any (fun e => e.asid == asid && e.line == line))

/-- The reverse map names an alias for a physical line, and keeps records only of lines that some L1d of the cluster holds (R265). -/
def State.setAlias (cl pa asid line : Nat) (s : State) : State :=
  s.mapCluster cl (fun c => { c with rmap := (c.rmap.filter (fun r => s.aliasHeld cl r.2.1 r.2.2)).set pa (asid, line) })

/-- Every copy under an alias, in every L1d of a cluster, is written back and invalidated, and its speculative entries are dropped with the discard of
their owners: whether every write-back went (R264, R265). -/
def State.flushAlias (cl asid line : Nat) (s : State) : Bool × State :=
  (List.range 8).foldl (fun (acc : Bool × State) i =>
    let core := cl * 8 + i
    let r := match (acc.2.core core).entry? asid line with
      | some e => let r := acc.2.writeBack core (.core core) e; (acc.1 && r.1, if r.1 then r.2.mapCore core (fun k => k.dropEntry asid line) else r.2)
      | none => acc
    (r.1, ((r.2.core core).spec.filter (fun e => e.asid == asid && e.line == line)).foldl (fun (s : State) e => s.overflow (core * 8 + e.slot)) r.2)) (true, s)

/-- The writes of a cluster's cores to a physical line that are not acknowledged. -/
def State.clusterWrites (s : State) (cl pa : Nat) : List Nat :=
  (s.net.filter (fun p => p.2.pa == pa && (p.2.origin.core?.any (fun c => clusterOfCore c == cl)))).map Prod.fst

/-- The accessing task has been discarded by its own access. -/
def State.lost (before after : State) : Bool := before.cur.isTask && decide ((after.thread before.threadId).st ≠ (before.thread before.threadId).st)

/-- An access that does not hit flushes another alias under which its physical line is known, in every L1d of the cluster, and waits for what that wrote back
(R265). -/
def State.aliasFlush (cl pa asid line : Nat) (s : State) : Acc Unit :=
  match (s.cluster cl).rmap.get? pa with
  | some (a, l) =>
    if a = asid ∧ l = line then .ok () s
    else
      let r := s.flushAlias cl a l
      if State.lost s r.2 then .gone r.2
      else if !r.1 then .wait r.2.retry r.2
      else match r.2.clusterWrites cl pa with
        | [] => .ok () (r.2.mapCluster cl (fun c => { c with rmap := c.rmap.del pa }))
        | l => .wait (Wait.plain (.settled l)) r.2
  | none => .ok () s

/-- Before a line is allocated, the reverse map takes its alias (R265). -/
def State.aliasChange (cl pa asid line : Nat) (s : State) : Acc Unit := (s.aliasFlush cl pa asid line).bind (fun _ s => .ok () (s.setAlias cl pa asid line))

/-- Whether the context in focus is a task before commit. -/
def State.speculative (s : State) : Bool := s.cur.isTask && !s.isPost s.cur

/-- The speculative entry that the context in focus owns for a line (R263). -/
def State.ownSpec (s : State) (asid line : Nat) : Option SpecEntry :=
  if s.speculative then (s.core s.coreId).spec? asid line (s.threadId % 8) else none

/-- What a hit knows of its page, from the entry or the speculative entry (R262). -/
def hitBits (e : Option L1Entry) (p : Option SpecEntry) : Option PageBits :=
  match e, p with
  | some e, _ => some e.bits
  | none, some p => some p.bits
  | none, none => none

/-- Bytes off to off + n - 1 of a line. -/
def lineBytes (d : LineData) (off n : Nat) : List Byte := byteList d off n

/-! ## Loads -/

/-- Before an SO access at its home: no SO access of the side is outstanding; dirty bytes of the copy are written back; and an SO load, which never takes
bytes of an L1d, also waits until the writes of its core to the line are performed, because it follows them (R254, R304, R307, log 134). -/
def State.soReady (core asid line pa : Nat) (m : LineMask) (load : Bool) (s : State) : Acc Unit :=
  if s.soOutstanding s.cur then .wait (Wait.plain .soDone) s
  else
    let wb := match (s.core core).entry? asid line with
      | some e => if e.dirty &&& m ≠ 0 then s.writeBack core (.core core) e else (true, s)
      | none => (true, s)
    if !wb.1 then .wait wb.2.retry wb.2
    else match (if load then wb.2.coreWrites core asid line pa else []) with
      | [] => .ok () wb.2
      | l => .wait (Wait.plain (.settled l)) wb.2

/-- A copy in the L1d takes bytes read or written at the home, without becoming dirty (R254, R285). -/
def State.updateEntry (core asid line : Nat) (d : LineData) (m : LineMask) (s : State) : State :=
  match (s.core core).entry? asid line with
  | some e => s.mapCore core (fun k => k.putEntry { e with data := overlay e.data d (m &&& ~~~e.dirty) })
  | none => s

/-- The task in focus takes bytes of its speculative entry, which is a use of it (R264). -/
def State.useSpec (asid line : Nat) (m : LineMask) (s : State) : State :=
  match s.ownSpec asid line with
  | some p => if p.mask &&& m = 0 then s else s.mapCore s.coreId (fun k => k.touchSpec asid line p.slot)
  | none => s

/-- A load of n aligned bytes of global memory by the context in focus under an ORD kind and scope and an L1 policy: the bytes and the page kind
(R124, R262, R263, R285, R307, R313). -/
def State.loadGlobal (va n kind scope pol : Nat) (s : State) : Acc (List Byte × Nat) :=
  let core := s.coreId
  let cl := s.clusterId
  let asid := s.asidOf s.cur
  let line := va / 256
  let off := va % 256
  let m := lineMask off n
  let e? := (s.core core).entry? asid line
  let p? := s.ownSpec asid line
  let bits := hitBits e? p?
  let specMask := match p? with | some p => p.mask | none => 0
  let present := match e? with | some e => e.present | none => 0
  let speculative := fun (d : LineData) => match p? with | some p => overlay d p.data p.mask | none => d
  let merge := fun (d : LineData) => speculative (match e? with | some e => overlay d e.data e.dirty | none => d)
  let atHome := kind == 4 || (kind == 1 && decide (2 ≤ scope) && (match bits with | some b => b.kind != 2 | none => true))
  if va % n ≠ 0 then .trap 5 (BitVec.ofNat 64 va) s
  else if !atHome && m &&& ~~~(specMask ||| present) == 0 then
    match bits with
    | some b =>
      if !b.r then .trap 8 (BitVec.ofNat 64 va) s
      else .ok (lineBytes (merge (match e? with | some e => e.data | none => 0)) off n, b.kind) ((s.hitLine core asid line pol).useSpec asid line m)
    | none => .gone s
  else
    match s.translate cl asid va .load (s.coreSecure core) with
    | (.cause c, s) => .trap c (BitVec.ofNat 64 va) s
    | (.nack, s) => .wait s.retry s
    | (.page l pa, s1) =>
      let paLine := pa / 256 * 256
      let so := l.kind == 1 || kind == 4
      let acq := kind == 1 && l.kind == 0 && decide (2 ≤ scope)
      let need := m &&& ~~~(specMask ||| (match e? with | some e => if so then 0 else e.dirty | none => 0))
      if s1.moving pa then .wait s1.retry s1
      else if s1.memPoison.any (fun a => a / 256 * 256 == paLine && need.getLsbD (a % 256)) then .trap 0x17 (BitVec.ofNat 64 va) s1
      else if so then
        (s1.aliasFlush cl paLine asid line).bind (fun _ s2 => (s2.soReady core asid line paLine m true).bind (fun _ s2 =>
          let r := ((s2.countUnbacked pa).readPass cl pa (s2.entryOf (.side s2.cur)).2).readHome s2.sheetId paLine
          .ok (lineBytes (speculative r.1) off n, l.kind) ((r.2.updateEntry core asid line r.1 m).useSpec asid line m)))
      else
        (s1.aliasChange cl paLine asid line).bind (fun _ s2 =>
          let s2 := (s2.countUnbacked pa).readPass cl pa (s2.entryOf (.side s2.cur)).2
          let r := if acq && decide (4 ≤ scope) then s2.readHome s2.sheetId paLine else s2.readLine s2.sheetId paLine
          let d := r.2.inflight core asid line paLine r.1
          let value := (lineBytes (merge d) off n, l.kind)
          if acq then .ok value ((r.2.updateEntry core asid line d m).useSpec asid line m)
          else if r.2.poisoned (paLine + off / 64 * 64) 64 then .ok value (r.2.useSpec asid line m)
          else
            let s3 := (r.2.useSpec asid line m).fillLine core asid line l d m pol
            if State.lost s s3 then .gone s3 else .ok value s3)

/-! ## Release and acquire -/

/-- Invalidates the clean bytes of the L1d lines that a test selects (R284). -/
def State.invalidateClean (core : Nat) (f : L1Entry → Bool) (s : State) : State :=
  s.mapCore core (fun k => { k with l1 := (k.l1.map (fun e => if f e then { e with valid := 0 } else e)).filter (fun e => e.valid != 0 || e.dirty != 0) })

/-- Acquire(s) of the context in focus (R313). -/
def State.acquire (scope : Nat) (s : State) : State :=
  if 2 ≤ scope then s.invalidateClean s.coreId (fun e => e.kind == 0 && !e.imm) else s

/-- The writes and atomics that a release of the context in focus waits for: those of its side, and, as the L1d keeps no writer for its bytes, every write
on its way from its core for its ASID. At scopes 0 and 1 bytes that are still dirty or speculative count as acknowledged; an evicted write does not (R312). -/
def State.unsettled (s : State) : List Nat :=
  let asid := s.asidOf s.cur
  (s.net.filter (fun (p : Nat × Packet) => decide (p.2.origin = .side s.cur) ||
    (decide (p.2.origin.core? = some s.coreId ∧ p.2.asid = asid) && (match p.2.req with | .write .. => true | .atomic .. => false)))).map Prod.fst

/-- The wait of a write-back that is held: until a TLBINV covers its line, or for a retry where its page moves (R124, R261, R279). -/
def State.heldWait (s : State) (core asid : Nat) : Wait :=
  match (s.core core).l1.find? (fun e => e.asid == asid && decide (e.dirty ≠ 0)) with
  | none => s.retry
  | some e => match s.pageWalk (sheetOfCore core) asid (e.line * 256) .writeBack with | .cause _ => Wait.plain (.page (e.line * 256)) | _ => s.retry

/-- Release(s) of the context in focus (R312): the first part writes back, and the release then waits for the acknowledgements. Stage 0 is before the
release, 1 while a write-back is held, 2 after the write-backs, and 3 after the release. -/
def State.release (scope : Nat) (s : State) : Acc Unit :=
  let k := s.ctx
  if 3 ≤ k.stage then .ok () s
  else if k.stage = 2 then .ok () (s.upd (fun k => { k with stage := 3 }))
  else
    let asid := s.asidOf s.cur
    let r := if 2 ≤ scope then s.writeBackAll s.coreId (.side s.cur) (fun e => e.asid == asid) else (true, 0, s)
    if !r.1 then .wait (r.2.2.heldWait s.coreId asid) (r.2.2.upd (fun k => { k with stage := 1 }))
    else match r.2.2.unsettled with
      | [] => .ok () (r.2.2.upd (fun k => { k with stage := 3 }))
      | l => .wait (Wait.plain (.settled l)) (r.2.2.upd (fun k => { k with stage := 2 }))

/-! ## Stores -/

/-- The bytes of a store placed in a line. -/
def lineOf (off : Nat) (bs : List Byte) : LineData := BitVec.ofNat 2048 (leNat bs * 2 ^ (8 * off))

/-- What a store is apart from its bytes: whether it is the first line of its access, which counts in the SO log (R263), and whether it is performed after every
earlier write of its task (R311, R314). -/
structure Piece where
  first : Bool
  ordered : Bool
  deriving DecidableEq, Repr

def Piece.whole : Piece := { first := true, ordered := false }

/-- A store to an SO page, or one that is SO-forced, by its page kind and ORD kind (R285). -/
def soStore (pk kind : Nat) : Bool := pk == 1 || kind == 4

/-- A release store at cluster scope or wider; on a UN page it acts as plain (R285). -/
def relStore (pk kind scope : Nat) : Bool := kind == 2 && decide (2 ≤ scope) && pk != 2

/-- The stores of a task that count among the 64 of its SO log (R263). -/
def Thread.soCount (t : Thread) : Nat := (t.soLog.filter (fun h => match h with | .store _ _ first _ _ _ => first | .flush _ => false)).length

/-- A store of masked bytes of a line into the task's speculative entry (R263). `so` marks a store to an SO page or under ORD SO-forced, which the log keeps too;
bytes of any other store that is ordered are marked late (log 135). -/
def State.specStore (line : Nat) (m : LineMask) (x : LineData) (so : Bool) (q : Piece) (b : PageBits) (pol : Nat) (s : State) : Acc Unit :=
  let core := s.coreId
  let asid := s.asidOf s.cur
  let slot := s.threadId % 8
  let side := if s.cur.isA then Side.a else Side.c
  let mark := fun (on : Bool) (old : LineMask) => if on then old ||| m else old &&& ~~~m
  if so && q.first && decide (64 ≤ (s.thread s.threadId).soCount) then .gone (s.overflow s.threadId)
  else
    let s1 := if so then s.mapThread s.threadId (fun t => { t with soLog := t.soLog ++ [.store side line q.first q.ordered m x] }) else s
    match s1.ownSpec asid line with
    | some p =>
      let p' := { p with mask := p.mask ||| m, so := mark so p.so, late := mark (q.ordered && !so) p.late, sent := mark false p.sent, data := overlay p.data x m,
                         pol := pol, used := (s1.core core).useCtr }
      .ok () (s1.mapCore core (fun k => { k with useCtr := k.useCtr + 1, spec := p' :: k.spec.filter (fun e => !(e.asid == asid && e.line == line && e.slot == slot)) }))
    | none =>
      let same := (s1.core core).spec.filter (fun e => setOf e.line == setOf line)
      let s2 := if 4 ≤ same.length then (match argMin same SpecEntry.used with | some p => s1.overflow (core * 8 + p.slot) | none => s1) else s1
      if State.lost s s2 then .gone s2
      else
        let s3 := s2.makeRoom core line
        if State.lost s s3 then .gone s3
        else .ok () (s3.mapCore core (fun k =>
          { k with useCtr := k.useCtr + 1, spec := { asid := asid, line := line, slot := slot, kind := b.kind, imm := b.imm, r := b.r, w := b.w, mask := m,
                                                     so := mark so 0, late := mark (q.ordered && !so) 0, sent := 0, data := x, pol := pol, used := k.useCtr } :: k.spec }))

/-- The speculative bytes, of a list of lines or of all, that the log does not send yet: at commit they are written back at this place of the log (R311, R312,
log 135). -/
def State.holdFlush (only : Option Nat) (s : State) : State :=
  if !s.speculative then s
  else
    let asid := s.asidOf s.cur
    let slot := s.threadId % 8
    let takes := fun (p : SpecEntry) => p.asid == asid && p.slot == slot && only.all (· == p.line) && p.mask &&& ~~~p.so &&& ~~~p.sent != 0
    let lines := ((s.core s.coreId).spec.filter takes).map (fun p => (p.line, p.mask &&& ~~~p.so &&& ~~~p.sent, p.data))
    if lines = [] then s
    else (s.mapThread s.threadId (fun t => { t with soLog := t.soLog ++ [.flush lines] })).mapCore s.coreId (fun k =>
      { k with spec := k.spec.map (fun p => if takes p then { p with sent := p.sent ||| (p.mask &&& ~~~p.so) } else p) })

/-- The part of a store that follows its release part (R124, R254, R263, R307). -/
def State.placeStore (va : Nat) (m : LineMask) (x : LineData) (kind scope pol : Nat) (q : Piece) (s : State) : Acc Unit :=
  let core := s.coreId
  let cl := s.clusterId
  let asid := s.asidOf s.cur
  let line := va / 256
  let hold := fun (b : PageBits) (s : State) =>
    s.specStore line m x (soStore b.kind kind) { q with ordered := q.ordered || relStore b.kind kind scope } b pol
  -- a hit is checked against its recorded bits; anything else, and every SO store after commit, is translated
  let hit := match hitBits ((s.core core).entry? asid line) (s.ownSpec asid line) with
    | some b => if s.speculative || !soStore b.kind kind then some b else none
    | none => none
  match hit with
  | some b =>
    if !b.w then .trap 8 (BitVec.ofNat 64 va) s
    else if s.speculative then hold b s
    else match (s.core core).entry? asid line with
      | some e => .ok () ((s.mapCore core (fun k => k.putEntry { e with dirty := e.dirty ||| m, data := overlay e.data x m })).hitLine core asid line pol)
      | none => .gone s
  | none =>
    match s.translate cl asid va .store (s.coreSecure core) with
    | (.cause c, s) => .trap c (BitVec.ofNat 64 va) s
    | (.nack, s) => .wait s.retry s
    | (.page l pa, s) =>
      let paLine := pa / 256 * 256
      if s.speculative then (s.aliasChange cl paLine asid line).bind (fun _ s => hold l.bits s)
      else if soStore l.kind kind then
        (s.aliasFlush cl paLine asid line).bind (fun _ s => (s.soReady core asid line paLine m false).bind (fun _ s =>
          .ok () ((s.updateEntry core asid line x m).send (writePacket (.side s.cur) paLine line asid true m x))))
      else (s.aliasChange cl paLine asid line).bind (fun _ s =>
        let r := s.allocLine core asid line l.bits pol
        .ok () (r.2.keepLine core { r.1 with dirty := r.1.dirty ||| m, data := overlay r.1.data x m } pol))

/-- A store of masked bytes of a line of global memory by the context in focus; the address is that of the first of them. The release part of a release store
comes first; on a UN page it acts as plain (R285). -/
def State.storeMasked (va : Nat) (m : LineMask) (x : LineData) (kind scope pol : Nat) (q : Piece) (s : State) : Acc Unit :=
  let asid := s.asidOf s.cur
  let pk := match hitBits ((s.core s.coreId).entry? asid (va / 256)) (s.ownSpec asid (va / 256)) with
    | some b => some b.kind
    | none => s.peekKind s.clusterId asid va
  (if kind = 2 ∧ pk ≠ some 2 then (s.release scope).bind (fun _ s => .ok () (if 2 ≤ scope then s.holdFlush none else s)) else .ok () s).bind
    (fun _ s => s.placeStore va m x kind scope pol q)

/-- A store of aligned bytes to global memory. -/
def State.storeGlobal (va : Nat) (bs : List Byte) (kind scope pol : Nat) (s : State) : Acc Unit :=
  if va % bs.length ≠ 0 then .trap 5 (BitVec.ofNat 64 va) s
  else s.storeMasked va (lineMask (va % 256) bs.length) (lineOf (va % 256) bs) kind scope pol .whole

/-! ## Local memory -/

/-- The core and offset that a local access of the context in focus reaches, or the outcome that it has instead (R125, R126, R368). -/
def State.localTarget (la n : Nat) (otherBad : Bool) (s : State) : Acc (Nat × Nat) :=
  let own := s.coreId
  let c := la / 2 ^ 17 % 8
  let target := if s.cur.isSurveyor then own else own / 8 * 8 + c
  let off := la % 2 ^ 17
  let bad := decide (2 ^ 20 ≤ la ∨ 0x18000 ≤ off) || (if s.cur.isSurveyor then c != 0 else otherBad && target != own)
  if bad || (s.core target).retired then .trap 8 (BitVec.ofNat 64 la) s
  else if (s.core target).frozen then .wait (Wait.plain (.held target)) s
  else if la % n ≠ 0 then .trap 5 (BitVec.ofNat 64 la) s
  else .ok (target, off) s

/-- A local load; a poisoned word raises cause 0x17 (R125, R369). -/
def State.loadLocal (la n : Nat) (plainOrd : Bool) (s : State) : Acc (List Byte) :=
  (s.localTarget la n (!plainOrd)).bind (fun t s =>
    if (s.core t.1).poison.any (fun w => decide (t.2 / 8 ≤ w ∧ w ≤ (t.2 + n - 1) / 8)) then .trap 0x17 (BitVec.ofNat 64 la) s
    else .ok ((s.core t.1).mem.readList t.2 n) s)

/-- Whether local bytes of the own core overlap the task's input area before commit (R128). -/
def State.inputArea (s : State) (off n : Nat) : Bool :=
  s.speculative && (let it := s.itemOf s.cur; decide (0 < it.linputLen ∧ 0 < n ∧ off < it.linputOff + it.linputLen ∧ it.linputOff < off + n))

/-- A local store: only to the own core, and not into the input area before commit (R125, R128). -/
def State.storeLocal (la : Nat) (bs : List Byte) (s : State) : Acc Unit :=
  (s.localTarget la bs.length true).bind (fun t s =>
    if s.inputArea t.2 bs.length then .trap 8 (BitVec.ofNat 64 la) s else .ok () (s.putLocal t.1 t.2 bs))

/-! ## Surveyor cores -/

/-- A load by a surveyor core, whose addresses are physical (log 8); it reaches configuration space (R435). An SO-forced load is ordered as an SO access
(R91, R307), and an acquire load at scope 4 or wider passes replicas like one (R313). -/
def State.loadPhys (pa n kind scope : Nat) (s : State) : Acc (List Byte) :=
  let line := pa / 256
  if pa % n ≠ 0 then .trap 5 (BitVec.ofNat 64 pa) s
  else if 2 ^ 52 ≤ pa then .trap 6 (BitVec.ofNat 64 pa) s
  else if paCfg pa then .ok (((leBytes 8 (s.configRead (pa / 8 * 8)).toNat).drop (pa % 8)).take n) s
  else if s.moving pa then .wait s.retry s
  else if s.poisoned pa n then .trap 0x17 (BitVec.ofNat 64 pa) s
  else
    (if kind = 4 then s.soReady s.coreId 0 line (line * 256) 0 true else .ok () s).bind (fun _ s =>
      let s := s.countUnbacked pa
      let r := if kind = 4 ∨ (kind = 1 ∧ 4 ≤ scope) then s.readHome s.sheetId (line * 256) else s.readLine s.sheetId (line * 256)
      .ok (lineBytes (r.2.inflight s.coreId 0 line (line * 256) r.1) (pa % 256) n) r.2)

/-- The window whose EN a write of configuration space has set changing (R187). -/
def State.windowChanging (s : State) (pa : Nat) : Option (Nat × Nat) :=
  let o := paOff pa
  let w := (o - 0x10000) / 64
  if 0x10000 ≤ o ∧ o < 0x10400 ∧ (((s.sheet (paSheet pa)).windows.get? w).any (fun x => x.changing)) then some (paSheet pa, w) else none

/-- A store by a surveyor core: sent to its home, or a write of configuration space (R435). The release part of a release store comes first, an SO-forced
store is ordered as an SO access (R91, R285, R307), and a write that changes EN of a window completes with the change (R187). Stage 4 is after such a write. -/
def State.storePhys (pa : Nat) (bs : List Byte) (kind scope : Nat) (s : State) : Acc Unit :=
  if pa % bs.length ≠ 0 then .trap 5 (BitVec.ofNat 64 pa) s
  else if 2 ^ 52 ≤ pa then .trap 7 (BitVec.ofNat 64 pa) s
  else if s.ctx.stage = 4 then .ok () (s.upd (fun k => { k with stage := 0 }))
  else (if kind = 2 then s.release scope else .ok () s).bind (fun _ s =>
    if paCfg pa then
      let old := leBytes 8 (s.configRead (pa / 8 * 8)).toNat
      let v := leNat (old.take (pa % 8) ++ bs ++ old.drop (pa % 8 + bs.length))
      match s.configWrite (pa / 8 * 8) (BitVec.ofNat 64 v) false with
      | .ok s => (match s.windowChanging pa with
        | some w => .wait (Wait.plain (.windowDone w.1 w.2)) (s.upd (fun k => { k with stage := 4 }))
        | none => .ok () s)
      | .error c => .trap c (BitVec.ofNat 64 pa) s
    else
      (if kind = 4 then s.soReady s.coreId 0 (pa / 256) (pa / 256 * 256) 0 false else .ok () s).bind (fun _ s =>
        .ok () (s.send (writePacket (.side s.cur) (pa / 256 * 256) (pa / 256) 0 (kind == 4) (lineMask (pa % 256) bs.length) (lineOf (pa % 256) bs)))))

/-- A global load of any context. -/
def State.load (va n kind scope pol : Nat) (s : State) : Acc (List Byte × Nat) :=
  if s.cur.isSurveyor then (s.loadPhys va n kind scope).bind (fun b s => .ok (b, 1) s) else s.loadGlobal va n kind scope pol

/-- A global store of any context. -/
def State.store (va : Nat) (bs : List Byte) (kind scope pol : Nat) (s : State) : Acc Unit :=
  if s.cur.isSurveyor then s.storePhys va bs kind scope else s.storeGlobal va bs kind scope pol

end Sys2Proof.Machine
end

