-- ==== Sys2Proof/Machine/Ops.lean ====
section
/-! DEFINITION. The operations that every meaning ends in: completing a word or a repetition (R82, R86), waiting (R9), committing (R115), the end of a
handler (R121, R159), taking a user trap (R360), raising a cause (R359 to R364), and the returns from a trap. -/

namespace Sys2Proof.Machine

/-! ## Completing and waiting -/

/-- Whether the word at the head of the buffer is a hint. -/
def isHintWord (w : BitVec 32) : Bool := w.toNat / 2 ^ 26 == 63

/-- Words that count toward the watchdog: those of a side after commit and of a handler (R115, R359, R362). -/
def State.counts (s : State) : Bool := match s.cur with | .surveyor .. => false | c => s.isPost c

/-- The followers of a leader thread: members of the same item (R72). -/
def State.followers (s : State) (th : Nat) : List Nat :=
  let t := s.thread th
  (s.threads.filter (fun p => decide (p.2.follow = some th ∧ p.2.item = t.item ∧ p.2.itemSheet = t.itemSheet))).map Prod.fst

/-- A forwarded word enters the hop buffer of a side; one that is past its END takes no more words (R72, R73). -/
def Ctx.takeHop (pc : Word) (w : BitVec 32) (k : Ctx) : Ctx := { k with hop := if k.run = .ended then [] else k.hop ++ [(pc, w)] }

/-- Gives each follower of a leader the word that it has issued (R72). -/
def State.forward (pc : Word) (w : BitVec 32) (s : State) : State :=
  match s.cur with
  | .task th side => (s.followers th).foldl (fun s f => s.mapCtx (.task f side) (fun k => k.takeHop pc w)) s
  | _ => s

/-- The words of the next group in a hop buffer: through the first word that is no hint (R100). -/
def hopGroup (l : List (Word × BitVec 32)) : List (Word × BitVec 32) :=
  match l with
  | [] => []
  | w :: rest => if isHintWord w.2 then w :: hopGroup rest else [w]

/-- A follower's group is over: its words leave the hop buffer. -/
def Ctx.dropGroup (k : Ctx) : Ctx := { k with hop := k.hop.drop (hopGroup k.hop).length }

/-- The issuing word of the context in focus is done with its effect: the next repetition, or the next word at `pc` (R82, R86). -/
def Ctx.complete (k : Ctx) (pc : Word) (counted : Bool) : Ctx :=
  let words := if counted then k.words + 1 else k.words
  let k := { k with wait := none, stage := 0, begun := false, keep := 0, kept := [], words := words }
  match k.hints.rep with
  | some r =>
    if isHintWord (k.buf.headD 0) then { k with buf := k.buf.drop 1, pc := pc }
    else if k.repDone + 1 < r.count then { k with repDone := k.repDone + 1 }
    else { k.dropGroup with buf := [], pc := pc, grp := pc, hints := Hints.none, repDone := 0, repcnt := 0 }
  | none =>
    if isHintWord (k.buf.headD 0) then { k with buf := k.buf.drop 1, pc := pc }
    else { k.dropGroup with buf := [], pc := pc, grp := pc, hints := Hints.none, repDone := 0 }

/-- The word at the head of the buffer has no further repetition (R86). -/
def Ctx.lastRep (k : Ctx) : Bool := match k.hints.rep with | some r => isHintWord (k.buf.headD 0) || decide (r.count ≤ k.repDone + 1) | none => true

/-- Completes the issuing word with the program counter at `pc`. A word that had begun before it waited has been forwarded then (R72). DESIGN CHOICE (log 148): the
word that commits is itself the first word that the watchdog counts; R115 has the count run after the commit, R362 from the commit on. -/
def State.retireTo (pc : Word) (s : State) : State :=
  let k := s.ctx
  let counted := s.counts
  let s := if k.lastRep && !k.begun then s.forward k.pc (k.buf.headD 0) else s
  s.upd (fun k => k.complete pc counted)

/-- Completes the issuing word; the next one follows it. -/
def State.retire (s : State) : State := s.retireTo (s.ctx.pc + 4)

def done (s : State) : Out := .next s.retire

/-- The context in focus waits; the word issues again when the condition holds. -/
def State.block (w : Wait) (s : State) : State := s.upd (fun k => { k with wait := some w })

/-- A synchronisation wait of a kind of R353 on an object. -/
def sync (kind : Nat) (obj : Word) (c : WaitCond) : Wait := { kind := kind, obj := obj, cond := c }

/-! ## Commit -/

/-- A store leaves a core for its home. Where its page moves, or its translation fails, it stands as a refused request, which NACK_RETRY tries again and reports
(R263, R273, R279). An SO store needs the permission of its page again; a write-back needs none (R273). -/
def State.sendStore (core : Nat) (o : Origin) (asid line : Nat) (so : Bool) (m : LineMask) (x : LineData) (after : List Nat) (s : State) : State :=
  let p := { writePacket o (2 ^ 52) line asid so m x with after := after }
  match s.translate (clusterOfCore core) asid (line * 256) (if so then .store else .writeBack) (s.coreSecure core) with
  | (.page _ pa, s) => s.send { p with pa := pa / 256 * 256 }
  | (.cause _, s) => { s with net := s.net.set s.nextPkt { p with nacked := some s.cycle.toNat }, nextPkt := s.nextPkt + 1 }
  | (.nack, s) => s.refused p

/-- The dirty bytes of a line that a mask overlaps leave for their home. -/
def State.sendDirty (core asid line : Nat) (m : LineMask) (s : State) : State :=
  match (s.core core).entry? asid line with
  | some e =>
    if e.dirty &&& m = 0 then s
    else (s.mapCore core (fun k => k.putEntry { e with dirty := 0, after := [] })).sendStore core (.core core) asid line false e.dirty e.data e.after
  | none => s

/-- The writes of a core for an ASID that are not acknowledged. -/
def State.coreUnacked (s : State) (core asid : Nat) : List Nat :=
  (s.net.filter (fun (p : Nat × Packet) => decide (p.2.origin.core? = some core ∧ p.2.asid = asid))).map Prod.fst

/-- What the log holds goes to its homes: an SO store as one write, or bytes that are written back. Dirty bytes that it overwrites go before it (R263, R311, R312,
R314). -/
def State.sendHeld (th : Nat) (h : Held) (s : State) : State :=
  let core := coreOfThread th
  let asid := (s.launch (s.thread th).launch).asid
  match h with
  | .store side line _ ordered m x =>
    let s := s.sendDirty core asid line m
    s.sendStore core (.side (.task th side)) asid line true m x (if ordered then s.coreUnacked core asid else [])
  | .flush lines =>
    let s := lines.foldl (fun (s : State) l => s.sendDirty core asid l.1 l.2.1) s
    let after := s.coreUnacked core asid
    lines.foldl (fun (s : State) l => s.sendStore core (.core core) asid l.1 false l.2.1 l.2.2 after) s

/-- Moves a speculative entry into the ordinary entry of its tag (R263). Bytes that the log sends do not become dirty; dirty bytes of an ordered store wait for the
requests that are on their way (R311, R314). -/
def State.commitEntry (core : Nat) (p : SpecEntry) (s : State) : State :=
  let dirty := p.mask &&& ~~~p.so &&& ~~~p.sent
  let after := if dirty &&& p.late = 0 then [] else s.coreUnacked core p.asid
  let s := s.mapCore core (fun k => { k with spec := k.spec.filter (fun e => !(e.asid == p.asid && e.line == p.line && e.slot == p.slot)) })
  let r := s.allocLine core p.asid p.line p.bits p.pol
  r.2.keepLine core { r.1 with dirty := r.1.dirty ||| dirty, data := overlay r.1.data p.data p.mask, after := r.1.after ++ after } p.pol

/-- COMMIT and the implicit commit (R115, R349): one indivisible event for the whole task. The log's stores are sent in its order, and then the other bytes become
dirty (R254, R263). Where the task has made a release store at cluster scope or wider, the log also writes back what came before it (R312, R314, log 135). -/
def State.commitThread (th : Nat) (s : State) : State :=
  let t := s.thread th
  if t.post then s
  else
    let core := coreOfThread th
    let s := t.soLog.foldl (fun s h => s.sendHeld th h) s
    let s := ((s.core core).spec.filter (fun e => e.slot == th % 8)).foldl (fun s p => s.commitEntry core p) s
    let s := s.mapThread th (fun t => { t with st := .post, post := true, soLog := [] })
    (s.mapCtx (.task th .a) (fun k => { k with words := 0 })).mapCtx (.task th .c) (fun k => { k with words := 0 })

/-- The implicit commit of the context in focus; a handler and a surveyor core have nothing to commit (R12). -/
def State.commit (s : State) : State := match s.cur with | .task th _ => s.commitThread th | _ => s

/-! ## Walk rows and the end of a handler -/

/-- The handler context of a core ends: by HRET, or by a fault that marks its row (R121, R153, R159). -/
def State.endHandler (core k : Nat) (faulted : Bool) (s : State) : State :=
  match s.handlers.get? (core, k) with
  | none => s
  | some h =>
    let s := { s with handlers := s.handlers.del (core, k) }
    let s := s.mapCtx (.handler core k) (fun k => { Ctx.init with run := .idle, ackRecord := k.ackRecord })
    match s.walk? h.cl h.job with
    | none => s
    | some j =>
      match j.rows[h.row]? with
      | none => s
      | some r =>
        let bad := faulted || r.st == 2
        let r := { r with hdone := r.hdone ++ [h.slice] }
        -- a row faulted in one slice is faulted in all: a slice whose handler has not started gives its entry up (R153, R159)
        let gone := (List.range j.descs.length).filter (fun k => r.hdone.contains k || (bad && !r.hstart.contains k))
        let full := decide (gone.length = j.descs.length)
        let r' := { r with hdone := gone, st := if faulted then 2 else if full ∧ r.st = 0 then 1 else r.st }
        let j := { j with rows := j.rows.set h.row r', drain := if full then j.drain.filter (· ≠ h.row) else j.drain }
        let s := s.setWalk h.cl h.job j
        if r'.st = r.st then s else s.mirror j h.row

/-! ## Records and faults -/

/-- The group in progress has a hint (R67). -/
def State.hinted (s : State) : Bool := let k := s.ctx; k.pc != k.grp || (isHintWord (k.buf.headD 0))

/-- The record of a cause raised by the context in focus. -/
def State.faultRec (cause : Nat) (va : Word) (hint frozen held : Bool) (s : State) : EventRec :=
  { cause := cause, flags := recFlags (!s.cur.isA) hint (s.isPost s.cur) frozen held, source := addrOf s.cur, obj := va, epc := s.ctx.grp,
    cycle := s.cycle.toNat % 2 ^ 32, freeze := none }

/-- EPC, CAUSE and FAULTVA of a trap (R67, R360), and REPCNT when it interrupts a REP group (R87, R89). -/
def State.trapRegs (cause : Nat) (va : Option Word) (hint : Bool) (epc : Word) (s : State) : State :=
  let code := BitVec.ofNat 64 ((if hint then 512 else 0) + (if s.cur.isA then 0 else 256) + cause)
  (s.putEpc s.cur epc).upd (fun k => { k with cause := code, faultva := va.getD k.faultva, repcnt := k.progress })

/-- The side stops at its group boundary until THAW (R97, R362). -/
def Ctx.freezeAt (k : Ctx) (cause : Nat) : Ctx :=
  { k with run := .frozen, frozenCause := cause, pc := k.grp, buf := [], hints := Hints.none, repDone := 0, wait := none, stage := 0, begun := false, keep := 0, kept := [] }

def State.faultSheet (s : State) : Nat := match s.cur with | .surveyor sheet _ => sheet | _ => sheetOfCore s.coreId

/-- The sheet's ring has no room: the context stays at its fault (R363). -/
def State.ringWait (s : State) : State := s.block (Wait.plain .ring)

/-- The quadrant of a sheet, which is the number of its port (R431). -/
def quadrant (sheet : Nat) : Nat := sheet % 8 / 4 + sheet / 8 / 2 * 2

/-- A side takes a user trap: the registers of the trap, and the side goes on at UTVEC (R360). -/
def State.takeTrap (cause : Nat) (va : Option Word) (epc : Word) (s : State) : State :=
  let utvec := (s.thread s.threadId).utvec
  let s := s.mapThread s.threadId (fun t => { t with recd := t.recd.map (fun r => { r with trapped := true }) })
  (s.trapRegs cause va s.hinted epc).upd (fun k => k.goTo (utvec &&& ~~~3))

/-- A user trap at a word (R360): taken by the side that raised it; a follower raises a fault of its team instead (R73). The word has issued, so it counts toward the
watchdog (R115, R362). A leader's word is forwarded like every word that it issues, and a follower that it selects there raises the cause as R73 states (R72). -/
def State.userTrap (cause : Nat) (va : Option Word) (epc : Word) (s : State) : State :=
  let n := if s.counts then 1 else 0
  let s := if s.ctx.begun then s else s.forward s.ctx.pc (s.ctx.buf.headD 0)
  (s.takeTrap cause va epc).upd (fun k => { k with words := k.words + n })

/-- Raising a cause (R359): `hint` says whether it is reported at a first hint. DESIGN CHOICE (log 137): causes 0x0B, 0x14 and 0x15 of a follower before
commit discard the team, as R73 states for causes that would be user traps, also while UTVEC is 0, where R359 has a record and a frozen side. -/
def State.raiseAt (cause : Nat) (va? : Option Word) (hint : Bool) (s : State) : State :=
  let va := va?.getD 0
  let sheet := s.faultSheet
  let full := s.ringBlocked sheet
  let rec0 := fun (frozen held : Bool) (s : State) => s.record sheet (s.faultRec cause va hint frozen held)
  match s.cur with
  | .surveyor _ _ =>
    -- the surveyor core stops and is reported to the service core of its quadrant (R364)
    (s.upd (fun k => { k with run := .stopped, wait := none })).mapPort (quadrant sheet) (fun p => { p with evport := p.evport + 1 })
  | .handler core k =>
    if full then s.ringWait
    else if cause = 6 ∨ cause = 7 then (rec0 false false s).block (Wait.plain (.page va.toNat))
    else if cause = 9 then (rec0 false false s).freezeCore core true
    else (rec0 false false s).endHandler core k true
  | .task th side =>
    let post := s.isPost s.cur
    if cause = 0x0E then s.discard th { Why.plain with ovf := true }
    else if cause = 6 ∨ cause = 7 then
      if full then s.ringWait
      else if post then (rec0 false false s).block (Wait.plain (.page va.toNat))
      else
        (rec0 false true s).discard th { Why.plain with held := some { rank := (s.thread th).rank, va := va.toNat, sheet := sheet, no := (s.sheet sheet).recordNo.toNat, cause := cause } }
    else if cause = 9 then (if full then s.ringWait else (rec0 false false s).freezeCore (coreOfThread th) true)
    else if cause = 0x11 then
      if full then s.ringWait else let t := s.thread th; (rec0 false false s).failItem t.itemSheet t.item cause
    else if !post && decide (cause ≠ 0x0B ∧ cause ≠ 0x14 ∧ cause ≠ 0x15) || (!post && (s.thread th).follow.isSome) then
      if cause = 0x17 then
        if full then s.ringWait else (rec0 false false s).discard th { Why.plain with fault := some (cause, side, s.ctx.grp) }
      else s.discard th { Why.plain with fault := some (cause, side, s.ctx.grp) }
    else if full then s.ringWait
    else
      let s := rec0 true false s
      (s.trapRegs cause va? hint s.ctx.grp).upd (fun k => k.freezeAt cause)

/-- Raises a cause with the FAULTVA value that the raising rule names. -/
def raise (cause : Nat) (va : Word) (s : State) : Out := .next (s.raiseAt cause (some va) s.hinted)

/-- Raises a cause whose rule names no FAULTVA value: it stays unchanged, and the record holds 0. -/
def raise0 (cause : Nat) (s : State) : Out := .next (s.raiseAt cause none s.hinted)

/-- A user trap where the side has a vector, otherwise a record and the frozen side (R19, R359, R360). -/
def trapBy (take : State → State) (cause : Nat) (va : Option Word) (s : State) : Out :=
  match s.cur with
  | .task th _ =>
    if (s.thread th).utvec ≠ 0 ∧ (s.thread th).follow = none then .next (take s)
    else .next (s.raiseAt cause va s.hinted)
  | _ => .next (s.raiseAt cause va s.hinted)

/-- A trap at the word of the context in focus. -/
def trapOut (cause : Nat) (va : Option Word) (epc : Word) (s : State) : Out := trapBy (State.userTrap cause va epc) cause va s

/-- A trap behind a word that has completed; it is reported at the next word. -/
def trapAfter (cause : Nat) (va : Option Word) (s : State) : Out := trapBy (State.takeTrap cause va s.ctx.pc) cause va s

/-- A trap of the context in focus would go to the surveyor, whose ring has no room for it (R19, R363). -/
def State.trapHeld (s : State) : Bool :=
  s.ringBlocked s.faultSheet && !(s.cur.isTask && decide ((s.thread s.threadId).utvec ≠ 0 ∧ (s.thread s.threadId).follow = none))

/-- Continues after an access. -/
def Acc.run (x : Acc α) (f : α → State → Out) : Out :=
  match x with
  | .ok a s => f a s
  | .trap c v s => raise c v s
  | .wait w s => .next (s.block w)
  | .gone s => .next s

/-- The return from a surveyor trap (R364): pc = SEPC and IE = PIE. -/
def State.eretState (sheet k : Nat) (s : State) : State :=
  let h := s.sheet sheet
  let pie := (h.sstat.get 0 k).toNat / 2 % 2
  (s.mapSheet sheet (fun h => { h with sstat := h.sstat.set k (BitVec.ofNat 64 (2 * pie + pie)) })).retireTo (h.sepc.get 0 k)

/-- A surveyor trap (R364): SEPC = the address of the next group, PIE = IE, IE = 0, pc = SVEC. -/
def State.surveyorTrap (sheet k : Nat) (s : State) : State :=
  let c : CtxId := .surveyor sheet k
  let h := s.sheet sheet
  let ie := (h.sstat.get 0 k).toNat % 2
  (s.mapSheet sheet (fun h => { h with sepc := h.sepc.set k (s.ctxOf c).grp, sstat := h.sstat.set k (BitVec.ofNat 64 (2 * ie)) })).mapCtx c
    (fun k' => { (k'.goTo (h.svec.get 0 k)) with run := .running })

end Sys2Proof.Machine
end

