-- ==== Sys2Proof/Machine/Operands.lean ====
section
/-! DEFINITION. Operand forms: scalar registers and predicates (R55, R56), vector registers and queue windows (R57, R60, R95, R96), the vector shape (R61), lane
selection (R75, R93, R94), the checks at issue (R68, R69), the checks of a hint group (R82 to R95), and the wrapper of every meaning. -/

namespace Sys2Proof.Machine

/-! ## Scalar registers and predicates -/

/-- A scalar register: s0 reads as 0 (R55). -/
def Ctx.reg (k : Ctx) (r : BitVec 5) : Word := if r = 0 then 0 else k.x[r.toNat]

/-- A write of a scalar register: a write of s0 is discarded (R55). -/
def Ctx.setReg (r : BitVec 5) (v : Word) (k : Ctx) : Ctx := if r = 0 then k else { k with x := k.x.set r.toNat v }

def State.reg (s : State) (r : BitVec 5) : Word := s.ctx.reg r
def State.setReg (r : BitVec 5) (v : Word) (s : State) : State := s.upd (fun k => k.setReg r v)

/-- A predicate (R56). -/
def State.pred (s : State) (p : BitVec 4) : Pred := s.ctx.p[p.toNat]

/-- A write of all the bits of a predicate; on the A side a predicate is one bit (R52, R56). -/
def State.setPred (p : BitVec 4) (v : Pred) (s : State) : State :=
  let v := if s.cur.isA then v &&& 1 else v
  s.upd (fun k => { k with p := k.p.set p.toNat v })

/-- A scalar instruction writes the same value to every bit of a predicate (R56). -/
def predOf (b : Bool) : Pred := if b then BitVec.allOnes 512 else 0

/-- The bit of a predicate that a scalar instruction tests: lane 0, or the single bit (R75). -/
def State.predBit (s : State) (p : BitVec 4) : Bool := (s.pred p).getLsbD 0

/-- Whether a guard selects a scalar instruction (R75). -/
def State.selected (g : Guard) (s : State) : Bool :=
  match g with | .always => true | .on n p => s.predBit p != n

/-! ## Immediates (R76, R85) -/

/-- The immediate of a field of n bits, widened by an IMMX hint. -/
def State.imm (n : Nat) (x : BitVec n) (s : State) : Word :=
  match s.ctx.hints.immx with
  | some h => signExt (BitVec.ofNat 64 (h.toNat * 2 ^ n + x.toNat)) (22 + n)
  | none => signExt (BitVec.ofNat 64 x.toNat) n

/-! ## Shape (R61, R129) -/

/-- An element type and a region of rows and columns. -/
structure Shape where
  ty : Nat
  rows : Nat
  cols : Nat
  deriving DecidableEq, Repr

def Shape.esize (h : Shape) : Nat := elemSize h.ty
/-- The offset of an element in a register (R57). -/
def Shape.offset (h : Shape) (i j : Nat) : Nat := 32 * i + j * h.esize

def shapeOf (x : Word) : Shape := { ty := x.toNat % 16, rows := bitsOf x.toNat 7 4 + 1, cols := bitsOf x.toNat 12 8 + 1 }

/-- The shape in force. The A side holds none: its LDV and STV move 16 rows of 32 bytes (R129). -/
def State.shape (s : State) : Shape := if s.cur.isA then { ty := 6, rows := 16, cols := 32 } else shapeOf s.ctx.vshape

/-- Whether a value of VSHAPE passes the check of R61. -/
def shapeOk (x : Word) : Bool := let h := shapeOf x; decide (x.toNat < 2 ^ 13 ∧ h.ty < 12 ∧ h.cols * h.esize ≤ 32)

/-- The elements of a shape in row-major order. -/
def Shape.elems (h : Shape) : List (Nat × Nat) := (List.range h.rows).flatMap (fun i => (List.range h.cols).map (fun j => (i, j)))

/-- An element of a register. -/
def Shape.get (h : Shape) (v : VReg) (i j : Nat) : Nat := getBytes v (h.offset i j) h.esize
def Shape.put (h : Shape) (v : VReg) (i j x : Nat) : VReg := setBytes v (h.offset i j) h.esize x

/-! ## Queue windows (R60, R95, R96, R231) -/

/-- The wait count and slot offset of the three operand positions (R95). -/
def State.qwD (s : State) : Nat × Nat := match s.ctx.hints.qw with | some q => (q.dCount, q.dOff) | none => (1, 0)
def State.qwA (s : State) : Nat × Nat := match s.ctx.hints.qw with | some q => (q.aCount, q.aOff) | none => (1, 0)
def State.qwB (s : State) : Nat × Nat := match s.ctx.hints.qw with | some q => (q.bCount, q.bOff) | none => (1, 0)

def State.queue (s : State) (q : Nat) : Queue := (s.thread s.threadId).queues.getD q Queue.init

def State.mapQueue (th q : Nat) (f : Queue → Queue) (s : State) : State :=
  s.mapThread th (fun t => { t with queues := t.queues.modify q f })

/-- The consumer's and the producer's slot k (R231). -/
def Queue.consSlot (q : Queue) (k : Nat) : Nat := (q.cp + k) % q.depth
def Queue.prodSlot (q : Queue) (k : Nat) : Nat := (q.pp + k) % q.depth

/-- A vector source: a register, or the consumer's slot k of a window (R96). -/
def State.vsrc (r k : Nat) (s : State) : VReg :=
  if r < 24 then s.ctx.v.get 0 r else let q := s.queue (r - 24); q.slots.get 0 (q.consSlot k)

/-- The present bytes of a vector destination: a register, or the producer's slot k of a window (R96). -/
def State.vold (r k : Nat) (s : State) : VReg :=
  if r < 24 then s.ctx.v.get 0 r else let q := s.queue (r - 24); q.slots.get 0 (q.prodSlot k)

/-- A write of a vector destination. -/
def State.vset (r k : Nat) (v : VReg) (s : State) : State :=
  if r < 24 then s.upd (fun c => { c with v := c.v.set r v })
  else s.mapQueue s.threadId (r - 24) (fun q => { q with slots := q.slots.set (q.prodSlot k) v })

/-- Whether a window may be used: declared, with this side as its consumer (a source) or as its producer (a destination, never on a stream queue), and
its slots within the depth (R95, R232). -/
def State.windowOk (o : Opnd) (w : Nat × Nat) (s : State) : Bool :=
  let ok := fun (r : Nat) (f : Queue → Bool) => decide (r < 24) || (s.cur.isTask && (let q := s.queue (r - 24); decide (q.depth ≠ 0 ∧ w.1 + w.2 ≤ q.depth) && f q))
  match o with
  | .src r => ok r (fun q => q.cons == s.cur.sideBit)
  | .dst r => ok r (fun q => !q.stream && q.prod == s.cur.sideBit)
  | _ => true

/-- The wait of a window operand (R96); its deadlock object holds the queue number and the count. -/
def State.windowWait (o : Opnd) (w : Nat × Nat) (s : State) : Option Wait :=
  let n := w.1 + w.2
  let obj := fun (r : Nat) => BitVec.ofNat 64 ((r - 24) * 2 ^ 32 + n)
  match o with
  | .src r => if 24 ≤ r ∧ (s.queue (r - 24)).filled < n then some (sync 2 (obj r) (.filled (r - 24) n)) else none
  | .dst r => let q := s.queue (r - 24); if 24 ≤ r ∧ q.depth - q.filled < n then some (sync 2 (obj r) (.room (r - 24) n)) else none
  | _ => none

def State.windowWaits (o : Opnds) (s : State) : Option Wait :=
  ((s.windowWait o.d s.qwD).or (s.windowWait o.a s.qwA)).or (s.windowWait o.b s.qwB)

/-! ## Lanes (R75, R93, R94) -/

/-- Whether the mask of an MCOMP hint selects an element; the J1 form reads bit 0 of the element of a vector register. -/
def State.maskBit (s : State) (at8 : Nat) : Bool :=
  match s.ctx.hints.mcomp with
  | none => true
  | some (m, _) => if m < 16 then (s.ctx.p.getD m 0).getLsbD at8 else (s.ctx.v.get 0 (m - 16)).getLsbD (8 * at8)

/-- Whether an element at a byte offset executes. On the A side the guard tests the single bit (R56). -/
def State.executes (g : Guard) (at8 : Nat) (s : State) : Bool :=
  (match g with | .always => true | .on n p => (s.pred p).getLsbD (if s.cur.isA then 0 else at8) != n) && s.maskBit at8

/-- Whether elements that do not execute are written with 0 (R93). -/
def State.zeroFill (s : State) : Bool := match s.ctx.hints.mcomp with | some (_, z) => z | none => false

/-! ## The checks at issue (R68, R69) -/

/-- The named allotment of the context: n of the task, 4 in a handler (R60), 24 on a surveyor core. -/
def State.named (s : State) : Nat :=
  match s.cur with | .task th _ => (s.thread th).n | .handler .. => 4 | .surveyor .. => 24

/-- Whether a context may issue a group (R68); the groups of surveyor cores are those that use no task, engine or queue. -/
def legalIn (c : CtxId) (g : Group) : Bool :=
  match g with
  | .ialu => true
  | .immediate => true
  | .shi => true
  | .cmpi => true
  | .compare => true
  | .jump => true
  | .ctlAny => true
  | .ctlTask => c.isTask
  | .ctlC => c.isTask && !c.isA
  | .hret => c.isHandler
  | .eret => c.isSurveyor
  | .control => true
  | .loadStore => true
  | .tile => true
  | .amo => true
  | .pfetch => true
  | .memc => true
  | .vector => !c.isA
  | .vred => !c.isA
  | .vcmp => !c.isA
  | .vmisc => !c.isA
  | .vshape => !c.isA
  | .pmerge => c.isTask && !c.isA
  | .queue => c.isTask
  | .stream => c.isA
  | .port => c.isTask
  | .portV => c.isTask && !c.isA
  | .matrix => c.isTask && !c.isA
  | .taskOnly => c.isTask
  | .every => c.isTask || c.isHandler
  | .gpush => (c.isTask && !c.isA) || c.isHandler
  | .surveyor => c.isSurveyor
  | .hint => true
  | .event => true

/-- Registers held by the C side, which CRD and CWR of the A side may not name (R62, R64). -/
def heldByC (n : Nat) : Bool := decide (n = 1 ∨ n = 2 ∨ n = 3 ∨ n = 5 ∨ n = 6)

/-- The control register number of a CRD or CWR. -/
def controlNumber (i : Instr) : Option Nat := match i with | .crd _ _ c => some c.toNat | .cwr _ _ c => some c.toNat | _ => none

/-- The vector field of an operand. -/
def Opnd.vector? (o : Opnd) : Option Nat := match o with | .src r => some r | .dst r => some r | _ => Option.none

def Opnds.vectors (o : Opnds) : List Nat := [o.d, o.a, o.b].filterMap Opnd.vector?

/-- Check 3 of R69: privilege. -/
def privileged (c : CtxId) (i : Instr) : Bool :=
  !c.isSurveyor && ((match groupOf i with | .eret => true | .surveyor => true | _ => false) || (controlNumber i).any (fun n => decide (0x200 ≤ n)))

/-- Check 4 of R69: side. -/
def wrongSide (c : CtxId) (i : Instr) : Bool :=
  !legalIn c (groupOf i) || (c.isA && ((controlNumber i).any heldByC || (opndsOf i).vectors.any (fun r => decide (r < 24))))

/-- Check 5 of R69: allotment, the J1 mask register among them, which is checked at the instruction of its group and not at a hint (R60, R87, R94). -/
def State.beyondAllotment (i : Instr) (s : State) : Bool :=
  (opndsOf i).vectors.any (fun r => decide (s.named ≤ r ∧ r < 24)) ||
    (groupOf i != .hint && (match s.ctx.hints.mcomp with | some (m, _) => decide (16 ≤ m ∧ s.named ≤ m - 16) | none => false))

/-- The queue rules of the STRM instructions, by producer and consumer (R195, R197, R234, R236, R241, R242). -/
def State.queueMisuse (i : Instr) (s : State) : Bool :=
  let q := fun (n : BitVec 3) => s.queue n.toNat
  let me := s.cur.sideBit
  match i with
  | .qpub _ n => (q n).stream || (q n).prod != me || (q n).depth == 0
  | .qadv _ n => (q n).cons != me || (q n).depth == 0
  | .qfill _ _ n _ => (q n).depth == 0 || ((q n).cons != me && ((q n).stream || (q n).prod != me))
  | .sstr _ n _ => !(q n).stream
  | .istr _ n _ => !(q n).stream
  | .sclose _ n => !(q n).stream
  | .sstat _ _ n => !(q n).stream
  | _ => false

/-- Check 6 of R69: queue misuse. PMERGE takes no window (R226). -/
def State.misuse (i : Instr) (s : State) : Bool :=
  let o := opndsOf i
  !s.windowOk o.d s.qwD || !s.windowOk o.a s.qwA || !s.windowOk o.b s.qwB || s.queueMisuse i ||
    (groupOf i == .pmerge && o.vectors.any (fun r => decide (24 ≤ r)))

/-- The group has no repetition left to execute: a REP with count 0, or one resumed past its count (R86, R87). -/
def State.repZero (s : State) : Bool := match s.ctx.hints.rep with | some r => decide (r.count ≤ s.ctx.repDone) | none => false

/-- Checks 2 to 6 of R69 in their order; a REP with count 0 leaves out checks 5 and 6 (R87). -/
def issueFault (i : Instr) (s : State) : Option Nat :=
  if !i.wellFormed then some 0x01
  else if privileged s.cur i then some 0x08
  else if wrongSide s.cur i then some 0x03
  else if s.repZero then none
  else if s.beyondAllotment i then some 0x04
  else if s.misuse i then some 0x0A
  else none

/-! ## The wrapper of every meaning -/

/-- Issues an instruction: the checks, the queue windows, and its effect. -/
def issue (i : Instr) (s : State) (body : State → Out) : Out :=
  match issueFault i s with
  | some c => raise0 c s
  | none =>
    if s.repZero then done s
    else match s.windowWaits (opndsOf i) with
      | some w => .next (s.block w)
      | none => body s

/-- Issues an instruction whose guard tests lane 0 or the single bit (R75): it has no effect when the guard does not select it. -/
def issueScalar (i : Instr) (g : Guard) (s : State) (body : State → Out) : Out :=
  issue i s (fun s => if s.selected g then body s else done s)

/-! ## The checks of a hint group (R82 to R95) -/

/-- The hint kinds that a group accepts (R84), by their kind numbers. -/
def accepts (isA : Bool) (g : Group) : List Nat :=
  match g with
  | .ialu => [1]
  | .immediate => [0, 1]
  | .shi => [1]
  | .cmpi => [0]
  | .loadStore => [0, 1, 2, 3]
  | .tile => if isA then [1, 2, 3, 5] else [1, 2, 3, 4, 5]
  | .amo => [2]
  | .pfetch => [3]
  | .vector => if isA then [1, 5, 6] else [1, 4, 5, 6]
  | .vred => [1, 5, 6]
  | .vcmp => [5]
  | .vmisc => if isA then [1, 5] else [1, 4, 5]
  | .portV => [5]
  | .compare => []
  | .jump => []
  | .ctlAny => []
  | .ctlTask => []
  | .ctlC => []
  | .hret => []
  | .eret => []
  | .control => []
  | .memc => []
  | .vshape => []
  | .pmerge => []
  | .queue => []
  | .stream => []
  | .port => []
  | .matrix => []
  | .taskOnly => []
  | .every => []
  | .gpush => []
  | .surveyor => []
  | .hint => []
  | .event => []

/-- The ORD kinds that an instruction takes (R84). -/
def ordKindOk (i : Instr) (k : Nat) : Bool :=
  match i with
  | .ld .. => k == 0 || k == 1 || k == 4
  | .ldv .. => k == 0 || k == 1 || k == 4
  | .st .. => k == 0 || k == 2 || k == 4
  | .stv .. => k == 0 || k == 2 || k == 4
  | _ => true

/-- A field that the instruction uses as a register and that names no window may be stepped (R88). -/
def Opnd.steppable (o : Opnd) : Bool := match o with | .none => false | .scalar _ => true | .src r => decide (r < 24) | .dst r => decide (r < 24)

def Opnd.isWindow (o : Opnd) : Bool := match o with | .src r => decide (24 ≤ r) | .dst r => decide (24 ≤ r) | _ => false

/-- Whether an instruction accepts a hint (R84, R88, R95). -/
def acceptsHint (isA : Bool) (i h : Instr) : Bool :=
  let o := opndsOf i
  let ok := accepts isA (groupOf i)
  match h with
  | .immxHint _ => ok.contains 0
  | .repHint b a d _ => ok.contains 1 && (d == 0 || o.d.steppable) && (a == 0 || o.a.steppable) && (b == 0 || o.b.steppable)
  | .ordHint k _ => ok.contains 2 && ordKindOk i k.toNat
  | .locHint _ _ => ok.contains 3
  | .mcompHint _ _ => ok.contains 4
  | .qwHint bo bc ao ac dof dc => ok.contains 5 && (o.d.isWindow || (dof == 0 && dc == 0)) && (o.a.isWindow || (ao == 0 && ac == 0)) &&
      (o.b.isWindow || (bo == 0 && bc == 0))
  | .rndHint _ => ok.contains 6
  | _ => false

/-- The instruction of a word, where it is a legal encoding. -/
def legalWord (w : BitVec 32) : Option Instr := match decode w with | .ok i => if i.wellFormed then some i else none | .error _ => none

/-- The kind of a hint word (R81). -/
def hintKind (w : BitVec 32) : Nat := w.toNat / 2 ^ 22 % 16

/-- Whether a group with a hint breaks R83: four hints, two of a kind, an illegal hint or instruction word, or a hint that is not accepted. -/
def groupBad (isA : Bool) (ws : List (BitVec 32)) : Bool :=
  let hs := ws.takeWhile isHintWord
  if hs.isEmpty then false
  else match ws.drop hs.length with
    | [] => true
    | w :: _ =>
      match legalWord w with
      | none => true
      | some i => !decide ((hs.map hintKind).Nodup) || hs.any (fun h => match legalWord h with | none => true | some h => !acceptsHint isA i h)

/-! ## REP stepping (R86, R88) -/

/-- A step of a REP hint: a signed field of three bits. -/
def repStep (x : BitVec 3) : Int := toSigned x.toNat 3

/-- The value of a stepped field at a repetition. -/
def stepField (v : Nat) (step : Int) (k : Nat) : Int := v + k * step

/-- The fault of a stepped field: a scalar outside s0 to s31, or a vector outside the allotment (R88). Repetition 0 has the fields of the word itself, which
the checks of R69 cover. -/
def stepFault (o : Opnd) (step : Int) (k named : Nat) : Option Nat :=
  if step = 0 ∨ k = 0 then none
  else match o with
    | .none => none
    | .scalar r => let x := stepField r step k; if x < 0 ∨ 31 < x then some 0x01 else none
    | .src r => let x := stepField r step k; if x < 0 ∨ (named : Int) ≤ x then some 0x04 else none
    | .dst r => let x := stepField r step k; if x < 0 ∨ (named : Int) ≤ x then some 0x04 else none

/-- The word of repetition k, or the cause that the repetition raises. -/
def stepWord (i : Instr) (w : BitVec 32) (r : RepHint) (k named : Nat) : Except Nat (BitVec 32) :=
  let o := opndsOf i
  let fs := [stepFault o.d r.dStep k named, stepFault o.a r.aStep k named, stepFault o.b r.bStep k named].filterMap id
  if fs.contains 1 then .error 1
  else if fs.contains 4 then .error 4
  else
    let f := fun (lo : Nat) (step : Int) => ((stepField (w.toNat / 2 ^ lo % 32) step k) % 32).toNat * 2 ^ lo
    .ok (BitVec.ofNat 32 (w.toNat / 2 ^ 20 * 2 ^ 20 + f 15 r.dStep + f 10 r.aStep + f 5 r.bStep + w.toNat % 32))

end Sys2Proof.Machine
end

