-- ==== Sys2Proof/Machine/Flags.lean ====
section
/-! DEFINITION. The conditions of comparisons (R107) and the predicate computations (R110). The device has no condition flags (R102): predicates are what
comparisons write. -/

namespace Sys2Proof.Machine

/-- The conditions of CMP and CMPI (R107). -/
inductive Cond where
  | eq | ne | lt | ltn | ge | gen
  deriving DecidableEq, Repr

def Cond.holds (c : Cond) (a b : Word) : Bool :=
  match c with
  | .eq => a == b
  | .ne => a != b
  | .lt => a.slt b
  | .ltn => a.ult b
  | .ge => !a.slt b
  | .gen => !a.ult b

/-- A comparison writes its result to every bit of the predicate, or to the single bit on the A side (R56, R107). -/
def State.setCond (p : BitVec 4) (c : Cond) (a b : Word) (s : State) : State := s.setPred p (predOf (c.holds a b))

/-- The bits of a predicate that PANY to PFIRST count, in row-major order of the shape; on the A side the single bit (R110). -/
def State.counted (p : BitVec 4) (s : State) : List Bool :=
  if s.cur.isA then [s.predBit p]
  else let h := s.shape; let v := s.pred p; h.elems.map (fun e => v.getLsbD (h.offset e.1 e.2))

/-- PMOVS: bits 32i to 32i + 31 are bit i of the scalar (R110). -/
def spread (x : Word) : Pred :=
  (List.range 16).foldl (fun (v : Pred) i => if x.getLsbD i then v ||| BitVec.ofNat 512 (ones 32 * 2 ^ (32 * i)) else v) 0

end Sys2Proof.Machine
end

