-- ==== Sys2Proof/Machine/Ready.lean ====
section
/-! DEFINITION. When a context may issue (R70), and the choice of a front end among its ready contexts (R70, R71, R117). -/

namespace Sys2Proof.Machine

/-- Whether the A side of a thread is idle: not started, or past its END (R120). -/
def State.aIdle (s : State) (th : Nat) : Bool :=
  match (s.ctxOf (.task th .a)).run with | .idle => true | .ended => true | _ => false

def Req.isAtomic (r : Req) : Bool := match r with | .atomic .. => true | _ => false

/-- The phaser of an id, by its class, home and index, whatever its launch; the 256 tree phasers of the module share one index space (R1, R351). -/
def State.phaserAt (s : State) (id : Nat) : Option Phaser :=
  if id / 2 ^ 30 % 4 = 0 then (s.sheet (id / 2 ^ 25 % 32)).phasers.get? (id % 4096) else s.treePhasers.get? (id % 4096)

/-- The number of held and ready items of a sheet (R343). -/
def Sheet.pool (h : Sheet) : Nat :=
  (h.items.filter (fun p => decide (p.2.st = .ready ∨ p.2.st = .held))).length

/-- A job table entry is free, or can be taken from a completed job (R151). -/
def Thread.jobRoom (t : Thread) : Bool := decide (t.jobs.length < 16) || t.jobs.any (fun e => e.complete)

def Thread.job? (t : Thread) (id : Nat) : Option JobEntry := t.jobs.find? (fun e => e.id == id)

/-- The threads of a slot of a cluster, one on each core (R152). -/
def gangThreads (th : Nat) : List Nat := (List.range 8).map (fun k => (th / 64 * 8 + k) * 8 + th % 8)

/-- Whether a walk of a thread may take a queue entry: one granted to the thread, or a free one that no other waits for (R149). -/
def State.walkRoom (s : State) (th : Nat) : Bool :=
  let c := s.cluster (clusterOfThread th)
  c.walkQ.contains (grantMark th) || (decide (c.walkQ.length < 32) && c.walkWait.isEmpty)

/-- The sheet on which a context stands. -/
def sheetOfCtx (c : CtxId) : Nat :=
  match c with | .surveyor h _ => h | .handler core _ => sheetOfCore core | .task th _ => sheetOfThread th

/-- Whether an edge has completed a command: sequences run over 1 to 0xFFFF, so distances are taken modulo 0xFFFF (R415). -/
def seqDone (last seq : Nat) : Bool := decide (last ≠ 0 ∧ (last + 0xFFFF - seq) % 0xFFFF < 2 ^ 15)

/-- Whether a wait of a context is over. -/
def WaitCond.holds (w : WaitCond) (c : CtxId) (s : State) : Bool :=
  let th := s.threadOf c
  let t := s.thread th
  let queue := fun (q : Nat) => t.queues.getD q Queue.init
  let route := (s.ctxOf c).route
  match w with
  | .acked => !s.outstanding (.side c)
  | .soDone => !s.soOutstanding c
  | .reply => !s.net.any (fun p => decide (p.2.origin = .side c) && p.2.req.isAtomic)
  | .filled q n => decide (n ≤ (queue q).filled)
  | .room q n => decide (n ≤ (queue q).depth - (queue q).filled)
  | .streamRoom q => decide ((queue q).streams.length < 4)
  | .streamQuiet q => (queue q).streams.isEmpty
  | .aIdle => s.aIdle th
  | .endWaits => false
  | .wake => t.wake
  | .jobEntry => t.jobRoom
  | .walkGrant => s.walkRoom th
  | .tracerGrant => decide ((s.ctxOf c).stage = 5)
  | .jobDone id => match t.job? id with | some e => e.complete | none => true
  | .gang => t.gangGo
  | .mwalkg => t.mwalkgId.isSome
  | .mwalkgForm => t.mwalkgId.isSome || ((gangThreads th).all (fun x => (s.thread x).jobRoom) && (s.walkRoom th || !(s.cluster (clusterOfThread th)).walkWait.contains th))
  | .pmerge => t.pmergeRes.isSome
  | .phase id ph => (s.phaserAt id).any (fun p => p.live && decide ((p.phase - BitVec.ofNat 32 ph).toNat < 2 ^ 31))
  | .cycle n => decide (n ≤ s.cycle.toNat)
  | .pool h => decide ((s.sheet h).pool < Config.poolSize)
  | .route => (route.opn && !route.closing) || route.broken || (!route.opn && !route.opening)
  | .destFree n => decide (n ≤ route.free) || route.broken
  | .portItem p => match t.ports[p]? with | some q => !q.items.isEmpty || q.mark | none => false
  | .edgeRoom e => decide ((s.edge e).queue.length < 8)
  | .edgeDone e seq => seqDone (s.edge e).done seq
  | .inboxRoom => let k := (s.sheet (sheetOfThread th)).compass; decide ((k.inhead - k.intail).toNat < 64)
  | .popRecord => !(s.sheet (sheetOfThread th)).compass.popq.isEmpty
  | .windowDone h w => !(s.sheet h).windows.any (fun (x : Nat × Window) => x.1 == w && x.2.changing)
  | .lxFinal h i => decide (5 ≤ (s.lx h i).st) || !(s.lx h i).live
  | .page _ => false
  | .held core => !(s.core core).frozen
  | .ring => !s.ringBlocked (sheetOfCtx c)
  | .settled l => l.all (fun k => (s.net.get? k).isNone)
  | .performed l => l.all (fun k => match s.net.get? k with | some p => p.performed || p.nacked.isSome | none => true)

/-- What follower mode adds: a follower holds its group whole, and a leader issues only while every hop buffer of its side has room (R72, R100). -/
def State.hopReady (s : State) (c : CtxId) : Bool :=
  match c with
  | .task th side =>
    if (s.thread th).follow.isSome then
      decide ((s.ctxOf c).buf ≠ []) || (s.ctxOf c).hop.any (fun w => !isHintWord w.2)
    else (s.followers th).all (fun f => decide ((s.ctxOf (.task f side)).hop.length < 8))
  | _ => true

/-- A launch held on a sheet by FREEZE of kind 2 issues nothing there (R366). -/
def State.drained (s : State) (c : CtxId) : Bool :=
  match c with
  | .task th _ => ((s.launch (s.thread th).launch).drained).contains (sheetOfThread th) && !(s.thread th).post
  | _ => false

/-- Above a junction temperature of 105 °C the cores of a stack issue in one of 8 cycles (R442). -/
def State.cooled (s : State) (c : CtxId) : Bool := (s.sheet (sheetOfCtx c)).throttled && decide (s.cycle.toNat % 8 ≠ 0)

/-- A write of the context has been refused, and its new translation has failed: the context stalls until that is serviced (R124, R273, R359). -/
def State.storeHeld (s : State) (c : CtxId) : Bool := s.net.any (fun p => p.2.held && decide (p.2.origin = .side c))

/-- A context is ready: it runs on a core that is not frozen, and its waits are satisfied (R70). A task whose plate is being printed issues nothing. -/
def State.ready (s : State) (c : CtxId) : Bool :=
  let k := s.ctxOf c
  decide (k.run = .running) && !(c.core?.any (fun core => (s.core core).frozen || (s.core core).retired)) &&
    (match k.wait with | none => true | some w => w.cond.holds c s) && s.hopReady c && !s.drained c && !s.cooled c && !s.storeHeld c &&
    (match c with | .task th _ => (s.thread th).print.isNone | _ => true)

/-- The contexts of a front end of a core, handlers first (R70). -/
def frontCtxs (core : Nat) (side : Side) : List CtxId :=
  let ts := (List.range 8).map (fun k => CtxId.task (core * 8 + k) side)
  match side with | .a => ts | .c => [.handler core 0, .handler core 1] ++ ts

/-- The ready contexts of a front end. -/
def State.frontReady (s : State) (core : Nat) (side : Side) : List CtxId := (frontCtxs core side).filter (fun c => s.ready c)

/-- The ready contexts among which R70 chooses: a YIELDed one only when no other context is ready, or once every context that it waits for has issued (R117).
DESIGN CHOICE (log 154): where every ready context has YIELDed and waits for one that is not ready, R70 chooses among all of them, though by R117 none of them
may be chosen; and the second end of a YIELD is looked at when the front end chooses. -/
def State.unyielded (s : State) (r : List CtxId) : List CtxId :=
  let now := r.filter (fun c => (s.ctxOf c).yielded.isEmpty)
  if now.isEmpty then r else now

/-- PRIO for the issue choice: handlers rank above 11 (R70, R71). -/
def State.rankOf (s : State) (c : CtxId) : Nat := match c with | .task th _ => (s.thread th).prio | _ => 12

def CtxId.slot (c : CtxId) : Nat := match c with | .task th _ => th % 8 | .handler _ k => k | .surveyor _ k => k

/-- The choice of R70: handlers, the one that started first; then the highest PRIO; then round robin after the thread that issued last at it. -/
def State.chooseTop (s : State) (core : Nat) (side : Side) (r : List CtxId) : Option CtxId :=
  match argMin (r.filter CtxId.isHandler) (fun c => s.handlers.findIdx (fun p => decide (CtxId.handler p.1.1 p.1.2 = c))) with
  | some h => some h
  | none =>
    let top := r.foldl (fun m c => max m (s.rankOf c)) 0
    let k := s.core core
    let last := (match side with | .a => k.lastA | .c => k.lastC).get 7 top
    argMin (r.filter (fun c => s.rankOf c == top)) (fun c => (c.slot + 7 - last) % 8)

/-- The context that a front end issues from (R70). -/
def State.choose (s : State) (core : Nat) (side : Side) : Option CtxId := s.chooseTop core side (s.unyielded (s.frontReady core side))

/-- The ready context other than `top` that has waited longest (R71). -/
def State.longest (s : State) (core : Nat) (side : Side) (top : CtxId) : Option CtxId :=
  argMin ((s.frontReady core side).filter (· ≠ top)) (fun c => (s.ctxOf c).since * 2 ^ 8 + (12 - s.rankOf c) * 16 + c.slot)

/-- The next issue of a front end is a 64th one (R71). -/
def State.sixtyFourth (s : State) (core : Nat) (side : Side) : Bool :=
  let k := s.core core
  (match side with | .a => k.issuedA | .c => k.issuedC) % 64 == 63

/-! ## Issuing -/

/-- The word of a context waits before it has any effect: its context does not issue in this cycle (R70). -/
def Ctx.stalls (k : Ctx) : Bool := decide (k.run = .running) && k.wait.isSome && k.stage == 0 && k.keep == 0

/-- The word of a context has begun its effect and waits for the rest of it: it has issued. -/
def Ctx.underway (k : Ctx) : Bool := decide (k.run = .running) && k.wait.isSome && !(k.stage == 0 && k.keep == 0)

/-- A context of the front end has issued: no YIELD waits for it any longer. A YIELD of its own begins with the issue of that YIELD, in whose list the context
itself stands till then, and ends with any other issue (R117). -/
def State.noteIssue (c : CtxId) (s : State) : State :=
  { s with ctxs := s.ctxs.map (fun (p : CtxId × Ctx) =>
      if p.2.yielded = [] then p
      else (p.1, { p.2 with yielded := if p.1 = c ∧ !p.2.yielded.contains c then [] else p.2.yielded.filter (· ≠ c) })) }

/-- A task or handler context of a sheet has issued, which is activity for the deadlock sweep (R353). -/
def State.noteActive (c : CtxId) (s : State) : State :=
  match c with | .surveyor .. => s | _ => s.mapSheet (sheetOfCtx c) (fun h => { h with activeAt := s.cycle.toNat })

/-- What an issue of a context at a priority leaves in the counts of its front end (R70, R71). -/
def State.countIssue (c : CtxId) (p : Nat) (s : State) : State :=
  let now := s.cycle.toNat
  let s := (((s.mapCtx c (fun k => { k with since := now })).noteIssue c).noteActive c)
  match c with
  | .task th side =>
    s.mapCore (coreOfThread th) (fun k => match side with
      | .a => { k with issuedA := k.issuedA + 1, lastA := k.lastA.set p (th % 8) }
      | .c => { k with issuedC := k.issuedC + 1, lastC := k.lastC.set p (th % 8) })
  | .handler core _ => s.mapCore core (fun k => { k with issuedC := k.issuedC + 1 })
  | .surveyor .. => s

/-- The word at the head of a context's buffer goes to the followers when it has begun and waits (R72): a barrier of the team would not be reached otherwise. -/
def State.forwardBegun (c : CtxId) (s : State) : State :=
  let k := s.ctxOf c
  let s := if k.lastRep then { ({ s with cur := c } : State).forward k.pc (k.buf.headD 0) with cur := s.cur } else s
  s.mapCtx c (fun k => { k with begun := true })

/-- An attempt of a context counts as an issue when its word completes, raises a cause, or begins its effect and waits; each word, or repetition, once.
`resumed` says that the word had begun before, and `p` is the PRIO at which the context was chosen: a CWR lowers it from the next cycle on (R63, R70 to R72). -/
def State.countAttempt (c : CtxId) (p : Nat) (resumed : Bool) (s : State) : State :=
  let k := s.ctxOf c
  if resumed || k.stalls then s
  else if k.underway then (s.countIssue c p).forwardBegun c
  else s.countIssue c p

end Sys2Proof.Machine
end

