-- ==== Sys2Proof/Machine/Control.lean ====
section
/-! DEFINITION. Control transfers (R111 to R113), the control group (R114 to R122, R364), and CRD and CWR (R62 to R67, R123). -/

namespace Sys2Proof.Machine

/-! ## J, JAL and JX -/

/-- The context is a follower, whose control transfers only write their link (R73). -/
def State.isFollower (s : State) : Bool := match s.cur with | .task th _ => (s.thread th).follow.isSome | _ => false

/-- A taken transfer. -/
def State.jumpTo (t : Word) (s : State) : Out := if s.isFollower then done s else .next (s.retireTo t)

/-- The target of J and JAL: the address of the word plus the offset in words (R111). -/
def State.jumpTarget (s : State) (o : BitVec 20) : Word := s.ctx.pc + signExt (BitVec.ofNat 64 o.toNat) 20 * 4

/-- J (R111). -/
def execJump (g : Guard) (o : BitVec 20) (s : State) : Out :=
  issueScalar (.jump g o) g s (fun s => s.jumpTo (s.jumpTarget o))

/-- JAL: s31 receives the address of the next word (R111). -/
def execJumpLink (g : Guard) (o : BitVec 20) (s : State) : Out :=
  issueScalar (.jumpLink g o) g s (fun s => (s.setReg 31 (s.ctx.pc + 4)).jumpTo (s.jumpTarget o))

/-- JR: a target that is not a multiple of 4 raises cause 0x05 (R112). -/
def execJumpReg (g : Guard) (a : BitVec 5) (s : State) : Out :=
  issueScalar (.jumpReg g a) g s (fun s =>
    let t := s.reg a
    if t.toNat % 4 ≠ 0 ∧ s.isFollower = false then raise 5 t s else s.jumpTo t)

/-- JALR: the target is read before the link is written (R112). -/
def execJumpLinkReg (g : Guard) (a : BitVec 5) (s : State) : Out :=
  issueScalar (.jumpLinkReg g a) g s (fun s =>
    let t := s.reg a
    if t.toNat % 4 ≠ 0 ∧ s.isFollower = false then raise 5 t s else (s.setReg 31 (s.ctx.pc + 4)).jumpTo t)

/-- A word that selects no instruction raises cause 0x01 (R75, R78 to R80). -/
def execIllegalInstruction (w : BitVec 32) (s : State) : Out :=
  match decode w with | .error _ => raise0 0x01 s | .ok _ => .fault .notEnabled

/-! ## CTL -/

/-- NOP (R114). -/
def execNop (g : Guard) (s : State) : Out := issueScalar (.nop g) g s done

/-- The closing flit of an open route enters it at END (R246). -/
def Ctx.startClose (k : Ctx) : Ctx := if k.route.opn then { k with route := { k.route with closing := true } } else k

/-- END (R116): the A side becomes idle, and a follower takes no more forwarded words on it (R73); the C side commits and its task is ENDING until the waits of R116 are over (TASK_END_COMPLETE). -/
def execEndTask (g : Guard) (s : State) : Out :=
  issueScalar (.endTask g) g s (fun s =>
    match s.cur with
    | .task th .a => .next ((s.retire).mapCtx (.task th .a) (fun k => { k.startClose with run := .ended, hop := [] }))
    | .task th .c =>
      let s := (s.commitThread th).retire
      .next ((s.mapThread th (fun t => { t with st := .ending })).mapCtx (.task th .c)
        (fun k => { k.startClose with run := .ended, hop := [], wait := some (sync 8 0 .endWaits) }))
    | _ => done s)

/-- COMMIT (R115). -/
def execCommit (g : Guard) (s : State) : Out := issueScalar (.commit g) g s (fun s => done s.commit)

/-- YIELD: the contexts of its front end that are ready now come before it (R117). -/
def execYield (g : Guard) (s : State) : Out :=
  issueScalar (.yield g) g s (fun s =>
    let side := if s.cur.isA then Side.a else Side.c
    let others := (frontCtxs s.coreId side).filter (fun c => c ≠ s.cur && s.ready c)
    .next (s.retire.upd (fun k => { k with yielded := s.cur :: others })))

/-- PARK: waits for the wake bit and clears it (R118). -/
def execPark (g : Guard) (s : State) : Out :=
  issueScalar (.park g) g s (fun s =>
    if (s.thread s.threadId).wake then done (s.mapThread s.threadId (fun t => { t with wake := false })) else .next (s.block (sync 7 0 .wake)))

/-- TRAP raises cause 0x14 with its code in FAULTVA (R119). -/
def execTrap (g : Guard) (c : BitVec 5) (s : State) : Out :=
  issueScalar (.trap g c) g s (fun s => trapOut 0x14 (some (BitVec.ofNat 64 c.toNat)) s.ctx.pc s)

/-- BRK raises cause 0x15 (R119). -/
def execBrk (g : Guard) (s : State) : Out := issueScalar (.brk g) g s (fun s => trapOut 0x15 none s.ctx.pc s)

/-- ERET: the return from a surveyor trap (R364). -/
def execEret (g : Guard) (s : State) : Out :=
  issueScalar (.eret g) g s (fun s => match s.cur with | .surveyor sheet k => .next (s.eretState sheet k) | _ => done s)

/-- HRET ends the handler (R121). -/
def execHret (g : Guard) (s : State) : Out :=
  issueScalar (.hret g) g s (fun s => match s.cur with | .handler core k => .next (s.endHandler core k false) | _ => done s)

/-- ASTART starts the A side at entry_a with s1 = sA, once in a run (R120). DESIGN CHOICE (log 146): an A side that has not issued counts as resident, for the
wait of R71, from the cycle of its ASTART; R71 does not say whether from there or from the placement of its task. -/
def execAstart (g : Guard) (a : BitVec 5) (s : State) : Out :=
  issueScalar (.astart g a) g s (fun s =>
    let th := s.threadId
    let entry := (s.itemOf s.cur).entryA
    if (s.thread th).aStarted ∨ entry = 0 then done s
    else
      let s1 := s.reg a
      let now := s.cycle.toNat
      done ((s.mapThread th (fun t => { t with aStarted := true })).mapCtx (.task th .a) (fun k =>
        { (({ Ctx.init with run := .running, pc := entry, grp := entry, since := now } : Ctx).setReg 1 s1) with hop := k.hop })))

/-- AWAIT waits until the A side is idle (R120). -/
def execAwait (g : Guard) (s : State) : Out :=
  issueScalar (.await g) g s (fun s => if s.aIdle s.threadId then done s else .next (s.block (sync 8 0 .aIdle)))

/-- IFLUSH: the side's stores are sent and performed, and the core's copies of instruction lines go (R122). -/
def execIflush (g : Guard) (s : State) : Out :=
  issueScalar (.iflush g) g s (fun s => (s.release 2).run (fun _ s => done (s.mapCore s.coreId (fun k => { k with ilines := [] }))))

/-! ## Control registers -/

/-- ALLOT (R65). -/
def State.allotReg (s : State) : Word :=
  match s.cur with
  | .task th _ => let t := s.thread th; BitVec.ofNat 64 (t.qcfg * 2 ^ 10 + t.q * 2 ^ 5 + t.n)
  | .handler .. => BitVec.ofNat 64 (2 ^ 17 + 4)
  | .surveyor .. => 24

/-- TSTAT (R65); in a handler it holds its reset value (R54). -/
def State.tstatReg (s : State) : Word :=
  match s.cur with
  | .task th _ =>
    let t := s.thread th
    let b := fun (x : Bool) => if x then 1 else 0
    BitVec.ofNat 64 (b t.rerun * 32 + b t.late * 16 + t.plate % 4 * 4 + b t.ovf * 2 + b t.post)
  | _ => 0

/-- SELF (R66). -/
def State.selfReg (s : State) : Word :=
  match s.cur with
  | .surveyor .. => addrOf s.cur
  | c =>
    let m := s.memberOf c
    let place := match c with | .task th _ => addrOf (.task th .a) | c => addrOf c &&& ~~~(16 : Word)
    let b := fun (x : Bool) => if x then 1 else 0
    place ||| BitVec.ofNat 64 (m.member % 65536 * 2 ^ 32 + b m.follow * 32 + b c.isHandler * 16 + b (!c.isA) * 8)

/-- A register that is held by the thread; a handler holds its own copy, at its reset value until it writes it (R54, R62). -/
def State.threadReg (s : State) (n : Nat) (ofThread : Thread → Word) (reset : Word) : Word :=
  match s.cur with
  | .task th _ => ofThread (s.thread th)
  | .handler core k => ((s.handlers.get? (core, k)).bind (fun h => h.own.get? n)).getD reset
  | .surveyor .. => 0

def State.setThreadReg (n : Nat) (v : Word) (f : Thread → Thread) (s : State) : State :=
  match s.cur with
  | .task th _ => s.mapThread th f
  | .handler core k => match s.handlers.get? (core, k) with | some h => { s with handlers := s.handlers.set (core, k) { h with own := h.own.set n v } } | none => s
  | .surveyor .. => s

/-- The control registers below 0x200, as CRD reads them (R62 to R67). -/
def State.controlRead (n : Nat) (s : State) : Word :=
  let k := s.ctx
  match n with
  | 0x000 => s.cycle
  | 0x001 => k.seed
  | 0x002 => k.round
  | 0x003 => k.vshape
  | 0x004 => s.allotReg
  | 0x005 => k.mcons
  | 0x006 => k.scanout
  | 0x007 => k.repcnt
  | 0x008 => s.tstatReg
  | 0x009 => k.cause
  | 0x00A => s.threadReg n Thread.epca 0
  | 0x00B => s.threadReg n Thread.epcc 0
  | 0x00C => s.threadReg n Thread.utvec 0
  | 0x00D => k.faultva
  | 0x010 => s.selfReg
  | 0x011 => s.threadReg n (fun t => BitVec.ofNat 64 t.prio) (BitVec.ofNat 64 (s.itemOf s.cur).prio)
  | 0x012 => s.threadReg n Thread.deadline (s.memberOf s.cur).deadline
  | _ => 0

/-- The reserved bits of a control register (R61 to R67). -/
def controlReserved (n : Nat) : Word :=
  match n with
  | 0x002 => ~~~7
  | 0x005 => ~~~(BitVec.ofNat 64 (2 ^ 30 - 1))
  | 0x007 => ~~~511
  | 0x009 => ~~~1023
  | 0x011 => ~~~15
  | _ => 0

/-- The cause that a CWR raises for a register or a value, if any (R61, R63). -/
def State.controlFault (n : Nat) (v : Word) (s : State) : Option Nat :=
  if n = 0 ∨ n = 4 ∨ n = 8 ∨ n = 0x10 ∨ n = 0x12 then some 0x08
  else if n = 3 then (if shapeOk v then none else some 0x1B)
  else if v &&& controlReserved n ≠ 0 ∨ (n = 2 ∧ 6 ≤ v.toNat % 8) then some 0x01
  else if n = 0x11 ∧ (s.controlRead 0x11).toNat < v.toNat then some 0x08
  else none

/-- A write of a control register that passes the checks (R62, R63). -/
def State.controlWrite (n : Nat) (v : Word) (s : State) : State :=
  match n with
  | 0x001 => s.upd (fun k => { k with seed := if v = 0 then 1 else v })
  | 0x002 => s.upd (fun k => { k with round := v })
  | 0x003 => s.upd (fun k => { k with vshape := v })
  | 0x005 => s.upd (fun k => { k with mcons := v })
  | 0x006 => s.upd (fun k => { k with scanout := v })
  | 0x007 => s.upd (fun k => { k with repcnt := v })
  | 0x009 => s.upd (fun k => { k with cause := v })
  | 0x00A => s.setThreadReg n (v &&& ~~~3) (fun t => { t with epca := v &&& ~~~3 })
  | 0x00B => s.setThreadReg n (v &&& ~~~3) (fun t => { t with epcc := v &&& ~~~3 })
  | 0x00C => s.setThreadReg n (v &&& ~~~3) (fun t => { t with utvec := v &&& ~~~3 })
  | 0x00D => s.upd (fun k => { k with faultva := v })
  | 0x011 => s.setThreadReg n v (fun t => { t with prio := v.toNat })
  | _ => s

/-- CRD (R123); a surveyor register that is not assigned raises cause 0x01, whatever the guard (log 145). -/
def execCrd (g : Guard) (d : BitVec 5) (c : BitVec 10) (s : State) : Out :=
  issue (.crd g d c) s (fun s =>
    let read := fun (v : Word) => if s.selected g then done (s.setReg d v) else done s
    match s.cur with
    | .surveyor sheet k =>
      if c.toNat < 0x200 then read (s.controlRead c.toNat)
      else (match s.svRead sheet k c.toNat with | some v => read v | none => raise0 1 s)
    | _ => read (s.controlRead c.toNat))

/-- The cause that the number of a control register raises for a write, whatever the value: 0x08 for an RO register, 0x01 for a number that is not assigned
(R63, R123). -/
def State.numberFault (n : Nat) (s : State) : Option Nat :=
  if n = 0 ∨ n = 4 ∨ n = 8 ∨ n = 0x10 ∨ n = 0x12 then some 0x08
  else if n < 0x200 then none
  else match s.cur with
    | .surveyor sheet k =>
      if (s.svRead sheet k n).isNone then some 0x01
      else if n = 0x249 ∨ (0x220 ≤ n ∧ n ≤ 0x23D ∧ n % 2 = 1) then some 0x08
      else none
    | _ => none

/-- CWR, checked under R63 (R123). DEDUCED (log 145): what the number alone decides is checked whatever the guard, because R75 spares an instruction that its
guard does not select only the faults that depend on operand values or addresses. -/
def execCwr (g : Guard) (a : BitVec 5) (c : BitVec 10) (s : State) : Out :=
  issue (.cwr g a c) s (fun s =>
    let v := s.reg a
    let plain := fun (s : State) => match s.controlFault c.toNat v with | some e => raise0 e s | none => done (s.controlWrite c.toNat v)
    match s.numberFault c.toNat with
    | some e => raise0 e s
    | none =>
      if !s.selected g then done s
      else match s.cur with
        | .surveyor sheet k =>
          if c.toNat < 0x200 then plain s else (match s.svWrite sheet k c.toNat v with | .ok s => done s | .error e => raise0 e s)
        | _ => plain s)

end Sys2Proof.Machine
end

