-- ==== Sys2Proof/Machine/Access.lean ====
section
/-! DEFINITION. LD, ST, LDV and STV (R124 to R131, R285, R286). -/

namespace Sys2Proof.Machine

/-- The ORD kind and scope of the instruction; without a hint, plain (R81, R91). -/
def State.ordHint (s : State) : Nat × Nat := s.ctx.hints.ord.getD (0, 0)

/-- The L1 policy of the instruction (R286). -/
def State.l1Policy (s : State) : Nat := (s.ctx.hints.loc.getD (0, 0)).1

/-- One aligned read of n bytes, local or global (R124, R125). The kind of a local access is given as 3. -/
def State.readAt (loc : Bool) (va : Word) (n : Nat) (s : State) : Acc (List Byte × Nat) :=
  let o := s.ordHint
  if loc then (s.loadLocal va.toNat n (o.1 == 0)).bind (fun b s => .ok (b, 3) s)
  else s.load va.toNat n o.1 o.2 s.l1Policy

/-- One aligned write, local or global, with the release part of a release store first (R284, R285). -/
def State.writeAt (loc : Bool) (va : Word) (bs : List Byte) (s : State) : Acc Unit :=
  let o := s.ordHint
  if loc then
    (if o.1 = 2 then s.release o.2 else .ok () s).bind (fun _ s => s.storeLocal va.toNat bs)
  else s.store va.toNat bs o.1 o.2 s.l1Policy

/-- The acquire part of an acquire load; on a UN page it acts as plain (R285). -/
def State.acquirePart (pk : Nat) (s : State) : State := let o := s.ordHint; if o.1 = 1 ∧ pk ≠ 2 then s.acquire o.2 else s

/-! ## LD and ST -/

/-- The access size of a size code (R127). -/
def sizeOf (z : BitVec 3) : Nat := 2 ^ (z.toNat % 4)

/-- What LD writes: sign-extended for codes 0 to 3, zero-extended for 4 to 6 (R127). -/
def loadValue (z : BitVec 3) (bs : List Byte) : Word :=
  let x := BitVec.ofNat 64 (leNat bs)
  if z.toNat < 4 then signExt x (8 * sizeOf z) else x

/-- The address of LD and ST: base plus the offset in units of the access size, modulo 2^64 (R124, R127). -/
def State.dataAddr (b : BitVec 5) (z : BitVec 3) (o : BitVec 6) (s : State) : Word := s.reg b + s.imm 6 o * BitVec.ofNat 64 (sizeOf z)

/-- LD (R127). -/
def execLd (g : Guard) (d b : BitVec 5) (z : BitVec 3) (sp : BitVec 1) (o : BitVec 6) (s : State) : Out :=
  issueScalar (.ld g d b z sp o) g s (fun s =>
    (s.readAt (sp == 1) (s.dataAddr b z o) (sizeOf z)).run (fun r s => done ((s.acquirePart r.2).setReg d (loadValue z r.1))))

/-- ST stores register D (R127). -/
def execSt (g : Guard) (d b : BitVec 5) (z : BitVec 3) (sp : BitVec 1) (o : BitVec 6) (s : State) : Out :=
  issueScalar (.st g d b z sp o) g s (fun s =>
    (s.writeAt (sp == 1) (s.dataAddr b z o) (leBytes (sizeOf z) (s.reg d).toNat)).run (fun _ s => done s))

/-! ## LDV and STV -/

/-- The executing elements of a tile access in row-major order, with their addresses (R129). -/
def State.tileElems (g : Guard) (base pitch : Word) (t : Bool) (s : State) : List (Nat × Nat × Word) :=
  let h := s.shape
  let e := BitVec.ofNat 64 h.esize
  (h.elems.filter (fun p => s.executes g (h.offset p.1 p.2))).map (fun p =>
    let i := BitVec.ofNat 64 p.1
    let j := BitVec.ofNat 64 p.2
    (p.1, p.2, base + (if t then j * pitch + i * e else i * pitch + j * e)))

/-- The first element that is out of the local range or misaligned: no byte is accessed (R125, R126). DEDUCED (log 139): R126 says so of a misaligned element;
the model takes an element that R125 refuses alike. -/
def State.tileFault (loc : Bool) (n : Nat) (store : Bool) (l : List (Nat × Nat × Word)) (s : State) : Option (Nat × Word) :=
  match l with
  | [] => none
  | (_, _, va) :: rest =>
    let bad := if loc then (match s.localTarget va.toNat n (store || s.ordHint.1 != 0) with | .trap c v _ => some (c, v) | _ => none)
               else if va.toNat % n ≠ 0 then some (5, va) else none
    match bad with | some f => some f | none => s.tileFault loc n store rest

/-- Reads every element of a list into a register, and collects whether every page was UN. -/
def State.loadTile (loc : Bool) (h : Shape) (l : List (Nat × Nat × Word)) (v : VReg) (pk : Nat) (s : State) : Acc (VReg × Nat) :=
  match l with
  | [] => .ok (v, pk) s
  | (i, j, va) :: rest =>
    (s.readAt loc va h.esize).bind (fun r s => State.loadTile loc h rest (h.put v i j (leNat r.1)) (if r.2 = 2 then pk else r.2) s)

/-- A part of a row of a global STV that lies in one line: the address of its first element, and its bytes under their mask. -/
structure RowPart where
  row : Nat
  va : Nat
  mask : LineMask
  data : LineData
  deriving DecidableEq, Repr

/-- The row parts of a global STV, in row order and ascending addresses: on an SO page a row is one SO access (R130), made of one write for each line (log 23). -/
def rowParts (h : Shape) (v : VReg) (l : List (Nat × Nat × Word)) : List RowPart :=
  match l with
  | [] => []
  | (i, j, va) :: rest =>
    let a := va.toNat
    let bs := leBytes h.esize (h.get v i j)
    let m := lineMask (a % 256) h.esize
    let x := lineOf (a % 256) bs
    match rowParts h v rest with
    | q :: qs =>
      if q.row = i ∧ q.va / 256 = a / 256 then { row := i, va := a, mask := q.mask ||| m, data := overlay q.data x m } :: qs
      else { row := i, va := a, mask := m, data := x } :: q :: qs
    | [] => [{ row := i, va := a, mask := m, data := x }]

/-- A row that straddles two pages is performed in ascending order when one of its parts lies on an SO page (R311): before the second part, a first part on
another page kind is written back and performed, and a first part on an SO page is acknowledged. Before commit the same order is kept in what the commit sends
(log 138): the answer is what the second part is, beside its bytes. A row's second line on one page is no access of its own. -/
def State.partReady (prev : Option RowPart) (q : RowPart) (s : State) : Acc Piece :=
  let asid := s.asidOf s.cur
  let kind := fun (va : Nat) => s.peekKind s.clusterId asid va
  match prev with
  | none => .ok .whole s
  | some p =>
    if p.row ≠ q.row then .ok .whole s
    else if p.va / 65536 = q.va / 65536 then .ok { Piece.whole with first := false } s
    else if kind p.va = kind q.va then .ok .whole s
    else if s.speculative then
      (if kind p.va = some 1 then .ok { Piece.whole with ordered := true } s
       else if kind q.va = some 1 then .ok { Piece.whole with ordered := true } (s.holdFlush (some (p.va / 256)))
       else .ok .whole s)
    else if kind p.va = some 1 then (if s.soOutstanding s.cur then .wait (Wait.plain .soDone) s else .ok .whole s)
    else if kind q.va = some 1 then
      let wb := match (s.core s.coreId).entry? asid (p.va / 256) with
        | some e => s.writeBack s.coreId (.core s.coreId) e
        | none => (true, s)
      if !wb.1 then .wait wb.2.retry wb.2
      else match (wb.2.net.filter (fun x => x.2.pendingOf s.coreId && x.2.asid == asid && x.2.va == p.va / 256)).map Prod.fst with
        | [] => .ok .whole wb.2
        | l => .wait (Wait.plain (.settled l)) wb.2
    else .ok .whole s

/-- Stores the parts of a list, after `prev`; `keep` counts those that are done, so that a stalled STV continues from there (R130). -/
def State.storeParts (prev : Option RowPart) (l : List RowPart) (s : State) : Acc Unit :=
  match l with
  | [] => .ok () s
  | q :: rest =>
    (s.partReady prev q).bind (fun pc s => (s.storeMasked q.va q.mask q.data s.ordHint.1 s.ordHint.2 s.l1Policy pc).bind (fun _ s =>
      (s.upd (fun k => { k with keep := k.keep + 1 })).storeParts (some q) rest))

/-- Stores the elements of a list one by one; `keep` counts those that are done (R130). -/
def State.storeElems (loc : Bool) (h : Shape) (v : VReg) (l : List (Nat × Nat × Word)) (s : State) : Acc Unit :=
  match l with
  | [] => .ok () s
  | (i, j, va) :: rest =>
    (s.writeAt loc va (leBytes h.esize (h.get v i j))).bind (fun _ s =>
      State.storeElems loc h v rest (s.upd (fun k => { k with keep := k.keep + 1 })))

/-- Stores a tile: by row parts in global memory, element by element in local memory and on a surveyor core. -/
def State.storeTile (loc : Bool) (h : Shape) (v : VReg) (l : List (Nat × Nat × Word)) (s : State) : Acc Unit :=
  if loc || s.cur.isSurveyor then s.storeElems loc h v (l.drop s.ctx.keep.toNat) else
    let n := s.ctx.keep.toNat
    let ps := rowParts h v l
    s.storeParts (if n = 0 then none else ps[n - 1]?) (ps.drop n)

/-- The bytes that LDV starts from: a register keeps what it does not load; a slot is 0 outside the shape (R131). Elements that do not execute are left, or
written with 0 under MCOMP policy 1 (R93). -/
def State.tileBase (g : Guard) (d : BitVec 5) (s : State) : VReg :=
  let h := s.shape
  let old := s.vold d.toNat s.qwD.2
  let start := if d.toNat < 24 then old else 0
  h.elems.foldl (fun (v : VReg) p =>
    if s.executes g (h.offset p.1 p.2) then v else h.put v p.1 p.2 (if s.zeroFill then 0 else h.get old p.1 p.2)) start

/-- LDV (R129 to R131): the destination is written only after every element has been read. -/
def execLdv (g : Guard) (d b p : BitVec 5) (sp t : BitVec 1) (s : State) : Out :=
  issue (.ldv g d b p sp t) s (fun s =>
    let h := s.shape
    let l := s.tileElems g (s.reg b) (s.reg p) (t == 1)
    match s.tileFault (sp == 1) h.esize false l with
    | some (c, va) => raise c va s
    | none => (s.loadTile (sp == 1) h l (s.tileBase g d) 2).run (fun r s =>
        done ((if l.isEmpty then s else s.acquirePart r.2).vset d.toNat s.qwD.2 r.1)))

/-- STV (R129 to R131): the elements are stored in row-major order. -/
def execStv (g : Guard) (d b p : BitVec 5) (sp : BitVec 1) (s : State) : Out :=
  issue (.stv g d b p sp) s (fun s =>
    let h := s.shape
    let l := s.tileElems g (s.reg b) (s.reg p) false
    match s.tileFault (sp == 1) h.esize true l with
    | some (c, va) => raise c va s
    | none => (s.storeTile (sp == 1) h (s.vsrc d.toNat s.qwD.2) l).run (fun _ s => done s))

end Sys2Proof.Machine
end

