-- ==== Sys2Proof/Machine/Engine.lean ====
section
/-! DEFINITION. What the engines share: reads through the cluster TLB and the homes (R154, R240, R296), descriptors in local memory, their faults and records
(R16, R240, R297, R370), and job ids and the job table (R17, R151). -/

namespace Sys2Proof.Machine

/-! ## Reads of an engine -/

/-- The outcome of a read by an engine: bytes, a cause, or a page that moves. -/
inductive EngRead where
  | bytes (bs : List Byte)
  | cause (c : Nat)
  | retry
  deriving DecidableEq, Repr

/-- A read within one line by an engine of a cluster, of pieces given by their offset from an address and their length: translated at the cluster TLB and read
through the homes, never through an L1d. `dl` is the deadline class that its packets carry (R409). -/
def State.engineLine (cl asid va : Nat) (ps : List (Nat × Nat)) (secure : Bool) (dl : Option Nat) (s : State) : EngRead × State :=
  match s.translate cl asid va .load secure with
  | (.cause c, s) => (.cause c, s)
  | (.nack, s) => (.retry, s)
  | (.page l pa, s) =>
    if s.moving pa then (.retry, s)
    else if ps.any (fun p => s.poisoned (pa + p.1) p.2) then (.cause 0x17, s)
    else
      let s := s.countUnbacked pa
      let s := s.readPass cl pa dl
      let r := if l.kind = 1 then (s.homeLine (pa / 256 * 256), s) else s.readLine (sheetOfCluster cl) (pa / 256 * 256)
      (.bytes (ps.flatMap (fun p => lineBytes r.1 (pa % 256 + p.1) p.2)), r.2)

/-- A read of n bytes within one line. -/
def State.engineRead (cl asid va n : Nat) (secure : Bool) (dl : Option Nat) (s : State) : EngRead × State := s.engineLine cl asid va [(0, n)] secure dl

/-- A sequence of reads: the bytes of each, or the first address that fails with its cause (none where its page moves). -/
def State.engineReads (cl asid : Nat) (secure : Bool) (dl : Option Nat) (l : List (Nat × Nat)) (s : State) : Except (Nat × Option Nat) (List (List Byte)) × State :=
  match l with
  | [] => (.ok [], s)
  | (va, n) :: rest =>
    match s.engineRead cl asid va n secure dl with
    | (.cause c, s) => (.error (va, some c), s)
    | (.retry, s) => (.error (va, none), s)
    | (.bytes bs, s) =>
      match s.engineReads cl asid secure dl rest with
      | (.error e, s) => (.error e, s)
      | (.ok r, s) => (.ok (bs :: r), s)

/-- Reads n bytes from an address. -/
def State.engineSpan (cl asid va n : Nat) (secure : Bool) (dl : Option Nat) (s : State) : Except (Nat × Option Nat) (List Byte) × State :=
  match s.engineReads cl asid secure dl (spanReads va n (n / 256 + 2)) with
  | (.error e, s) => (.error e, s)
  | (.ok r, s) => (.ok r.flatten, s)

/-- Pieces of reads, those of one line together; their addresses rise. -/
def groupLines (l : List (Nat × Nat)) : List (List (Nat × Nat)) :=
  match l with
  | [] => []
  | p :: rest => match groupLines rest with
    | (q :: g) :: gs => if q.1 / 256 = p.1 / 256 then (p :: q :: g) :: gs else [p] :: (q :: g) :: gs
    | gs => [p] :: gs

/-- Reads groups of pieces, each within one line: their bytes, or the first address that fails with its cause (none where its page moves). -/
def State.engineGroups (cl asid : Nat) (secure : Bool) (dl : Option Nat) (l : List (List (Nat × Nat))) (s : State) : Except (Nat × Option Nat) (List Byte) × State :=
  match l with
  | [] => (.ok [], s)
  | g :: rest =>
    let va := (g.head?.map Prod.fst).getD 0
    match s.engineLine cl asid va (g.map (fun p => (p.1 - va, p.2))) secure dl with
    | (.cause c, s) => (.error (va, some c), s)
    | (.retry, s) => (.error (va, none), s)
    | (.bytes bs, s) =>
      match s.engineGroups cl asid secure dl rest with
      | (.error e, s) => (.error e, s)
      | (.ok r, s) => (.ok (bs ++ r), s)

/-- Bytes placed at the offsets of the parts that they were read from, from a position on; what lies between is 0. -/
def placeParts (at' : Nat) (ps : List (Nat × Nat)) (bs : List Byte) : List Byte :=
  match ps with
  | [] => []
  | (o, n) :: rest => List.replicate (o - at') 0 ++ bs.take n ++ placeParts (o + n) rest (bs.drop n)

/-- Reads the parts of a structure at an address, and nothing between them: the structure from an offset on. -/
def State.engineParts (cl asid va at' : Nat) (ps : List (Nat × Nat)) (secure : Bool) (dl : Option Nat) (s : State) : Except (Nat × Option Nat) (List Byte) × State :=
  match s.engineGroups cl asid secure dl (groupLines (ps.flatMap (fun p => spanReads ((va + p.1) % 2 ^ 64) p.2 (p.2 / 256 + 2)))) with
  | (.error e, s) => (.error e, s)
  | (.ok bs, s) => (.ok (placeParts at' ps bs), s)

/-! ## Local memory -/

/-- Bytes of the own local memory at an offset that an instruction names: the range, the alignment and poison (R125, R163, R195, R291). -/
def State.ownBytes (a : Word) (n al : Nat) (s : State) : Acc (List Byte) :=
  let off := a.toNat
  if 2 ^ 17 ≤ off ∨ 0x18000 < off + n then .trap 0x08 a s
  else if off % al ≠ 0 then .trap 0x05 a s
  else if (s.core s.coreId).poison.any (fun w => decide (off / 8 ≤ w ∧ w ≤ (off + n - 1) / 8)) then .trap 0x17 a s
  else .ok ((s.core s.coreId).mem.readList off n) s

/-- The descriptor that an instruction snapshots when it issues and keeps while it waits (R143, R195, R291). -/
def State.snapshot (a : Word) (n al : Nat) (s : State) : Acc (List Byte) :=
  if s.ctx.stage = 0 then (s.ownBytes a n al).bind (fun bs s => .ok bs (s.upd (fun k => { k with kept := bs }))) else .ok s.ctx.kept s

/-- Whether an engine finds poison in local bytes (R369). -/
def Core.poisoned (k : Core) (off n : Nat) : Bool := n ≠ 0 && k.poison.any (fun w => decide (off / 8 ≤ w ∧ w ≤ (off + n - 1) / 8))

/-! ## Jobs (R17, R151) -/

/-- The sequence number after one (R17). -/
def nextSeq (n : Nat) : Nat := if n = 0x3FFF then 1 else n + 1

/-- A job table with a new entry: a full table gives up its oldest completed job (R151). -/
def jobInsert (l : List JobEntry) (e : JobEntry) : List JobEntry :=
  if l.length < 16 then l ++ [e]
  else match l.findIdx? (fun x => x.complete) with | some k => l.eraseIdx k ++ [e] | none => l ++ [e]

/-- The wait for a job table entry (R151). It is no synchronisation condition of R353. -/
def jobWait : Wait := Wait.plain .jobEntry

/-! ## Release to the narrowest scope -/

/-- The narrowest scope that holds two cores: 1 core, 2 cluster, 3 sheet, 4 rectangle (R247). -/
def narrowest (a b : Nat) : Nat :=
  if a = b then 1 else if clusterOfCore a = clusterOfCore b then 2 else if sheetOfCore a = sheetOfCore b then 3 else 4

end Sys2Proof.Machine
end

