-- ==== Sys2Proof/Machine/Node.lean ====
section
/-! DEFINITION. Walks as data: descriptors (R141 to R143), nodes and their validity (R134 to R137, R153, R167), products (R138, R174, R179 to R183), decisions
(R139) and carried rows (R20, R140). -/

namespace Sys2Proof.Machine

/-! ## Descriptors -/

/-- The classes of R142: the accumulator format, the matrix formats; none for a value that is no row format. -/
def matrixFormats (fmt : Nat) : List Nat :=
  match fmt with
  | 1 => [1]
  | 2 => [2]
  | 3 => [3, 4]
  | 4 => [3, 4]
  | 5 => [5]
  | 6 => [6, 9]
  | 9 => [6, 9]
  | _ => []

def accFormat (fmt : Nat) : Nat := if fmt = 6 ∨ fmt = 9 then 8 else 0

/-- The fields of a descriptor (R141). -/
def walkDescOf (bs : List Byte) : WalkDesc :=
  let f := leAt bs
  let w := fun (o : Nat) => BitVec.ofNat 64 (f o 8)
  { rows := w 0, stride := f 8 4, rowsN := f 0xC 2, k := f 0xE 2, chart := w 0x10, chartLen := f 0x18 4, maxDepth := f 0x1C 1, rowFmt := f 0x1D 1,
    accFmt := f 0x1E 1, serial := f 0x1F 1 % 2 == 1, handler := w 0x20, progress := f 0x28 4, segTable := f 0x2C 4, scales := w 0x30, user := w 0x38 }

/-- Whether a descriptor obeys R141 to R143. -/
def walkDescOk (bs : List Byte) : Bool :=
  let d := walkDescOf bs
  let window := d.rowFmt == 0x0F
  let e := if window then 1 else max 1 (elemSize d.rowFmt)
  (window || !(matrixFormats d.rowFmt).isEmpty) && d.accFmt == accFormat d.rowFmt && decide (leAt bs 0x1F 1 < 2) &&
    decide (d.rows.toNat % e = 0 ∧ d.stride % e = 0 ∧ d.k * e ≤ d.stride ∧ 1 ≤ d.rowsN ∧ d.rowsN ≤ 256 ∧ 1 ≤ d.k ∧ d.k ≤ 512 ∧ d.chart.toNat % 64 = 0 ∧
      1 ≤ d.chartLen ∧ d.chartLen < 2 ^ 24 ∧ d.maxDepth ≤ 15 ∧ d.handler ≠ 0 ∧ d.handler.toNat % 4 = 0 ∧ d.progress % 4 = 0 ∧
      d.progress + 4 * d.rowsN ≤ 0x18000 ∧ d.segTable % 64 = 0 ∧ d.segTable < 0x17FC1) &&
    (d.scales == 0 || [3, 4, 5].contains d.rowFmt)

/-! ## Nodes -/

/-- The header of a node (R134). -/
structure NodeHead where
  kind : Nat
  rule : Nat
  mode : Nat
  fmt : Nat
  k : Nat
  n : Nat
  count : Nat
  shift : Nat
  sel : Nat
  thr : Nat
  leafId : Nat
  matrix : Nat
  table : Nat
  scale : Nat
  rest : Nat
  deriving DecidableEq, Repr

def nodeHead (bs : List Byte) : NodeHead :=
  let f := leAt bs
  { kind := f 0 1, rule := f 1 1, mode := f 2 1, fmt := f 3 1, k := f 4 2, n := f 6 2, count := f 8 1, shift := f 9 1, sel := f 0xA 2, thr := f 0xC 4,
    leafId := f 0x10 4, matrix := f 0x14 4, table := f 0x18 4, scale := f 0x1C 1, rest := f 0x1D 3 }

def NodeHead.leaf (h : NodeHead) : Bool := h.kind == 1

/-- The bytes of the matrix: k rows of 16 elements, eight such blocks in a gang walk (R135, R153). -/
def NodeHead.matrixBytes (h : NodeHead) (gang : Bool) : Nat := (if gang then 8 else 1) * 16 * h.k * elemSize h.fmt

/-- Whether a rule admits a child count (R139). -/
def ruleAdmits (rule count n : Nat) : Bool :=
  match rule with
  | 0 => count == 2
  | 1 => decide (2 ≤ count ∧ count ≤ n)
  | 2 => count == 2
  | 3 => [2, 4, 8, 16].contains count && decide (Nat.log2 count ≤ n)
  | _ => false

/-- Whether a column is read: below n, or in a gang walk one of the 8n gang columns (R153). -/
def columnRead (gang : Bool) (n j : Nat) : Bool := if gang then decide (j < 128 ∧ j % 16 < n) else decide (j < n)

/-- Whether sel is in range for the rule (R139). -/
def selOk (gang : Bool) (h : NodeHead) : Bool :=
  if h.leaf then h.sel == 0
  else match h.rule with
    | 1 => decide (h.sel < h.count)
    | 3 => h.sel == 0
    | _ => columnRead gang h.n h.sel

/-- The first finding of R167 about a header, or 0. DESIGN CHOICE (log 162): where a header has several findings, the lowest code stands, in the order of the table;
R167 gives no precedence. -/
def NodeHead.code (h : NodeHead) (gang : Bool) : Nat :=
  if 1 < h.kind then 1
  else if (if h.leaf then h.rule ≠ 0 else !ruleAdmits h.rule h.count h.n) then 2
  else if 1 < h.mode ∨ (h.leaf ∧ h.mode ≠ 0) then 3
  else if !([1, 2, 3, 4, 5, 6, 9].contains h.fmt) ∨ ((h.fmt = 6 ∨ h.fmt = 9) ∧ h.scale ≠ 127) then 4
  else if h.k = 0 ∨ 512 < h.k then 5
  else if h.n = 0 ∨ 16 < h.n ∨ (h.leaf ∧ 8 < h.n) then 6
  else if (if h.leaf then h.count ≠ 0 else h.count < 2 ∨ 16 < h.count) then 7
  else if !selOk gang h then 8
  else if 31 < h.shift ∨ (h.mode = 0 ∧ h.shift ≠ 0) then 9
  else if h.matrix % 16 ≠ 0 ∨ h.matrix < 0x20 ∨ (!h.leaf ∧ (h.table % 4 ≠ 0 ∨ h.table < h.matrix + h.matrixBytes gang)) then 10
  else if h.rest ≠ 0 then 11
  else if (h.leaf ∧ (h.thr ≠ 0 ∨ h.table ≠ 0)) ∨ (!h.leaf ∧ h.rule ≠ 2 ∧ h.thr ≠ 0) then 12
  else 0

/-- The end of a node's extent, from its first byte (R135). -/
def NodeHead.extent (h : NodeHead) (gang : Bool) : Nat := if h.leaf then h.matrix + h.matrixBytes gang else h.table + 4 * h.count

/-- What the array reads of a node behind its header, as offsets and lengths: columns 0 to n - 1 of each row of the matrix, and the child table
(R135, R136, R153). -/
def NodeHead.parts (h : NodeHead) (gang : Bool) : List (Nat × Nat) :=
  let e := elemSize h.fmt
  (List.range ((if gang then 8 else 1) * h.k)).map (fun r => (h.matrix + 16 * r * e, h.n * e)) ++ (if h.leaf then [] else [(h.table, 4 * h.count)])

/-! ## Products -/

/-- The value of an operand in the burin array: BF16 subnormals are flushed (R174). -/
def arrayVal (fmt x : Nat) : FVal := valueOf fmt (if fmt = 1 then flushBF16 x else x)

/-- Chunks of a list. -/
def chunks (c : Nat) (l : List α) (fuel : Nat) : List (List α) :=
  match fuel with
  | 0 => []
  | k + 1 => match l with | [] => [] | l => l.take c :: chunks c (l.drop c) k

/-- A product with both block scales (R183): NaN where a scale is 255. -/
def scaled (v : FVal) (er en : Nat) : Nat :=
  if er = 255 ∨ en = 255 then canonNaN 0 else toFloat 0 0 false 0 (scaleVal v ((er : Int) + en - 254))

/-- An element of the product: its pattern in the accumulator format, and whether a sum was clamped (R179 to R183). -/
def dotProduct (rowFmt matFmt er en : Nat) (xs ms : List Nat) : Nat × Bool :=
  let ps := xs.zip ms
  if rowFmt = 5 then
    let terms := ps.map (fun p => l6Product p.1 p.2)
    if terms.any Option.isNone then (canonNaN 0, false)
    else
      let t : Int := (terms.filterMap id).foldl (· + ·) 0
      (scaled (.fin (decide (t < 0)) t.natAbs (-22)) er en, false)
  else if isInt rowFmt then
    let r := ps.foldl (fun (acc : Int × Bool) p =>
      let t := acc.1 + intOf rowFmt p.1 * intOf matFmt p.2
      let c := clampInt 8 t
      (c, acc.2 || decide (c ≠ t))) (0, false)
    (ofSigned r.1 32, r.2)
  else
    let c := if rowFmt = 3 ∨ rowFmt = 4 then 32 else 16
    let acc := (chunks c ps 513).foldl (fun (acc : Nat) ch =>
      toFloat 0 0 false 0 (addVal false (valueOf 0 acc) (chunkSum (ch.map (fun p => mulVal (arrayVal rowFmt p.1) (arrayVal matFmt p.2)))))) 0x80000000
    (scaled (valueOf 0 acc) er en, false)

/-- The product elements of a row in one slice: columns 0 to n - 1 of its block (R135, R138, R153). -/
def sliceProduct (h : NodeHead) (node : List Byte) (rowFmt er : Nat) (xs : List Nat) (slice : Nat) : List (Nat × Bool) :=
  let e := elemSize h.fmt
  let base := h.matrix + slice * 16 * h.k * e
  (List.range h.n).map (fun j => dotProduct rowFmt h.fmt er h.scale xs ((List.range h.k).map (fun kk => leAt node (base + (16 * kk + j) * e) e)))

/-! ## Decisions (R139) -/

/-- p > 0: false for both zeros and NaN. -/
def positive (acc x : Nat) : Bool :=
  if acc = 8 then decide (0 < toSigned x 32) else match valueOf 0 x with | .fin n m _ => !n && decide (m ≠ 0) | .inf n => !n | .nan => false

/-- a < b in the accumulator format, for values that are not NaN. -/
def accLess (acc a b : Nat) : Bool := if acc = 8 then decide (toSigned a 32 < toSigned b 32) else ltVal (valueOf 0 a) (valueOf 0 b)
def accNaN (acc x : Nat) : Bool := acc ≠ 8 && isNaNVal (valueOf 0 x)

/-- The child that a rule chooses. `p` gives the product by column. -/
def chooseChild (h : NodeHead) (acc : Nat) (p : Nat → Nat) : Nat :=
  match h.rule with
  | 0 => if positive acc (p h.sel) then 1 else 0
  | 1 =>
    let cols := (List.range h.count).filter (fun i => !accNaN acc (p i))
    match cols.find? (fun j => cols.all (fun i => !accLess acc (p j) (p i))) with
    | some j => j
    | none => h.sel
  | 2 => if accNaN acc (p h.sel) || accNaN acc h.thr || accLess acc (p h.sel) h.thr then 0 else 1
  | _ => (List.range (Nat.log2 h.count)).foldl (fun c i => if positive acc (p i) then c + 2 ^ i else c) 0

/-! ## Carried rows (R20, R140) -/

/-- An arithmetic shift right with rounding to nearest, ties to even (R20). -/
def shiftRound (x : Int) (n : Nat) : Int :=
  let q := x / 2 ^ n
  let r := x % 2 ^ n
  if n = 0 then x else if 2 * r < 2 ^ n then q else if 2 ^ n < 2 * r then q + 1 else if q % 2 = 0 then q else q + 1

/-- A carried element: its pattern in the row format, and whether it was clamped. -/
def carryElem (fmt shift x : Nat) : Nat × Bool :=
  if isInt fmt then
    let y := shiftRound (toSigned x 32) shift
    let c := clampInt fmt y
    (ofSigned c (elemBits fmt), decide (c ≠ y))
  else match valueOf 0 x with
    | .fin n m e =>
      let v := scaleVal (.fin n m e) (-(shift : Int))
      let y := toFloat fmt 0 true 0 v
      (y, decide (toFloat fmt 0 false 0 v ≠ y))
    | v => (toFloat fmt 0 false 0 v, false)

end Sys2Proof.Machine
end

