-- ==== Sys2Proof/Machine/Walk.lean ====
section
/-! DEFINITION. The MAT group, GANG and the JOB group (R163 to R169), and the steps of the burin array (R12 to R19, R144 to R161). -/

namespace Sys2Proof.Machine

/-! ## Issuing a walk -/

/-- Takes a queue entry for a job of a thread: the one granted to the thread, or a free one (R149). -/
def takeEntry (th id : Nat) (q : List Nat) : List Nat :=
  match q.findIdx? (fun x => x == grantMark th) with | some k => q.set k id | none => q ++ [id]

/-- The thread waits for a queue entry (R149). -/
def State.awaitEntry (th : Nat) (w : WaitCond) (s : State) : Out :=
  .next ((s.mapCluster (clusterOfThread th) (fun c => { c with walkWait := if c.walkWait.contains th then c.walkWait else c.walkWait ++ [th] })).block (Wait.plain w))

/-- A row before its walk loads it. -/
def WalkRow.fresh : WalkRow :=
  { st := 0, depth := 0, unit := 0, elems := [], scale := 127, seg := 0, leaf := false, leafId := 0, leafN := 0, results := [], hstart := [], hdone := [] }

/-- A handler level of extent 1 makes every walk of the team run as if SERIAL were set (R336). -/
def State.serialTeam (s : State) (th : Nat) : Bool :=
  (legendLevels (s.legendOf (s.itemOf (.task th .c)))).any (fun l => l.domain == 6 && l.extent == 1)

/-- Queues a job that a thread issues for its threads, and enters it in their job tables (R17, R149, R151). -/
def State.queueWalk (th id : Nat) (gang : Bool) (ths : List Nat) (ds : List WalkDesc) (s : State) : State :=
  let cl := clusterOfThread th
  let ds := (ths.zip ds).map (fun (p : Nat × WalkDesc) => { p.2 with serial := p.2.serial || s.serialTeam p.1 })
  let rounds := ths.map (fun th => (s.ctxOf (.task th .c)).round)
  let j : WalkJob :=
    { gang := gang, threads := ths, asid := s.asidOf s.cur, descs := ds, st := .queued, back := .queued, retry := false, faultVa := 0, fmt := 0,
      rows := List.replicate ((ds.head?.map WalkDesc.rowsN).getD 0) WalkRow.fresh, cache := [], step := none, drain := [], sat := false, canc := false, susp := false,
      released := [], rounds := rounds, launch := s.launchOf s.cur, items := ths.map (fun th => (s.thread th).self) }
  let s := ths.foldl (fun (s : State) th => s.mapThread th (fun t => { t with jobs := jobInsert t.jobs { id := id, complete := false, status := 0, faultVa := 0 } })) s
  s.mapCluster cl (fun c =>
    { c with walks := c.walks.set id j, walkQ := takeEntry th id c.walkQ, walkLast := if c.walkQ.contains (grantMark th) then c.walkLast else coreOfThread th % 8,
             walkWait := c.walkWait.filter (· ≠ th),
             seqSolo := if gang then c.seqSolo else nextSeq c.seqSolo, seqGang := if gang then nextSeq c.seqGang else c.seqGang })

/-- The part that MWALK and MWALKG share: the descriptor, the world of the array, the commit and the release at cluster scope (R163, R164, R370). What it has
checked when it issues is not checked again while it waits. -/
def walkIssue (i : Instr) (g : Guard) (a : BitVec 5) (s : State) (f : List Byte → State → Out) : Out :=
  issueScalar i g s (fun s =>
    (s.snapshot (s.reg a) 64 64).run (fun bs s =>
      if !walkDescOk bs then raise0 0x1B s
      else if s.ctx.stage = 0 ∧ (s.launch (s.launchOf s.cur)).secure ≠ (s.cluster s.clusterId).worldArr then raise0 9 s
      else (s.commit.release 2).run (fun _ s => f bs s)))

/-- MWALK (R163). -/
def execMwalk (g : Guard) (d a : BitVec 5) (s : State) : Out :=
  walkIssue (.mwalk g d a) g a s (fun bs s =>
    let th := s.threadId
    if !(s.thread th).jobRoom then .next (s.block jobWait)
    else if !s.walkRoom th then s.awaitEntry th .walkGrant
    else
      let id := (s.cluster s.clusterId).seqSolo
      done ((s.queueWalk th id false [s.threadId] [walkDescOf bs]).setReg d (BitVec.ofNat 64 id)))

/-- The descriptors of a gang job: what core 0 gives to all, and what each core gives itself (R152). -/
def gangDescs (ds : List WalkDesc) : List WalkDesc :=
  match ds with
  | [] => []
  | d0 :: _ => ds.map (fun d => { d0 with handler := d.handler, progress := d.progress, user := d.user })

/-- MWALKG (R152, R163): the barrier, and the job that the eighth arrival forms. -/
def execMwalkg (g : Guard) (d a : BitVec 5) (s : State) : Out :=
  walkIssue (.mwalkg g d a) g a s (fun bs s =>
    let th := s.threadId
    let finish := fun (id : Nat) (s : State) =>
      done ((s.mapThread th (fun t => { t with mwalkgId := none, mwalkg := none })).setReg d (BitVec.ofNat 64 id))
    match (s.thread th).mwalkgId with
    | some id => finish id s
    | none =>
      let s := if (s.thread th).mwalkg.isNone then s.mapThread th (fun t => { t with mwalkg := some (walkDescOf bs) }) else s
      let ths := gangThreads th
      let ds := ths.filterMap (fun t => (s.thread t).mwalkg)
      if ds.length < 8 then .next (s.block (sync 5 0 .mwalkg))
      else if !ths.all (fun t => (s.thread t).jobRoom) then .next (s.block (Wait.plain .mwalkgForm))
      else if !s.walkRoom th then s.awaitEntry th .mwalkgForm
      else
        let id := 0x4000 + (s.cluster s.clusterId).seqGang
        let s := s.queueWalk th id true ths (gangDescs ds)
        finish id (ths.foldl (fun (s : State) t => s.mapThread t (fun t => { t with mwalkg := none, mwalkgId := some id })) s))

/-! ## MPROG, MCANCEL, MNODE -/

/-- The walk of a job id in the thread's table, while it is not complete. -/
def State.liveWalk (s : State) (id : Nat) : Option WalkJob :=
  match (s.thread s.threadId).job? id with
  | some e => if e.complete then none else s.walk? s.clusterId id
  | none => none

def WalkState.code (x : WalkState) : Nat :=
  match x with | .queued => 0 | .loading => 1 | .stepping => 2 | .suspended => 3 | .draining => 4 | .complete => 0

/-- The summary of MPROG (R165). -/
def WalkJob.summary (j : WalkJob) : Nat :=
  let n := fun (st : Nat) => (j.rows.filter (fun r => r.st == st)).length
  j.st.code * 2 ^ 48 + n 0 * 2 ^ 32 + n 2 * 2 ^ 16 + n 1

/-- MPROG (R165). -/
def execMprog (g : Guard) (d a b : BitVec 5) (s : State) : Out :=
  issueScalar (.mprog g d a b) g s (fun s =>
    let i := s.reg b
    let v := match s.liveWalk ((s.reg a).toNat % 65536) with
      | none => BitVec.allOnes 64
      | some j =>
        if i = BitVec.allOnes 64 then BitVec.ofNat 64 j.summary
        else match j.rows[i.toNat]? with | some r => BitVec.ofNat 64 r.entry | none => BitVec.allOnes 64
    done (s.setReg d v))

/-- MCANCEL (R166). -/
def execMcancel (g : Guard) (d a : BitVec 5) (s : State) : Out :=
  issueScalar (.mcancel g d a) g s (fun s =>
    let id := (s.reg a).toNat % 65536
    match s.liveWalk id with
    | none => done (s.setReg d 0)
    | some j =>
      let can := match j.st with | .draining => false | .complete => false | _ => true
      done ((if can then s.walkCancel s.clusterId id else s).setReg d (if can then 1 else 0)))

/-- Plain loads of consecutive pieces of a size. -/
def State.loadPieces (va : Word) (size n : Nat) (s : State) : Acc (List Byte) :=
  match n with
  | 0 => .ok [] s
  | k + 1 => (s.load va.toNat size 0 0 0).bind (fun r s => (s.loadPieces (va + BitVec.ofNat 64 size) size k).bind (fun bs s => .ok (r.1 ++ bs) s))

/-- MNODE (R167). -/
def execMnode (g : Guard) (d a b : BitVec 5) (s : State) : Out :=
  issueScalar (.mnode g d a b) g s (fun s =>
    let u := (s.reg b).toNat
    if 2 ^ 24 ≤ u then done (s.setReg d 15)
    else if (s.reg a).toNat % 64 ≠ 0 then raise 5 (s.reg a) s
    else
      let va := s.reg a + BitVec.ofNat 64 (64 * u)
      (s.loadPieces va 8 4).run (fun bs s =>
        let h := nodeHead bs
        let c := h.code false
        if c ≠ 0 then done (s.setReg d (BitVec.ofNat 64 c))
        else if h.leaf then done (s.setReg d 0)
        else (s.loadPieces (va + BitVec.ofNat 64 h.table) 4 h.count).run (fun ks s =>
          match (List.range h.count).find? (fun i => let e := leAt ks (4 * i) 4; decide (2 ^ 24 ≤ e ∨ e % 2 ^ 24 = 0)) with
          | some i => done (s.setReg d (BitVec.ofNat 64 (i * 256 + 13)))
          | none => done (s.setReg d 0))))

/-! ## GANG -/

/-- The threads of a gang mask (R168). -/
def maskThreads (th m : Nat) : List Nat := (gangThreads th).filter (fun t => m.testBit (coreOfThread t % 8))

/-- GANG (R168): the release, the barrier and the acquire, at cluster scope. -/
def execGang (g : Guard) (a : BitVec 5) (s : State) : Out :=
  issueScalar (.gang g a) g s (fun s =>
    let th := s.threadId
    let low := (s.reg a).toNat % 256
    let m := if low = 0 then 255 else low
    if (s.thread th).gangGo then done ((s.mapThread th (fun t => { t with gangGo := false, gangMask := none })).acquire 2)
    else if !m.testBit (s.coreId % 8) then raise0 0x1A s
    else if (gangThreads th).any (fun t => t ≠ th && (s.thread t).gangMask.any (fun x => x ≠ m) && !(s.thread t).gangGo) then raise0 0x1A s
    else
      (s.release 2).run (fun _ s =>
        let others := (maskThreads th m).filter (· ≠ th)
        if others.all (fun t => decide ((s.thread t).gangMask = some m) && !(s.thread t).gangGo) then
          done ((others.foldl (fun (s : State) t => s.mapThread t (fun t => { t with gangGo := true })) s).acquire 2)
        else .next ((s.mapThread th (fun t => { t with gangMask := some m })).block (sync 4 (BitVec.ofNat 64 m) .gang))))

/-! ## JWAIT and JPOLL -/

/-- The report of a complete job (R18, R19, R169): the status, the free entry, the acquire, and the trap of a walk with faulted rows. While the trap cannot be
recorded, the instruction waits with none of its effect (R363). -/
def State.reportJob (e : JobEntry) (d : BitVec 5) (s : State) : Out :=
  let traps := e.id / 2 ^ 14 % 4 ≠ 2 ∧ bitsOf e.status.toNat 31 16 ≠ 0
  if traps ∧ s.trapHeld then .next s.ringWait
  else
    let s := ((s.mapThread s.threadId (fun t => { t with jobs := t.jobs.filter (fun x => x.id ≠ e.id) })).setReg d e.status).acquire 2
    if traps then trapAfter 0x0B (some e.faultVa) s.retire
    else done s

/-- The entry that a job id names (R169). -/
def State.jobEntry? (s : State) (a : BitVec 5) : Option JobEntry :=
  if 65536 ≤ (s.reg a).toNat then none else (s.thread s.threadId).job? (s.reg a).toNat

/-- JWAIT (R169). -/
def execJwait (g : Guard) (d a : BitVec 5) (s : State) : Out :=
  issueScalar (.jwait g d a) g s (fun s =>
    match s.jobEntry? a with
    | none => done (s.setReg d 0)
    | some e => if e.complete then s.reportJob e d else .next (s.block (sync 6 (s.reg a) (.jobDone e.id))))

/-- JPOLL (R169). -/
def execJpoll (g : Guard) (d a : BitVec 5) (s : State) : Out :=
  issueScalar (.jpoll g d a) g s (fun s =>
    match s.jobEntry? a with
    | none => done (s.setReg d 0)
    | some e => if e.complete then s.reportJob e d else done (s.setReg d (BitVec.allOnes 64)))

/-! ## The queue and the start of a job -/

/-- JOB_QUEUE_GRANT: a freed entry goes round robin to a core that waits, after the core served last, and there to the thread that has waited longest (R149). -/
def execJobQueueGrant (cl : Nat) (s : State) : Out :=
  let c := s.cluster cl
  match argMin c.walkWait (fun th => (coreOfThread th % 8 + 7 - c.walkLast) % 8) with
  | none => .fault .notEnabled
  | some th =>
    if 32 ≤ c.walkQ.length then .fault .notEnabled
    else .next (s.mapCluster cl (fun c => { c with walkQ := c.walkQ ++ [grantMark th], walkWait := c.walkWait.filter (· ≠ th), walkLast := coreOfThread th % 8 }))

/-- The cores whose slices a job takes. -/
def WalkJob.cores (j : WalkJob) : List Nat := j.threads.map coreOfThread

def WalkJob.running (j : WalkJob) : Bool := match j.st with | .queued => false | .complete => false | _ => true

/-- Whether the array of a cluster is held until THAW of its block (R370). -/
def State.arrayHeld (s : State) (cl : Nat) : Bool := (s.cluster cl).engineHeld.contains 1

/-- Whether a queued job may start: its slices are idle, and no job queued before it that shares a core is still queued (R150). -/
def State.mayStart (s : State) (cl job : Nat) : Bool :=
  match s.walk? cl job with
  | none => false
  | some j =>
    let before := (s.cluster cl).walkQ.takeWhile (· ≠ job)
    let shares := fun (k : WalkJob) => k.cores.any (fun c => j.cores.contains c)
    decide (j.st = .queued) && !s.arrayHeld cl && !(s.cluster cl).walks.any (fun w => w.2.running && shares w.2) &&
      !before.any (fun b => match s.walk? cl b with | some k => decide (k.st = .queued) && shares k | none => false)

/-- WALK_JOB_ACCEPT: the progress entries are set to 0 and the node cache is emptied for the job (R12, R155, R161). -/
def execWalkJobAccept (cl job : Nat) (s : State) : Out :=
  match s.walk? cl job with
  | none => .fault .notEnabled
  | some j =>
    if !s.mayStart cl job then .fault .notEnabled
    else
      let j := { j with st := .loading, cache := [], rows := j.rows.map (fun _ => WalkRow.fresh) }
      .next ((List.range j.rows.length).foldl (fun (s : State) k => s.mirror j k) (s.setWalk cl job j))

/-! ## Loading -/

/-- The world of a cluster's array. -/
def State.arraySecure (s : State) (cl : Nat) : Bool := (s.cluster cl).worldArr

/-- The deadline class of a job's packets: that of the task that issued it (R409). -/
def WalkJob.packetClass (j : WalkJob) : Option Nat := classOf (j.items.headD Member.none).deadline

/-- The tag of the line of an address, as a fill of the array's cluster takes it, and its physical address (R188, R191). -/
def State.tagAt (cl asid va : Nat) (s : State) : Except (Nat × Option Nat) (Nat × Option WinTag) × State :=
  match s.translate cl asid va .load (s.arraySecure cl) with
  | (.page _ pa, s) => (if s.moving pa then .error (va, none) else .ok (pa, s.lineTag (sheetOfCluster cl) (pa / 256 * 256)), s)
  | (.cause c, s) => (.error (va, some c), s)
  | (.nack, s) => (.error (va, none), s)

/-- The row format of a job: its own, or that of the tag of row 0's first fill; none where no usable tag is there (R142). -/
def State.rowFormat (cl : Nat) (j : WalkJob) (d : WalkDesc) (s : State) : Except (Nat × Option Nat) (Option Nat) × State :=
  if d.rowFmt ≠ 0x0F then (.ok (some d.rowFmt), s)
  else match s.tagAt cl j.asid d.rows.toNat with
    | (.error e, s) => (.error e, s)
    | (.ok (_, some w), s) => (.ok (if 3 ≤ w.fmt ∧ w.fmt ≤ 5 then some w.fmt else none), s)
    | (.ok (_, none), s) => (.ok none, s)

/-- The scale block of each of a row's pieces, as the address of its scale byte, or none where its window has no scales; none of them where a piece has no
tag (R188, R191). -/
def State.scaleBlocks (cl asid : Nat) (l : List Nat) (s : State) : Except (Nat × Option Nat) (Option (List (Option Nat))) × State :=
  match l with
  | [] => (.ok (some []), s)
  | va :: rest =>
    match s.tagAt cl asid va with
    | (.error e, s) => (.error e, s)
    | (.ok (pa, w), s) =>
      match s.scaleBlocks cl asid rest with
      | (.error e, s) => (.error e, s)
      | (.ok bs, s) => (.ok (match w, bs with | some w, some bs => some (w.scaleAt.map (fun a => a + (w.phase + pa % 256) / max 1 w.blk) :: bs) | _, _ => none), s)

/-- A scale byte read through the load pipes at its physical address (R191). -/
def State.scaleByte (cl va pa : Nat) (dl : Option Nat) (s : State) : Except (Nat × Option Nat) Nat × State :=
  if s.moving pa then (.error (va, none), s)
  else if !(s.arraySecure cl) && s.secureRegion pa then (.error (va, some 9), s)
  else if s.poisoned pa 1 then (.error (va, some 0x17), s)
  else
    let r := ((s.countUnbacked pa).readPass cl pa dl).readLine (sheetOfCluster cl) (pa / 256 * 256)
    (.ok (getBytes r.1 (pa % 256) 1), r.2)

/-- The block scale of a row whose format comes from a window: 2^0 where its window has no scales, and none where its elements lie in more than one block, or
a part of it has no tag (R191). -/
def State.windowScale (cl asid va n : Nat) (dl : Option Nat) (s : State) : Except (Nat × Option Nat) (Option Nat) × State :=
  match s.scaleBlocks cl asid ((spanReads va n (n / 256 + 2)).flatMap (fun p => [p.1, p.1 + p.2 - 1])) with
  | (.error e, s) => (.error e, s)
  | (.ok none, s) => (.ok none, s)
  | (.ok (some bs), s) =>
    match bs with
    | [] => (.ok (some 127), s)
    | b :: _ =>
      if bs.any (fun x => x != b) then (.ok none, s)
      else match b with
        | none => (.ok (some 127), s)
        | some pa => match s.scaleByte cl va pa dl with | (.error e, s) => (.error e, s) | (.ok x, s) => (.ok (some x), s)

/-- The elements of packed bytes. -/
def elementsOf (bs : List Byte) (e n : Nat) : List Nat := (List.range n).map (fun k => leAt bs (k * e) e)

/-- The segment id of a row: 0 without a table (R145). -/
def segmentOf (lens : List Nat) (row : Nat) : Nat :=
  if lens.isEmpty then 0
  else ((List.range lens.length).find? (fun s => decide (row < (lens.take (s + 1)).foldl (· + ·) 0))).getD 0xFFFF

/-- Loads the rows of a list (R144, R145, R191). -/
def State.loadRows (cl : Nat) (j : WalkJob) (d : WalkDesc) (fmt : Nat) (lens : List Nat) (rows : List Nat) (s : State) :
    Except (Nat × Option Nat) (List WalkRow) × State :=
  match rows with
  | [] => (.ok [], s)
  | i :: rest =>
    let e := elemSize fmt
    let va := (d.rows + BitVec.ofNat 64 (i * d.stride)).toNat
    match s.engineSpan cl j.asid va (d.k * e) (s.arraySecure cl) j.packetClass with
    | (.error x, s) => (.error x, s)
    | (.ok bs, s) =>
      let sc := if d.rowFmt = 0x0F then s.windowScale cl j.asid va (d.k * e) j.packetClass
        else if d.scales = 0 then (.ok (some 127), s)
        else match s.engineReads cl j.asid (s.arraySecure cl) j.packetClass [((d.scales + BitVec.ofNat 64 i).toNat, 1)] with
          | (.error x, s) => (.error x, s)
          | (.ok b, s) => (.ok (some (leNat b.flatten)), s)
      match sc with
      | (.error x, s) => (.error x, s)
      | (.ok sc, s) =>
        let r := { WalkRow.fresh with elems := elementsOf bs e d.k, scale := sc.getD 127, seg := segmentOf lens i, st := if sc.isNone then 2 else 0 }
        match s.loadRows cl j d fmt lens rest with
        | (.error x, s) => (.error x, s)
        | (.ok rs, s) => (.ok (r :: rs), s)

/-- The segment table of a job, from the first core's local memory (R145, R152). -/
def State.segmentTable (s : State) (j : WalkJob) (d : WalkDesc) : Except (Nat × Option Nat) (List Nat) :=
  if d.segTable = 0 then .ok []
  else
    let k := s.core (coreOfThread (j.threads.headD 0))
    if k.poisoned d.segTable 64 then .error (d.segTable, some 0x17) else .ok (elementsOf (k.mem.readList d.segTable 64) 2 32)

/-- Everything that a job reads when it loads. -/
def State.loadJob (cl : Nat) (j : WalkJob) (s : State) : Except (Nat × Option Nat) WalkJob × State :=
  match j.descs with
  | [] => (.ok j, s)
  | d :: _ =>
    match s.segmentTable j d with
    | .error e => (.error e, s)
    | .ok lens =>
      match s.rowFormat cl j d with
      | (.error e, s) => (.error e, s)
      | (.ok none, s) => (.ok { j with rows := j.rows.map (fun r => { r with st := 2 }) }, s)
      | (.ok (some f), s) =>
        match s.loadRows cl j d f lens (List.range d.rowsN) with
        | (.error e, s) => (.error e, s)
        | (.ok rows, s) => (.ok { j with fmt := f, rows := rows }, s)

/-- Rows that stand at a node and have still to be processed. -/
def WalkRow.pending (r : WalkRow) : Bool := r.st == 0 && !r.leaf
def WalkJob.anyPending (j : WalkJob) : Bool := j.rows.any WalkRow.pending

/-- Whether a job in a state does its work there: it has that state, or it left it suspended and its translation is retried (R16, R161). -/
def WalkJob.works (j : WalkJob) (st : WalkState) : Bool := decide (j.st = st) || (decide (j.st = .suspended ∧ j.back = st) && j.retry)

/-- WALK_LOAD_DONE (R161). Rows that load as faulted have their entries written. DESIGN CHOICE (log 144): a job of which no row is pending once it is loaded takes
no step and drains at once; R161 names only STEPPING after LOADING. -/
def execWalkLoadDone (cl job : Nat) (s : State) : Out :=
  match s.walk? cl job with
  | none => .fault .notEnabled
  | some j =>
    if !j.works .loading || s.arrayHeld cl then .fault .notEnabled
    else match s.loadJob cl j with
      | (.error _, _) => .fault .notEnabled
      | (.ok j, s) =>
        let j := { j with retry := false, st := if j.anyPending then .stepping else .draining }
        let bad := (List.range j.rows.length).filter (fun k => match j.rows[k]? with | some r => r.st == 2 | none => false)
        .next (bad.foldl (fun (s : State) k => s.mirror j k) (s.setWalk cl job j))

/-! ## Steps -/

/-- The pending node of the lowest unit and the rows that stand there (R148). -/
def WalkJob.nextNode (j : WalkJob) : Option (Nat × List Nat) :=
  let idx := (List.range j.rows.length).filter (fun k => (j.rows[k]?).any WalkRow.pending)
  let unit := fun (k : Nat) => ((j.rows[k]?).map WalkRow.unit).getD 0
  (argMin idx unit).map (fun k => (unit k, idx.filter (fun i => unit i == unit k)))

/-- The bytes of a node, from the node cache or read: the header, and where that is valid the columns below n and the child table (R135, R154, R155). -/
def State.readNode (cl : Nat) (j : WalkJob) (d : WalkDesc) (unit : Nat) (s : State) : Except (Nat × Option Nat) (List Byte) × State :=
  match j.cache.get? unit with
  | some bs => (.ok bs, s)
  | none =>
    let va := (d.chart + BitVec.ofNat 64 (64 * unit)).toNat
    match s.engineSpan cl j.asid va 32 (s.arraySecure cl) j.packetClass with
    | (.error e, s) => (.error e, s)
    | (.ok bs, s) =>
      let h := nodeHead bs
      if h.code j.gang ≠ 0 ∨ 64 * d.chartLen < 64 * unit + h.extent j.gang then (.ok bs, s)
      else match s.engineParts cl j.asid va 32 (h.parts j.gang) (s.arraySecure cl) j.packetClass with
        | (.error e, s) => (.error e, s)
        | (.ok more, s) => (.ok (bs ++ more), s)

/-- Whether a node is valid for a job, apart from the width of its rows (R137). -/
def nodeValid (j : WalkJob) (d : WalkDesc) (unit : Nat) (bs : List Byte) : Bool :=
  let h := nodeHead bs
  h.code j.gang == 0 && (matrixFormats j.fmt).contains h.fmt && decide (64 * unit + h.extent j.gang ≤ 64 * d.chartLen) &&
    (h.leaf || (List.range h.count).all (fun i => decide (leAt bs (h.table + 4 * i) 4 < 2 ^ 24)))

/-- A row at a valid node: moved, queued for its handler, or faulted; and whether anything was clamped (R15, R138 to R140, R148, R153). The result of a leaf step that
a cancel has overtaken is not queued: its row is masked (R166). DESIGN CHOICE (log 142): where the rows of a step differ in width, those that differ from the
node's k are faulted and the others go on, as R15 says; R137 says that every row at the step is faulted. -/
def stepRow (j : WalkJob) (d : WalkDesc) (bs : List Byte) (r : WalkRow) : WalkRow × Bool :=
  let h := nodeHead bs
  if r.elems.length ≠ h.k then ({ r with st := 2 }, false)
  else
    let slices := (List.range (if j.gang then 8 else 1)).map (fun k => sliceProduct h bs j.fmt r.scale r.elems k)
    let sat := slices.any (fun l => l.any Prod.snd)
    if h.leaf && j.canc then ({ r with st := 3 }, sat)
    else if h.leaf then
      let reg := fun (l : List (Nat × Bool)) => (List.range l.length).foldl (fun (v : VReg) k => setBytes v (4 * k) 4 ((l.map Prod.fst).getD k 0)) 0
      ({ r with leaf := true, leafId := h.leafId, leafN := h.n, results := slices.map reg }, sat)
    else
      let p := fun (col : Nat) => (((slices.getD (if j.gang then col / 16 else 0) []).getD (if j.gang then col % 16 else col) (0, false))).1
      let child := leAt bs (h.table + 4 * chooseChild h d.accFmt p) 4
      if child = 0 ∨ d.chartLen ≤ child ∨ d.maxDepth < r.depth + 1 then ({ r with st := 2 }, sat)
      else if h.mode = 0 then ({ r with depth := r.depth + 1, unit := child }, sat)
      else
        let c := (slices.flatMap id).map (fun x => carryElem j.fmt h.shift x.1)
        ({ r with depth := r.depth + 1, unit := child, elems := c.map Prod.fst, scale := 127 }, sat || c.any Prod.snd)

/-- Processes rows of a job at a node. -/
def WalkJob.process (j : WalkJob) (f : WalkRow → WalkRow × Bool) (rows : List Nat) : WalkJob :=
  rows.foldl (fun (j : WalkJob) k => match j.rows[k]? with
    | none => j
    | some r => let x := f r; { j with rows := j.rows.set k x.1, sat := j.sat || x.2, drain := if x.1.leaf then j.drain ++ [k] else j.drain }) j

/-- The drain buffer of every slice of a job has room for n more results; a result leaves a slice's buffer at the HRET of its handler there (R157). -/
def WalkJob.drainRoom (j : WalkJob) (n : Nat) : Bool :=
  (List.range j.descs.length).all (fun k => decide ((j.drain.filter (fun r => match j.rows[r]? with | some x => !x.hdone.contains k | none => false)).length + n ≤ 16))

/-- The rows that the next part of a step takes: all of them, or at a leaf a group of 16 that fits in the drain buffers (R157). -/
def WalkJob.group (j : WalkJob) (leaf : Bool) (left : List Nat) : Option (List Nat) :=
  if !leaf || j.canc then some left else let g := left.take 16; if j.drainRoom g.length then some g else none

/-- What WALK_STEP does: the job after it, a fault, or nothing while a drain buffer has no room. DESIGN CHOICE (log 143): a node stays in the node cache until its
job ends or a soft error drops it; R155 states no capacity. -/
def State.stepJob (cl : Nat) (j : WalkJob) (s : State) : Except (Nat × Option Nat) (Option WalkJob) × State :=
  match j.descs, (match j.step with | some (u, rows, left) => (if left.isEmpty then none else some (u, rows, left)) | none => j.nextNode.map (fun n => (n.1, n.2, n.2))) with
  | d :: _, some (u, rows, left) =>
    match s.readNode cl j d u with
    | (.error e, s) => (.error e, s)
    | (.ok bs, s) =>
      let j := { j with cache := j.cache.set u bs }
      if !nodeValid j d u bs then (.ok (some { (j.process (fun r => ({ r with st := 2 }, false)) left) with step := some (u, rows, []) }), s)
      else match j.group (nodeHead bs).leaf left with
        | none => (.ok none, s)
        | some g => (.ok (some { (j.process (stepRow j d bs) g) with step := some (u, rows, left.drop g.length) }), s)
  | _, _ => (.ok none, s)

/-- Whether a job may take a step now, or finish one that a cancel has overtaken (R166). -/
def State.stepping (s : State) (cl : Nat) (j : WalkJob) : Bool := (j.works .stepping || (decide (j.st = .draining) && j.step.isSome)) && !s.arrayHeld cl

/-- A job whose retried translation has succeeded leaves its suspension (R161). -/
def WalkJob.resumed (j : WalkJob) : WalkJob := if j.st = .suspended then { j with st := j.back, retry := false } else j

/-- The rows that a cancelled job's last step cannot read their node for are masked with the others (R166). -/
def WalkJob.maskLeft (j : WalkJob) : WalkJob :=
  match j.step with
  | some (u, rows, left) => { (j.process (fun r => ({ r with st := 3 }, false)) left) with step := some (u, rows, []) }
  | none => j

/-- WALK_STEP (R148). -/
def execWalkStep (cl job : Nat) (s : State) : Out :=
  match s.walk? cl job with
  | none => .fault .notEnabled
  | some j =>
    if !s.stepping cl j then .fault .notEnabled
    else match s.stepJob cl j with
      | (.ok (some j), s) => .next (s.setWalk cl job j.resumed)
      | (.error (_, some _), s) => if j.st = .draining then .next (s.setWalk cl job j.maskLeft) else .fault .notEnabled
      | _ => .fault .notEnabled

/-- WALK_STEP_END: the mirror of the step's rows is written, and the job drains when no node is pending (R147, R161). -/
def execWalkStepEnd (cl job : Nat) (s : State) : Out :=
  match s.walk? cl job with
  | none => .fault .notEnabled
  | some j =>
    match j.step with
    | some (_, rows, []) =>
      if !s.stepping cl j then .fault .notEnabled
      else
        let j := { j with step := none, st := if j.anyPending && !j.canc then .stepping else .draining }
        .next (rows.foldl (fun (s : State) k => s.mirror j k) (s.setWalk cl job j))
    | _ => .fault .notEnabled

/-- The block selector of a cluster's array in a record (R363, R373). -/
def arraySelector (cl : Nat) : Word := BitVec.ofNat 64 (2 ^ 32 + cl)

/-- A job meets a fault: it is suspended and reported with cause 0x0C, or 0x17 for poison; a world violation cancels it and holds the array (R16, R369, R370). -/
def State.suspendWalk (cl job : Nat) (j : WalkJob) (va c : Nat) (s : State) : State :=
  let sh := sheetOfCluster cl
  if c = 9 then
    (((s.setWalk cl job { j with st := .suspended }).recordOf sh 9 4 (arraySelector cl) (BitVec.ofNat 64 va)).walkCancel cl job).mapCluster cl (fun k => { k with engineHeld := 1 :: k.engineHeld })
  else
    (s.setWalk cl job { j with st := .suspended, back := if j.st = .suspended then j.back else j.st, retry := false, faultVa := va, susp := true }).recordOf sh (if c = 0x17 then 0x17 else 0x0C) 5
      (addrOf (.task (j.threads.headD 0) .c)) (BitVec.ofNat 64 va)

/-- WALK_SUSPEND (R16). -/
def execWalkSuspend (cl job : Nat) (s : State) : Out :=
  match s.walk? cl job with
  | none => .fault .notEnabled
  | some j =>
    if s.arrayHeld cl then .fault .notEnabled
    else if j.works .loading then (match s.loadJob cl j with | (.error (va, some c), s) => .next (s.suspendWalk cl job j va c) | _ => .fault .notEnabled)
    else if j.works .stepping then (match s.stepJob cl j with | (.error (va, some c), s) => .next (s.suspendWalk cl job j va c) | _ => .fault .notEnabled)
    else .fault .notEnabled

/-- A TLBINV that covers the faulting address: the job retries the translation (R16, R161, R444). -/
def WalkJob.resume (f : Nat → Nat → Bool) (j : WalkJob) : WalkJob := if j.st = .suspended ∧ f j.asid j.faultVa then { j with retry := true } else j

/-! ## Handlers -/

/-- The result that a core's next handler takes: the job, the row and the slice (R157, R158). -/
def State.nextResult (s : State) (core : Nat) : Option (Nat × Nat × Nat) :=
  let busy := s.handlers.filter (fun h => h.1.1 == core)
  (s.cluster (clusterOfCore core)).walks.findSome? (fun (p : Nat × WalkJob) =>
    match p.2.cores.findIdx? (· == core) with
    | none => none
    | some k =>
      if ((p.2.descs.getD 0 (walkDescOf [])).serial && busy.any (fun h => h.2.job == p.1)) then none
      else (p.2.drain.find? (fun r => match p.2.rows[r]? with | some x => x.st == 0 && !x.hstart.contains k | none => false)).map (fun r => (p.1, r, k)))

/-- The context of a handler at its start (R13, R54). -/
def handlerCtx (old : Ctx) (d : WalkDesc) (r : WalkRow) (row slice : Nat) (round : Word) (free now : Nat) : Ctx :=
  let k := { Ctx.init with run := .running, pc := d.handler, grp := d.handler, ackRecord := old.ackRecord, since := now, round := round,
                           seed := BitVec.ofNat 64 (row + 1), vshape := BitVec.ofNat 64 (d.accFmt + (r.leafN - 1) * 2 ^ 8),
                           v := [(0, r.results.getD slice 0), (1, Config.freeV free), (2, Config.freeV (free + 1)), (3, Config.freeV (free + 2))] }
  (((k.setReg 1 (BitVec.ofNat 64 row)).setReg 2 (BitVec.ofNat 64 r.leafId)).setReg 3 d.user).setReg 4 (BitVec.ofNat 64 r.seg)

/-- HANDLER_START (R157). -/
def execHandlerStart (core : Nat) (s : State) : Out :=
  match [0, 1].find? (fun k => (s.handlers.get? (core, k)).isNone), s.nextResult core with
  | some k, some (job, row, slice) =>
    let cl := clusterOfCore core
    match s.walk? cl job with
    | none => .fault .notEnabled
    | some j =>
      match j.rows[row]?, j.descs[slice]? with
      | some r, some d =>
        let h : Handler := { cl := cl, job := job, row := row, slice := slice, th := j.threads.getD slice 0, launch := j.launch,
                             who := j.items.getD slice Member.none, own := [] }
        let c := handlerCtx (s.ctxOf (.handler core k)) d r row slice (j.rounds.getD slice 0) s.freeCtr s.cycle.toNat
        let s := { s with handlers := s.handlers.set (core, k) h, freeCtr := s.freeCtr + 3 }
        .next ((s.setWalk cl job { j with rows := j.rows.set row { r with hstart := slice :: r.hstart } }).setCtx (.handler core k) c)
      | _, _ => .fault .notEnabled
  | _, _ => .fault .notEnabled

/-- The write-backs of R14 on a core, after its last HRET of the job. -/
def State.walkRelease (cl job core asid : Nat) (s : State) : State :=
  let r := s.writeBackAll core (.core core) (fun e => e.asid == asid)
  match r.2.2.walk? cl job with
  | some j => if r.1 then r.2.2.setWalk cl job { j with released := core :: j.released } else r.2.2
  | none => r.2.2

/-- Whether every store and tracer job of a job's handlers is performed: no write of its cores for its ASID is on its way, whoever sent it (R14). -/
def State.walkQuiet (s : State) (cl job : Nat) (j : WalkJob) : Bool :=
  j.cores.all (fun c => (s.coreUnacked c j.asid).isEmpty) &&
    !(s.cluster cl).tracers.any (fun t => decide (t.2.walk = some (cl, job)))

/-- WALK_JOB_COMPLETE: after the last HRET in every slice, the write-backs of R14 go, and when everything is performed the job is complete (R14, R161). -/
def execWalkJobComplete (cl job : Nat) (s : State) : Out :=
  match s.walk? cl job with
  | none => .fault .notEnabled
  | some j =>
    if j.st ≠ .draining ∨ j.rows.any (fun r => r.st == 0) ∨ j.drain ≠ [] ∨ j.step.isSome then .fault .notEnabled
    else match j.cores.find? (fun c => !j.released.contains c) with
      | some core => .next (s.walkRelease cl job core j.asid)
      | none => if s.walkQuiet cl job j then .next (s.walkComplete cl job) else .fault .notEnabled

end Sys2Proof.Machine
end

