-- ==== Sys2Proof/Machine/Link.lean ====
section
/-! DEFINITION. Isthmus edges: the LINK instructions (R404, R412 to R416), the turns of lane groups (R405 to R407), the training of Meridian ports (R411), and
the loss of a sheet (R423). -/

namespace Sys2Proof.Machine

/-! ## Edges -/

/-- The canonical edge of an id and the two sheets that it joins; none for an id that names no edge (R404). -/
def edgeOf (x : Word) : Option (Nat × Nat × Nat) :=
  let id := x.toNat
  let n := id / 4
  if 128 ≤ id then none
  else match id % 4 with
    | 0 => if n % 8 < 7 then some (id, n, n + 1) else none
    | 1 => if n / 8 < 3 then some (id, n, n + 8) else none
    | 2 => if 0 < n % 8 then some ((n - 1) * 4, n - 1, n) else none
    | _ => if 0 < n / 8 then some ((n - 8) * 4 + 1, n - 8, n) else none

/-- Usable groups: those that are not retired (R407). -/
def Edge.usable (e : Edge) : Nat := 32 - e.retired

/-- The sequence after one: 0xFFFF is followed by 1 (R413). -/
def nextTicket (n : Nat) : Nat := if n = 0xFFFF then 1 else n + 1

/-- Group turns started in the last 7,000 cycles (R407, R414). -/
def Edge.window (e : Edge) (now : Nat) : Nat := (e.starts.filter (fun t => decide (now < t + 7000))).length

/-- The command at the head sets out: it turns |B - POS| groups, and leaves the direction that it takes them from at least 2 (R406, R407). -/
def Edge.setOut (e : Edge) : Edge :=
  match e.queue with
  | [] => e
  | (b, _) :: _ =>
    if e.pos ≤ b then { e with left := min (b - e.pos) (e.neg - 2), leftPos := true }
    else { e with left := min (e.pos - b) (e.pos - 2), leftPos := false }

/-- Commands at the head with nothing left to turn and no dark group complete, in order (R406). -/
def Edge.settle (e : Edge) (n : Nat) : Edge :=
  match n with
  | 0 => e
  | k + 1 =>
    match e.queue with
    | [] => e
    | (_, seq) :: rest => if e.left = 0 ∧ e.dark = [] then ({ e with queue := rest, done := seq } : Edge).setOut.settle k else e

/-- An edge takes a command (R406, R412). -/
def Edge.enqueue (e : Edge) (b : Nat) : Edge :=
  let k := { e with queue := e.queue ++ [(b, e.seq)], seq := nextTicket e.seq }
  if e.queue.isEmpty then k.setOut.settle 9 else k

/-- Whether the issuing launch may turn an edge: its rectangle holds both sheets (R407). -/
def State.ownsEdge (s : State) (x : Nat × Nat × Nat) : Bool := let l := s.launch (s.launchOf s.cur); l.covers x.2.1 && l.covers x.2.2

/-! ## Instructions -/

/-- A denied ticket (R413). -/
def deniedTicket (why e : Nat) : Word := BitVec.ofNat 64 (2 ^ 63 + why * 2 ^ 61 + e * 2 ^ 16)

/-- The command enters the queue of an edge, where it waits for room (R412). -/
def State.edgeEnter (d : BitVec 5) (edge n : Nat) (s : State) : Out :=
  let k := s.edge edge
  if 8 ≤ k.queue.length then .next ((s.upd (fun k => { k with stage := 1 })).block (Wait.plain (.edgeRoom edge)))
  else done ((s.mapEdge edge (fun k => k.enqueue n)).setReg d (BitVec.ofNat 64 (edge * 2 ^ 16 + k.seq)))

/-- LTURN (R412). A command to an edge of the other world raises cause 0x09, whichever launch the edge serves (R370). One that waits for room has committed and
passed the checks. -/
def execLturn (g : Guard) (d a b : BitVec 5) (s : State) : Out :=
  issueScalar (.lturn g d a b) g s (fun s =>
    let n := (s.reg b).toNat
    match edgeOf (s.reg a) with
    | none => raise0 0x1B s
    | some x =>
      let k := s.edge x.1
      if s.ctx.stage = 1 then s.edgeEnter d x.1 n
      else if n < 2 ∨ 30 < n then raise0 0x1B s
      else if (s.launch (s.launchOf s.cur)).secure != k.world then raise0 9 s
      else
        let s := s.commit
        if !s.ownsEdge x then done (s.setReg d (deniedTicket 1 x.1))
        else if k.usable - 2 < n ∨ k.usable < n + 2 then done (s.setReg d (deniedTicket 2 x.1))
        else s.edgeEnter d x.1 n)

/-- The edge status word (R414, R415). -/
def State.edgeStatus (s : State) (x : Nat × Nat × Nat) (ticket : Word) : Word :=
  let k := s.edge x.1
  let t := ticket.toNat
  let b := fun (p : Bool) (n : Nat) => if p then 2 ^ n else 0
  let target := match k.queue.getLast? with | some c => c.1 | none => k.pos
  BitVec.ofNat 64 (b (s.ownsEdge x) 63 + b (k.retired != 0) 62 + b (t != 0 && t % 65536 != 0 && seqDone k.done (t % 65536)) 61 + b (t != 0 && t % 65536 == 0) 60 +
    k.done * 2 ^ 40 + k.retired * 2 ^ 35 + k.window s.cycle.toNat * 2 ^ 19 + k.dark.length * 2 ^ 16 + k.queue.length * 2 ^ 12 + target * 2 ^ 5 + k.pos)

/-- LSTAT (R414, R415). -/
def execLstat (g : Guard) (d a b : BitVec 5) (s : State) : Out :=
  issueScalar (.lstat g d a b) g s (fun s =>
    let t := (s.reg b).toNat
    match edgeOf (s.reg a) with
    | none => raise0 0x1B s
    | some x => if t ≠ 0 ∧ t / 2 ^ 16 % 128 ≠ x.1 then raise0 0x1B s else done (s.setReg d (s.edgeStatus x (s.reg b))))

/-- LQUIET waits for the command that the edge accepted last before it (R415). -/
def execLquiet (g : Guard) (d a : BitVec 5) (s : State) : Out :=
  issueScalar (.lquiet g d a) g s (fun s =>
    match edgeOf (s.reg a) with
    | none => raise0 0x1B s
    | some x =>
      match (if s.ctx.stage = 1 then none else (s.edge x.1).queue.getLast?) with
      | some c => .next ((s.upd (fun k => { k with stage := 1 })).block (Wait.plain (.edgeDone x.1 c.2)))
      | none => done (s.setReg d (s.edgeStatus x 0)))

/-! ## Turns -/

/-- Whether a group of an edge may begin its turn: fewer than 4 are dark, and fewer than 16 turns started within 7,000 cycles (R406, R407). -/
def Edge.mayTurn (e : Edge) (now : Nat) : Bool :=
  decide (0 < e.left ∧ e.dark.length < 4 ∧ e.window now < 16 ∧ 2 < (if e.leftPos then e.neg else e.pos))

/-- A group leaves its direction and is dark for 34 cycles (R406). -/
def Edge.turn (e : Edge) (now : Nat) : Edge :=
  { e with pos := if e.leftPos then e.pos else e.pos - 1, neg := if e.leftPos then e.neg - 1 else e.neg, left := e.left - 1,
           dark := e.dark ++ [(now + 34, e.leftPos)], starts := e.starts.filter (fun t => decide (now < t + 7000)) ++ [now], turns := sat32 e.turns }

/-- TURN_GROUP_START (R406, R407). -/
def execTurnGroupStart (edge : Nat) (s : State) : Out :=
  if (s.edge edge).mayTurn s.cycle.toNat then .next (s.mapEdge edge (fun e => e.turn s.cycle.toNat)) else .fault .notEnabled

/-- The block selector of an edge in a record (R363, R373). -/
def edgeSelector (edge : Nat) : Word := BitVec.ofNat 64 (3 * 2 ^ 32 + edge)

/-- A group has retrained: it points the other way, or it is retired (R406, R407). -/
def Edge.retrain (e : Edge) (toPos ok : Bool) : Edge :=
  let e := { e with dark := e.dark.drop 1, retrains := sat32 e.retrains }
  if !ok then { e with retired := e.retired + 1, retirements := sat32 e.retirements }
  else if toPos then { e with pos := e.pos + 1 } else { e with neg := e.neg + 1 }

/-- TURN_GROUP_RETRAIN: the group that has been dark longest, once its 34 cycles are over. A group that fails to retrain is retired, and a record of cause
0x19 names the edge (R406, R407). -/
def execTurnGroupRetrain (edge : Nat) (ok : Bool) (s : State) : Out :=
  match (s.edge edge).dark with
  | [] => .fault .notEnabled
  | (t, toPos) :: _ =>
    if s.cycle.toNat < t then .fault .notEnabled
    else
      let s := s.mapEdge edge (fun e => (e.retrain toPos ok).settle 9)
      .next (if ok then s else s.recordOf (edge / 4) 0x19 0 (edgeSelector edge) (BitVec.ofNat 64 edge))

/-- MERIDIAN_LINK_TRAINING: a port completes or loses its training (R411). -/
def execMeridianLinkTraining (port : Nat) (trained : Bool) (s : State) : Out :=
  if 32 ≤ port ∨ s.meridian.contains port = trained then .fault .notEnabled
  else .next { s with meridian := if trained then port :: s.meridian else s.meridian.filter (· ≠ port) }

/-! ## The loss of a sheet -/

/-- The edges that lead to a sheet, each with the number of its groups that point toward the sheet (R404, R423). -/
def State.edgesTo (s : State) (sheet : Nat) : List Nat :=
  (List.range 4).filterMap (fun d => (edgeOf (BitVec.ofNat 64 (sheet * 4 + d))).map (fun x => let k := s.edge x.1; if d < 2 then k.neg else k.pos))

/-- SHEET_LOST: every edge that leads to the sheet has fewer than 2 usable groups (R422, R423). -/
def execSheetLost (sheet : Nat) (s : State) : Out :=
  if 32 ≤ sheet ∨ (s.sheet sheet).lost ∨ (s.edgesTo sheet).any (fun n => decide (2 ≤ n)) then .fault .notEnabled else .next (s.loseSheet sheet)

end Sys2Proof.Machine
end

