-- ==== Sys2Proof/Machine/Phaser.lean ====
section
/-! DEFINITION. Phasers (R351, R352) and the PHASER group (R328, R329, R356 to R358). -/

namespace Sys2Proof.Machine

/-! ## The phaser -/

/-- Whether phase a has been reached when the phaser stands at p, modulo 2^32 (R328). -/
def reached (p a : BitVec 32) : Bool := decide ((p - a).toNat < 2 ^ 31)

def signals (mode : Nat) : Bool := mode % 2 == 1
def waits (mode : Nat) : Bool := mode / 2 % 2 == 1

/-- The members whose signal is expected in a phase, the present one or the next. -/
def Phaser.expected (p : Phaser) (ph : BitVec 32) : List Nat := (p.members.filter (fun m => signals m.2.1 && reached ph m.2.2)).map Prod.fst

/-- Whether every member whose signal is expected in the present phase has signalled. -/
def Phaser.allIn (p : Phaser) : Bool := (p.expected p.phase).all (fun m => p.signalled.contains (m, p.phase))

def Phaser.sum (p : Phaser) (ph : BitVec 32) : Nat := p.sums.get 0 ph
def Phaser.delivered (p : Phaser) (ph : BitVec 32) : Nat := p.deliveries.get 0 ph

/-- The present phase is complete (R352). -/
def Phaser.complete (p : Phaser) : Bool := p.allIn && (!p.counting || p.delivered p.phase == p.sum p.phase)

/-- The next phase: what belonged to the one before goes, and the members whose signal was expected in it are expected in the next. -/
def Phaser.next (p : Phaser) : Phaser :=
  { p with phase := p.phase + 1, members := p.members.map (fun m => (m.1, (m.2.1, if reached p.phase m.2.2 then p.phase + 1 else m.2.2))),
           signalled := p.signalled.filter (fun x => x.2 ≠ p.phase), sums := p.sums.del p.phase, deliveries := p.deliveries.del p.phase }

/-- The advances that follow a signal, a delivery or a drop: a phase in which no signal is expected does not follow another (R352). -/
def Phaser.settle (p : Phaser) (n : Nat) : Phaser :=
  match n with
  | 0 => p
  | k + 1 =>
    if p.complete then
      let q := p.next
      if (q.expected q.phase).isEmpty then q else q.settle k
    else if p.counting && p.allIn && decide (p.sum p.phase < p.delivered p.phase) then { p with broken := true }
    else p

def Phaser.new (scope : Nat) (counting : Bool) (launch gen mode n : Nat) : Phaser :=
  { live := true, gen := gen, scope := scope, counting := counting, launch := launch, phase := 0,
    members := (List.range n).map (fun m => (m, (mode, 0))), signalled := [], sums := [], deliveries := [], broken := false }

/-! ## Phasers in the module -/

def State.setPhaser (id : Nat) (p : Phaser) (s : State) : State :=
  if id / 2 ^ 30 % 4 = 0 then s.mapSheet (id / 2 ^ 25 % 32) (fun h => { h with phasers := h.phasers.set (id % 4096) p })
  else { s with treePhasers := s.treePhasers.set (id % 4096) p }

/-- The phaser that a register names for a launch; none where cause 0x1A is due (R351, R352). -/
def State.phaser? (s : State) (launch : Nat) (x : Word) : Option Phaser :=
  let id := x.toNat
  if 2 ^ 32 ≤ id ∨ 2 ≤ id / 2 ^ 30 ∨ id / 2 ^ 12 % 16 ≠ 0 ∨ (id / 2 ^ 30 = 1 ∧ (256 ≤ id % 4096 ∨ id / 2 ^ 25 % 32 ≠ (s.launch launch).origin)) then none
  else match s.phaserAt id with
    | some p => if p.live ∧ p.launch = launch ∧ p.gen = id / 2 ^ 16 % 512 ∧ !p.broken then some p else none
    | none => none

/-- The wake bits of the tasks whose member id is registered (R118). -/
def State.wakeMembers (p : Phaser) (s : State) : State :=
  { s with threads := s.threads.map (fun (t : Nat × Thread) =>
      if t.2.st ≠ .empty ∧ t.2.launch = p.launch ∧ (p.members.get? t.2.member).isSome then (t.1, { t.2 with wake := true }) else t) }

/-- A phaser after an event on it: advances, wake bits, and the record of a phaser that breaks (R118, R352). -/
def State.settlePhaser (id : Nat) (p : Phaser) (s : State) : State :=
  let q := p.settle 4
  let s := s.setPhaser id q
  let s := if q.phase ≠ p.phase then s.wakeMembers q else s
  let home := id / 2 ^ 25 % 32
  if q.broken && !p.broken then s.recordOf home 0x1A 0 (BitVec.ofNat 64 (home * 2 ^ 17)) (BitVec.ofNat 64 id) else s

/-- The phase for which a member's signal is expected next (R329). -/
def Phaser.signalPhase (p : Phaser) (m : Nat) : BitVec 32 :=
  match p.members.get? m with | some (_, f) => if reached p.phase f then p.phase else f | none => p.phase

/-- The phaser of an id, while it is live and the id is not stale (R351). -/
def State.phaserOf (s : State) (id : Nat) : Option Phaser :=
  match s.phaserAt id with
  | some p => if p.live && p.gen == id / 2 ^ 16 % 512 && !p.broken then some p else none
  | none => none

/-- Records a member's signal for a phase with the count that it carries, and advances (R329, R352). -/
def State.signal (id m : Nat) (t : BitVec 32) (count : Nat) (s : State) : State :=
  match s.phaserOf id with
  | none => s
  | some p => s.settlePhaser id { p with signalled := (m, t) :: p.signalled, sums := p.sums.set t (p.sum t + count) }

/-- A delivery to a phase, reported by the home that performed the packet (R299, R352). -/
def State.deliver (id : Nat) (ph : BitVec 32) (s : State) : State :=
  match s.phaserOf id with
  | none => s
  | some p => s.settlePhaser id { p with deliveries := p.deliveries.set ph (p.delivered ph + 1) }

/-- Whether a member may signal now: registered to signal, and not yet for its phase (R329). -/
def Phaser.maySignal (p : Phaser) (m : Nat) : Bool :=
  match p.members.get? m with | some (mode, _) => signals mode && !p.signalled.contains (m, p.signalPhase m) | none => false
def Phaser.mayWait (p : Phaser) (m : Nat) : Bool := match p.members.get? m with | some (mode, _) => waits mode | none => false

/-- Creates a phaser at the lowest free index of its class; its id, or 0 (R351, R356). -/
def State.newPhaser (launch sheet scope : Nat) (counting : Bool) (mode n : Nat) (s : State) : Nat × State :=
  let tree := decide (4 ≤ scope)
  let home := if tree then (s.launch launch).origin else sheet
  let table := if tree then s.treePhasers else (s.sheet home).phasers
  match (List.range (if tree then 256 else 4096)).find? (fun i => !(table.get? i).any Phaser.live) with
  | none => (0, s)
  | some i =>
    let gen := ((table.get? i).map Phaser.gen).getD 0
    let id := (if tree then 2 ^ 30 else 0) + home * 2 ^ 25 + gen * 2 ^ 16 + i
    (id, s.setPhaser id (Phaser.new scope counting launch gen mode n))

/-! ## Instructions -/

/-- SELF.MEMBER of the context in focus (R66). -/
def State.memberId (s : State) : Nat := (s.memberOf s.cur).member

/-- An instruction of the group: its phaser, or cause 0x1A. -/
def phaserOp (i : Instr) (g : Guard) (a : BitVec 5) (s : State) (f : Nat → Phaser → State → Out) : Out :=
  issueScalar i g s (fun s => match s.phaser? (s.launchOf s.cur) (s.reg a) with | some p => f (s.reg a).toNat p s | none => raise0 0x1A s)

/-- The wait of PHWAIT and PHNEXT for a phase, and their completion (R328). -/
def State.phaseWait (id : Nat) (p : Phaser) (ph : BitVec 32) (d : BitVec 5) (s : State) : Out :=
  if reached p.phase ph then done ((s.setReg d (BitVec.ofNat 64 p.phase.toNat)).acquire p.scope)
  else .next (s.block (sync 1 (BitVec.ofNat 64 (id * 2 ^ 32 + ph.toNat)) (.phase id ph.toNat)))

/-- PHWAIT (R328). A drop does not end a wait in progress (R357), so its registration is checked when it first issues; `kept` marks that it has. -/
def execPhwait (g : Guard) (d a b : BitVec 5) (s : State) : Out :=
  phaserOp (.phwait g d a b) g a s (fun id p s =>
    if s.ctx.kept = [] ∧ !p.mayWait s.memberId then raise0 0x1A s
    else (s.upd (fun k => { k with kept := [1] })).phaseWait id p (BitVec.ofNat 32 (s.reg b).toNat) d)

/-- The signal of PHSIG and PHNEXT: the checks, the commit, the release at the phaser's scope, and the signal; `f` continues with its phase, which `kept` holds from
the checks on (R329). -/
def signalOp (s : State) (id : Nat) (p : Phaser) (b : BitVec 5) (f : BitVec 32 → State → Out) : Out :=
  let m := s.memberId
  if s.ctx.kept = [] ∧ (!p.maySignal m ∨ (s.reg b ≠ 0 ∧ !p.counting)) then raise0 0x1A s
  else
    let t := if s.ctx.kept = [] then p.signalPhase m else BitVec.ofNat 32 (leNat s.ctx.kept)
    ((s.upd (fun k => { k with kept := leBytes 4 t.toNat })).commit.release p.scope).run (fun _ s => f t (s.signal id m t (s.reg b).toNat))

/-- PHSIG (R329). -/
def execPhsig (g : Guard) (d a b : BitVec 5) (s : State) : Out :=
  phaserOp (.phsig g d a b) g a s (fun id p s => signalOp s id p b (fun t s => done (s.setReg d (BitVec.ofNat 64 t.toNat))))

/-- PHNEXT (R358): the signal, then the wait for the phase after it. -/
def execPhnext (g : Guard) (d a b : BitVec 5) (s : State) : Out :=
  phaserOp (.phnext g d a b) g a s (fun id p s =>
    if s.ctx.stage = 4 then s.phaseWait id p (BitVec.ofNat 32 s.ctx.keep.toNat) d
    else signalOp s id p b (fun t s =>
      match s.phaser? (s.launchOf s.cur) (s.reg a) with
      | some p => if !p.mayWait s.memberId then raise0 0x1A s
                  else (s.upd (fun k => { k with stage := 4, keep := BitVec.ofNat 64 (t + 1).toNat })).phaseWait id p (t + 1) d
      | none => raise0 0x1A s))

/-- PHREG (R356, R357). -/
def execPhreg (g : Guard) (d a b : BitVec 5) (s : State) : Out :=
  phaserOp (.phreg g d a b) g a s (fun id p s =>
    let x := (s.reg b).toNat
    let m := x % 65536
    let mode := x / 65536 % 4
    if !s.isPost s.cur ∨ 2 ^ 18 ≤ x ∨ mode = 0 ∨ (p.members.get? m).isSome then raise0 0x1A s
    else
      let first := if (p.expected p.phase).isEmpty then p.phase else p.phase + 1
      let v := if signals mode then BitVec.ofNat 64 first.toNat else BitVec.allOnes 64
      done ((s.setPhaser id { p with members := p.members.set m (mode, first) }).setReg d v))

/-- PHDROP (R357). -/
def execPhdrop (g : Guard) (d a b : BitVec 5) (s : State) : Out :=
  phaserOp (.phdrop g d a b) g a s (fun id p s =>
    let m := (s.reg b).toNat % 65536
    if (p.members.get? m).isNone then raise0 0x1A s
    else (s.commit.release p.scope).run (fun _ s =>
      let p := (s.phaserOf id).getD p
      let due := (p.expected p.phase).contains m && !p.signalled.contains (m, p.phase)
      let q := { p with members := p.members.del m }
      let s := if due then s.settlePhaser id q else s.setPhaser id q
      done (s.setReg d (BitVec.ofNat 64 (((s.phaserAt id).map (fun p => p.phase.toNat)).getD 0)))))

/-- PHREAD (R358). -/
def execPhread (g : Guard) (d a b : BitVec 5) (s : State) : Out :=
  phaserOp (.phread g d a b) g a s (fun _ p s =>
    let due := ((p.expected p.phase).filter (fun m => !p.signalled.contains (m, p.phase))).length
    let all := (p.members.filter (fun m => signals m.2.1)).length
    if s.reg b = 0 then done (s.setReg d (BitVec.ofNat 64 (p.phase.toNat * 2 ^ 32 + min 0xFFFF due * 2 ^ 16 + min 0xFFFF all)))
    else if s.reg b = 1 ∧ p.counting then
      done (s.setReg d (BitVec.ofNat 64 (min 0xFFFFFFFF (p.sum p.phase) * 2 ^ 32 + min 0xFFFFFFFF (p.delivered p.phase))))
    else raise0 0x1A s)

/-- PHNEW (R356). -/
def execPhnew (g : Guard) (d a : BitVec 5) (s : State) : Out :=
  issueScalar (.phnew g d a) g s (fun s =>
    let x := (s.reg a).toNat
    let scope := x % 8
    let mode := x / 16 % 4
    let n := x / 65536 % 65536
    if !s.isPost s.cur ∨ 2 ^ 32 ≤ x ∨ x / 64 % 1024 ≠ 0 ∨ scope = 7 ∨ (mode = 0 ∧ n ≠ 0) then raise0 0x1A s
    else
      let r := s.newPhaser (s.launchOf s.cur) s.sheetId scope (x / 8 % 2 == 1) mode n
      done (r.2.setReg d (BitVec.ofNat 64 r.1)))

/-- Whether a context waits on a phaser, or a SIG job for it is in flight, from its grant to its completion (R356). -/
def State.phaserBusy (s : State) (id : Nat) : Bool :=
  s.ctxs.any (fun (c : CtxId × Ctx) => c.2.wait.any (fun w => match w.cond with | .phase i _ => i == id | _ => false)) ||
    s.clusters.any (fun (c : Nat × Cluster) => c.2.tracers.any (fun t => t.2.d.sig && t.2.d.phaser == id))

/-- PHFREE (R356). -/
def execPhfree (g : Guard) (d a : BitVec 5) (s : State) : Out :=
  issueScalar (.phfree g d a) g s (fun s =>
    if !s.isPost s.cur then raise0 0x1A s
    else match s.phaser? (s.launchOf s.cur) (s.reg a) with
      | none => raise0 0x1A s
      | some p =>
        let id := (s.reg a).toNat
        if s.phaserBusy id then done (s.setReg d 0)
        else done ((s.setPhaser id { p with live := false, gen := (p.gen + 1) % 512 }).setReg d 1))

end Sys2Proof.Machine
end

