-- ==== Sys2Proof/Machine/Stream.lean ====
section
/-! DEFINITION. The STRM group (R195 to R197, R234 to R242) and the steps of the stream engines (R194, R196, R237 to R240). -/

namespace Sys2Proof.Machine

/-! ## Queues -/

/-- The halfword of a queue (R230). -/
def Queue.halfword (q : Queue) : Nat :=
  (if q.cons = 1 then 256 else 0) + q.prod % 4 * 64 + (if q.stream then 32 else 0) + q.depth % 32

/-- A queue at task start from its halfword (R230, R231). -/
def Queue.ofHalf (h : Nat) : Queue :=
  { Queue.init with depth := h % 32, stream := h / 32 % 2 == 1, prod := h / 64 % 4, cons := h / 256 % 2 }

/-- Publishes the producer's slot 0 and sets the wake bit (R234, R196). -/
def State.publish (th q : Nat) (s : State) : State :=
  (s.mapQueue th q (fun x => { x with filled := x.filled + 1, pp := (x.pp + 1) % x.depth })).mapThread th (fun t => { t with wake := true })

/-- Frees the slot at the consumer pointer (R197). -/
def State.advance (th q : Nat) (s : State) : State :=
  s.mapQueue th q (fun x => { x with filled := x.filled - 1, cp := (x.cp + 1) % x.depth })

/-- The object of a queue wait in a deadlock record: queue number and count. -/
def queueObj (q n : Nat) : Word := BitVec.ofNat 64 (q * 2 ^ 32 + n)

/-- QPUB (R234). -/
def execQpub (g : Guard) (q : BitVec 3) (s : State) : Out :=
  issueScalar (.qpub g q) g s (fun s =>
    let x := s.queue q.toNat
    if x.filled < x.depth then done (s.publish s.threadId q.toNat) else .next (s.block (sync 2 (queueObj q.toNat 1) (.room q.toNat 1))))

/-- QADV (R197). -/
def execQadv (g : Guard) (q : BitVec 3) (s : State) : Out :=
  issueScalar (.qadv g q) g s (fun s =>
    if 0 < (s.queue q.toNat).filled then done (s.advance s.threadId q.toNat)
    else .next (s.block (sync 2 (queueObj q.toNat 1) (.filled q.toNat 1))))

/-- QCFG (R235). -/
def execQcfg (g : Guard) (d : BitVec 5) (q : BitVec 3) (s : State) : Out :=
  issueScalar (.qcfg g d q) g s (fun s =>
    let x := s.queue q.toNat
    done (s.setReg d (BitVec.ofNat 64 (x.streams.length * 2 ^ 36 + x.cp % 16 * 2 ^ 28 + x.pp % 16 * 2 ^ 24 + x.filled % 32 * 2 ^ 16 + x.halfword))))

/-- QFILL (R236). -/
def execQfill (g : Guard) (d : BitVec 5) (q : BitVec 3) (b : BitVec 5) (s : State) : Out :=
  issueScalar (.qfill g d q b) g s (fun s =>
    let x := s.queue q.toNat
    let c := (s.reg b).toNat
    let consumer := x.cons == s.cur.sideBit
    let have? := if consumer then x.filled else x.depth - x.filled
    if x.depth < c then raise0 0x0A s
    else if c ≤ have? then done (s.setReg d (BitVec.ofNat 64 have?))
    else .next (s.block (sync 2 (queueObj q.toNat c) (if consumer then .filled q.toNat c else .room q.toNat c))))

/-! ## Starting and stopping streams -/

/-- The stream of a descriptor of mode 0 or 1 (SSTR) or 2 (ISTR), where it obeys R194, R237 or R238. -/
def streamOf (indirect : Bool) (bs : List Byte) : Option Stream :=
  let f := leAt bs
  let mode := f 0x16 1
  let es := f 0x14 2
  let count := f 0x10 4
  let st : Stream := { mode := mode, base := BitVec.ofNat 64 (f 0 8), aux := BitVec.ofNat 64 (f 8 8), stride := BitVec.ofNat 64 (f 8 8), count := count,
                       esize := es, flags := f 0x17 1, width := f 0x18 2, limit := f 0x18 4, started := false, seg := 0, sub := 0, suspVa := none, suspPos := 0 }
  let ok :=
    if indirect then
      decide (mode = 2 ∧ 1 ≤ count ∧ count ≤ 2 ^ 24 ∧ f 0x17 1 < 2 ∧ 1 ≤ f 0x18 4 ∧ f 0x1C 4 = 0 ∧ f 8 8 % 4 = 0) &&
        [1, 2, 4, 8, 16, 32, 64, 128, 256, 512].contains es && decide (f 0 8 % max 1 (min es 64) = 0)
    else if mode = 0 then
      [1, 2, 4, 8].contains es && decide (f 0 8 % max 1 es = 0 ∧ f 8 8 % max 1 es = 0 ∧ 1 ≤ count ∧ count ≤ 2 ^ 24 ∧ f 0x17 1 = 0 ∧ 1 ≤ f 0x18 2 ∧ f 0x18 2 ≤ 32 ∧
        f 0x18 2 % max 1 es = 0 ∧ f 0x1A 6 = 0)
    else
      decide (mode = 1 ∧ es = 8 ∧ f 0 8 % 8 = 0 ∧ f 8 8 % 4 = 0 ∧ 1 ≤ count ∧ count ≤ 65535 ∧ f 0x17 1 < 2 ∧ f 0x18 8 = 0)
  if ok then some st else none

/-- SSTR and ISTR (R195, R239): the checks, the release at cluster scope, room among the four streams, and the stream. -/
def startStream (i : Instr) (g : Guard) (indirect : Bool) (q : BitVec 3) (a : BitVec 5) (s : State) : Out :=
  issueScalar i g s (fun s =>
    (s.snapshot (s.reg a) 32 32).run (fun bs s =>
      match streamOf indirect bs with
      | none => raise0 0x1B s
      | some st =>
        (s.release 2).run (fun _ s =>
          if 4 ≤ (s.queue q.toNat).streams.length then .next (s.block (sync 11 (queueObj q.toNat 4) (.streamRoom q.toNat)))
          else done (s.mapQueue s.threadId q.toNat (fun x => { x with streams := x.streams ++ [st] })))))

/-- SSTR (R195). -/
def execSstr (g : Guard) (q : BitVec 3) (a : BitVec 5) (s : State) : Out := startStream (.sstr g q a) g false q a s

/-- ISTR (R239). -/
def execIstr (g : Guard) (q : BitVec 3) (a : BitVec 5) (s : State) : Out := startStream (.istr g q a) g true q a s

/-- The slots that a stream fills for each of its segments; modes 0 and 2 have one sequence of slots. -/
def Stream.slotsTotal (x : Stream) : Nat :=
  if x.mode = 0 then (x.count + 15) / 16 else (x.count + 512 / x.esize - 1) / (512 / x.esize)

/-- POS of a running stream: a suspended one stands at the row or index whose read failed, and the engine assembles a slot in one step (R242). -/
def Stream.pos (x : Stream) : Nat :=
  if x.suspVa.isSome then x.suspPos
  else match x.mode with | 0 => min x.count (16 * x.seg) | 1 => x.seg | _ => min x.count (512 / x.esize * x.seg)

/-- The streams of a queue end: the status of the one that ran, and the later ones are discarded (R240, R241). -/
def Queue.stop (x : Queue) (why pos : Nat) : Queue := { x with streams := [], why := why, pos := pos }

/-- SCLOSE (R241): each slot is assembled in one step, so no read is outstanding between steps. -/
def execSclose (g : Guard) (q : BitVec 3) (s : State) : Out :=
  issueScalar (.sclose g q) g s (fun s =>
    match (s.queue q.toNat).streams with
    | [] => done s
    | x :: _ => done (s.mapQueue s.threadId q.toNat (fun k => k.stop 4 x.pos)))

/-- SSTAT (R242). -/
def execSstat (g : Guard) (d : BitVec 5) (q : BitVec 3) (s : State) : Out :=
  issueScalar (.sstat g d q) g s (fun s =>
    let k := s.queue q.toNat
    let v := match k.streams with
      | [] => k.why % 8 * 2 ^ 61 + k.pos % 2 ^ 32
      | x :: rest => (if x.suspVa.isSome then 2 ^ 60 else 0) + 2 ^ 59 + rest.length % 8 * 2 ^ 56 + x.pos % 2 ^ 32
    done (s.setReg d (BitVec.ofNat 64 v)))

/-! ## The engine -/

/-- What the engine finds for its next slot: the bytes and the stream after it, an error with WHY and POS, a fault to suspend on with its position, or
a moving page. -/
inductive Slot where
  | full (v : VReg) (x : Stream)
  | error (why pos : Nat)
  | fault (cause va pos : Nat)
  | retry
  deriving DecidableEq, Repr

/-- The outcome of a failed read of a stream: no read permission ends it, anything else suspends it (R240). -/
def slotFail (pos : Nat) (e : Nat × Option Nat) : Slot :=
  match e.2 with | none => .retry | some 8 => .error 3 pos | some c => .fault c e.1 pos

/-- Places read elements in a slot. -/
def placeAll (l : List (Nat × List Byte)) : VReg := l.foldl (fun (v : VReg) p => setBytes v p.1 p.2.length (leNat p.2)) 0

/-- Mode 0 (R237). -/
def State.stridedSlot (cl asid : Nat) (secure : Bool) (dl : Option Nat) (x : Stream) (s : State) : Slot × State :=
  let rows := min 16 (x.count - 16 * x.seg)
  let n := x.width / x.esize
  let el := (List.range rows).flatMap (fun r => (List.range n).map (fun j =>
    (r, 32 * r + j * x.esize, (x.base + BitVec.ofNat 64 (16 * x.seg + r) * x.stride + BitVec.ofNat 64 (j * x.esize)).toNat)))
  match s.engineReads cl asid secure dl (el.map (fun e => (e.2.2, x.esize))) with
  | (.error e, s) =>
    let row := match el.find? (fun y => y.2.2 == e.1) with | some y => 16 * x.seg + y.1 | none => x.pos
    (slotFail row e, s)
  | (.ok bs, s) => (.full (placeAll ((el.map (fun e => e.2.1)).zip bs)) { x with seg := x.seg + 1 }, s)

/-- Mode 1 (R194, R196). DESIGN CHOICE (log 163): the two bounds of a segment are read for each of its slots; R194 does not say whether a segment of several slots
reads them again. -/
def State.segmentSlot (cl asid : Nat) (secure : Bool) (dl : Option Nat) (x : Stream) (s : State) : Slot × State :=
  let at4 := (x.aux + BitVec.ofNat 64 (4 * x.seg)).toNat
  match s.engineReads cl asid secure dl [(at4, 4), ((at4 + 4) % 2 ^ 64, 4)] with
  | (.error e, s) => (slotFail x.seg e, s)
  | (.ok bs, s) =>
    let lo := leNat (bs.getD 0 [])
    let hi := leNat (bs.getD 1 [])
    if hi < lo then (.error 1 x.seg, s)
    else
      let len := hi - lo
      let n := min 64 (len - 64 * x.sub)
      let vas := (List.range n).map (fun k => ((x.base + BitVec.ofNat 64 (8 * (lo + 64 * x.sub + k))).toNat, 8))
      match s.engineReads cl asid secure dl vas with
      | (.error e, s) => (slotFail x.seg e, s)
      | (.ok bs, s) =>
        let term := if x.flags % 2 = 1 then leBytes 8 0xFFFFFFFF else leBytes 8 0
        let bs := bs ++ List.replicate (64 - n) term
        let x' := if x.sub < len / 64 then { x with sub := x.sub + 1 } else { x with seg := x.seg + 1, sub := 0 }
        (.full (placeAll (((List.range 64).map (fun k => 8 * k)).zip bs)) x', s)

/-- The records of a slot of mode 2 from their indices: bytes by position (R238). -/
def State.records (cl asid : Nat) (secure : Bool) (dl : Option Nat) (x : Stream) (l : List (Nat × Nat)) (s : State) : Except Slot (List (Nat × List Byte)) × State :=
  match l with
  | [] => (.ok [], s)
  | (j, idx) :: rest =>
    let pos := 512 / x.esize * x.seg + j
    if x.flags % 2 = 1 ∧ idx = 0xFFFFFFFF then s.records cl asid secure dl x rest
    else if x.limit ≤ idx then (.error (.error 2 pos), s)
    else
      let u := min x.esize 8
      let va := (x.base + BitVec.ofNat 64 (idx * x.esize)).toNat
      match s.engineReads cl asid secure dl ((List.range (x.esize / u)).map (fun k => ((va + k * u) % 2 ^ 64, u))) with
      | (.error e, s) => (.error (slotFail pos e), s)
      | (.ok bs, s) =>
        match s.records cl asid secure dl x rest with
        | (.error e, s) => (.error e, s)
        | (.ok r, s) => (.ok ((j * x.esize, bs.flatten) :: r), s)

/-- Mode 2 (R238). -/
def State.indirectSlot (cl asid : Nat) (secure : Bool) (dl : Option Nat) (x : Stream) (s : State) : Slot × State :=
  let p := 512 / x.esize
  let n := min p (x.count - p * x.seg)
  let vas := (List.range n).map (fun j => ((x.aux + BitVec.ofNat 64 (4 * (p * x.seg + j))).toNat, 4))
  match s.engineReads cl asid secure dl vas with
  | (.error e, s) => (slotFail (p * x.seg + vas.findIdx (fun v => v.1 == e.1)) e, s)
  | (.ok bs, s) =>
    match s.records cl asid secure dl x ((List.range n).zip (bs.map leNat)) with
    | (.error e, s) => (e, s)
    | (.ok r, s) => (.full (placeAll r) { x with seg := x.seg + 1 }, s)

/-- The next slot of a stream (R194, R237, R238). -/
def State.assemble (th : Nat) (x : Stream) (s : State) : Slot × State :=
  let cl := clusterOfThread th
  let asid := (s.launch (s.thread th).launch).asid
  let secure := s.coreSecure (coreOfThread th)
  let dl := classOf (s.thread th).deadline
  match x.mode with
  | 0 => s.stridedSlot cl asid secure dl x
  | 1 => s.segmentSlot cl asid secure dl x
  | _ => s.indirectSlot cl asid secure dl x

/-- Whether a stream has published its last slot. -/
def Stream.finished (x : Stream) : Bool := match x.mode with | 1 => decide (x.count ≤ x.seg) | _ => decide (x.slotsTotal ≤ x.seg)

/-- The queue of a thread, and the stream at its head. -/
def State.queueAt (s : State) (th q : Nat) : Queue := (s.thread th).queues.getD q Queue.init
def State.stream? (s : State) (th q : Nat) : Option Stream := (s.queueAt th q).streams.head?

/-- STREAM_START: the stream at the head of its queue begins (R195). -/
def execStreamStart (th q : Nat) (s : State) : Out :=
  match s.stream? th q with
  | some x =>
    if x.started then .fault .notEnabled
    else .next (s.mapQueue th q (fun k => { k with streams := { x with started := true } :: k.streams.drop 1 }))
  | none => .fault .notEnabled

/-- The queue after its running stream has published a slot and stands at `x`: a finished stream ends normally, with POS the total (R242). -/
def Queue.moveOn (k : Queue) (x : Stream) : Queue :=
  if x.finished then { k with streams := k.streams.drop 1, why := 0, pos := x.count } else { k with streams := x :: k.streams.drop 1 }

/-- STREAM_SLOT_PUBLISH: the engine fills a free slot with its 512 bytes and publishes it, or the stream ends with an error (R196, R238, R240). -/
def execStreamSlotPublish (th q : Nat) (s : State) : Out :=
  let k := s.queueAt th q
  match s.stream? th q with
  | none => .fault .notEnabled
  | some x =>
    if !x.started || x.suspVa.isSome || decide (k.depth ≤ k.filled) then .fault .notEnabled
    else
      match s.assemble th x with
      | (.full v x', s) =>
        .next ((s.mapQueue th q (fun k => { k with slots := k.slots.set (k.prodSlot 0) v }.moveOn x')).publish th q)
      | (.error why pos, s) => .next (s.mapQueue th q (fun k => k.stop why pos))
      | _ => .fault .notEnabled

/-- The source of a record of a thread's stream: the context of its A side (R363). -/
def engineSource (th : Nat) : Word := addrOf (.task th .a)

/-- STREAM_SUSPEND: a page that is not resident or not mapped, or poisoned bytes, suspend the stream and are reported; a world violation freezes the core
that the stream serves (R240, R369, R370). -/
def execStreamSuspend (th q : Nat) (s : State) : Out :=
  let k := s.queueAt th q
  match s.stream? th q with
  | none => .fault .notEnabled
  | some x =>
    if !x.started || x.suspVa.isSome || decide (k.depth ≤ k.filled) then .fault .notEnabled
    else
      match s.assemble th x with
      | (.fault c va pos, s) =>
        let s := s.mapQueue th q (fun k => { k with streams := { x with suspVa := some va, suspPos := pos } :: k.streams.drop 1 })
        let e := s.eventOf c (if (s.thread th).post then 4 else 0) (engineSource th) (BitVec.ofNat 64 va)
        .next (if c = 9 then s.freezeOn (coreOfThread th) e else s.record (sheetOfThread th) e)
      | _ => .fault .notEnabled

/-- Whether the engine of a queue has something to do, for the device's own schedule. -/
def State.streamBusy (s : State) (th q : Nat) : Bool :=
  match s.stream? th q with
  | none => false
  | some x => !x.started || (x.suspVa.isNone && decide ((s.queueAt th q).filled < (s.queueAt th q).depth))

/-- A queue whose engine is busy: a stream has started, also while it waits for a free slot or is suspended (R195, R240). -/
def Queue.running (k : Queue) : Bool := k.streams.any (fun x => x.started)

/-- A TLBINV resumes the streams of a thread that wait for an address that it covers (R240). -/
def Queue.resume (f : Nat → Bool) (k : Queue) : Queue :=
  { k with streams := k.streams.map (fun x => if x.suspVa.any f then { x with suspVa := none } else x) }

end Sys2Proof.Machine
end

