-- ==== Sys2Proof/Machine/Intake.lean ====
section
/-! DEFINITION. Teams (R336, R338, R341), queue configurations at placement (R58, R230), and the intake of items (R59, R339, R340, R342, R367). -/

namespace Sys2Proof.Machine

/-! ## Teams -/

/-- A level as placement uses it: its domain, its PLACE and its extent. -/
structure PlaceLevel where
  domain : Nat
  place : Nat
  extent : Nat
  deriving DecidableEq, Repr

/-- The levels that place a team: the implicit ones, then those of the legend that are not handler levels (R336, R338). -/
def placeLevels (lg : List Byte) : List PlaceLevel :=
  let ls := legendLevels lg
  match ls.head? with
  | none => []
  | some o =>
    ([0, 1, 3, 4].filter (fun d => decide (d < o.domain))).map (fun d => { domain := d, place := if d = 4 then 1 else o.place, extent := 1 }) ++
      (ls.filter (fun l => l.domain ≠ 6)).map (fun l => { domain := l.domain, place := l.place, extent := l.extent })

/-- The segment indices that yield members: fields of the shape that are not 0 (R336, R341). -/
def Item.segments (it : Item) (extent : Nat) : List Nat := (List.range extent).filter (fun f => it.shapeField f ≠ 0)

/-- The product of the extents of the levels that are not segment levels. -/
def extents (ls : List PlaceLevel) : Nat := (ls.filter (fun l => l.domain ≠ 7)).foldl (fun n l => n * l.extent) 1

/-- The members of a team by rank, each with its segment index, none of them placed (R336). -/
def Item.team (it : Item) (lg : List Byte) : List (Nat × Nat × Nat) :=
  let ls := placeLevels lg
  match ls.find? (fun l => l.domain == 7) with
  | Option.none => (List.range (extents ls)).map (fun r => (r, 0xFFFF, 0))
  | some g =>
    let segs := it.segments g.extent
    (List.range (extents ls * segs.length)).map (fun r => (r, segs.getD (r % segs.length) 0, 0))

/-- The rectangle of a legend holds a sheet (R333). -/
def legendCovers (lg : List Byte) (sheet : Nat) : Bool :=
  decide (leAt lg 2 2 ≤ sheet % 8 ∧ sheet % 8 < leAt lg 2 2 + leAt lg 6 2 ∧ leAt lg 4 2 ≤ sheet / 8 ∧ sheet / 8 < leAt lg 4 2 + leAt lg 8 2)

/-- The sheets of a legend's rectangle, in order of number. -/
def legendSheets (lg : List Byte) : List Nat := (List.range 32).filter (fun h => legendCovers lg h)

/-- The origin sheet of a legend's rectangle. -/
def legendOrigin (lg : List Byte) : Nat := leAt lg 4 2 * 8 + leAt lg 2 2

/-! ## Queue configurations -/

/-- The eight queues that a configuration declares; configuration 0 has none (R230). -/
def Launch.queuesOf (l : Launch) (cfg : Nat) : List Queue :=
  if cfg = 0 then List.replicate 8 Queue.init
  else let bs := l.qcfgs.getD (cfg - 1) []; (List.range 8).map (fun q => Queue.ofHalf (leAt bs (2 * q) 2))

/-- Q: the sum of the depths of a configuration (R58). -/
def Launch.depthSum (l : Launch) (cfg : Nat) : Nat := (l.queuesOf cfg).foldl (fun n q => n + q.depth) 0

/-- n and the queue configuration of an item (R58). -/
def Item.named (it : Item) : Nat := it.allot % 32
def Item.qcfg (it : Item) : Nat := it.allot / 32 % 128

/-- The footprint of each member (R58). -/
def State.footprint (s : State) (it : Item) : Nat := it.named + (s.launch it.launch).depthSum it.qcfg

/-! ## Intake -/

/-- The findings of R340 that rest on the item itself, in their order. -/
def State.itemFinding (s : State) (it : Item) : Option Nat :=
  let l := s.launch it.launch
  let entry := decide (it.entryC = 0 ∨ it.entryC.toNat % 4 ≠ 0 ∨ it.entryA.toNat % 4 ≠ 0)
  let fields := decide (64 ≤ it.legend ∨ l.legends.length ≤ it.legend ∨ it.late = 3 ∨ it.flags / 512 ≠ 0 ∨ 11 < it.prio ∨ 16384 ≤ it.gate ∨ 16384 ≤ it.done)
  let input := decide (it.linputOff % 8 ≠ 0 ∨ it.linputLen % 8 ≠ 0 ∨ Config.localBytes < it.linputOff + it.linputLen ∨ (it.linputAddr = 0 ∧ it.linputLen ≠ 0))
  if entry || fields || input then some 0x1B
  else if it.prio = 11 ∧ !it.system then some 0x08
  else if it.named < 8 ∨ 24 < it.named ∨ 4096 ≤ it.allot ∨ l.qcfgs.length < it.qcfg ∨ it.named < l.depthSum it.qcfg then some 0x04
  else if it.shapeVa.toNat % 64 ≠ 0 then some 0x1B
  else none

/-- The snapshot of an item's shape (R340, R341). -/
def State.itemShape (sheet : Nat) (it : Item) (s : State) : Except (Option Nat) (BitVec 512) × State :=
  if it.shapeVa = 0 then (.ok 0, s)
  else
    let l := s.launch it.launch
    match s.readVa sheet l.asid it.shapeVa.toNat 64 l.secure with
    | (.ok bs, s) => (.ok (BitVec.ofNat 512 (leNat bs)), s)
    | (.error c, s) => (.error (c.map snapCause), s)

/-- The snapshots and checks of R340: the item with its shape and its team, and the first finding; or an error where a page moves and intake tries again. -/
def State.intakeCheck (sheet : Nat) (b : Submission) (order : Nat) (s : State) : Except Unit (Item × Option Nat) × State :=
  match s.itemWords sheet b with
  | (.error none, s) => (.error (), s)
  | (.error (some c), s) => (.ok (b.item [] order, some c), s)
  | (.ok ws, s) =>
    let it := b.item ws order
    match s.itemFinding it with
    | some c => (.ok (it, some c), s)
    | none =>
      match s.itemShape sheet it with
      | (.error none, s) => (.error (), s)
      | (.error (some c), s) => (.ok (it, some c), s)
      | (.ok shape, s) =>
        let it := { it with shape := shape }
        let it := { it with members := it.team (s.legendOf it) }
        let n := it.members.length
        (.ok (it, if 65535 < it.member + (n - 1) ∨ (it.pin.isSome ∧ n ≠ 1) then some 0x1B else none), s)

/-- The dispatcher that holds an item which a sheet takes in (R338); a tile stays with its target sheet (R420). -/
def State.itemHome (s : State) (it : Item) (sheet : Nat) : Nat :=
  let lg := s.legendOf it
  if it.tile.isSome || legendCovers lg sheet then sheet else legendOrigin lg

/-- An item that intake has checked stands in its ready pool, held or ready, or has its final state at once (R337, R340, R342). -/
def State.enter (sheet : Nat) (it : Item) (find : Option Nat) (s : State) : Nat × State :=
  match find with
  | some c =>
    let i := (s.sheet sheet).nextItem
    (c, (s.mapSheet sheet (fun h => { h with nextItem := i + 1, items := h.items.set i it })).finalItem sheet i (768 + c))
  | none =>
    let home := s.itemHome it sheet
    let i := (s.sheet home).nextItem
    let gated := decide (it.gate ≠ 0 ∧ ((s.sheet home).counters.get (0, false) (it.launch, it.gate)).1 ≠ 0)
    let it := { it with st := if gated then .held else .ready, order := i }
    let s := s.mapSheet home (fun h => { h with nextItem := i + 1, items := h.items.set i it })
    (0, if it.members.isEmpty && !gated then s.finalItem home i 0 else s)

/-- What an intake waits for: a retry of a read, or room in the ready pool of a sheet. -/
inductive Blocked where
  | retry
  | pool (sheet : Nat)
  deriving DecidableEq, Repr

/-- Intake of a submission at a sheet's dispatcher (R338, R340, R342, R343): 0 and the item in the ready pool, or the cause of its rejection, which is its final
status; or what it waits for. The pool of the dispatcher that is to hold the item must have room. -/
def State.intake (sheet : Nat) (b : Submission) (s : State) : Except Blocked Nat × State :=
  if Config.poolSize ≤ (s.sheet sheet).pool then (.error (.pool sheet), s)
  else match s.intakeCheck sheet b (s.sheet sheet).nextItem with
    | (.error (), t) => (.error .retry, t)
    | (.ok (it, find), t) =>
      let home := t.itemHome it sheet
      if find = none ∧ Config.poolSize ≤ (t.sheet home).pool then (.error (.pool home), s)
      else let r := t.enter sheet it find; (.ok r.1, r.2)

/-- ITEM_INTAKE: the oldest submission of a sheet is taken in once the ready pool has room (R340, R343, R367). A transaction whose combine item
is taken in is closed (R422). A lost sheet takes in nothing: what reaches it is abandoned or fails (R423, log 165). -/
def execItemIntake (sheet : Nat) (s : State) : Out :=
  match (s.sheet sheet).intakeQ with
  | [] => .fault .notEnabled
  | b :: rest =>
    if (s.sheet sheet).lost then .next ((s.mapSheet sheet (fun h => { h with intakeQ := rest })).loseQueued sheet b)
    else match (s.mapSheet sheet (fun h => { h with intakeQ := rest })).intake sheet b with
    | (.error _, _) => .fault .notEnabled
    | (.ok c, s) =>
      let s := if b.svitem then s.mapSheet sheet (fun h => { h with svitem := BitVec.ofNat 64 c }) else s
      let s := match b.combine with
        | some id => if c = 0 then (match s.lxOf id with | some t => if t.st = 3 then s.setLx (lxHome id) (id % 4096) { t with st := 5 } else s | none => s) else s
        | none => s
      .next (s.launchEndCheck b.launch)

end Sys2Proof.Machine
end

