-- ==== Sys2Proof/Machine/Task.lean ====
section
/-! DEFINITION. The TASK group (R326, R327, R354, R355). -/

namespace Sys2Proof.Machine

/-- TARG (R326). -/
def execTarg (g : Guard) (d : BitVec 5) (b : BitVec 3) (s : State) : Out :=
  issueScalar (.targ g d b) g s (fun s => done (s.setReg d ((s.itemOf s.cur).arg b.toNat)))

/-- A snapshot of n bytes within one line through the cluster TLB, read at the home (R327, R421). -/
def State.spawnBytes (va : Word) (n : Nat) (s : State) : Acc (List Byte) :=
  match s.translate s.clusterId (s.asidOf s.cur) va.toNat .load (s.coreSecure s.coreId) with
  | (.cause c, s) => .trap c va s
  | (.nack, s) => .wait s.retry s
  | (.page _ pa, s) =>
    if s.moving pa then .wait s.retry s
    else if s.poisoned pa n then .trap 0x17 va s
    else .ok (s.homeBytes pa n) ((s.countUnbacked pa).readPass s.clusterId pa (s.entryOf (.side s.cur)).2)

/-- The part of TSPAWN that follows its snapshot: room in the pool, and the intake (R327, R340, R343). -/
def State.spawn (d : BitVec 5) (a0 : Word) (bs : List Byte) (s : State) : Out :=
  match s.intake s.sheetId { Submission.ofVa 0 (s.launchOf s.cur) with words := wordsOf bs 16, a0 := some a0, fromTask := true } with
  | (.error (.pool h), s) => .next (s.block (sync 10 0 (.pool h)))
  | (.error .retry, s) => .next (s.block s.retry)
  | (.ok c, s) => done (s.setReg d (BitVec.ofNat 64 c))

/-- TSPAWN (R327): the alignment, the commit, the release at the member's scope, the snapshot, the wait for the pool, and the intake. -/
def execTspawn (g : Guard) (d a b : BitVec 5) (s : State) : Out :=
  issueScalar (.tspawn g d a b) g s (fun s =>
    if (s.reg a).toNat % 128 ≠ 0 then raise 5 (s.reg a) s
    else
      let s := s.commit
      if s.ctx.stage = 4 then s.spawn d (s.reg b) s.ctx.kept
      else (s.release (s.scopeOf (s.itemOf s.cur))).run (fun _ s =>
        (s.spawnBytes (s.reg a) 128).run (fun bs s => (s.upd (fun k => { k with stage := 4, kept := bs })).spawn d (s.reg b) bs)))

/-- The counter that a register names, or none (R354). -/
def counterIndex (x : Word) : Option Nat := if x.toNat = 0 ∨ 16384 ≤ x.toNat then none else some x.toNat

/-- TDEP (R354). -/
def execTdep (g : Guard) (d a b : BitVec 5) (s : State) : Out :=
  issueScalar (.tdep g d a b) g s (fun s =>
    match counterIndex (s.reg a) with
    | none => raise0 0x1A s
    | some i =>
      (s.commit.release (s.scopeOf (s.itemOf s.cur))).run (fun _ s =>
        let l := s.launchOf s.cur
        let s := s.addCounter s.sheetId l i (toSigned (s.reg b).toNat 32)
        let c := (s.sheet s.sheetId).counters.get (0, false) (l, i)
        done (s.setReg d (BitVec.ofNat 64 ((if c.2 then 2 ^ 63 else 0) + c.1)))))

/-- TCTR (R354). -/
def execTctr (g : Guard) (d a : BitVec 5) (s : State) : Out :=
  issueScalar (.tctr g d a) g s (fun s =>
    match counterIndex (s.reg a) with
    | none => raise0 0x1A s
    | some i =>
      let l := s.launchOf s.cur
      let h := s.sheet s.sheetId
      let c := h.counters.get (0, false) (l, i)
      let held := (h.items.filter (fun p => decide (p.2.launch = l ∧ p.2.gate = i ∧ p.2.st = .held))).length
      done (s.setReg d (BitVec.ofNat 64 ((if c.2 then 2 ^ 63 else 0) + min (2 ^ 31 - 1) held * 2 ^ 32 + c.1))))

/-- TSHAPE (R355): a field of the snapshot, and its copy to local memory where A is not s0. -/
def execTshape (g : Guard) (d a b : BitVec 5) (s : State) : Out :=
  issueScalar (.tshape g d a b) g s (fun s =>
    let it := s.itemOf s.cur
    let off := (s.reg a).toNat
    if 31 < (s.reg b).toNat then raise0 0x1B s
    else if a = 0 then done (s.setReg d (BitVec.ofNat 64 (it.shapeField (s.reg b).toNat)))
    else if 2 ^ 17 ≤ off ∨ Config.localBytes < off + 64 then raise 8 (s.reg a) s
    else if off % 64 ≠ 0 then raise 5 (s.reg a) s
    else if s.inputArea off 64 then raise 8 (s.reg a) s
    else done ((s.putLocal s.coreId off (byteList it.shape 0 64)).setReg d (BitVec.ofNat 64 (it.shapeField (s.reg b).toNat))))

/-- TSELF (R355). -/
def execTself (g : Guard) (d : BitVec 5) (s : State) : Out :=
  issueScalar (.tself g d) g s (fun s =>
    let m := s.memberOf s.cur
    let size := (s.itemOf s.cur).members.length
    done (s.setReg d (BitVec.ofNat 64 (m.segment % 2 ^ 16 * 2 ^ 32 + (size - 1) % 2 ^ 16 * 2 ^ 16 + m.rank % 2 ^ 16))))

/-- TLATE (R355). -/
def execTlate (g : Guard) (d : BitVec 5) (s : State) : Out :=
  issueScalar (.tlate g d) g s (fun s =>
    let dl := (s.memberOf s.cur).deadline
    done (s.setReg d (if dl = 0 then 0x7FFFFFFFFFFFFFFF else dl - s.cycle)))

end Sys2Proof.Machine
end

