-- ==== Sys2Proof/Machine/Place.lean ====
section
/-! DEFINITION. Where the dispatcher places the members of a team (R336 to R338, R344, R347, R350, R367) and which slots it reserves (R344). -/

namespace Sys2Proof.Machine

/-! ## Rank -/

/-- The rank of an item in the ready pool, least first (R343). -/
def Item.rankKey (it : Item) : Nat :=
  (15 - it.prio) * 2 ^ 128 + (if it.deadline = 0 then 2 ^ 64 - 1 else it.deadline.toNat) * 2 ^ 64 + it.order

/-- Puts an element behind those of a lesser or equal key. -/
def insertBy (k : Nat) (x : α) (l : List (Nat × α)) : List (Nat × α) :=
  match l with
  | [] => [(k, x)]
  | y :: rest => if k < y.1 then (k, x) :: y :: rest else y :: insertBy k x rest

/-- A list in the order of a key; equal keys keep their order. -/
def sortBy (key : α → Nat) (l : List α) : List α := (l.foldl (fun acc x => insertBy (key x) x acc) []).map Prod.snd

/-! ## Regions -/

/-- An instance of a domain. -/
inductive Zone where
  | rect (hs : List Nat)
  | sheet (h : Nat)
  | crow (h r : Nat)
  | cluster (c : Nat)
  | core (k : Nat)
  deriving DecidableEq, Repr

def Zone.cores (r : Zone) : List Nat :=
  match r with
  | .rect hs => hs.flatMap (fun h => (List.range 2048).map (h * 2048 + ·))
  | .sheet h => (List.range 2048).map (h * 2048 + ·)
  | .crow h r => (List.range 128).map (h * 2048 + r * 128 + ·)
  | .cluster c => (List.range 8).map (c * 8 + ·)
  | .core k => [k]

def Zone.has (r : Zone) (core : Nat) : Bool :=
  match r with
  | .rect hs => hs.contains (core / 2048)
  | .sheet h => core / 2048 == h
  | .crow h r => core / 128 == h * 16 + r
  | .cluster c => core / 8 == c
  | .core k => core == k

/-- The instances of a domain within an instance, in order of number (R334). -/
def Zone.parts (r : Zone) (domain : Nat) : List Zone :=
  let sheets := match r with | .rect hs => hs | .sheet h => [h] | _ => []
  match domain with
  | 0 => [r]
  | 1 => if sheets.isEmpty then [r] else sheets.map .sheet
  | 2 => if sheets.isEmpty then [r] else sheets.flatMap (fun h => (List.range 16).map (.crow h ·))
  | 3 => match r with
    | .crow h y => (List.range 16).map (fun x => .cluster (h * 256 + y * 16 + x))
    | .cluster c => [.cluster c]
    | .core k => [.core k]
    | _ => sheets.flatMap (fun h => (List.range 256).map (fun x => .cluster (h * 256 + x)))
  | _ => r.cores.map .core

/-! ## Fit -/

/-- What is to be placed: an item of a sheet, the footprint of a member, threads that count as free, whether reservations and quotas bind, and the one core that may be
taken (R385). -/
structure Want where
  sheet : Nat
  item : Nat
  foot : Nat
  freed : List Nat
  binding : Bool
  only : Option Nat
  deriving DecidableEq, Repr

/-- Whether the dispatcher places members of a launch on a core at all (R366, R368, R370, R423). -/
def State.mayUse (s : State) (launch core : Nat) : Bool :=
  let l := s.launch launch
  let sh := sheetOfCore core
  !(s.core core).retired && !(s.sheet sh).lost && !l.drained.contains sh && (s.cluster (clusterOfCore core)).worldCl == l.secure

/-- The slots of a core that reservations withhold from an item, and their footprints: those of items ranked above it (R344). -/
def State.withheld (s : State) (w : Want) (core : Nat) : List (Nat × Nat) :=
  let key := (s.item w.sheet w.item).rankKey
  s.sheets.flatMap (fun (h : Nat × Sheet) =>
    (h.2.reservations.filter (fun r => !(h.1 == w.sheet && r.item == w.item) && decide ((s.item h.1 r.item).rankKey < key))).flatMap (fun r =>
      (r.slots.filter (fun th => th / 8 == core)).map (fun th => (th % 8, r.footprint))))

/-- The slots of a core that a member may take, and how many members its pool has room for (R58, R344, R350, R367). -/
def State.fitSlots (s : State) (w : Want) (core : Nat) : List Nat × Nat :=
  let it := s.item w.sheet w.item
  let held := ((List.range 8).map (core * 8 + ·)).filter (fun th => decide ((s.thread th).st ≠ .empty) && !w.freed.contains th)
  let kept := if w.binding then s.withheld w core else []
  let own := ((s.sheet w.sheet).reservations.filter (fun r => r.item == w.item)).flatMap (fun r => (r.slots.filter (fun th => th / 8 == core)).map (· % 8))
  let overflowing := held.any (fun th => let t := s.thread th; t.ovf && (t.st == .placing || t.st == .pre))
  if !s.mayUse it.launch core || overflowing || w.only.any (fun k => k != core) then ([], 0)
  else
    let used := held.foldl (fun n th => let t := s.thread th; n + t.n + t.q) 0 + kept.foldl (fun n r => n + r.2) 0
    let ok := fun (k : Nat) => !held.contains (core * 8 + k) && !kept.any (fun r => r.1 == k) && (own.isEmpty || own.contains k || !w.binding) &&
      !it.pin.any (fun p => p != core * 8 + k)
    ((List.range 8).filter ok, (248 - used) / max 1 w.foot)

/-- The first n slots of a region that members may take. -/
def State.takeSlots (s : State) (w : Want) (n : Nat) (cores : List Nat) : Option (List Nat) :=
  match cores with
  | [] => if n = 0 then some [] else none
  | k :: rest =>
    if n = 0 then some []
    else
      let f := s.fitSlots w k
      let l := ((f.1.take f.2).take n).map (k * 8 + ·)
      (s.takeSlots w (n - l.length) rest).map (l ++ ·)

/-- The cluster that holds the home slice of the item's input address, where the dispatcher can translate it (R338, R344). -/
def State.homeOf (s : State) (w : Want) : Option Nat :=
  let it := s.item w.sheet w.item
  if it.linputAddr = 0 then none
  else (s.vaToPa w.sheet (s.launch it.launch).asid it.linputAddr.toNat).map (fun pa => paSheet pa * 256 + homeSlice pa)

/-- The tasks of the item's launch in a region. -/
def State.tasksIn (s : State) (launch : Nat) (r : Zone) : Nat :=
  (s.threads.filter (fun t => decide (t.2.st ≠ .empty ∧ t.2.launch = launch) && r.has (t.1 / 8))).length

/-- The instances of a level in the order in which its PLACE tries them (R344). -/
def State.arranged (s : State) (w : Want) (l : PlaceLevel) (r : Zone) : List Zone :=
  let rs := r.parts l.domain
  if l.place = 2 then sortBy (s.tasksIn (s.item w.sheet w.item).launch) rs
  else if l.place = 0 ∧ 1 ≤ l.domain ∧ l.domain ≤ 3 then
    match s.homeOf w with
    | some c => rs.filter (fun x => x.has (c * 8)) ++ rs.filter (fun x => !x.has (c * 8))
    | none => rs
  else rs

/-! ## A whole team (R344: all or nothing) -/

/-- Takes the first regions in which a part of the team fits, as many as are needed. -/
def pickZones (need : Nat) (cands : List Zone) (f : Zone → Option (List Nat)) : Option (List Nat) :=
  match cands with
  | [] => if need = 0 then some [] else none
  | c :: rest =>
    if need = 0 then some []
    else match f c with
      | some l => (pickZones (need - 1) rest f).map (l ++ ·)
      | none => pickZones need rest f

/-- Takes n cores with t slot numbers in common that are free on every one of them, the first cores in order (R337). -/
def State.pickCores (s : State) (w : Want) (n t : Nat) (cands common : List Nat) : Option (List Nat × List Nat) :=
  match cands with
  | [] => if n = 0 then some ([], common) else none
  | c :: rest =>
    if n = 0 then some ([], common)
    else
      let f := s.fitSlots w c
      let both := common.filter (fun k => f.1.contains k)
      if t ≤ both.length ∧ t ≤ f.2 then
        match s.pickCores w (n - 1) t rest both with
        | some r => some (c :: r.1, r.2)
        | none => s.pickCores w n t rest common
      else s.pickCores w n t rest common

def Zone.core? (r : Zone) : Option Nat := match r with | .core k => some k | _ => none

/-- The threads of a whole team in a region, by rank: t members in each instance of the innermost level above the thread levels (R337, R344). -/
def State.placeIn (s : State) (w : Want) (t : Nat) (ls : List PlaceLevel) (r : Zone) : Option (List Nat) :=
  match ls with
  | [] => s.takeSlots w t r.cores
  | l :: rest =>
    if 5 ≤ l.domain then s.takeSlots w t r.cores
    else if l.domain = 4 then
      if rest.any (fun x => x.domain == 4 && x.extent != 1) then none
      else (s.pickCores w l.extent t ((s.arranged w l r).filterMap Zone.core?) (List.range 8)).map (fun p =>
        p.1.flatMap (fun k => (p.2.take t).map (k * 8 + ·)))
    else pickZones l.extent (s.arranged w l r) (fun c => s.placeIn w t rest c)

/-! ## Member by member -/

/-- The indices of a rank over the extents of the levels, outermost first (R336). -/
def digits (exts : List Nat) (r : Nat) : List Nat :=
  match exts with
  | [] => []
  | _ :: rest => let n := rest.foldl (· * ·) 1; r / n :: digits rest (r % n)

/-- The first result of a function on a list. -/
def firstSome (l : List α) (f : α → Option β) : Option β :=
  match l with
  | [] => none
  | x :: rest => match f x with | some y => some y | none => firstSome rest f

/-- The slots of the core instances that differ from a member only in their core index, where the other members stand as given: one slot number, free on every
core that is needed (R337). Members that have ended, `gone`, need none. -/
def State.placeSiblings (s : State) (w : Want) (l : PlaceLevel) (inner : List Nat) (placed : List (List Nat × Nat)) (gone : List (List Nat)) (r : Zone) :
    Option (List (List Nat × Nat)) :=
  let coreAt := fun (c : Nat) => (placed.find? (fun p => p.1.head? == some c)).map (fun p => p.2 / 8)
  let slot := (placed.find? (fun p => p.1.tail == inner)).map (fun p => p.2 % 8)
  let missing := (List.range l.extent).filter (fun c => !placed.any (fun p => p.1 == c :: inner) && !gone.contains (c :: inner))
  let known := missing.filterMap (fun c => (coreAt c).map (fun k => (c, k)))
  let open_ := missing.filter (fun c => (coreAt c).isNone)
  let start := match slot with | some x => [x] | none => List.range 8
  let common := known.foldl (fun (acc : List Nat) p => let f := s.fitSlots w p.2; if f.2 = 0 then [] else acc.filter (fun k => f.1.contains k)) start
  let cands := ((s.arranged w l r).filterMap Zone.core?).filter (fun k => !placed.any (fun p => p.2 / 8 == k))
  match (if common.isEmpty then none else s.pickCores w open_.length 1 cands common) with
  | some (cs, k :: _) => some ((known ++ open_.zip cs).map (fun p => (p.1 :: inner, p.2 * 8 + k)))
  | _ => none

/-- A place for the member with the given indices, with its core-level siblings, where the other members stand as given or have ended (R337, R344). -/
def State.placeUnit (s : State) (w : Want) (ls : List (PlaceLevel × Nat)) (placed : List (List Nat × Nat)) (gone : List (List Nat)) (r : Zone) : Option (List (List Nat × Nat)) :=
  match ls with
  | [] => (s.takeSlots w 1 r.cores).map (fun l => l.map (fun th => ([], th)))
  | (l, i) :: rest =>
    if 5 ≤ l.domain then (s.takeSlots w 1 r.cores).map (fun x => x.map (fun th => (i :: rest.map Prod.snd, th)))
    else if l.domain = 4 then s.placeSiblings w l (rest.map Prod.snd) placed gone r
    else
      let gone := (gone.filter (fun d => d.head? == some i)).map List.tail
      let same := (placed.filter (fun p => p.1.head? == some i)).map (fun p => (p.1.tail, p.2))
      let others := (placed.filter (fun p => p.1.head? != some i)).map Prod.snd
      let r' : Option (List (List Nat × Nat)) := match same with
        | (_, th) :: _ => (match (r.parts l.domain).find? (fun (c : Zone) => c.has (th / 8)) with | some c => s.placeUnit w rest same gone c | none => none)
        | [] => firstSome ((s.arranged w l r).filter (fun (c : Zone) => others.all (fun th => !c.has (th / 8)))) (fun c => s.placeUnit w rest [] gone c)
      r'.map (fun l => l.map (fun p => (i :: p.1, p.2)))

/-! ## Placing -/

/-- Where a team starts and the levels below: the rectangle, or the implicit sheet (R338). A tile stands within its target sheet, whatever the legend's rectangle
(R420, log 165). -/
def State.startOf (s : State) (w : Want) : Zone × List PlaceLevel :=
  let it := s.item w.sheet w.item
  let lg := s.legendOf it
  let ls := placeLevels lg
  if it.tile.isNone && (legendLevels lg).head?.any (fun l => decide (l.domain ≤ 1)) then (.rect (legendSheets lg), ls) else (.sheet w.sheet, ls.filter (fun l => decide (2 ≤ l.domain)))

/-- The extents of the levels as the ranks count them, a segment level counting its members alone (R336). -/
def Item.extentsOf (it : Item) (ls : List PlaceLevel) : List Nat :=
  ls.map (fun l => if l.domain = 7 then (it.segments l.extent).length else l.extent)

/-- The slot and registers of a member: it is PLACING (R58, R344, R348). -/
def State.putMember (w : Want) (rank th : Nat) (s : State) : State :=
  let it := s.item w.sheet w.item
  let l := s.launch it.launch
  let late := decide (it.late = 1 ∧ it.deadline ≠ 0 ∧ it.deadline < s.cycle)
  let seg := ((it.members.find? (fun m => m.1 == rank)).map (fun m => m.2.1)).getD 0xFFFF
  let t : Thread := { Thread.init with
    st := .placing, item := w.item, itemSheet := w.sheet, launch := it.launch, rank := rank, member := it.member + rank, n := it.named,
    q := l.depthSum it.qcfg, qcfg := it.qcfg, rerun := it.rerun, late := late, ovf := it.ovf.contains rank, prio := it.prio, deadline := it.deadline,
    started := s.cycle.toNat, segment := seg, follow := if s.follows it ∧ th / 8 % 8 ≠ 0 then some (th / 64 * 64 + th % 8) else none }
  (s.setThread th t).mapItem w.sheet w.item (fun i => { i with members := i.members.map (fun m => if m.1 = rank then (m.1, m.2.1, th + 1) else m) })

/-- The members that have neither a slot nor ended. -/
def Item.pending (it : Item) : List Nat := (it.members.filter (fun m => m.2.2 == 0 && !it.ended.contains m.1)).map Prod.fst

/-- The first of the places (rank, thread) for which the stage of an item has room on their sheets: a member is placed only while HELD < QUOTA there (R347). -/
def State.stageTake (s : State) (it : Item) (had ps : List (Nat × Nat)) : List (Nat × Nat) :=
  match ps with
  | [] => []
  | p :: rest =>
    let st := s.stageOf it
    let sh := sheetOfThread p.2
    let h := s.sheet sh
    let here := (had.filter (fun q => sheetOfThread q.2 == sh)).length
    if st = 0 ∨ bitsOf (h.stqcfg.get 0 st).toNat 29 15 = 0 ∨ s.stageHeld sh st + here < h.quota.get 0 st then p :: s.stageTake it (p :: had) rest else []

/-- The members with a place, with their indices. -/
def Item.placed (it : Item) (exts : List Nat) : List (List Nat × Nat) :=
  (it.members.filter (fun m => m.2.2 ≠ 0)).map (fun m => (digits exts m.1, m.2.2 - 1))

/-- The places of the next pending member of a team and its core-level siblings, or of the whole of a GANG or follower team: (rank, thread). -/
def State.nextPlaces (s : State) (w : Want) : Option (List (Nat × Nat)) :=
  let it := s.item w.sheet w.item
  let (r, ls) := s.startOf w
  let exts := it.extentsOf ls
  match it.pending with
  | [] => none
  | m :: _ =>
    if it.gang || s.follows it then
      let t := ((ls.zip exts).filter (fun p => decide (5 ≤ p.1.domain))).foldl (fun n p => n * p.2) 1
      (s.placeIn w t ls r).bind (fun ths =>
        let ps := (it.members.map Prod.fst).zip ths
        if w.binding && decide ((s.stageTake it [] ps).length < ps.length) then none else some ps)
    else
      match s.placeUnit w (ls.zip (digits exts m)) (it.placed exts) (it.ended.map (digits exts)) r with
      | some l =>
        let ps := it.pending.filterMap (fun k => (l.find? (fun p => p.1 == digits exts k)).map (fun p => (k, p.2)))
        let ps := if w.binding then s.stageTake it [] ps else ps
        if ps.isEmpty then none else some ps
      | none => none

/-- Places as many members as fit, in rank order: how many, and the state. -/
def State.placeAll (w : Want) (n : Nat) (s : State) : Nat × State :=
  match n with
  | 0 => (0, s)
  | k + 1 =>
    match s.nextPlaces w with
    | none => (0, s)
    | some ps =>
      let r := (ps.foldl (fun (s : State) p => s.putMember w p.1 p.2) s).placeAll w k
      (ps.length + r.1, r.2)

/-! ## Reservations (R344) -/

/-- The slots that a part of a team would take in a region when held slots may be waited for: how many are lacking, and the slots. -/
def State.lackIn (s : State) (w : Want) (t : Nat) (ls : List PlaceLevel) (r : Zone) : Nat × List Nat :=
  let coreLack := fun (k : Nat) => let f := s.fitSlots w k; (t - min f.1.length f.2, (sortBy (fun x => if f.1.contains x then 0 else 1) (List.range 8)).take t)
  let loose := fun (_ : Unit) =>
    let all := r.cores.flatMap (fun k => let f := s.fitSlots w k; (List.range 8).map (fun x => (if f.1.contains x ∧ f.2 ≠ 0 then 0 else 1, k * 8 + x)))
    let best := (sortBy Prod.fst all).take t
    (best.foldl (fun n p => n + p.1) 0, best.map Prod.snd)
  match ls with
  | [] => loose ()
  | l :: rest =>
    if 5 ≤ l.domain then loose ()
    else if l.domain = 4 then
      let cs := (sortBy (fun k => (coreLack k).1) r.cores).take l.extent
      let lackAt := fun (x : Nat) => (cs.filter (fun k => let f := s.fitSlots w k; !(f.1.contains x && f.2 != 0))).length
      let xs := (sortBy lackAt (List.range 8)).take t
      (xs.foldl (fun n x => n + lackAt x) 0, cs.flatMap (fun k => xs.map (k * 8 + ·)))
    else
      let all := ((r.parts l.domain).map (fun c => s.lackIn w t rest c))
      let best := (sortBy Prod.fst all).take l.extent
      (best.foldl (fun n p => n + p.1) 0, best.flatMap Prod.snd)

/-- Reserves for a GANG team that does not fit the slots that lack the fewest (R344). -/
def State.reserveSlots (w : Want) (s : State) : State :=
  let h := s.sheet w.sheet
  let it := s.item w.sheet w.item
  if 4 ≤ h.reservations.length || h.reservations.any (fun r => r.item == w.item) || it.pin.isSome then s
  else
    let (r, ls) := s.startOf w
    let t := ((ls.zip (it.extentsOf ls)).filter (fun p => decide (5 ≤ p.1.domain))).foldl (fun n p => n * p.2) 1
    let x := s.lackIn w t ls r
    s.mapSheet w.sheet (fun h => { h with reservations := h.reservations ++ [{ item := w.item, slots := x.2, footprint := w.foot }] })

end Sys2Proof.Machine
end

