-- ==== Sys2Proof/Machine/Tracer.lean ====
section
/-! DEFINITION. The tracer (R290 to R300) and SLEEPU (R301). -/

namespace Sys2Proof.Machine

/-! ## Descriptors (R291) -/

/-- The descriptor of a command from its 64 bytes. -/
def tracerDescOf (fn : Nat) (bs : List Byte) : TracerDesc :=
  let f := leAt bs
  let w := fun (o : Nat) => BitVec.ofNat 64 (f o 8)
  let b := fun (k : Nat) => f 0x1F 1 / 2 ^ k % 2 == 1
  { fn := fn, src := w 0, dst := w 8, index := w 0x10, count := f 0x18 4, size := f 0x1C 2, etype := f 0x1E 1, sig := b 0, append := b 1, skip := b 2,
    slocal := b 3, dlocal := b 4, after := b 5, sstride := toSigned (f 0x20 4) 32, dstride := toSigned (f 0x24 4) 32, limit := f 0x28 4,
    phaser := f 0x2C 4, tail := w 0x30 }

/-- TGATHER, TSCATTER and TSCADD. -/
def TracerDesc.indexed (d : TracerDesc) : Bool := decide (1 ≤ d.fn ∧ d.fn ≤ 3)
def TracerDesc.grain (d : TracerDesc) : Nat := max 1 (min d.size 8)

/-- The records that an operand can touch, counted from 0: a strided operand's records, or every index below limit (R291). -/
def TracerDesc.srcStrided (d : TracerDesc) : Bool := decide (d.fn = 0 ∨ d.fn = 2 ∨ d.fn = 3)
def TracerDesc.dstStrided (d : TracerDesc) : Bool := decide (d.fn = 0 ∨ d.fn = 1 ∨ d.fn = 4)

/-- Whether a local operand stays in the range of R125: its address, and its first and last record. -/
def localSpan (a : Word) (size n : Nat) (step : Int) : Bool :=
  let off : Int := (a.toNat % 2 ^ 17 : Nat)
  let last := off + ((n : Int) - 1) * step
  decide (a.toNat < 2 ^ 20 ∧ off < 0x18000 ∧ (n = 0 ∨ (0 ≤ last ∧ off + size ≤ 0x18000 ∧ last + size ≤ 0x18000)))

/-- Whether the local operands are in range (R291). -/
def TracerDesc.localOk (d : TracerDesc) : Bool :=
  (!d.slocal || localSpan d.src d.size d.count d.sstride) &&
    (!d.dlocal || (if d.dstStrided then localSpan d.dst d.size d.count d.dstride else localSpan d.dst d.size d.limit d.size))

/-- Whether addresses and strides keep their multiples (R291). -/
def TracerDesc.aligned (d : TracerDesc) : Bool :=
  let g := d.grain
  decide ((d.fn = 4 ∨ d.src.toNat % g = 0) ∧ d.dst.toNat % g = 0 ∧ (d.indexed = false ∨ d.index.toNat % 4 = 0) ∧ (d.srcStrided = false ∨ d.sstride % g = 0) ∧
    (d.dstStrided = false ∨ d.dstride % g = 0) ∧ (d.append = false ∨ d.tail.toNat % 16 = 0))

/-- Whether every other limit of R291 holds. -/
def TracerDesc.limitsOk (d : TracerDesc) (bs : List Byte) : Bool :=
  let sizes := [1, 2, 4, 8, 16, 32, 64, 128, 256, 512, 1024, 2048, 4096]
  (if d.indexed then d.index != 0 else d.index == 0) && decide (1 ≤ d.count ∧ d.count ≤ 2 ^ 24) && sizes.contains d.size && (d.fn != 3 || decide (4 ≤ d.size)) &&
    (if d.fn = 3 then d.etype == 0 || d.etype == 8 else d.etype == 0) && decide (leAt bs 0x1F 1 < 64) && (d.srcStrided || d.sstride == 0) &&
    (d.dstStrided || d.dstride == 0) && (d.indexed || d.append || d.limit == 0) && (d.sig || d.phaser == 0) && (d.append || d.tail == 0) && decide (leAt bs 0x38 8 = 0) &&
    (!d.slocal || d.fn == 0 || d.fn == 2) && (!d.dlocal || d.fn != 3) &&
    (!d.append || ((d.fn == 0 || d.fn == 1) && d.dstride == (d.size : Int) && !d.dlocal)) && (!d.sig || !d.dlocal) && (!d.skip || d.indexed)

/-- The cluster-local address of a local operand's byte offset from its record 0. -/
def localAt (a : Word) (d : Int) : Nat := ((a.toNat : Int) + d).toNat

/-- Whether a record of a local destination overlaps an input area, for records 0 to n - 1. -/
def touches (a : Word) (size : Nat) (step : Int) (lo len n : Nat) : Bool :=
  let off : Int := (a.toNat % 2 ^ 17 : Nat)
  (List.range (if step = 0 then min n 1 else min n 0x18001)).any (fun r => let o := off + r * step; decide (0 < len ∧ o < lo + len ∧ (lo : Int) < o + size))

/-- Whether a local destination on the own core touches the task's input area before commit (R128, R292). -/
def State.tracerInput (s : State) (d : TracerDesc) : Bool :=
  d.dlocal && s.speculative && decide (d.dst.toNat / 2 ^ 17 % 8 = s.coreId % 8) &&
    (let it := s.itemOf s.cur
     touches d.dst d.size (if d.dstStrided then d.dstride else d.size) it.linputOff it.linputLen (if d.dstStrided then d.count else d.limit))

/-! ## The promise (R295) -/

def TracerDesc.parts (d : TracerDesc) : Nat :=
  let lines := (d.size + 255) / 256
  (if d.fn = 4 then 0 else d.count * lines) + d.count * lines * (if d.fn = 3 then 2 else 1) + (if d.indexed then (4 * d.count + 255) / 256 + 1 else 0) +
    (if d.append then 8 else 0)

/-! ## Issue -/

/-- The tracer queue of a cluster: jobs hold an entry from their grant to their completion (R294). -/
def tracerRoom (c : Cluster) : Bool := decide (c.tracers.length < 64)

/-- Grants an entry: the job is made, with its id and its promise, which the context finds in `kept` and `keep` (R17, R292, R295). -/
def State.grantTracer (c : CtxId) (s : State) : State :=
  let th := s.threadOf c
  let cl := clusterOfThread th
  let k := s.ctxOf c
  let d := tracerDescOf (k.kept.getD 64 0).toNat k.kept
  let id := 0x8000 + (s.cluster cl).seqTracer
  let t := s.thread th
  let h := max s.cycle.toNat (s.cluster cl).horizon + 96 + 4 * d.parts
  let walk := match c with | .handler core n => (s.handlers.get? (core, n)).map (fun h => (h.cl, h.job)) | _ => none
  let ph := match s.phaser? t.launch (BitVec.ofNat 64 d.phaser) with | some p => p.phase | none => 0
  let j : TracerJob :=
    { d := d, th := th, ctx := c, who := s.memberOf c, walk := walk, asid := s.asidOf c, prev := t.lastTrc, phPhase := ph, st := .queued, rec0 := 0, part := 0, idx := none,
      base := 0, reserved := false, readyDone := false, sigDone := false, sent := 0, promise := BitVec.ofNat 64 h, suspVa := 0, susp := false, err := false, why := 0 }
  let s := s.mapThread th (fun t => { t with lastTrc := id, jobs := if walk.isSome then t.jobs else jobInsert t.jobs { id := id, complete := false, status := 0, faultVa := 0 } })
  let s := s.mapCluster cl (fun x => { x with tracers := x.tracers.set id j, tracerQ := x.tracerQ ++ [id], horizon := h, seqTracer := nextSeq x.seqTracer,
                                              tracerLast := coreOfThread th % 8, tracerWait := x.tracerWait.filter (· ≠ c) })
  s.mapCtx c (fun k => { k with stage := 5, keep := j.promise, kept := leBytes 2 id })

/-- Whether the waits of R292 of a context are over but for its turn: an entry of its job table. A handler takes none. -/
def State.tracerReady (s : State) (c : CtxId) : Bool := c.isHandler || (s.thread (s.threadOf c)).jobRoom

/-- sD receives the job id and s(D + 1) the promise; with D = 0 both are discarded (R290). -/
def State.setPair (d : BitVec 4) (x y : Word) (s : State) : State :=
  if d = 0 then s else let r : BitVec 5 := BitVec.ofNat 5 (2 * d.toNat); (s.setReg r x).setReg (r + 1) y

/-- A TRC with SIG for a phaser by a member that has committed and waits for its entry. -/
def State.sigWaits (s : State) (phaser member : Nat) : Bool :=
  s.ctxs.any (fun (c : CtxId × Ctx) => c.1 != s.cur && c.2.kept.length == 65 && (let d := tracerDescOf 0 c.2.kept; d.sig && d.phaser == phaser) &&
    (s.memberOf c.1).member == member)

/-- A second SIG job of a member in one phase, or a signal that the member may not give (R352). -/
def State.sigBad (s : State) (d : TracerDesc) : Bool :=
  d.sig && (match s.phaser? (s.launchOf s.cur) (BitVec.ofNat 64 d.phaser) with
    | none => true
    | some p => !p.counting || !p.maySignal s.memberId || s.sigWaits d.phaser s.memberId ||
        s.clusters.any (fun (c : Nat × Cluster) => c.2.tracers.any (fun t => t.2.d.sig && t.2.d.phaser == d.phaser && t.2.who.member == s.memberId)))

/-- A TRC instruction (R292). -/
def trcOp (i : Instr) (g : Guard) (fn : Nat) (r : BitVec 4) (a : BitVec 5) (s : State) : Out :=
  issueScalar i g s (fun s =>
    if s.ctx.stage = 5 then done (s.setPair r (BitVec.ofNat 64 (leNat s.ctx.kept)) s.ctx.keep)
    else
      (s.snapshot (s.reg a) 64 64).run (fun bs s =>
        let d := tracerDescOf fn bs
        if !d.localOk then raise0 0x08 s
        else if !d.aligned then raise0 0x05 s
        else if !d.limitsOk bs then raise0 0x1B s
        else if s.tracerInput d then raise0 0x08 s
        else if s.ctx.stage = 0 && s.sigBad d then raise0 0x1A s
        else if s.ctx.stage = 0 ∧ (s.launch (s.launchOf s.cur)).secure ≠ (s.cluster s.clusterId).worldTrc then raise0 9 s
        else
          (((if d.dlocal then s else s.commit).upd (fun k => { k with kept := bs.take 64 ++ [BitVec.ofNat 8 fn] })).release 2).run (fun _ s =>
            let c := s.cluster s.clusterId
            if tracerRoom c && c.tracerWait.isEmpty && s.tracerReady s.cur then
              let s := s.grantTracer s.cur
              done (s.setPair r (BitVec.ofNat 64 (leNat s.ctx.kept)) s.ctx.keep)
            else
              let cur := s.cur
              .next ((s.mapCluster s.clusterId (fun c => { c with tracerWait := if c.tracerWait.contains cur then c.tracerWait else c.tracerWait ++ [cur] })).block
                (Wait.plain .tracerGrant)))))

/-- TCOPY (R293). -/
def execTcopy (g : Guard) (d : BitVec 4) (a : BitVec 5) (s : State) : Out := trcOp (.tcopy g d a) g 0 d a s

/-- TGATHER (R293). -/
def execTgather (g : Guard) (d : BitVec 4) (a : BitVec 5) (s : State) : Out := trcOp (.tgather g d a) g 1 d a s

/-- TSCATTER (R293). -/
def execTscatter (g : Guard) (d : BitVec 4) (a : BitVec 5) (s : State) : Out := trcOp (.tscatter g d a) g 2 d a s

/-- TSCADD (R293). -/
def execTscadd (g : Guard) (d : BitVec 4) (a : BitVec 5) (s : State) : Out := trcOp (.tscadd g d a) g 3 d a s

/-- TFILL (R293). -/
def execTfill (g : Guard) (d : BitVec 4) (a : BitVec 5) (s : State) : Out := trcOp (.tfill g d a) g 4 d a s

/-! ## The engine -/

/-- TRACER_GRANT: a freed entry goes round robin among the cores that wait, and the promise is computed (R294, R295). -/
def execTracerGrant (cl : Nat) (s : State) : Out :=
  let c := s.cluster cl
  let ready := c.tracerWait.filter (fun k => s.tracerReady k)
  match argMin ready (fun k => ((coreOfThread (s.threadOf k)) % 8 + 7 - c.tracerLast) % 8) with
  | none => .fault .notEnabled
  | some k => if tracerRoom c then .next (s.grantTracer k) else .fault .notEnabled

/-- Whether a queued job is free to start: an AFTER job waits for its slot's previous job, and later jobs of the slot wait behind it (R294). -/
def State.tracerFree (s : State) (cl job : Nat) : Bool :=
  match s.tracer? cl job with
  | none => false
  | some j =>
    let before := (s.cluster cl).tracerQ.takeWhile (· ≠ job)
    (!j.d.after || (s.tracer? cl j.prev).isNone) && !before.any (fun b => (s.tracer? cl b).any (fun k => k.th == j.th))

/-- The engine of a cluster is held until THAW of its block (R370). -/
def State.tracerHeld (s : State) (cl : Nat) : Bool := (s.cluster cl).engineHeld.contains 2

/-- The outcome of an access of the tracer: done, a fault to suspend on, a finding that ends the job, or a moving page. -/
inductive TrcAcc (α : Type) where
  | ok (a : α) (s : State)
  | fault (cause va : Nat) (s : State)
  | ends (why : Nat) (world : Bool) (s : State)
  | retry
  deriving DecidableEq, Repr

def TrcAcc.bind (x : TrcAcc α) (f : α → State → TrcAcc β) : TrcAcc β :=
  match x with
  | .ok a s => f a s
  | .fault c v s => .fault c v s
  | .ends w o s => .ends w o s
  | .retry => .retry

/-- A cause of a translation or read: pages that are not mapped and poison suspend, anything else ends the job (R297, R369). -/
def trcCause (c va : Nat) (s : State) : TrcAcc α :=
  if c = 6 ∨ c = 7 ∨ c = 0x17 then .fault c va s else .ends 2 (c == 9) s

/-- Translates an address for a write of the tracer. -/
def State.tracerPage (cl : Nat) (j : TracerJob) (va : Nat) (s : State) : TrcAcc Nat :=
  match s.translate cl j.asid va .store (s.cluster cl).worldTrc with
  | (.page _ pa, s) => if s.moving pa then .retry else .ok pa s
  | (.cause c, s) => trcCause c va s
  | (.nack, _) => .retry

/-- An access of the tracer to the local memory of a core: held while the core is frozen, and a finding of cause 0x08 once it is retired (R368). -/
def State.tracerLocal (core : Nat) (s : State) : TrcAcc Unit :=
  if (s.core core).retired then trcCause 0x08 0 s else if (s.core core).frozen then .retry else .ok () s

/-- The deadline class of a job's packets: that of the task that issued it (R409). -/
def TracerJob.packetClass (j : TracerJob) : Option Nat := classOf j.who.deadline

/-- A packet of a job and its acknowledgement pass the routers between the cluster and a home (R294, R409). -/
def State.tracerPass (cl : Nat) (j : TracerJob) (pa : Nat) (s : State) : State :=
  (s.pass cl (homeCluster pa) j.packetClass).pass (homeCluster pa) cl j.packetClass

/-- Reads n bytes of a source: local memory of a core of the cluster, or global memory through the homes. -/
def State.tracerRead (cl : Nat) (j : TracerJob) (loc : Bool) (va n : Nat) (s : State) : TrcAcc (List Byte) :=
  if loc then
    let core := cl * 8 + va / 2 ^ 17 % 8
    (s.tracerLocal core).bind fun _ s => if (s.core core).poisoned (va % 2 ^ 17) n then .fault 0x17 va s else .ok ((s.core core).mem.readList (va % 2 ^ 17) n) s
  else match s.engineSpan cl j.asid va n (s.cluster cl).worldTrc j.packetClass with
    | (.ok bs, s) => .ok bs s
    | (.error (a, some c), s) => trcCause c a s
    | (.error (_, none), _) => .retry

/-- The reservation of an APPEND at the home of its tail: an atomic, which takes a tag whether or not there is room (R298). -/
def State.reserve (cl : Nat) (j : TracerJob) (s : State) : TrcAcc TracerJob :=
  (s.tracerPage cl j j.d.tail.toNat).bind (fun pa s =>
    let t := s.homeNat pa 8
    let n := j.d.count * j.d.size
    if s.poisoned pa 8 then .fault 0x17 j.d.tail.toNat s
    else if j.d.limit < t + n then .ends 3 false ((s.tracerPass cl j pa).performBytes pa (leBytes 8 t))
    else .ok { j with base := t, reserved := true } ((s.tracerPass cl j pa).performBytes pa (leBytes 8 (t + n))))

/-- The block selector of a cluster's tracer in a record (R363, R373). -/
def tracerSelector (cl : Nat) : Word := BitVec.ofNat 64 (2 * 2 ^ 32 + cl)

/-- The task of a job has committed: only a DLOCAL job runs before its task's commit, and its task holds it in its job table until then (R292, R361, R363). -/
def State.tracerPost (s : State) (job : Nat) (j : TracerJob) : Bool :=
  match j.ctx with | .task th _ => (s.thread th).post || !(s.thread th).jobs.any (fun e => e.id == job) | _ => true

/-- A job suspends at an address, and the cause goes to the surveyor (R297, R369). -/
def State.suspendTracer (cl job : Nat) (j : TracerJob) (cause va : Nat) (s : State) : State :=
  (s.setTracer cl job { j with st := .suspended, suspVa := va, susp := true }).recordOf (sheetOfCluster cl) cause
    (recFlags (!j.ctx.isA) false (s.tracerPost job j) false false) (addrOf j.ctx) (BitVec.ofNat 64 va)

/-- A finding ends the job with ERR; a world violation is recorded and holds the engine (R297, R370). -/
def State.endTracer (cl job : Nat) (j : TracerJob) (why : Nat) (world : Bool) (s : State) : State :=
  let post := s.tracerPost job j
  let s := s.setTracer cl job { j with err := true, why := why }
  if world then ((s.recordOf (sheetOfCluster cl) 9 (recFlags false false post false false) (tracerSelector cl) (BitVec.ofNat 64 job)).mapCluster cl (fun c => { c with engineHeld := 2 :: c.engineHeld }))
  else s

/-- TRACER_JOB_START: at most four jobs run at once, in queue order; an APPEND makes its reservation (R294, R298). -/
def execTracerJobStart (cl job : Nat) (s : State) : Out :=
  let c := s.cluster cl
  let running := (c.tracers.filter (fun t => match t.2.st with | .queued => false | _ => true)).length
  match s.tracer? cl job with
  | none => .fault .notEnabled
  | some j =>
    if !c.tracerQ.contains job ∨ 4 ≤ running ∨ s.tracerHeld cl ∨ !s.tracerFree cl job ∨ (c.tracerQ.takeWhile (· ≠ job)).any (fun b => s.tracerFree cl b) then .fault .notEnabled
    else
      let j := { j with st := .running }
      let s := (s.setTracer cl job j).mapCluster cl (fun c => { c with tracerQ := c.tracerQ.filter (· ≠ job) })
      if !j.d.append then .next s
      else match s.reserve cl j with
        | .ok j s => .next (s.setTracer cl job j)
        | .ends w o s => .next (s.endTracer cl job j w o)
        | _ => .next s

/-- The addresses of record r: source and destination (R293, R298). -/
def TracerJob.srcAt (j : TracerJob) (i : Nat) : Nat :=
  let d := j.d
  let off : Int := if d.srcStrided then (j.rec0 : Int) * d.sstride else (i * d.size : Nat)
  if d.slocal then localAt d.src off else (d.src + BitVec.ofInt 64 off).toNat
def TracerJob.dstAt (j : TracerJob) (i : Nat) : Nat :=
  let d := j.d
  let off : Int := if d.dstStrided then (j.rec0 : Int) * d.dstride + j.base else (i * d.size : Nat)
  if d.dlocal then localAt d.dst off else (d.dst + BitVec.ofInt 64 off).toNat

/-- The parts of a record: offset and length of its bytes in each line (R294). -/
def partsOf (va size fuel : Nat) (off : Nat) : List (Nat × Nat) :=
  match fuel with
  | 0 => []
  | k + 1 => if size ≤ off then [] else let m := min (size - off) (256 - (va + off) % 256); (off, m) :: partsOf va size k (off + m)

/-- The sums of TSCADD on packed elements (R293). -/
def scadd (etype n : Nat) (old new : List Byte) : List Byte :=
  (List.range (n / 4)).flatMap (fun k =>
    let a := leAt old (4 * k) 4
    let b := leAt new (4 * k) 4
    leBytes 4 (if etype = 8 then (a + b) % 2 ^ 32 else fadd32 a b))

/-- The next record, once its parts are done. -/
def TracerJob.nextRecord (j : TracerJob) : TracerJob := { j with rec0 := j.rec0 + 1, part := 0, idx := none }

/-- The record's index, read once (R293). -/
def State.tracerIndex (cl : Nat) (j : TracerJob) (s : State) : TrcAcc (TracerJob × Nat) :=
  match j.d.indexed, j.idx with
  | false, _ => .ok (j, 0) s
  | true, some i => .ok (j, i) s
  | true, none =>
    (s.tracerRead cl j false (j.d.index + BitVec.ofNat 64 (4 * j.rec0)).toNat 4).bind (fun bs s =>
      let i := leNat bs
      if j.d.skip ∧ i = 0xFFFFFFFF then .ok ({ j with idx := some i }, i) s
      else if j.d.limit ≤ i then .ends 1 false s
      else .ok ({ j with idx := some i }, i) s)

/-- One part of a job (R293, R294): what it reads and what it performs. A reservation that is still to be made is a part of its own (R298). -/
def State.tracerPart (cl : Nat) (j : TracerJob) (s : State) : TrcAcc TracerJob :=
  if j.d.append && !j.reserved then s.reserve cl j
  else
    (s.tracerIndex cl j).bind (fun ji s =>
      let j := ji.1
      let i := ji.2
      let skipped := j.d.skip && j.d.indexed && i == 0xFFFFFFFF
      if skipped && j.d.fn != 1 then .ok j.nextRecord s
      else
        let dst := j.dstAt i
        let ps := partsOf dst j.d.size 64 0
        match ps[j.part]? with
        | none => .ok j.nextRecord s
        | some (off, n) =>
          let next := fun (sent : Nat) => (let k := { j with part := j.part + 1, sent := j.sent + sent }; if ps.length ≤ k.part then k.nextRecord else k)
          let src := if j.d.fn = 4 then TrcAcc.ok ((List.range n).map (fun b => BitVec.ofNat 8 (getBytes j.d.src ((off + b) % 8) 1))) s
            else if skipped then .ok (List.replicate n 0) s
            else s.tracerRead cl j j.d.slocal (if j.d.slocal then j.srcAt i + off else (j.srcAt i + off) % 2 ^ 64) n
          src.bind (fun bs s =>
            if j.d.dlocal then
              let core := cl * 8 + dst / 2 ^ 17 % 8
              (s.tracerLocal core).bind (fun _ s => .ok (next 0) (s.putLocal core (dst % 2 ^ 17 + off) bs))
            else
              (s.tracerPage cl j ((dst + off) % 2 ^ 64)).bind (fun pa s =>
                if j.d.fn = 3 && s.poisoned pa n then .fault 0x17 ((dst + off) % 2 ^ 64) s else
                -- a packet that its home drops is not performed, and is no delivery (R253, R299)
                let counts := j.d.sig && s.backed (pa / 256 * 256)
                let s := (s.tracerPass cl j pa).performBytes pa (if j.d.fn = 3 then scadd j.d.etype n (s.homeBytes pa n) bs else bs)
                .ok (next 1) (if counts then s.deliver j.d.phaser j.phPhase else s))))

/-- Whether a job has parts left. -/
def TracerJob.moving (j : TracerJob) : Bool := !j.err && decide (j.rec0 < j.d.count)

def State.tracerRuns (s : State) (cl : Nat) (j : TracerJob) : Bool := decide (j.st = .running) && j.moving && !s.tracerHeld cl

/-- TRACER_PART (R294). -/
def execTracerPart (cl job : Nat) (s : State) : Out :=
  match s.tracer? cl job with
  | none => .fault .notEnabled
  | some j =>
    if !s.tracerRuns cl j then .fault .notEnabled
    else match s.tracerPart cl j with
      | .ok j s => .next (s.setTracer cl job j)
      | .ends w o s => .next (s.endTracer cl job j w o)
      | _ => .fault .notEnabled

/-- TRACER_SUSPEND (R297). -/
def execTracerSuspend (cl job : Nat) (s : State) : Out :=
  match s.tracer? cl job with
  | none => .fault .notEnabled
  | some j =>
    if !s.tracerRuns cl j then .fault .notEnabled
    else match s.tracerPart cl j with
      | .fault c va s => .next (s.suspendTracer cl job j c va)
      | _ => .fault .notEnabled

/-- A TLBINV that covers the address resumes the job (R297, R444). -/
def TracerJob.resume (f : Nat → Nat → Bool) (j : TracerJob) : TracerJob :=
  match j.st with | .suspended => if f j.asid j.suspVa then { j with st := .running } else j | _ => j

/-- TRACER_SIG: the signal of the issuing member, with the number of packets sent (R299). -/
def execTracerSig (cl job : Nat) (s : State) : Out :=
  match s.tracer? cl job with
  | none => .fault .notEnabled
  | some j =>
    if !j.d.sig ∨ j.sigDone ∨ j.moving ∨ j.st ≠ .running ∨ s.tracerHeld cl then .fault .notEnabled
    else
      let t := ((s.phaserOf j.d.phaser).map (fun p => p.signalPhase j.who.member)).getD j.phPhase
      .next ((s.setTracer cl job { j with sigDone := true }).signal j.d.phaser j.who.member t j.sent)

/-- The ready add of an APPEND: an atomic at the home of the count, which suspends the job where it reads poison (R298, R369). -/
def State.readyAdd (cl : Nat) (j : TracerJob) (s : State) : TrcAcc TracerJob :=
  (s.tracerPage cl j (j.d.tail.toNat + 8)).bind (fun pa s =>
    if s.poisoned pa 8 then .fault 0x17 (j.d.tail.toNat + 8) s
    else .ok { j with readyDone := true } ((s.tracerPass cl j pa).performBytes pa (leBytes 8 ((s.homeNat pa 8 + j.d.count * j.d.size) % 2 ^ 64))))

/-- APPEND_READY_ADD: after the write parts, the ready count grows (R298). -/
def execAppendReadyAdd (cl job : Nat) (s : State) : Out :=
  match s.tracer? cl job with
  | none => .fault .notEnabled
  | some j =>
    if !j.d.append ∨ j.readyDone ∨ j.err ∨ j.moving ∨ j.st ≠ .running ∨ s.tracerHeld cl then .fault .notEnabled
    else match s.readyAdd cl j with
      | .ok j s => .next (s.setTracer cl job j)
      | .ends w o s => .next (s.endTracer cl job j w o)
      | .fault c va s => .next (s.suspendTracer cl job j c va)
      | .retry => .fault .notEnabled

/-- The status of a complete job (R296). -/
def TracerJob.status (j : TracerJob) (now : Word) : Word :=
  let b := fun (x : Bool) (k : Nat) => if x then 2 ^ k else 0
  BitVec.ofNat 64 (j.why % 8 * 2 ^ 37 + b (j.promise.ult now) 36 + b j.susp 35 + b j.err 34 + j.rec0 % 2 ^ 32)

/-- TRACER_JOB_COMPLETE (R296, R300). -/
def execTracerJobComplete (cl job : Nat) (s : State) : Out :=
  match s.tracer? cl job with
  | none => .fault .notEnabled
  | some j =>
    if j.st ≠ .running ∨ j.moving ∨ (j.d.sig && !j.sigDone) ∨ (j.d.append && !j.err && !j.readyDone) then .fault .notEnabled
    else
      let s := s.mapCluster cl (fun c => { c with tracers := c.tracers.del job })
      .next (if j.walk.isSome then s else s.mapThread j.th (fun t => t.jobDone job (j.status s.cycle) 0))

/-! ## SLEEPU (R301) -/

/-- What SLEEPU does once CYCLE has reached sA: sD, and the job that it found in its table when it issued, which `kept` tells; a job reported since then is complete.
Stage 1 waits for the job. While a trap of a follower cannot be recorded, SLEEPU waits with none of its effect (R73, R363). -/
def State.sleepWake (d b : BitVec 5) (s : State) : Out :=
  let id := (s.reg b).toNat
  let complete := match (s.thread s.threadId).job? id with | some e => e.complete | none => true
  if s.ctx.kept ≠ [1] then done (s.setReg d s.cycle)
  else if complete then done ((s.setReg d s.cycle).acquire 2)
  else if s.controlRead 0x00C ≠ 0 then
    if s.trapHeld then .next s.ringWait
    else trapAfter 0x0D (some (BitVec.ofNat 64 (id % 65536))) (s.setReg d s.cycle).retire
  else .next (((s.setReg d s.cycle).upd (fun k => { k with stage := 1, keep := BitVec.ofNat 64 id })).block (sync 6 (BitVec.ofNat 64 id) (.jobDone id)))

/-- SLEEPU looks its job up when it issues (R301). -/
def State.sleepFind (b : BitVec 5) (s : State) : State :=
  let id := (s.reg b).toNat
  let found := id ≠ 0 ∧ id < 65536 ∧ ((s.thread s.threadId).job? id).isSome
  if s.ctx.kept = [] then s.upd (fun k => { k with kept := if found then [1] else [0] }) else s

/-- SLEEPU (R301). -/
def execSleepu (g : Guard) (d a b : BitVec 5) (s : State) : Out :=
  issueScalar (.sleepu g d a b) g s (fun s =>
    if s.ctx.stage = 1 then done (s.acquire 2)
    else
      let s := s.sleepFind b
      if s.reg a ≤ s.cycle then s.sleepWake d b
      else .next (s.block (Wait.plain (.cycle (s.reg a).toNat))))

end Sys2Proof.Machine
end

