-- ==== Sys2Proof/Machine/Vector.lean ====
section
/-! DEFINITION. Two-dimensional vector instructions (R204 to R225): VALU, VALUS, VSFU, VRED, VCMP, VCVT, VMISC, and the pruning, random fill and compaction of
VSPARSE. -/

namespace Sys2Proof.Machine

/-! ## Common rules -/

/-- The rounding mode: the RND hint of an instruction on a float type, otherwise ROUND [2:0] (R84, R92, R175). -/
def State.rmode (ty : Nat) (s : State) : Nat :=
  match s.ctx.hints.rnd with
  | some r => if isInt ty then s.ctx.round.toNat % 8 else r
  | none => s.ctx.round.toNat % 8

/-- The top 24 bits of a draw (R176). -/
def drawTop (seed : Word) : Nat := seed.toNat / 2 ^ 40

/-- The elements of a shape in row-major order: each that executes becomes `f u i j`, where u is its draw when `draws` is set; each other one is left, or
written with 0 under MCOMP policy 1 (R93, R176, R205, R206). Elements of the destination have `de` bytes. -/
def State.eachElem (g : Guard) (h : Shape) (de : Nat) (draws : Bool) (old : VReg) (f : Nat → Nat → Nat → Nat) (s : State) : VReg × State :=
  let z := s.zeroFill
  let r := h.elems.foldl (fun (acc : VReg × Word) p =>
    if s.executes g (h.offset p.1 p.2) then
      let seed := if draws then xorshift acc.2 else acc.2
      (setBytes acc.1 (32 * p.1 + p.2 * de) de (f (drawTop seed) p.1 p.2), seed)
    else if z then (setBytes acc.1 (32 * p.1 + p.2 * de) de 0, acc.2)
    else acc) (old, s.ctx.seed)
  (r.1, s.upd (fun k => { k with seed := r.2 }))

/-- A vector instruction that writes the elements of its destination: the types and operand values that it admits, whether it rounds, and its effect (R207,
R210). -/
def vecOpIf (i : Instr) (g : Guard) (d : BitVec 5) (admits rounds : Nat → Bool) (operand : State → Shape → Bool)
    (f : State → Shape → Nat → Nat → Nat → Nat → Nat) (s : State) : Out :=
  issue i s (fun s =>
    let h := s.shape
    if !admits h.ty || !operand s h then raise0 0x1B s
    else
      let m := s.rmode h.ty
      let r := s.eachElem g h h.esize (m == 5 && rounds h.ty) (s.vold d.toNat s.qwD.2) (f s h m)
      done (r.2.vset d.toNat s.qwD.2 r.1))

/-- A vector instruction that admits every operand value. -/
def vecOp (i : Instr) (g : Guard) (d : BitVec 5) (admits rounds : Nat → Bool) (f : State → Shape → Nat → Nat → Nat → Nat → Nat) (s : State) : Out :=
  vecOpIf i g d admits rounds (fun _ _ => true) f s

def anyType (_ : Nat) : Bool := true
def noRounding (_ : Nat) : Bool := false
def floatOrL6 (ty : Nat) : Bool := !isInt ty

/-- A result of an element type: the codes of L6 have bits [7:6] equal to 0 (R211). -/
def inType (ty x : Nat) : Nat := if ty = 5 then x % 64 else x

/-- The elements of the two sources, and the old element of the destination. -/
def State.elemA (a : BitVec 5) (s : State) (h : Shape) : Nat → Nat → Nat := h.get (s.vsrc a.toNat s.qwA.2)
def State.elemB (b : BitVec 5) (s : State) (h : Shape) : Nat → Nat → Nat := h.get (s.vsrc b.toNat s.qwB.2)
def State.elemD (d : BitVec 5) (s : State) (h : Shape) : Nat → Nat → Nat := h.get (s.vold d.toNat s.qwD.2)

/-- The scalar operand of VALUS as an element (R212). -/
def scalarElem (ty : Nat) (x : Word) : Nat := if ty = 5 then x.toNat % 64 else x.toNat % 2 ^ elemBits ty

/-! ## VALU (R210, R211) -/

/-- VADD (R210). -/
def execVadd (g : Guard) (d a b : BitVec 5) (s : State) : Out :=
  vecOp (.vadd g d a b) g d anyType floatOrL6 (fun s h m u =>
    let x := s.elemA a h
    let y := s.elemB b h
    fun i j => arith .add h.ty m u (x i j) (y i j) 0) s

/-- VSUB (R210). -/
def execVsub (g : Guard) (d a b : BitVec 5) (s : State) : Out :=
  vecOp (.vsub g d a b) g d anyType floatOrL6 (fun s h m u =>
    let x := s.elemA a h
    let y := s.elemB b h
    fun i j => arith .sub h.ty m u (x i j) (y i j) 0) s

/-- VMUL (R210). -/
def execVmul (g : Guard) (d a b : BitVec 5) (s : State) : Out :=
  vecOp (.vmul g d a b) g d anyType floatOrL6 (fun s h m u =>
    let x := s.elemA a h
    let y := s.elemB b h
    fun i j => arith .mul h.ty m u (x i j) (y i j) 0) s

/-- VMIN (R210, R211). -/
def execVmin (g : Guard) (d a b : BitVec 5) (s : State) : Out :=
  vecOp (.vmin g d a b) g d anyType noRounding (fun s h _ _ =>
    let x := s.elemA a h
    let y := s.elemB b h
    fun i j => inType h.ty (minMax false h.ty (x i j) (y i j))) s

/-- VMAX (R210, R211). -/
def execVmax (g : Guard) (d a b : BitVec 5) (s : State) : Out :=
  vecOp (.vmax g d a b) g d anyType noRounding (fun s h _ _ =>
    let x := s.elemA a h
    let y := s.elemB b h
    fun i j => inType h.ty (minMax true h.ty (x i j) (y i j))) s

/-- VABS (R210, R211). -/
def execVabs (g : Guard) (d a : BitVec 5) (s : State) : Out :=
  vecOp (.vabs g d a) g d anyType noRounding (fun s h _ _ => let x := s.elemA a h; fun i j => absElem h.ty (x i j)) s

/-- VNEG (R210, R211). -/
def execVneg (g : Guard) (d a : BitVec 5) (s : State) : Out :=
  vecOp (.vneg g d a) g d anyType noRounding (fun s h _ _ => let x := s.elemA a h; fun i j => negElem h.ty (x i j)) s

/-- VAND: bits of the elements (R210, R211). -/
def execVand (g : Guard) (d a b : BitVec 5) (s : State) : Out :=
  vecOp (.vand g d a b) g d anyType noRounding (fun s h _ _ =>
    let x := s.elemA a h
    let y := s.elemB b h
    fun i j => inType h.ty (x i j &&& y i j)) s

/-- VOR: bits of the elements (R210, R211). -/
def execVor (g : Guard) (d a b : BitVec 5) (s : State) : Out :=
  vecOp (.vor g d a b) g d anyType noRounding (fun s h _ _ =>
    let x := s.elemA a h
    let y := s.elemB b h
    fun i j => inType h.ty (x i j ||| y i j)) s

/-- VXOR: bits of the elements (R210, R211). -/
def execVxor (g : Guard) (d a b : BitVec 5) (s : State) : Out :=
  vecOp (.vxor g d a b) g d anyType noRounding (fun s h _ _ =>
    let x := s.elemA a h
    let y := s.elemB b h
    fun i j => inType h.ty (x i j ^^^ y i j)) s

/-- VSHL (R210). -/
def execVshl (g : Guard) (d a b : BitVec 5) (s : State) : Out :=
  vecOp (.vshl g d a b) g d isInt noRounding (fun s h _ _ =>
    let x := s.elemA a h
    let y := s.elemB b h
    fun i j => x i j * 2 ^ (y i j % elemBits h.ty)) s

/-- VSHR, logical (R210). -/
def execVshr (g : Guard) (d a b : BitVec 5) (s : State) : Out :=
  vecOp (.vshr g d a b) g d isInt noRounding (fun s h _ _ =>
    let x := s.elemA a h
    let y := s.elemB b h
    fun i j => x i j / 2 ^ (y i j % elemBits h.ty)) s

/-- VSAR, arithmetic from bit w - 1 (R210). -/
def execVsar (g : Guard) (d a b : BitVec 5) (s : State) : Out :=
  vecOp (.vsar g d a b) g d isInt noRounding (fun s h _ _ =>
    let x := s.elemA a h
    let y := s.elemB b h
    fun i j => ofSigned (toSigned (x i j) (elemBits h.ty) / ((2 ^ (y i j % elemBits h.ty) : Nat) : Int)) (elemBits h.ty)) s

/-- VFMA (R210): one rounding. -/
def execVfma (g : Guard) (d a b : BitVec 5) (s : State) : Out :=
  vecOp (.vfma g d a b) g d anyType floatOrL6 (fun s h m u =>
    let x := s.elemA a h
    let y := s.elemB b h
    let z := s.elemD d h
    fun i j => arith .fma h.ty m u (x i j) (y i j) (z i j)) s

/-- VFMS (R210): one rounding. -/
def execVfms (g : Guard) (d a b : BitVec 5) (s : State) : Out :=
  vecOp (.vfms g d a b) g d anyType floatOrL6 (fun s h m u =>
    let x := s.elemA a h
    let y := s.elemB b h
    let z := s.elemD d h
    fun i j => arith .fms h.ty m u (x i j) (y i j) (z i j)) s

/-! ## VALUS (R212) -/

/-- VADDS (R212). -/
def execVadds (g : Guard) (d a b : BitVec 5) (s : State) : Out :=
  vecOp (.vadds g d a b) g d anyType floatOrL6 (fun s h m u =>
    let x := s.elemA a h
    let c := scalarElem h.ty (s.reg b)
    fun i j => arith .add h.ty m u (x i j) c 0) s

/-- VSUBS (R212). -/
def execVsubs (g : Guard) (d a b : BitVec 5) (s : State) : Out :=
  vecOp (.vsubs g d a b) g d anyType floatOrL6 (fun s h m u =>
    let x := s.elemA a h
    let c := scalarElem h.ty (s.reg b)
    fun i j => arith .sub h.ty m u (x i j) c 0) s

/-- VMULS (R212). -/
def execVmuls (g : Guard) (d a b : BitVec 5) (s : State) : Out :=
  vecOp (.vmuls g d a b) g d anyType floatOrL6 (fun s h m u =>
    let x := s.elemA a h
    let c := scalarElem h.ty (s.reg b)
    fun i j => arith .mul h.ty m u (x i j) c 0) s

/-- VMINS (R212). -/
def execVmins (g : Guard) (d a b : BitVec 5) (s : State) : Out :=
  vecOp (.vmins g d a b) g d anyType noRounding (fun s h _ _ =>
    let x := s.elemA a h
    let c := scalarElem h.ty (s.reg b)
    fun i j => inType h.ty (minMax false h.ty (x i j) c)) s

/-- VMAXS (R212). -/
def execVmaxs (g : Guard) (d a b : BitVec 5) (s : State) : Out :=
  vecOp (.vmaxs g d a b) g d anyType noRounding (fun s h _ _ =>
    let x := s.elemA a h
    let c := scalarElem h.ty (s.reg b)
    fun i j => inType h.ty (minMax true h.ty (x i j) c)) s

/-- VFMAS (R212). -/
def execVfmas (g : Guard) (d a b : BitVec 5) (s : State) : Out :=
  vecOp (.vfmas g d a b) g d anyType floatOrL6 (fun s h m u =>
    let x := s.elemA a h
    let c := scalarElem h.ty (s.reg b)
    let z := s.elemD d h
    fun i j => arith .fma h.ty m u (x i j) c (z i j)) s

/-! ## VSFU (R213, R214) -/

/-- The types that VSFU admits (R213). -/
def sfuType (ty : Nat) : Bool := decide (ty ≤ 2)

/-- VEXP2 (R213, R214). -/
def execVexp2 (g : Guard) (d a : BitVec 5) (s : State) : Out :=
  vecOp (.vexp2 g d a) g d sfuType floatOrL6 (fun s h m u => let x := s.elemA a h; fun i j => sfu 0 h.ty m u (x i j)) s

/-- VLOG2 (R213, R214). -/
def execVlog2 (g : Guard) (d a : BitVec 5) (s : State) : Out :=
  vecOp (.vlog2 g d a) g d sfuType floatOrL6 (fun s h m u => let x := s.elemA a h; fun i j => sfu 1 h.ty m u (x i j)) s

/-- VRCP (R213, R214). -/
def execVrcp (g : Guard) (d a : BitVec 5) (s : State) : Out :=
  vecOp (.vrcp g d a) g d sfuType floatOrL6 (fun s h m u => let x := s.elemA a h; fun i j => sfu 2 h.ty m u (x i j)) s

/-- VRSQ (R213, R214). -/
def execVrsq (g : Guard) (d a : BitVec 5) (s : State) : Out :=
  vecOp (.vrsq g d a) g d sfuType floatOrL6 (fun s h m u => let x := s.elemA a h; fun i j => sfu 3 h.ty m u (x i j)) s

/-- VSQRT (R213, R214). -/
def execVsqrt (g : Guard) (d a : BitVec 5) (s : State) : Out :=
  vecOp (.vsqrt g d a) g d sfuType floatOrL6 (fun s h m u => let x := s.elemA a h; fun i j => sfu 4 h.ty m u (x i j)) s

/-- VTANH (R213, R214). -/
def execVtanh (g : Guard) (d a : BitVec 5) (s : State) : Out :=
  vecOp (.vtanh g d a) g d sfuType floatOrL6 (fun s h m u => let x := s.elemA a h; fun i j => sfu 5 h.ty m u (x i j)) s

/-! ## VRED (R215) -/

/-- A fold along one line: the first element that takes part, and each further one combined with it; a rounding addition draws under RSTO. -/
def reduceLine (f : Nat → Nat → Nat → Nat) (draws : Bool) (l : List Nat) (acc : Option Nat) (seed : Word) : Option Nat × Word :=
  match l with
  | [] => (acc, seed)
  | x :: rest =>
    match acc with
    | none => reduceLine f draws rest (some x) seed
    | some a =>
      let seed := if draws then xorshift seed else seed
      reduceLine f draws rest (some (f (drawTop seed) a x)) seed

/-- The lines of a reduction: the elements of each, and the element that it writes. -/
def Shape.rowLines (h : Shape) : List (List (Nat × Nat) × (Nat × Nat)) :=
  (List.range h.rows).map (fun i => ((List.range h.cols).map (fun j => (i, j)), (i, 0)))
def Shape.colLines (h : Shape) : List (List (Nat × Nat) × (Nat × Nat)) :=
  (List.range h.cols).map (fun j => ((List.range h.rows).map (fun i => (i, j)), (0, j)))

/-- A reduction (R215): a line with no element taking part leaves its destination unchanged. `pre` is applied to each element first. DESIGN CHOICE (log 161): bits
[7:6] of an L6 element that VRMAX, VRMIN or VCMAX returns are written as 0 (R172), where R215 returns the element's exact bits. -/
def redOp (i : Instr) (g : Guard) (d a : BitVec 5) (admits rounds : Nat → Bool) (lines : Shape → List (List (Nat × Nat) × (Nat × Nat)))
    (pre : Nat → Nat → Nat) (f : Nat → Nat → Nat → Nat → Nat → Nat) (s : State) : Out :=
  issue i s (fun s =>
    let h := s.shape
    if !admits h.ty then raise0 0x1B s
    else
      let m := s.rmode h.ty
      let x := s.elemA a h
      let r := (lines h).foldl (fun (acc : VReg × Word) l =>
        let es := (l.1.filter (fun p => s.executes g (h.offset p.1 p.2))).map (fun p => pre h.ty (x p.1 p.2))
        let q := reduceLine (f h.ty m) (m == 5 && rounds h.ty) es none acc.2
        (match q.1 with | some v => h.put acc.1 l.2.1 l.2.2 (inType h.ty v) | none => acc.1, q.2)) (s.vold d.toNat s.qwD.2, s.ctx.seed)
      done ((s.upd (fun k => { k with seed := r.2 })).vset d.toNat s.qwD.2 r.1))

def keepElem (_ x : Nat) : Nat := x
def sumElem (ty m u a b : Nat) : Nat := arith .add ty m u a b 0
def maxElem (ty _ _ a b : Nat) : Nat := minMax true ty a b
def minElem (ty _ _ a b : Nat) : Nat := minMax false ty a b

/-- VRSUM (R215). -/
def execVrsum (g : Guard) (d a : BitVec 5) (s : State) : Out :=
  redOp (.vrsum g d a) g d a anyType floatOrL6 Shape.rowLines keepElem sumElem s

/-- VRMAX (R215). -/
def execVrmax (g : Guard) (d a : BitVec 5) (s : State) : Out :=
  redOp (.vrmax g d a) g d a anyType noRounding Shape.rowLines keepElem maxElem s

/-- VRMIN (R215). -/
def execVrmin (g : Guard) (d a : BitVec 5) (s : State) : Out :=
  redOp (.vrmin g d a) g d a anyType noRounding Shape.rowLines keepElem minElem s

/-- VCSUM (R215). -/
def execVcsum (g : Guard) (d a : BitVec 5) (s : State) : Out :=
  redOp (.vcsum g d a) g d a anyType floatOrL6 Shape.colLines keepElem sumElem s

/-- VCMAX (R215). -/
def execVcmax (g : Guard) (d a : BitVec 5) (s : State) : Out :=
  redOp (.vcmax g d a) g d a anyType noRounding Shape.colLines keepElem maxElem s

/-- VRAMAX (R215). -/
def execVramax (g : Guard) (d a : BitVec 5) (s : State) : Out :=
  redOp (.vramax g d a) g d a floatOrL6 noRounding Shape.rowLines absElem maxElem s

/-! ## VCMP (R216) -/

/-- A comparison writes all the bits of each element that executes. -/
def vcmpOp (i : Instr) (g : Guard) (cond : Nat) (p : BitVec 4) (a b : BitVec 5) (s : State) : Out :=
  issue i s (fun s =>
    let h := s.shape
    let x := s.elemA a h
    let y := s.elemB b h
    done (s.setPred p (h.elems.foldl (fun (v : Pred) e =>
      let o := h.offset e.1 e.2
      if s.executes g o then setBits v o h.esize (if compareElem cond h.ty (x e.1 e.2) (y e.1 e.2) then ones h.esize else 0) else v) (s.pred p))))

/-- VCMP_EQ (R216). -/
def execVcmpEq (g : Guard) (p : BitVec 4) (a b : BitVec 5) (s : State) : Out := vcmpOp (.vcmpEq g p a b) g 0 p a b s

/-- VCMP_NE (R216). -/
def execVcmpNe (g : Guard) (p : BitVec 4) (a b : BitVec 5) (s : State) : Out := vcmpOp (.vcmpNe g p a b) g 1 p a b s

/-- VCMP_LT (R216). -/
def execVcmpLt (g : Guard) (p : BitVec 4) (a b : BitVec 5) (s : State) : Out := vcmpOp (.vcmpLt g p a b) g 2 p a b s

/-- VCMP_LE (R216). -/
def execVcmpLe (g : Guard) (p : BitVec 4) (a b : BitVec 5) (s : State) : Out := vcmpOp (.vcmpLe g p a b) g 3 p a b s

/-- VCMP_GT (R216). -/
def execVcmpGt (g : Guard) (p : BitVec 4) (a b : BitVec 5) (s : State) : Out := vcmpOp (.vcmpGt g p a b) g 4 p a b s

/-- VCMP_GE (R216). -/
def execVcmpGe (g : Guard) (p : BitVec 4) (a b : BitVec 5) (s : State) : Out := vcmpOp (.vcmpGe g p a b) g 5 p a b s

/-- VCMP_UN (R216). -/
def execVcmpUn (g : Guard) (p : BitVec 4) (a b : BitVec 5) (s : State) : Out := vcmpOp (.vcmpUn g p a b) g 6 p a b s

/-! ## VCVT (R217) -/

/-- VCVT: `t` is the destination type and `sat` the saturate bit. Under RSTO every element that it writes draws (R176). -/
def execVcvt (g : Guard) (d a : BitVec 5) (sat : BitVec 1) (t : BitVec 4) (s : State) : Out :=
  issue (.vcvt g d a sat t) s (fun s =>
    let h := s.shape
    let de := elemSize t.toNat
    if 12 ≤ t.toNat ∨ 32 < h.cols * de then raise0 0x1B s
    else
      let m := s.rmode h.ty
      let x := s.elemA a h
      let r := s.eachElem g h de (m == 5) (s.vold d.toNat s.qwD.2) (fun u i j => convert h.ty t.toNat m (sat == 1) u (x i j))
      done (r.2.vset d.toNat s.qwD.2 r.1))

/-! ## VMISC (R218 to R222) -/

/-- VMOV (R218). -/
def execVmov (g : Guard) (d a : BitVec 5) (s : State) : Out :=
  vecOp (.vmov g d a) g d anyType noRounding (fun s h _ _ => s.elemA a h) s

/-- VSPLAT (R218). -/
def execVsplat (g : Guard) (d a : BitVec 5) (s : State) : Out :=
  vecOp (.vsplat g d a) g d anyType noRounding (fun s h _ _ _ _ => (s.reg a).toNat % 2 ^ (8 * h.esize)) s

/-- The position that sB gives, where it lies in the shape (R219). -/
def Shape.position (h : Shape) (x : Word) : Option (Nat × Nat) :=
  let i := bitsOf x.toNat 8 5
  let j := x.toNat % 32
  if x.toNat < 512 ∧ i < h.rows ∧ j < h.cols then some (i, j) else none

/-- VEXT: I types are sign-extended, every other element zero-extended (R219). DESIGN CHOICE (log 153): a lane mask of MCOMP, which VEXT accepts (R84), has no
effect; its result is scalar and its guard is lane 0, and R93 does not say which bit of the mask would gate it. DESIGN CHOICE (log 161): of an L6 byte the whole byte
is returned, bits [7:6] included, which R172 has readers ignore. -/
def execVext (g : Guard) (d a b : BitVec 5) (s : State) : Out :=
  issueScalar (.vext g d a b) g s (fun s =>
    let h := s.shape
    match h.position (s.reg b) with
    | none => raise0 0x1B s
    | some (i, j) =>
      let x := BitVec.ofNat 64 (s.elemA a h i j)
      done (s.setReg d (if isSignedInt h.ty then signExt x (8 * h.esize) else x)))

/-- VINS writes the one element, or zeroes it under MCOMP policy 1 where it does not execute (R219). -/
def execVins (g : Guard) (d a b : BitVec 5) (s : State) : Out :=
  issue (.vins g d a b) s (fun s =>
    let h := s.shape
    match h.position (s.reg b) with
    | none => raise0 0x1B s
    | some (i, j) =>
      let old := s.vold d.toNat s.qwD.2
      let new := if s.executes g (h.offset i j) then h.put old i j ((s.reg a).toNat % 2 ^ (8 * h.esize)) else if s.zeroFill then h.put old i j 0 else old
      done (s.vset d.toNat s.qwD.2 new))

/-- VBROW: row r = sB to every row (R218, R219). -/
def execVbrow (g : Guard) (d a b : BitVec 5) (s : State) : Out :=
  vecOpIf (.vbrow g d a b) g d anyType noRounding (fun s h => decide ((s.reg b).toNat < h.rows)) (fun s h _ _ => let x := s.elemA a h; let r := (s.reg b).toNat; fun _ j => x r j) s

/-- VBCOL: column c = sB to every column (R218, R219). -/
def execVbcol (g : Guard) (d a b : BitVec 5) (s : State) : Out :=
  vecOpIf (.vbcol g d a b) g d anyType noRounding (fun s h => decide ((s.reg b).toNat < h.cols)) (fun s h _ _ => let x := s.elemA a h; let c := (s.reg b).toNat; fun i _ => x i c) s

/-- VSHAPE (R222). -/
def execVshape (g : Guard) (d a : BitVec 5) (s : State) : Out :=
  issueScalar (.vshape g d a) g s (fun s =>
    let new := s.reg a
    let old := s.ctx.vshape
    if shapeOk new then done ((s.setReg d old).upd (fun k => { k with vshape := new })) else raise0 0x1B s)

/-- VZERO (R218). -/
def execVzero (g : Guard) (d : BitVec 5) (s : State) : Out :=
  vecOp (.vzero g d) g d anyType noRounding (fun _ _ _ _ _ _ => 0) s

/-- VIOTA: sA + i * cols + j as an exact integer, wrapped for integer types and otherwise rounded in the mode of ROUND (R221). -/
def execViota (g : Guard) (d a : BitVec 5) (s : State) : Out :=
  vecOp (.viota g d a) g d anyType floatOrL6 (fun s h m u i j =>
    let n : Int := (s.reg a).toInt + ((i * h.cols + j : Nat) : Int)
    if isInt h.ty then ofSigned n (elemBits h.ty) else roundTo h.ty m false (decide (n < 0)) u n.natAbs 1) s

/-- VSHUF: each element of vB is an index into the shape of vA in row-major order (R220). -/
def execVshuf (g : Guard) (d a b : BitVec 5) (s : State) : Out :=
  vecOp (.vshuf g d a b) g d anyType noRounding (fun s h _ _ =>
    let x := s.elemA a h
    let y := s.elemB b h
    fun i j => let k := y i j; if k < h.rows * h.cols then x (k / h.cols) (k % h.cols) else 0) s

/-- VSCALE: a * 2^(c - 127) with c = sB, and NaN for c = 255 (R221). -/
def execVscale (g : Guard) (d a b : BitVec 5) (s : State) : Out :=
  vecOpIf (.vscale g d a b) g d floatOrL6 floatOrL6 (fun s _ => decide ((s.reg b).toNat < 256)) (fun s h m u =>
    let x := s.elemA a h
    let c := (s.reg b).toNat
    fun i j => if c = 255 then canonNaN h.ty else toFloat h.ty m false u (scaleVal (valueOf h.ty (x i j)) ((c : Int) - 127))) s

/-! ## VSPARSE: pruning, random fill and compaction (R223 to R225) -/

/-- The keep threshold of an element against tau = tm * 2^te (R223). -/
def pruneBound (ty x tm : Nat) (te : Int) : Nat :=
  match valueOf ty x with
  | .fin _ m e => let r := ratio m (e - te + 24); min (2 ^ 24) (r.1 / (r.2 * tm))
  | _ => 2 ^ 24

/-- One element of VPRUNE or VPRUNES: the new value, and the seed after its draws. DESIGN CHOICE (log 161): bits [7:6] of an L6 element that is kept are written as 0
(R172), where R223 keeps its bits. -/
def pruneElem (scaled : Bool) (ty mode x tm : Nat) (te : Int) (seed : Word) : Nat × Word :=
  let s1 := xorshift seed
  let t := pruneBound ty x tm te
  if t ≤ drawTop s1 then (0, s1)
  else if scaled && decide (t < 2 ^ 24) then
    let s2 := if mode = 5 then xorshift s1 else s1
    (toFloat ty mode false (drawTop s2) (.fin (negOf (valueOf ty x)) tm te), s2)
  else (inType ty x, s1)

/-- VPRUNE and VPRUNES (R223). -/
def pruneOp (i : Instr) (scaled : Bool) (g : Guard) (d a b : BitVec 5) (s : State) : Out :=
  issue i s (fun s =>
    let h := s.shape
    match valueOf 0 ((s.reg b).toNat % 2 ^ 32) with
    | .fin false tm te =>
      if tm = 0 ∨ isInt h.ty then raise0 0x1B s
      else
        let x := s.elemA a h
        let m := s.ctx.round.toNat % 8
        let r := h.elems.foldl (fun (acc : VReg × Word) p =>
          if s.executes g (h.offset p.1 p.2) then
            let q := pruneElem scaled h.ty m (x p.1 p.2) tm te acc.2
            (h.put acc.1 p.1 p.2 q.1, q.2)
          else acc) (s.vold d.toNat s.qwD.2, s.ctx.seed)
        done ((s.upd (fun k => { k with seed := r.2 })).vset d.toNat s.qwD.2 r.1)
    | _ => raise0 0x1B s)

/-- VPRUNE (R223). -/
def execVprune (g : Guard) (d a b : BitVec 5) (s : State) : Out := pruneOp (.vprune g d a b) false g d a b s

/-- VPRUNES (R223). -/
def execVprunes (g : Guard) (d a b : BitVec 5) (s : State) : Out := pruneOp (.vprunes g d a b) true g d a b s

/-- VRNG: one draw for each element that executes (R224). -/
def execVrng (g : Guard) (d : BitVec 5) (s : State) : Out :=
  issue (.vrng g d) s (fun s =>
    let h := s.shape
    let r := h.elems.foldl (fun (acc : VReg × Word) p =>
      if s.executes g (h.offset p.1 p.2) then
        let seed := xorshift acc.2
        (h.put acc.1 p.1 p.2 (if isInt h.ty then seed.toNat % 2 ^ elemBits h.ty else roundTo h.ty 1 false false 0 (drawTop seed) (2 ^ 24)), seed)
      else acc) (s.vold d.toNat s.qwD.2, s.ctx.seed)
    done ((s.upd (fun k => { k with seed := r.2 })).vset d.toNat s.qwD.2 r.1))

/-- VCOMPACT (R225). -/
def execVcompact (g : Guard) (d a : BitVec 5) (p : BitVec 4) (s : State) : Out :=
  issueScalar (.vcompact g d a p) g s (fun s =>
    let h := s.shape
    let x := s.elemA a h
    let v := s.pred p
    let kept := (h.elems.filter (fun e => v.getLsbD (h.offset e.1 e.2))).map (fun e => x e.1 e.2)
    let r := (h.elems.zipIdx).foldl (fun (acc : VReg) e => h.put acc e.1.1 e.1.2 (kept.getD e.2 0)) (s.vold d.toNat s.qwD.2)
    done ((s.upd (fun k => { k with mcons := BitVec.ofNat 64 (kept.length * 2 ^ 20 + h.rows * h.cols) })).vset d.toNat s.qwD.2 r))

end Sys2Proof.Machine
end

