-- ==== Sys2Proof/Machine/Plates.lean ====
section
/-! DEFINITION. The plate store (R387 to R391), the recorder (R375 to R379, R383 to R386), the checks of a print (R392), and the PLATE group (R399 to R403). -/

namespace Sys2Proof.Machine

/-! ## The store -/

/-- The task type of an item (R388): entry_c, entry_a and legend index. -/
def Item.key (it : Item) : Word × Word × Nat := (it.entryC, it.entryA, it.legend)

def Plate.key (p : Plate) : Word × Word × Nat := (p.entryC, p.entryA, p.legend)

/-- The valid or recording plate of a type (R388). -/
def Sheet.plateOf (h : Sheet) (key : Word × Word × Nat) : Option Plate := h.plates.find? (fun p => decide (p.key = key ∧ p.st ≠ 3))

def Sheet.plateType (h : Sheet) (key : Word × Word × Nat) : PlateType := h.plateTypes.get { reason := 0, norec := false } key

/-- The 16-byte units of the ring (R387). -/
def storeUnits : Nat := 2 ^ 19

/-- A plate becomes invalid: a recording is abandoned with the given code, and a plate that a print uses is freed afterwards (R395, R396). -/
def State.spoilPlate (sheet code : Nat) (p : Plate) (s : State) : State :=
  if p.st = 1 then s.abandonRec p.owner code
  else s.mapSheet sheet (fun h =>
    { h with plates := (h.plates.map (fun q => if q.serial = p.serial then { q with st := 3 } else q)).filter (fun q => !(q.st == 3 && q.pinned == 0)) })

/-- Whether a plate takes a unit of a range. -/
def Plate.takes (p : Plate) (lo n : Nat) : Bool := p.spans.any (fun x => decide (x.1 < lo + n ∧ lo < x.1 + x.2))

/-- Frees a range of units for the plate of a recording: the oldest plates go until no other plate holds a unit of it; none where a print uses one (R387). A recording
that goes so is abandoned with code 14: the ring head evicts it (R395, R396). -/
def State.clearUnits (sheet serial lo n fuel : Nat) (s : State) : Option State :=
  match fuel with
  | 0 => some s
  | k + 1 =>
    let others := (s.sheet sheet).plates.filter (fun p => p.serial != serial)
    let hit := others.filter (fun p => p.takes lo n)
    if hit.isEmpty then some s
    else if hit.any (fun p => p.pinned != 0) then none
    else match others.find? (fun p => p.pinned == 0) with
      | some p => (s.spoilPlate sheet 14 p).clearUnits sheet serial lo n k
      | none => none

/-- Gives the plate of a recording n units at the head; a skip entry covers the units up to the end of the ring where n do not fit (R387). -/
def State.takeUnits (sheet serial n : Nat) (s : State) : Option State :=
  let head := (s.sheet sheet).plateHead
  let skip := decide (storeUnits < head + n)
  let s? := if skip then s.clearUnits sheet serial head (storeUnits - head) 513 else some s
  let lo := if skip then 0 else head
  match s? with
  | none => none
  | some s =>
    (s.clearUnits sheet serial lo n 513).map (fun s => s.mapSheet sheet (fun h =>
      let more := (if skip then [(head, storeUnits - head)] else []) ++ [(lo, n)]
      { h with plateHead := lo + n, plates := h.plates.map (fun p => if p.serial = serial then { p with spans := p.spans ++ more } else p) }))

/-! ## The bytes of a plate (R389 to R391) -/

/-- The units of a command or ordering entry (R391). -/
def PEntry.units (e : PEntry) : Nat := match e.typ with | 1 => 6 | 2 => 3 | _ => 1

/-- The head of an entry: TYPE, SIDE, SIZE, INSN and ARG. -/
def entryHead (typ side size insn arg : Nat) : List Byte := leBytes 1 typ ++ leBytes 1 side ++ leBytes 2 size ++ leBytes 4 insn ++ leBytes 4 arg ++ leBytes 4 0

/-- The skip entry that covers n units up to the end of the ring (R387, R391). -/
def skipEntry (n : Nat) : List Byte := entryHead 4 0 n 0 0

/-- The mark word of an entry: nibble i is the mark of word i. -/
def markWord (marks : List Nat) : Nat := marks.zipIdx.foldl (fun n x => n + x.1 % 16 * 16 ^ x.2) 0

/-- An entry: its head, and for a command its words, its mark word and 8 zero bytes. -/
def PEntry.bytes (e : PEntry) : List Byte :=
  let n := match e.typ with | 1 => 8 | 2 => 2 | _ => 0
  entryHead e.typ (match e.side with | .a => 0 | .c => 1) e.units e.insn.toNat e.arg ++ (List.range n).flatMap (fun k => leBytes 8 (e.words.getD k 0).toNat) ++
    (if n = 0 then [] else leBytes 8 (markWord e.marks) ++ leBytes 8 0)

/-- A guard entry (R390). -/
def PGuard.bytes (g : PGuard) : List Byte := leBytes 8 ((BitVec.ofInt 53 g.x).toNat * 2 ^ 11 + g.slot % 16 * 16 + g.kind % 16) ++ leBytes 8 g.value.toNat

/-- TYPEHASH: h [31:0] ^ h [63:32] of h = ENTRYC ^ ENTRYA ^ LEGEND << 56 (R389). -/
def Plate.typeHash (p : Plate) : BitVec 32 :=
  let h := p.entryC ^^^ p.entryA ^^^ BitVec.ofNat 64 (p.legend * 2 ^ 56)
  h.setWidth 32 ^^^ (h >>> 32).setWidth 32

/-- LEN: bytes from the header to the end of the last entry, skip entry excluded (R389). -/
def plateLen (guards : List PGuard) (entries : List PEntry) : Nat := 16 * (8 + guards.length + entries.foldl (fun n e => n + e.units) 0)

/-- The 64-byte header (R389). -/
def Plate.header (p : Plate) : List Byte :=
  leBytes 4 0x54414C50 ++ leBytes 1 1 ++ leBytes 1 p.st ++ leBytes 1 (p.legend % 64) ++ leBytes 1 0 ++ leBytes 8 p.entryC.toNat ++ leBytes 8 p.entryA.toNat ++
    leBytes 8 p.vkey.toNat ++ leBytes 4 p.typeHash.toNat ++ leBytes 2 p.guards.length ++ leBytes 2 p.entries.length ++ leBytes 4 (plateLen p.guards p.entries) ++
    leBytes 2 p.wgen ++ leBytes 2 p.kgen ++
    leBytes 8 (p.page0 % 2 ^ 36 + (if p.plv then 2 ^ 36 + p.selfBits % 2 ^ 16 * 2 ^ 48 else 0)) ++ leBytes 8 (p.page1 % 2 ^ 36)

/-- The bytes of a plate in the store: header, argument block, guards, and entries (R389 to R391). -/
def Plate.bytes (p : Plate) : List Byte :=
  p.header ++ (List.range 8).flatMap (fun k => leBytes 8 (p.args.getD k 0).toNat) ++ p.guards.flatMap PGuard.bytes ++ p.entries.flatMap PEntry.bytes

/-- A plate as its header counts it: that of a recording holds what its task has recorded so far. -/
def State.plateNow (s : State) (p : Plate) : Plate :=
  if p.st = 1 then (match (s.thread p.owner).recd with | some r => { p with guards := r.guards, entries := r.entries } | none => p) else p

/-! ## The recorder -/

def Recording.init : Recording :=
  { aMarks := [], cMarks := [], aPreds := [], cPreds := [], shadow := [], guards := [], entries := [], selfRead := false, trapped := false }

/-- VKEY (R389). -/
def State.vkeyOf (s : State) (it : Item) : Word :=
  let b := fun (x : Bool) (k : Nat) => if x then 2 ^ k else 0
  BitVec.ofNat 64 (it.allot % 4096 + it.linputOff / 8 * 2 ^ 12 + it.linputLen / 8 * 2 ^ 26 + b it.follow 40 + b (s.launch it.launch).secure 41)

/-- PA [51:16] of the page that holds an address, for the item's launch. -/
def State.pageOf (s : State) (sheet : Nat) (it : Item) (va : Nat) : Option Nat :=
  (s.vaToPa sheet (s.launch it.launch).asid va).map (· / 65536)

/-- The recording of a thread and its plate. -/
def State.recPlate (s : State) (th : Nat) : Option Plate := (s.sheet (sheetOfThread th)).plates.find? (fun p => p.st == 1 && p.owner == th)

def State.mapRec (th : Nat) (f : Recording → Recording) (s : State) : State := s.mapThread th (fun t => { t with recd := t.recd.map f })

def State.mapPlate (sheet serial : Nat) (f : Plate → Plate) (s : State) : State :=
  s.mapSheet sheet (fun h => { h with plates := h.plates.map (fun p => if p.serial = serial then f p else p) })

/-- Gives the recording of a thread n units, or abandons it (R386, R387). -/
def State.recUnits (th n : Nat) (s : State) : State :=
  match s.recPlate th with
  | none => s
  | some p => match s.takeUnits (sheetOfThread th) p.serial n with | some s => s | none => s.abandonRec th 15

/-- The engraving of a placed member starts (R375, R387, R389). -/
def State.startRec (th : Nat) (s : State) : State :=
  let t := s.thread th
  let it := s.item t.itemSheet t.item
  let sh := sheetOfThread th
  let h := s.sheet sh
  let p : Plate := { entryC := it.entryC, entryA := it.entryA, legend := it.legend, st := 1, vkey := s.vkeyOf it, wgen := s.wgen.toNat, kgen := s.kgen.toNat,
                     page0 := (s.pageOf sh it it.entryC.toNat).getD 0, page1 := 0, plv := false, selfBits := 0, args := (List.range 8).map it.arg, guards := [],
                     entries := [], spans := [], serial := h.nextPlate, pinned := 0, prints := 0, fallbacks := 0, owner := th, bad := false }
  let full := decide (512 ≤ h.plates.length)
  let oldest := h.plates.find? (fun q => q.pinned == 0)
  let s := match (if full then oldest else none) with | some q => s.spoilPlate sh 14 q | none => s
  let s := s.setThread th { t with recd := some Recording.init, plate := 1 }
  let s := s.mapSheet sh (fun h => { h with nextPlate := h.nextPlate + 1, plates := h.plates ++ [p] })
  if full && oldest.isNone then s.abandonRec th 15 else s.recUnits th 8

/-- LEN of a recording (R389). -/
def Recording.len (r : Recording) : Nat := plateLen r.guards r.entries

/-- Commands among the entries: those of TYPE 1 and 2 (R391). -/
def commandsIn (es : List PEntry) : Nat := (es.filter (fun e => e.typ == 1 || e.typ == 2)).length

/-- Adds a guard; a shape field is guarded once (R378, R386, R400). -/
def State.addGuard (th : Nat) (g : PGuard) (s : State) : State :=
  match (s.thread th).recd with
  | none => s
  | some r =>
    if g.kind = 1 ∧ r.guards.any (fun x => x.kind == 1 && x.x == g.x) then s
    else if 64 ≤ r.guards.length then s.abandonRec th 9
    else if 0x20000 < r.len + 16 then s.abandonRec th 10
    else (s.mapRec th (fun r => { r with guards := r.guards ++ [g] })).recUnits th 1

/-- Adds a command or ordering entry (R379, R386). -/
def State.addEntry (th : Nat) (e : PEntry) (s : State) : State :=
  match (s.thread th).recd with
  | none => s
  | some r =>
    if 1024 ≤ r.entries.length ∨ 0x20000 < r.len + 16 * e.units then s.abandonRec th 10
    else (s.mapRec th (fun r => { r with entries := r.entries ++ [e] })).recUnits th e.units

/-- The recording becomes a plate at END, or is abandoned where it holds no entry (R375, R386). -/
def State.finishRec (th : Nat) (s : State) : State :=
  match (s.thread th).recd, s.recPlate th with
  | some r, some p =>
    if r.entries.isEmpty then s.abandonRec th 16
    else
      let it := s.itemOf (.task th .c)
      let self := if r.selfRead then ((addrOf (.task th .a)).toNat / 64) % 65536 else 0
      (s.mapThread th (fun t => { t with recd := none })).mapPlate (sheetOfThread th) p.serial (fun p =>
        { p with st := 2, plv := r.selfRead, selfBits := self, guards := r.guards, entries := r.entries, args := (List.range 8).map it.arg })
  | _, _ => s

/-! ## Marks (R376, R377) -/

def Mark.plain : Mark := { m := 0, f := 0 }
def Mark.poison : Mark := { m := 15, f := 0 }

def Recording.regMark (r : Recording) (isA : Bool) (x : BitVec 5) : Mark :=
  if x = 0 then Mark.plain else (if isA then r.aMarks else r.cMarks).get Mark.plain x.toNat
def Recording.predMark (r : Recording) (isA : Bool) (p : BitVec 4) : Mark := (if isA then r.aPreds else r.cPreds).get Mark.plain p.toNat
def Recording.setReg (isA : Bool) (x : BitVec 5) (m : Mark) (r : Recording) : Recording :=
  if isA then { r with aMarks := r.aMarks.set x.toNat m } else { r with cMarks := r.cMarks.set x.toNat m }
def Recording.setPred (isA : Bool) (p : BitVec 4) (m : Mark) (r : Recording) : Recording :=
  if isA then { r with aPreds := r.aPreds.set p.toNat m } else { r with cPreds := r.cPreds.set p.toNat m }

/-- The mark of a sum: a marked input and a plain one give the marked input's mark (R376). -/
def Mark.add (x y : Mark) : Mark := if y.m = 0 then x else if x.m = 0 then y else Mark.poison

/-- The mark of a difference (R376). -/
def Mark.sub (x y : Mark) : Mark :=
  if y.m = 0 then x else if x.m = 0 then Mark.poison else if x.m = y.m ∧ x.m ≤ 8 then Mark.plain else Mark.poison

/-- The mark of any other result: poisoned by a marked input (R376). -/
def Mark.other (l : List Mark) : Mark := if l.all (fun x => x.m == 0) then Mark.plain else Mark.poison

/-- The mark that a local store leaves in a word of the shadow (R377). -/
def shadowMark (bytes : Nat) (word reg : Mark) : Mark :=
  if bytes = 8 then reg
  else if reg.m = 0 ∧ (word.m = 0 ∨ word.m = 9 ∨ word.m = 10) then word
  else if (word.m = 0 ∧ (reg.m = 9 ∨ reg.m = 10)) ∨ (word.m = 9 ∧ reg.m = 9) then reg
  else Mark.poison

/-- A result that the table of R376 marks 10: it differs from run to run. -/
def Mark.run : Mark := { m := 10, f := 0 }

/-- The scalar register that an instruction writes with its mark, and the predicate that it writes with its mark, for instructions that the recorder follows
and that are no commands (R376). `local_` gives the shadow mark that a load takes. -/
def markOf (r : Recording) (isA : Bool) (i : Instr) (local_ : Mark) (field : Nat) : Option (BitVec 5 × Mark) × Option (BitVec 4 × Mark) :=
  let m := r.regMark isA
  let q := r.predMark isA
  let reg := fun (d : BitVec 5) (x : Mark) => (some (d, x), (none : Option (BitVec 4 × Mark)))
  let prd := fun (p : BitVec 4) (x : Mark) => ((none : Option (BitVec 5 × Mark)), some (p, x))
  match i with
  | .add _ d a b => reg d ((m a).add (m b))
  | .sub _ d a b => reg d ((m a).sub (m b))
  | .addi _ d a _ => reg d (m a)
  | .lea _ d a b k => reg d (if k = 0 ∨ (m b).m = 0 then (m a).add (m b) else Mark.poison)
  | .cmpiEq _ p a _ => prd p (m a)
  | .cmpiNe _ p a _ => prd p (m a)
  | .cmpiLt _ p a _ => prd p (m a)
  | .cmpiLtn _ p a _ => prd p (m a)
  | .cmpiGe _ p a _ => prd p (m a)
  | .cmpiGen _ p a _ => prd p (m a)
  | .cmpEq _ p a b => prd p ((m a).add (m b))
  | .cmpNe _ p a b => prd p ((m a).add (m b))
  | .cmpLt _ p a b => prd p ((m a).add (m b))
  | .cmpLtn _ p a b => prd p ((m a).add (m b))
  | .cmpGe _ p a b => prd p ((m a).add (m b))
  | .cmpGen _ p a b => prd p ((m a).add (m b))
  | .pand _ d a b => prd d (Mark.other [q a, q b])
  | .por _ d a b => prd d (Mark.other [q a, q b])
  | .pxor _ d a b => prd d (Mark.other [q a, q b])
  | .pandn _ d a b => prd d (Mark.other [q a, q b])
  | .pnot _ d a => prd d (Mark.other [q a])
  | .pset _ d => prd d Mark.plain
  | .pclr _ d => prd d Mark.plain
  | .pmovs _ d a => prd d (Mark.other [m a])
  | .pany _ d a => reg d (Mark.other [q a])
  | .pall _ d a => reg d (Mark.other [q a])
  | .pcnt _ d a => reg d (Mark.other [q a])
  | .pfirst _ d a => reg d (Mark.other [q a])
  | .sel _ d a b p => reg d (Mark.other [m a, m b, q p])
  | .jumpLink _ _ => reg 31 Mark.plain
  | .jumpLinkReg _ _ => reg 31 Mark.plain
  | .crd _ d c => reg d (if c = 0x010 ∨ c = 0x004 ∨ c = 0x003 then Mark.plain else Mark.run)
  | .ld _ d _ _ sp _ => reg d (if sp = 1 then local_ else Mark.run)
  | .waitack _ d a _ => reg d (Mark.other [m a])
  | .cclean _ d a b => reg d (Mark.other [m a, m b])
  | .cinval _ d a b => reg d (Mark.other [m a, m b])
  | .cflush _ d a b => reg d (Mark.other [m a, m b])
  | .mprog _ d _ _ => reg d Mark.run
  | .mnode _ d a b => reg d (Mark.other [m a, m b])
  | .jwait _ d _ => reg d Mark.run
  | .jpoll _ d _ => reg d Mark.run
  | .sleepu _ d _ _ => reg d Mark.run
  | .phwait _ d a b => reg d (Mark.other [m a, m b])
  | .phread _ d a b => reg d (Mark.other [m a, m b])
  | .tctr _ d a => reg d (Mark.other [m a])
  | .tshape _ d _ _ => reg d { m := 9, f := field }
  | .targ _ d b => reg d { m := b.toNat + 1, f := 0 }
  | .tself _ d => reg d Mark.run
  | .tlate _ d => reg d Mark.run
  | .pgld _ d _ _ => reg d Mark.plain
  | .pstat _ d a => reg d (Mark.other [m a])
  | .lstat _ d a b => reg d (Mark.other [m a, m b])
  | _ =>
    let o := opndsOf i
    let of := fun (x : Opnd) => match x with | .scalar k => m (BitVec.ofNat 5 k) | _ => Mark.plain
    match groupOf i, o.d with
    | .ialu, .scalar d => reg (BitVec.ofNat 5 d) (Mark.other [of o.a, of o.b])
    | .immediate, .scalar d => reg (BitVec.ofNat 5 d) (Mark.other [of o.a])
    | .shi, .scalar d => reg (BitVec.ofNat 5 d) (Mark.other [of o.a])
    | _, _ => (none, none)

/-! ## Reasons to abandon a recording (R378, R386) -/

/-- A recorded command: its TYPE, its word with every operand 0, and its registers D, A and B. -/
def commandOf (i : Instr) : Option (Nat × BitVec 32 × BitVec 5 × BitVec 5 × BitVec 5) :=
  match i with
  | .mwalk _ d a => some (1, 0xC0000000, d, a, 0)
  | .mwalkg _ d a => some (1, 0xC0000001, d, a, 0)
  | .tcopy _ r a => some (1, 0xCC000000, BitVec.ofNat 5 (2 * r.toNat), a, 0)
  | .tgather _ r a => some (1, 0xCC000001, BitVec.ofNat 5 (2 * r.toNat), a, 0)
  | .tscatter _ r a => some (1, 0xCC000002, BitVec.ofNat 5 (2 * r.toNat), a, 0)
  | .tscadd _ r a => some (1, 0xCC000003, BitVec.ofNat 5 (2 * r.toNat), a, 0)
  | .tfill _ r a => some (1, 0xCC000004, BitVec.ofNat 5 (2 * r.toNat), a, 0)
  | .lturn _ d a b => some (2, 0xEC000000, d, a, b)
  | .tspawn _ d a b => some (2, 0xE4000000, d, a, b)
  | .phsig _ d a b => some (2, 0xE0000002, d, a, b)
  | _ => none

/-- The code with which an executed instruction abandons the recording, from the instruction and its registers alone. -/
def abandonCode (r : Recording) (isA : Bool) (i : Instr) : Option Nat :=
  let m := r.regMark isA
  let o := opndsOf i
  let job := fun (a : BitVec 5) => if (m a).m = 11 then none else some 7
  if o.d.isWindow || o.a.isWindow || o.b.isWindow then some 4
  else match i with
    | .jumpReg _ a => if (m a).m = 0 then none else some 2
    | .jumpLinkReg _ a => if (m a).m = 0 then none else some 2
    | .st _ _ _ _ sp _ => if sp = 1 then none else some 3
    | .stv _ _ _ _ sp => if sp = 1 then none else some 3
    | .jwait _ _ a => job a
    | .sleepu _ _ _ b => job b
    | .pdrop .. => some 11
    | .pnorec .. => some 11
    | .cwr .. => some 12
    | .park .. => some 12
    | .trap .. => some 12
    | .brk .. => some 12
    | .gang .. => some 12
    | .mcancel .. => some 12
    | .tdep .. => some 12
    | .lquiet .. => some 12
    | .phreg .. => some 12
    | .phdrop .. => some 12
    | .phnext .. => some 12
    | .phnew .. => some 12
    | .phfree .. => some 12
    | .tshape _ _ a _ => if a = 0 then none else some 13
    | .gpush .. => some 5
    | .rpop .. => some 5
    | .lxbegin .. => some 5
    | .lxack .. => some 5
    | .lxend .. => some 5
    | .lxstat .. => some 5
    | _ => match groupOf i with
      | .amo => some 3
      | .vector => some 4
      | .vred => some 4
      | .vcmp => some 4
      | .vmisc => some 4
      | .vshape => some 4
      | .pmerge => some 4
      | .queue => some 5
      | .stream => some 5
      | .port => some 5
      | .portV => some 5
      | _ => none

/-- A mark that a recorded operand may not carry. -/
def Mark.unfit (m : Nat) : Bool := m == 10 || m == 11 || m == 15

/-- The eight words at a local offset of a core and their shadow marks. -/
def State.descWords (s : State) (r : Recording) (core off : Nat) : List Word × List Nat :=
  (wordsOf ((s.core core).mem.readList off 64) 8, (List.range 8).map (fun k => (r.shadow.get Mark.plain (off / 8 + k)).m))

/-- Whether a descriptor's form bars it from a plate (R386, code 13). -/
def descBarred (w : BitVec 32) (off : Nat) (ws : List Word) : Bool :=
  let bs := ws.flatMap (fun x => leBytes 8 x.toNat)
  if 0x1000 < off + 64 then true
  else if w.toNat / 2 ^ 26 = 0x30 then (walkDescOf bs).segTable != 0
  else let d := tracerDescOf (w.toNat % 32) bs; d.slocal || d.dlocal

/-- A command is issued: its entry, and mark 11 in its D; the promise of a TRC, which D = 0 discards (R290), takes mark 10 (R376, R379). -/
def State.recCommand (th : Nat) (side : Side) (r : Recording) (pre : State) (c : Nat × BitVec 32 × BitVec 5 × BitVec 5 × BitVec 5) (s : State) : State :=
  let isA := decide (side = .a)
  let (typ, w, d, a, b) := c
  let off := (pre.reg a).toNat
  let desc := pre.descWords r (coreOfThread th) off
  let offMark := (r.regMark isA a).m
  let marks := if typ = 1 then desc.2 else [offMark, (r.regMark isA b).m]
  if marks.any Mark.unfit || (typ == 1 && offMark != 0) then s.abandonRec th 6
  else if typ = 1 ∧ descBarred w off desc.1 then s.abandonRec th 13
  else
    let e : PEntry := { typ := typ, side := side, insn := w, arg := if typ = 1 then off else 0,
                        words := if typ = 1 then desc.1 else [pre.reg a, pre.reg b], marks := marks }
    let n := commandsIn r.entries
    let s := (s.addEntry th e).mapRec th (fun r => r.setReg isA d { m := 11, f := n })
    if w.toNat / 2 ^ 26 = 0x33 ∧ d ≠ 0 then s.mapRec th (fun r => r.setReg isA (d + 1) Mark.run) else s

/-- The ordering entry of a JWAIT, a SLEEPU or a PHWAIT (R379, R391). -/
def State.recOrder (th : Nat) (side : Side) (r : Recording) (pre : State) (i : Instr) (s : State) : State :=
  let isA := decide (side = .a)
  let m := r.regMark isA
  let entry := fun (typ : Nat) (w : BitVec 32) (arg : Nat) (ws : List Word) (ms : List Nat) =>
    s.addEntry th { typ := typ, side := side, insn := w, arg := arg, words := ws, marks := ms }
  match i with
  | .jwait _ _ a => entry 3 0xC8000000 (m a).f [] []
  | .sleepu _ _ _ b => entry 3 0xD0000000 (m b).f [] []
  | .phwait _ _ a b =>
    if Mark.unfit (m a).m || Mark.unfit (m b).m then s.abandonRec th 6 else entry 2 0xE0000003 0 [pre.reg a, pre.reg b] [(m a).m, (m b).m]
  | _ => s

/-- The guard of a PGLD (R400). -/
def State.recPgld (th : Nat) (r : Recording) (isA : Bool) (pre : State) (a b : BitVec 5) (s : State) : State :=
  let addr := pre.reg a + pre.reg b
  let v := match pre.load addr.toNat 8 0 0 0 with | .ok x _ => BitVec.ofNat 64 (leNat x.1) | _ => 0
  let ma := (r.regMark isA a).m
  let mb := (r.regMark isA b).m
  let k := ma + mb
  let delta := toSigned (addr - (pre.itemOf pre.cur).arg (k - 1)).toNat 64
  if k = 0 then s.addGuard th { kind := 2, slot := 0, x := bitsOf addr.toNat 55 3, value := v }
  else if (ma = 0 ∨ mb = 0) ∧ k ≤ 8 ∧ delta % 8 = 0 ∧ -(2 ^ 52) ≤ delta / 8 ∧ delta / 8 < 2 ^ 52 then
    s.addGuard th { kind := 2, slot := k, x := delta / 8, value := v }
  else s.abandonRec th 8

/-- A guard on a shape field: it equals its snapshot (R378). -/
def State.guardField (th f : Nat) (s : State) : State :=
  s.addGuard th { kind := 1, slot := 0, x := f, value := BitVec.ofNat 64 ((s.itemOf (.task th .c)).shapeField f) }

/-- A local store: the guard of a mark-9 register, and the shadow; one to another core, or above the replay area, abandons the recording (R377, R378, R386). -/
def State.recLocalStore (th la bytes : Nat) (m : Mark) (s : State) : State :=
  let off := la % 2 ^ 17
  if la / 2 ^ 17 % 8 ≠ coreOfThread th % 8 ∨ 0x1000 ≤ off then s.abandonRec th 13
  else
    let s := if m.m = 9 then s.guardField th m.f else s
    s.mapRec th (fun r => { r with shadow := r.shadow.set (off / 8) (shadowMark bytes (r.shadow.get Mark.plain (off / 8)) m) })

/-- A fetch outside the page of entry_c and the page after it abandons the recording; the first fetch in the second one names PAGE1 (R386, R389). -/
def State.recFetch (th : Nat) (pc : Word) (s : State) : State :=
  match s.recPlate th with
  | none => s
  | some p =>
    let pg := pc.toNat / 65536
    let e := p.entryC.toNat / 65536
    if pg = e then s
    else if pg = e + 1 then
      (if p.page1 = 0 then s.mapPlate (sheetOfThread th) p.serial (fun q =>
        { q with page1 := (s.pageOf (sheetOfThread th) (s.itemOf (.task th .c)) pc.toNat).getD 0 }) else s)
    else s.abandonRec th 10

/-- The recorder's view of an instruction that a side has executed: its mark, entry or guard, or the end of the recording (R376 to R379, R386). -/
def State.recExecuted (th : Nat) (side : Side) (i : Instr) (r : Recording) (pre s : State) : State :=
  let isA := decide (side = .a)
  match abandonCode r isA i with
  | some c => s.abandonRec th c
  | none =>
    match commandOf i with
    | some c => State.recCommand th side r pre c s
    | none =>
      let la := match i with | .ld _ _ b z _ o => (pre.dataAddr b z o).toNat | .st _ _ b z _ o => (pre.dataAddr b z o).toNat | _ => 0
      let off := la % 2 ^ 17
      let own := decide (la / 2 ^ 17 % 8 = coreOfThread th % 8)
      let field := match i with | .tshape _ _ _ b => (pre.reg b).toNat | _ => 0
      let marked := markOf r isA i (if own ∧ off < 0x1000 then r.shadow.get Mark.plain (off / 8) else Mark.run) field
      let s := match i with
        | .st _ d _ z _ _ => s.recLocalStore th la (sizeOf z) (r.regMark isA d)
        | .stv g _ b p _ => (pre.tileElems g (pre.reg b) (pre.reg p) false).foldl (fun (s : State) e => s.recLocalStore th e.2.2.toNat pre.shape.esize Mark.plain) s
        | .pgld _ _ a b => State.recPgld th r isA pre a b s
        | _ => State.recOrder th side r pre i s
      let s := match marked.1 with | some (d, m) => s.mapRec th (fun r => r.setReg isA d m) | none => s
      let s := match marked.2 with | some (p, m) => s.mapRec th (fun r => r.setPred isA p m) | none => s
      match i with
      | .crd _ _ c => if c = 0x010 then s.mapRec th (fun r => { r with selfRead := true }) else s
      | .astart _ a =>
        if (pre.thread th).aStarted then s else s.mapRec th (fun r => { r with aMarks := [(1, Mark.other [r.regMark false a])], aPreds := [] })
      | .endTask _ => if (s.thread th).st = .ending ∧ s.aIdle th then s.finishRec th else s
      | _ => s

/-- Whether the issuing word of a context is done between two states. -/
def advanced (c : CtxId) (pre post : State) : Bool :=
  let k := pre.ctxOf c
  let k' := post.ctxOf c
  (k'.wait.isNone || k'.run == .ended) && k'.run != .frozen && decide ((k'.pc, k'.repDone, k'.buf.length, k'.run) ≠ (k.pc, k.repDone, k.buf.length, k.run))

/-- Whether a guarded instruction executes at all: where the guard has a bit for each element, if one of them is selected (R75, R218); PMERGE joins its group whatever
the guard (R227), and SMERGE and SMERGEZ go by lane 0 (R202). -/
def State.anySelected (s : State) (i : Instr) : Bool :=
  let g := guardOf i
  let lanes := s.shape.elems.any (fun p => match g with | .always => true | .on n q => (s.pred q).getLsbD (if s.cur.isA then 0 else s.shape.offset p.1 p.2) != n)
  match i with
  | .stv .. => lanes
  | .vext .. => s.selected g
  | .vshape .. => s.selected g
  | .vcompact .. => s.selected g
  | .smcount .. => s.selected g
  | .smerge .. => s.selected g
  | .smergez .. => s.selected g
  | .pmerge .. => true
  | .vins _ _ _ b => (s.shape.position (s.reg b)).any (fun p => s.executes g (s.shape.offset p.1 p.2))
  | _ => match groupOf i with
    | .vector => lanes
    | .vred => lanes
    | .vcmp => lanes
    | .vmisc => lanes
    | _ => s.selected g

/-- What the guard of a followed instruction leaves in the recording (R378). -/
def State.recGuard (th : Nat) (isA : Bool) (r : Recording) (g : Guard) (s : State) : State :=
  match g with
  | .always => s
  | .on _ p => let m := r.predMark isA p; if m.m = 0 then s else if m.m = 9 then s.guardField th m.f else s.abandonRec th 1

/-- The recorder follows an instruction: its guard, and what it does where it executes. -/
def State.recFollow (th : Nat) (side : Side) (i : Instr) (r : Recording) (pre s : State) : State :=
  let s := s.recGuard th (decide (side = .a)) r (guardOf i)
  if (s.thread th).recd.isSome && pre.anySelected i then State.recExecuted th side i r pre s else s

/-- What a recording in progress makes of an attempt of its task (R375 to R379): a command is followed when it is issued, also where it then waits, and every
other instruction when it completes. One that takes a user trap has not executed, but for the two whose effect that is; a REP of count 0 executes nothing
(R87). A TRAP or BRK that freezes its side, where UTVEC is 0, has executed (R359). -/
def State.engrave (i : Instr) (pre post : State) : State :=
  match pre.cur with
  | .task th side =>
    match (pre.thread th).recd, (post.thread th).recd with
    | some r, some r' =>
      let s := (post.mapRec th (fun x => { x with trapped := false })).recFetch th pre.ctx.pc
      let own := match i with | .trap .. => true | .brk .. => true | _ => false
      let k := post.ctxOf pre.cur
      let issued := advanced pre.cur pre post || k.underway
      let stopped := own && k.run == .frozen && (k.frozenCause == 0x14 || k.frozenCause == 0x15)
      let due := if (commandOf i).isSome then issued && !pre.ctx.begun else advanced pre.cur pre post || stopped
      if (s.thread th).recd.isNone || !due || pre.repZero || (r'.trapped && !own) then s else State.recFollow th side i r pre s
    | _, _ => post
  | _ => post

/-! ## What an item with PLATE set does at placement (R375, R382, R383, R392) -/

/-- The choice: a normal run, an engraving, a print, or a normal run as a fallback. -/
inductive PlateChoice where
  | normal
  | engrave
  | print (p : Plate)
  | fallback (p : Plate)
  deriving DecidableEq, Repr

/-- Whether a guard holds for an item (R392). -/
def State.guardHolds (s : State) (sheet : Nat) (it : Item) (g : PGuard) : Bool :=
  if g.kind = 1 then it.shapeField g.x.toNat == g.value.toNat
  else
    let addr := if g.slot = 0 then BitVec.ofNat 64 (8 * g.x.toNat) else it.arg (g.slot - 1) + BitVec.ofInt 64 (8 * g.x)
    let l := s.launch it.launch
    decide (addr.toNat % 8 = 0) && (match (s.readVa sheet l.asid addr.toNat 8 l.secure).1 with | .ok bs => leNat bs == g.value.toNat | .error _ => false)

/-- The checks of R392 in their order, but for the core that SELF binds. -/
def State.printable (s : State) (sheet : Nat) (it : Item) (p : Plate) : Bool :=
  let pg := fun (va : Nat) => s.pageOf sheet it va
  decide (p.bad = false ∧ p.vkey = s.vkeyOf it ∧ p.wgen = s.wgen.toNat ∧ p.kgen = s.kgen.toNat) && pg it.entryC.toNat == some p.page0 &&
    (p.page1 == 0 || pg (it.entryC.toNat / 65536 * 65536 + 65536) == some p.page1) &&
    (p.guards.filter (fun g => g.kind == 1)).all (s.guardHolds sheet it) && (p.guards.filter (fun g => g.kind == 2)).all (s.guardHolds sheet it)

def State.plateChoice (s : State) (sheet : Nat) (it : Item) : PlateChoice :=
  let h := s.sheet sheet
  if !it.plate || decide (it.members.length ≠ 1) || s.follows it || (h.plateType it.key).norec then .normal
  else match h.plateOf it.key with
    | none => .engrave
    | some p => if p.st = 1 then .normal else if s.printable sheet it p then .print p else .fallback p

/-- The core that a plate binds its prints to, if it does (R385). -/
def Plate.core? (p : Plate) : Option Nat := if p.plv then some (coreOfAddr (BitVec.ofNat 64 (p.selfBits * 64))) else none

/-- A fallback is counted in the lifetime records and on the plate (R382, R402). -/
def State.countFallback (sheet : Nat) (p : Plate) (s : State) : State :=
  (s.mapSheet sheet (fun h => { h with fallbacks := sat32 h.fallbacks })).mapPlate sheet p.serial (fun q => { q with fallbacks := min 4095 (q.fallbacks + 1) })

/-- What the choice does to the placed member. -/
def State.applyChoice (th : Nat) (c : PlateChoice) (s : State) : State :=
  let sh := sheetOfThread th
  match c with
  | .normal => s
  | .engrave => s.startRec th
  | .print p =>
    (s.mapThread th (fun t => { t with print := some { serial := p.serial, args := p.args, entries := p.entries, next := 0, cmds := 0, jobs := [] } })).mapPlate
      sh p.serial (fun q => { q with pinned := q.pinned + 1, prints := min 4095 (q.prints + 1) })
  | .fallback p => (s.mapThread th (fun t => { t with plate := 3 })).countFallback sh p

/-! ## The PLATE group (R399 to R403) -/

/-- The task type that sA selects: the task's own, or the one that an item in memory names, read with plain loads (R399). -/
def State.plateSel (a : BitVec 5) (s : State) : Acc (Word × Word × Nat) :=
  let va := s.reg a
  if va = 0 then .ok (s.itemOf s.cur).key s
  else if va.toNat % 128 ≠ 0 then .trap 5 va s
  else
    (s.load (va.toNat + 8) 8 0 0 0).bind (fun c s => (s.load va.toNat 8 0 0 0).bind (fun e s => (s.load (va.toNat + 32) 2 0 0 0).bind (fun l s =>
      .ok (BitVec.ofNat 64 (leNat c.1), BitVec.ofNat 64 (leNat e.1), leNat l.1) s)))

def plateOp (i : Instr) (g : Guard) (a : BitVec 5) (f : Word × Word × Nat → State → Out) (s : State) : Out :=
  issueScalar i g s (fun s => (s.plateSel a).run f)

/-- PGLD: the load; the recorder adds its guard (R400). -/
def execPgld (g : Guard) (d a b : BitVec 5) (s : State) : Out :=
  issueScalar (.pgld g d a b) g s (fun s =>
    (s.load (s.reg a + s.reg b).toNat 8 0 0 0).run (fun r s => done (s.setReg d (BitVec.ofNat 64 (leNat r.1)))))

/-- The recording of the issuing task is abandoned with code 11 (R386, R401). -/
def State.dropOwn (s : State) : State := s.abandonRec s.threadId 11

/-- PDROP (R401). -/
def execPdrop (g : Guard) (d a : BitVec 5) (s : State) : Out :=
  plateOp (.pdrop g d a) g a (fun key s =>
    let sh := s.sheetId
    let p? := (s.sheet sh).plateOf key
    let s := s.dropOwn
    let s := match (s.sheet sh).plateOf key with | some p => s.spoilPlate sh 14 p | none => s
    let s := s.mapSheet sh (fun h => { h with plateTypes := h.plateTypes.set key { h.plateType key with norec := false } })
    done (s.setReg d (if p?.isSome then 1 else 0))) s

/-- PSTAT (R402). -/
def execPstat (g : Guard) (d a : BitVec 5) (s : State) : Out :=
  plateOp (.pstat g d a) g a (fun key s =>
    let h := s.sheet s.sheetId
    let ty := h.plateType key
    let v := match (if ty.norec then none else h.plateOf key) with
      | none => if ty.norec then 3 * 2 ^ 48 else 0
      | some p =>
        let p := s.plateNow p
        p.st * 2 ^ 48 + p.entries.length * 2 ^ 32 + p.guards.length * 2 ^ 24 + p.fallbacks * 2 ^ 12 + p.prints
    done (s.setReg d (BitVec.ofNat 64 (ty.reason * 2 ^ 56 + v)))) s

/-- PNOREC (R403). -/
def execPnorec (g : Guard) (d a : BitVec 5) (s : State) : Out :=
  plateOp (.pnorec g d a) g a (fun key s =>
    let sh := s.sheetId
    let recording := ((s.sheet sh).plateOf key).any (fun p => p.st == 1) || (s.thread s.threadId).recd.isSome
    let s := s.dropOwn
    let s := match (s.sheet sh).plateOf key with | some p => s.spoilPlate sh 11 p | none => s
    let s := s.mapSheet sh (fun h => { h with plateTypes := h.plateTypes.set key { h.plateType key with norec := true } })
    done (s.setReg d (if recording then 1 else 0))) s

end Sys2Proof.Machine
end

