-- ==== Sys2Proof/Machine/Print.lean ====
section
/-! DEFINITION. The issue of a print's entries by the dispatcher (R381, R382, R393, R394). -/

namespace Sys2Proof.Machine

/-- A recorded word patched by its mark: mark k from 1 to 8 moves it with the argument a(k − 1) (R381). -/
def patchWord (it : Item) (old : List Word) (w : Word) (mark : Nat) : Word :=
  if 1 ≤ mark ∧ mark ≤ 8 then it.arg (mark - 1) + (w - old.getD (mark - 1) 0) else w

/-- The meaning of a recorded command, by its INSN, on the registers that the print lays its operands in: A in s1, B in s2, D in s4. -/
def printMeaning (w : BitVec 32) : Option (State → Out) :=
  if w = 0xC0000000 then some (execMwalk .always 4 1)
  else if w = 0xC0000001 then some (execMwalkg .always 4 1)
  else if w = 0xCC000000 then some (execTcopy .always 2 1)
  else if w = 0xCC000001 then some (execTgather .always 2 1)
  else if w = 0xCC000002 then some (execTscatter .always 2 1)
  else if w = 0xCC000003 then some (execTscadd .always 2 1)
  else if w = 0xCC000004 then some (execTfill .always 2 1)
  else if w = 0xEC000000 then some (execLturn .always 4 1 2)
  else if w = 0xE4000000 then some (execTspawn .always 4 1 2)
  else if w = 0xE0000002 then some (execPhsig .always 4 1 2)
  else if w = 0xE0000003 then some (execPhwait .always 4 1 2)
  else none

/-- The C side of a printing member, between two entries. -/
def printCtx (it : Item) (now : Nat) : Ctx := { Ctx.init with run := .running, pc := it.entryC, grp := it.entryC, since := now }

/-- The print's next entry. -/
def State.printNext (th : Nat) (f : Printing → Printing) (s : State) : State :=
  let it := s.item (s.thread th).itemSheet (s.thread th).item
  (s.mapThread th (fun t => { t with print := t.print.map (fun p => { f p with next := p.next + 1 }) })).setCtx (.task th .c) (printCtx it s.cycle.toNat)

/-- The print ends as END does (R116, R381). -/
def State.printEnd (th : Nat) (s : State) : State :=
  let s := (s.commitThread th).unpinPlate th
  (s.mapThread th (fun t => { t with print := none, st := .ending })).mapCtx (.task th .c)
    (fun k => { k with run := .ended, wait := some (sync 8 0 .endWaits) })

/-- A print that has issued no command falls back: the item runs normally on its slot, with TSTAT.PLATE reading 11 (R382, R394). -/
def State.printFallback (th : Nat) (s : State) : State :=
  let t := s.thread th
  let sh := sheetOfThread th
  let it := s.item t.itemSheet t.item
  let p? := t.print.bind (fun p => (s.sheet sh).plates.find? (fun q => q.serial == p.serial))
  let s := match p? with | some p => s.countFallback sh p | none => s
  ((s.unpinPlate th).mapThread th (fun t => { t with print := none, plate := 3, st := .pre, post := false })).setCtx (.task th .c) (printCtx it s.cycle.toNat)

/-- The first command falls back; a later one fails the item with cause 0x11, and the record carries the index of the command (R394). -/
def State.printFault (th : Nat) (p : Printing) (s : State) : Out :=
  let t := s.thread th
  let sh := sheetOfThread th
  if p.cmds = 0 then .next (s.printFallback th)
  else if s.ringBlocked sh then .fault .notEnabled
  else .next ((s.recordOf sh 0x11 5 (addrOf (.task th .c)) (BitVec.ofNat 64 p.jobs.length)).failItem t.itemSheet t.item 0x11)

/-- Whether the issue of an entry raised a cause: the run was discarded, its side frozen, or its record waits for the ring. -/
def State.printRaised (s : State) (th : Nat) : Bool :=
  let k := s.ctxOf (.task th .c)
  ((s.thread th).st != .pre && (s.thread th).st != .post) || k.run == .frozen || k.wait.any (fun w => match w.cond with | .ring => true | _ => false)

/-- The operands of an entry in the registers of the slot's C side, and the descriptor in the replay area; an entry that waits keeps both (R381, R393). -/
def State.printOperands (th : Nat) (p : Printing) (e : PEntry) (s : State) : State :=
  let it := s.item (s.thread th).itemSheet (s.thread th).item
  let ws := (e.words.zip e.marks).map (fun (x : Word × Nat) => patchWord it p.args x.1 x.2)
  let k := s.ctxOf (.task th .c)
  if k.stage ≠ 0 ∨ k.wait.isSome then s.mapCtx (.task th .c) (fun k => { k with wait := none })
  else if e.typ = 1 then
    (s.putLocal (coreOfThread th) e.arg (ws.flatMap (fun (w : Word) => leBytes 8 w.toNat))).mapCtx (.task th .c) (fun k => k.setReg 1 (BitVec.ofNat 64 e.arg))
  else s.mapCtx (.task th .c) (fun k => (k.setReg 1 (ws.getD 0 0)).setReg 2 (ws.getD 1 0))

/-- The kind of R353 that a wait of a recorded instruction has. DESIGN CHOICE (log 159): where R353 gives the instruction none, that of its nearest: a job for the engine
commands and LTURN, a phaser for PHSIG. -/
def printKind (w : BitVec 32) : Nat :=
  if w = 0xC0000001 then 5 else if w = 0xE4000000 then 10 else if w = 0xE0000002 ∨ w = 0xE0000003 then 1 else 6

/-- A print that waits at an entry waits on a synchronisation condition of the recorded instruction's kind (R353, R393); a retry, a page or a frozen core is none
(R279). -/
def printWait (i : BitVec 32) (w : Wait) : Wait :=
  match w.cond with
  | .cycle _ => w
  | .page _ => w
  | .held _ => w
  | .ring => w
  | _ => if w.kind = 0 then { w with kind := printKind i } else w

/-- A command of a print has issued and waits for the rest of its effect: from then on the print does not fall back (R382). -/
def State.printBegun (th : Nat) (isCmd : Bool) (s : State) : State :=
  let c : CtxId := .task th .c
  let k := s.ctxOf c
  if k.underway && !k.begun && isCmd then
    (s.mapThread th (fun t => { t with print := t.print.map (fun p => { p with cmds := p.cmds + 1 }) })).mapCtx c (fun k => { k with begun := true })
  else s

/-- A command or a PHWAIT entry (R381, R393, R394). -/
def State.printCommand (th : Nat) (p : Printing) (e : PEntry) (s : State) : Out :=
  let c : CtxId := .task th .c
  match printMeaning e.insn with
  | none => s.printFault th p
  | some m =>
    match m (s.printOperands th p e) with
    | .next t =>
      let t := t.mapCtx c (fun k => { k with wait := k.wait.map (printWait e.insn) })
      if t.printRaised th then s.printFault th p
      else
        let isCmd := e.insn != 0xE0000003
        if (t.core (coreOfThread th)).frozen ∨ (t.ctxOf c).pc = (s.ctxOf c).pc then .next (t.printBegun th isCmd) else
        let job := if e.typ = 1 then ((t.ctxOf c).x.get 4).toNat else 0
        .next (t.printNext th (fun p => { p with cmds := p.cmds + (if isCmd && !(s.ctxOf c).begun then 1 else 0), jobs := p.jobs ++ [job] }))
    | o => o

/-- An ordering entry on a job: it waits for the job, acquires at cluster scope, and fails the item where walk rows have faulted (R393, R394). -/
def State.printOrder (th : Nat) (p : Printing) (e : PEntry) (s : State) : Out :=
  let t := s.thread th
  let id := p.jobs.getD e.arg 0
  let next : State → Out := fun s => .next ((s.acquire 2).printNext th (fun p => p))
  match (if id = 0 then none else t.job? id) with
  | none => next s
  | some j =>
    if !j.complete then .next (s.block (sync 6 (BitVec.ofNat 64 id) (.jobDone id)))
    else if id / 2 ^ 14 % 4 ≠ 2 ∧ bitsOf j.status.toNat 31 16 ≠ 0 then .next (s.failItem t.itemSheet t.item 0x0B)
    else next (if e.insn = 0xC8000000 then s.mapThread th (fun t => { t with jobs := t.jobs.filter (fun x => x.id ≠ id) }) else s)

/-- Whether the plate of a print can no longer be read (R369). -/
def State.plateLost (s : State) (th : Nat) (p : Printing) : Bool := (s.sheet (sheetOfThread th)).plates.any (fun q => q.serial == p.serial && q.bad)

/-- PRINT_ENTRY_ISSUE: the next entry of a print is issued, or the print ends (R393). -/
def execPrintEntryIssue (th : Nat) (s : State) : Out :=
  let c : CtxId := .task th .c
  let s := { s with cur := c }
  let t := s.thread th
  let core := s.core (coreOfThread th)
  let waits := (s.ctx.wait.any (fun w => !w.cond.holds c s))
  match t.print with
  | none => .fault .notEnabled
  | some p =>
    if (t.st ≠ .pre ∧ t.st ≠ .post) ∨ waits ∨ core.frozen ∨ core.retired ∨ s.drained c then .fault .notEnabled
    else if s.plateLost th p then s.printFault th p
    else
      let s := s.mapSheet (sheetOfThread th) (fun h => { h with activeAt := s.cycle.toNat })
      match p.entries[p.next]? with
      | none => .next (s.printEnd th)
      | some e => if e.typ = 3 then s.printOrder th p e else s.printCommand th p e

end Sys2Proof.Machine
end

