-- ==== Sys2Proof/Machine/SoftErrors.lean ====
section
/-! DEFINITION. Soft errors by structure (R369) and their lifetime counters (R441). -/

namespace Sys2Proof.Machine

/-- The structures that the lifetime records count: the rows of R369, in order. -/
def siteKind (x : ErrSite) : Nat :=
  match x with
  | .context .. => 0 | .localMem .. => 1 | .l1d .. => 2 | .memory .. => 3 | .tlb .. => 4 | .nodeCache .. => 4 | .replica .. => 4 | .plate .. => 5 | .dispatcher .. => 6

/-- Whether a site names a structure that holds something. -/
def State.siteOk (s : State) (x : ErrSite) : Bool :=
  match x with
  | .context core k => decide (core < 65536 ∧ k < 10)
  | .localMem core off => decide (core < 65536 ∧ off < Config.localBytes)
  | .l1d core line sector => decide (sector < 4) && ((s.core core).l1.any (fun e => e.line == line) || (s.core core).spec.any (fun e => e.line == line))
  | .memory pa => s.region pa == .hbm || s.region pa == .atlas
  | .tlb cl i => decide (i < (s.cluster cl).tlb.length)
  | .nodeCache cl job u => (s.walk? cl job).any (fun j => j.cache.any (fun c => c.1 == u))
  | .replica sheet line => (s.sheet sheet).replicas.any (fun r => r.1 == line)
  | .plate sheet i => decide (i < (s.sheet sheet).plates.length)
  | .dispatcher l => (s.launch l).live

/-- The sheet of a site, the source of its record, and its object. -/
def State.sitePlace (s : State) (x : ErrSite) : Nat × Word × Word :=
  let sheetAddr := fun (h : Nat) => BitVec.ofNat 64 (h * 2 ^ 17)
  let clAddr := fun (cl : Nat) => BitVec.ofNat 64 (cl * 512)
  match x with
  | .context core k => (sheetOfCore core, addrOf (if k < 8 then .task (core * 8 + k) .c else .handler core (k - 8)), 0)
  | .localMem core off => (sheetOfCore core, coreAddr core, BitVec.ofNat 64 off)
  | .l1d core line _ => (sheetOfCore core, coreAddr core, BitVec.ofNat 64 (line * 256))
  | .memory pa => (paSheet pa, sheetAddr (paSheet pa), BitVec.ofNat 64 pa)
  | .tlb cl i => (sheetOfCluster cl, clAddr cl, BitVec.ofNat 64 i)
  | .nodeCache cl job _ => (sheetOfCluster cl, clAddr cl, BitVec.ofNat 64 job)
  | .replica sheet line => (sheet, sheetAddr sheet, BitVec.ofNat 64 line)
  | .plate sheet i => (sheet, sheetAddr sheet, BitVec.ofNat 64 i)
  | .dispatcher l => ((s.launch l).origin, sheetAddr (s.launch l).origin, BitVec.ofNat 64 l)

/-- SIDE and POST of a record of a site: those of the context where it is one's (R363). -/
def State.siteFlags (s : State) (x : ErrSite) : Nat :=
  match x with
  | .context core k => recFlags true false (s.isPost (if k < 8 then .task (core * 8 + k) .c else .handler core (k - 8))) false false
  | _ => 0

def State.siteRecord (cause : Nat) (x : ErrSite) (s : State) : State := let p := s.sitePlace x; s.recordOf p.1 cause (s.siteFlags x) p.2.1 p.2.2

def State.countError (corrected : Bool) (x : ErrSite) (s : State) : State :=
  let k := siteKind x
  let l := s.lifetime
  { s with lifetime := if corrected then { l with corrected := l.corrected.set k (sat32 (l.corrected.get 0 k)) } else { l with uncorrected := l.uncorrected.set k (sat32 (l.uncorrected.get 0 k)) } }

/-- An entry of a TLB, a node cache or a replica is dropped, to be fetched again (R369). -/
def State.dropSite (x : ErrSite) (s : State) : State :=
  match x with
  | .tlb cl i => s.mapCluster cl (fun c => { c with tlb := c.tlb.eraseIdx i })
  | .nodeCache cl job u => match s.walk? cl job with | some j => s.setWalk cl job { j with cache := j.cache.filter (fun c => c.1 ≠ u) } | none => s
  | .replica sheet line => s.mapSheet sheet (fun h => { h with replicas := h.replicas.filter (fun r => r.1 ≠ line) })
  | _ => s

/-- SOFT_ERROR_CORRECTED: the error is fixed and recorded as cause 0x16 (R369). -/
def execSoftErrorCorrected (site : ErrSite) (s : State) : Out :=
  if !s.siteOk site then .fault .notEnabled else .next (((s.countError true site).dropSite site).siteRecord 0x16 site)

/-- The core is frozen behind a record of cause 0x17, and a context's state is lost where it owned the bits (R368, R369). -/
def State.errorFreeze (core : Nat) (lost : List Nat) (x : ErrSite) (s : State) : State :=
  let p := s.sitePlace x
  (s.mapCore core (fun k => { k with unreadable := k.unreadable ++ lost.filter (fun c => !k.unreadable.contains c) })).freezeOn core (s.eventOf 0x17 (s.siteFlags x) p.2.1 p.2.2)

/-- A sector of a line holds bytes of the core's own: dirty or speculative ones (R262, R369). -/
def Core.ownsSector (k : Core) (line sector : Nat) : Bool :=
  let m := sectorBytes (BitVec.ofNat 4 (2 ^ sector))
  k.spec.any (fun e => e.line == line && e.mask &&& m != 0) || k.l1.any (fun e => e.line == line && e.dirty &&& m != 0)

/-- A clean sector of a line is invalidated, to be filled again (R369). -/
def Core.dropSector (k : Core) (line sector : Nat) : Core :=
  { k with l1 := k.l1.map (fun e => if e.line = line then { e with valid := e.valid &&& ~~~(BitVec.ofNat 4 (2 ^ sector)) } else e) }

/-- SOFT_ERROR_UNCORRECTED: by structure, a frozen core, poison, a dropped copy, a plate that can no longer be read, or a failed launch (R369). -/
def execSoftErrorUncorrected (site : ErrSite) (s : State) : Out :=
  if !s.siteOk site then .fault .notEnabled
  else
    let s := s.countError false site
    match site with
    | .context core k => .next (s.errorFreeze core [k] site)
    | .localMem core off => .next (s.mapCore core (fun k => { k with poison := if k.poison.contains (off / 8) then k.poison else k.poison ++ [off / 8] }))
    | .l1d core line sector =>
      if (s.core core).ownsSector line sector then .next (s.errorFreeze core [] site)
      else .next ((s.mapCore core (fun k => k.dropSector line sector)).siteRecord 0x16 site)
    | .memory pa =>
      let w := (List.range 8).map (fun i => pa / 8 * 8 + i)
      .next { s with memPoison := s.memPoison ++ w.filter (fun x => !s.memPoison.contains x) }
    | .plate sheet i => .next ((s.mapSheet sheet (fun h => { h with plates := h.plates.modify i (fun p => { p with bad := true }) })).siteRecord 0x17 site)
    | .dispatcher l => .next ((s.siteRecord 0x17 site).failLaunch l 0x18)
    | .tlb .. => .next ((s.dropSite site).siteRecord 0x16 site)
    | .nodeCache .. => .next ((s.dropSite site).siteRecord 0x16 site)
    | .replica .. => .next ((s.dropSite site).siteRecord 0x16 site)

end Sys2Proof.Machine
end

