-- ==== Sys2Proof/Machine/Net.lean ====
section
/-! DEFINITION. The routers: the forwarding of packets and late packets (R371, R409), and the places of stream routes
(R244, R245). -/

namespace Sys2Proof.Machine

/-- PACKET_FORWARD: a router forwards the packet of the earliest class, to the next router or to the home slice beside it (R371, R409). -/
def execPacketForward (cl : Nat) (s : State) : Out :=
  match bestPacket (s.cluster cl).packets with
  | none => .fault .notEnabled
  | some p => .next (s.forwardPacket cl p)

/-- Whether a request is still on its way through the routers. -/
def State.underway (s : State) (pkt : Nat) : Bool := s.clusters.any (fun c => c.2.packets.any (fun p => p.1 == pkt))

/-- The block selector of a router in a record of cause 0x0F: block kind 0, cluster (R363, R373). -/
def clusterSelector (cl : Nat) : Word := BitVec.ofNat 64 (cl % 65536)

/-- LATE_PACKET_RECORD: a record of cause 0x0F with the count (R371). -/
def execLatePacketRecord (cl : Nat) (s : State) : Out :=
  match (s.cluster cl).lateDue with
  | [] => .fault .notEnabled
  | n :: rest =>
    .next ((s.mapCluster cl (fun c => { c with lateDue := rest })).recordOf (sheetOfCluster cl) 0x0F 0 (clusterSelector cl) (BitVec.ofNat 64 n.toNat))

/-! ## Stream routes (R245) -/

/-- The outputs that the open routes of the module hold. -/
def State.heldOutputs (s : State) : List (Nat × Nat) :=
  s.ctxs.flatMap (fun (p : CtxId × Ctx) => match p.1 with
    | .task th _ => if p.2.route.opn then outputs (clusterOfThread th) (threadOfAddr p.2.route.dest / 64) maxHops else []
    | _ => [])

/-- Whether every hop of a route has a free place: each router output carries at most four routes (R244). -/
def State.placesFree (s : State) (src dst : Nat) : Bool :=
  let held := s.heldOutputs
  (outputs src dst maxHops).all (fun o => decide ((held.filter (· = o)).length < 4))

/-- The receive port that an address names. -/
def portOfAddr (a : Word) : Nat := a.toNat / 8 % 2

def State.portAt (s : State) (a : Word) : Port := (s.thread (threadOfAddr a)).ports.getD (portOfAddr a) Port.init

/-- Whether a waiting route could open now: its destination holds a task of the launch, the port is unbound and every hop has room (R245). -/
def State.canOpen (s : State) (th : Nat) (side : Side) : Bool :=
  let r := (s.ctxOf (.task th side)).route
  let d := threadOfAddr r.dest
  r.opening && decide ((s.thread d).st ≠ .empty ∧ (s.thread d).launch = (s.thread th).launch) && (s.portAt r.dest).bound.isNone &&
    s.placesFree (clusterOfThread th) (d / 64)

/-- Whether a waiting route goes before another: the earliest deadline class, then the lower sender address. -/
def State.opensFirst (s : State) (a b : Nat × Side) : Bool :=
  let key := fun (p : Nat × Side) => (0, classOf (s.thread p.1).deadline, (addrOf (.task p.1 p.2)).toNat)
  goesFirst (key a) (key b)

/-- The routes that could open now. -/
def State.openable (s : State) : List (Nat × Side) :=
  (s.ctxs.filterMap (fun (p : CtxId × Ctx) => match p.1 with | .task th side => if p.2.route.opening then some (th, side) else none | _ => none)).filter
    (fun p => s.canOpen p.1 p.2)

/-- ROUTE_OPEN: the head flit reserves its places and binds the port, all or nothing (R245). -/
def execRouteOpen (th : Nat) (side : Side) (s : State) : Out :=
  if !s.canOpen th side || s.openable.any (fun p => s.opensFirst p (th, side)) then .fault .notEnabled
  else
    let r := (s.ctxOf (.task th side)).route
    let q := s.portAt r.dest
    let used := q.items.foldl (fun n i => n + (if i.1 then 16 else 1)) 0
    let s := s.mapCtx (.task th side) (fun k => { k with route := { k.route with opn := true, opening := false, closing := false, free := 32 - used, flight := [] } })
    .next ((s.mapThread (threadOfAddr r.dest) (fun t => { t with ports := t.ports.modify (portOfAddr r.dest) (fun q => { q with bound := some (th, side) }) })).flitPass th r.dest)

/-- PORT_ITEM_ARRIVE: the oldest item of a route reaches the port, with the scope that its send released (R245, R249). -/
def execPortItemArrive (th : Nat) (side : Side) (s : State) : Out :=
  let r := (s.ctxOf (.task th side)).route
  match r.flight with
  | [] => .fault .notEnabled
  | i :: rest =>
    if !r.opn then .fault .notEnabled
    else
      let d := threadOfAddr r.dest
      let s := s.mapCtx (.task th side) (fun k => { k with route := { k.route with flight := rest } })
      let add := fun (q : Port) => { q with items := q.items ++ [(i.1, i.2, narrowest (coreOfThread th) (coreOfThread d))] }
      .next ((s.mapThread d (fun t => { t with ports := t.ports.modify (portOfAddr r.dest) add })).flitPass th r.dest)

/-- ROUTE_CLOSE_FLIT: the closing flit, behind the last item, frees the hops and leaves a close marker at the port (R246). -/
def execRouteCloseFlit (th : Nat) (side : Side) (s : State) : Out :=
  let r := (s.ctxOf (.task th side)).route
  if !r.opn || !r.closing || !r.flight.isEmpty then .fault .notEnabled
  else
    let s := s.mapCtx (.task th side) (fun k => { k with route := Route.init })
    .next ((s.mapThread (threadOfAddr r.dest) (fun t => { t with ports := t.ports.modify (portOfAddr r.dest) (fun q => { q with mark := true }) })).flitPass th r.dest)

end Sys2Proof.Machine
end

