-- ==== Sys2Proof/Machine/Port.lean ====
section
/-! DEFINITION. The PORT group (R243 to R250). -/

namespace Sys2Proof.Machine

/-- Whether an address is a port address that the side may send to (R243): this module, a sheet of the launch's rectangle, no reserved bit. -/
def State.portAddrOk (s : State) (a : Word) : Bool :=
  decide (a.toNat < 2 ^ 22 ∧ a.toNat / 16 % 4 = 0) && (s.launch (s.launchOf s.cur)).covers (a.toNat / 2 ^ 17 % 32)

/-- The send route of the side in focus. -/
def State.route (s : State) : Route := s.ctx.route
def State.updRoute (f : Route → Route) (s : State) : State := s.upd (fun k => { k with route := f k.route })

/-- A send (R247): the commit, the checks, the release to the narrowest scope, the open route, room at the destination, and the item. -/
def sendItem (i : Instr) (g : Guard) (a : BitVec 5) (vector : Bool) (item : State → VReg) (s : State) : Out :=
  issueScalar i g s (fun s =>
    let s := s.commit
    let dst := s.reg a
    let r := s.route
    let n := if vector then 16 else 1
    if !s.portAddrOk dst then raise0 0x13 s
    else if r.broken then raise0 0x13 s
    else if r.opn && !r.closing && decide (r.dest ≠ dst) then raise0 0x13 s
    else
      (s.release (narrowest s.coreId (coreOfAddr dst))).run (fun _ s =>
        let wait := fun (c : WaitCond) (s : State) => Host.Outcome.next (s.block (sync 3 dst c))
        if r.opn && r.closing then wait .route s
        else if !r.opn then wait .route (s.updRoute (fun r => { r with opening := true, dest := dst }))
        else if r.free < n then wait (.destFree n) s
        else done (s.updRoute (fun r => { r with free := r.free - n, flight := r.flight ++ [(vector, item s)] }))))

/-- SPSEND (R247). -/
def execSpsend (g : Guard) (a b : BitVec 5) (s : State) : Out :=
  sendItem (.spsend g a b) g a false (fun s => BitVec.ofNat 4096 (s.reg b).toNat) s

/-- SPSENDV sends all 512 bytes; a window is a source (R247). -/
def execSpsendv (g : Guard) (d a : BitVec 5) (s : State) : Out :=
  sendItem (.spsendv g d a) g a true (fun s => s.vsrc d.toNat s.qwD.2) s

/-- SPCLOSE (R246, R248). -/
def execSpclose (g : Guard) (s : State) : Out :=
  issueScalar (.spclose g) g s (fun s =>
    let r := s.route
    if r.broken then done (s.updRoute (fun _ => Route.init))
    else if r.opn then done (s.updRoute (fun r => { r with closing := true }))
    else done s)

/-- The address of a receive port of a thread (R243). -/
def portAddr (th n : Nat) : Word := addrOf (.task th .a) ||| BitVec.ofNat 64 (8 * n)

/-- Frees n entries of the receive port p of a thread toward its sender, which sees them as room at the destination of its route, while that route leads here
(R244, R245). -/
def State.creditSender (th p : Nat) (q : Port) (n : Nat) (s : State) : State :=
  match q.bound with
  | some (b, side) => s.mapCtx (.task b side) (fun k =>
      if k.route.opn ∧ k.route.dest = portAddr th p then { k with route := { k.route with free := k.route.free + n } } else k)
  | none => s

/-- A receive (R249). -/
def recvItem (i : Instr) (g : Guard) (a : BitVec 5) (p : BitVec 4) (vector : Bool) (put : VReg → State → State) (zero : State → State) (s : State) : Out :=
  issueScalar i g s (fun s =>
    let n := (s.reg a).toNat
    let th := s.threadId
    if 1 < n then raise0 0x13 s
    else if !(s.thread th).post then raise0 0x13 s
    else
      let q := (s.thread th).ports.getD n Port.init
      let setPort := fun (q : Port) (s : State) => s.mapThread th (fun t => { t with ports := t.ports.modify n (fun _ => q) })
      match q.items with
      | [] =>
        if q.mark then done ((zero (setPort { q with bound := none, mark := false } s)).setPred p (predOf false))
        else .next (s.block (sync 3 (portAddr th n) (.portItem n)))
      | x :: rest =>
        if x.1 ≠ vector then raise0 0x13 s
        else
          let s := (setPort { q with items := rest } s).creditSender th n q (if vector then 16 else 1)
          done (((put x.2.1 s).setPred p (predOf true)).acquire x.2.2))

/-- SPRECV (R249). -/
def execSprecv (g : Guard) (d a : BitVec 5) (p : BitVec 4) (s : State) : Out :=
  recvItem (.sprecv g d a p) g a p false (fun v s => s.setReg d (BitVec.ofNat 64 (getBytes v 0 8))) (fun s => s.setReg d 0) s

/-- SPRECVV (R249). -/
def execSprecvv (g : Guard) (d a : BitVec 5) (p : BitVec 4) (s : State) : Out :=
  recvItem (.sprecvv g d a p) g a p true (fun v s => s.vset d.toNat s.qwD.2 v) id s

/-- The entries that the items of a port take (R244). -/
def Port.used (q : Port) : Nat := q.items.foldl (fun n i => n + (if i.1 then 16 else 1)) 0

/-- SPSTAT (R250). -/
def execSpstat (g : Guard) (d a : BitVec 5) (s : State) : Out :=
  issueScalar (.spstat g d a) g s (fun s =>
    let n := (s.reg a).toNat
    let b := fun (x : Bool) (k : Nat) => if x then 2 ^ k else 0
    if 2 < n then raise0 0x13 s
    else if n = 2 then
      let r := s.route
      done (s.setReg d (BitVec.ofNat 64 (b r.opn 63 + b r.broken 62 + b r.opening 61 + r.free % 64 * 2 ^ 32 + (if r.opn || r.opening || r.broken then r.dest.toNat % 2 ^ 32 else 0))))
    else
      let q := (s.thread s.threadId).ports.getD n Port.init
      let peer := match q.bound with | some (th, side) => (addrOf (.task th side)).toNat | none => 0
      done (s.setReg d (BitVec.ofNat 64 (b q.bound.isSome 63 + b q.mark 62 + q.items.length % 64 * 2 ^ 48 + (32 - q.used) * 2 ^ 32 + peer))))

end Sys2Proof.Machine
end

