-- ==== Sys2Proof/Machine/Dispatcher.lean ====
section
/-! DEFINITION. The dispatcher's steps: placement with late discard, prints and pre-emption (R331, R344, R365), the input copy and the start of a task (R53, R320,
R344), the end of a task (R116, R348), the governor (R347) and deadlock detection (R353). -/

namespace Sys2Proof.Machine

/-! ## DISPATCH_CYCLE -/

def State.wantOf (s : State) (sheet i : Nat) : Want :=
  { sheet := sheet, item := i, foot := s.footprint (s.item sheet i), freed := [], binding := true, only := none }

/-- A ready item that is discarded because it is late: its policy is 0, and none of its members has started (R331, R344). -/
def State.lateNow (s : State) (it : Item) : Bool :=
  decide (it.late = 0 ∧ it.deadline ≠ 0 ∧ it.deadline < s.cycle ∧ it.ended = []) && it.members.all (fun m => m.2.2 == 0)

/-- Places an item by the choice of the plate store of a sheet: a print of a plate that binds a core goes there alone, and falls back where that core cannot take the
item now (R383, R385, R392). The choice, how many members are placed, and the state. -/
def State.placeBy (w : Want) (n sheet : Nat) (s : State) : PlateChoice × Nat × State :=
  match s.plateChoice sheet (s.item w.sheet w.item) with
  | .print p => (match p.core? with
    | none => (.print p, s.placeAll w n)
    | some k => let r := s.placeAll { w with only := some k } n; if r.1 = 0 then (.fallback p, s.placeAll w n) else (.print p, r))
  | c => (c, s.placeAll w n)

/-- The sheet of the one member of an item that has a place. -/
def Item.placedSheet (it : Item) : Option Nat := match it.members with | [(_, _, th + 1)] => some (sheetOfThread th) | _ => .none

/-- Places an item: by its dispatcher's store, or by that of the other sheet to which its placement goes (R383). -/
def State.placeChosen (w : Want) (n : Nat) (s : State) : PlateChoice × Nat × State :=
  let r := s.placeBy w n w.sheet
  match (r.2.2.item w.sheet w.item).placedSheet with
  | some h => if h = w.sheet then r else s.placeBy w n h
  | none => r

/-- The members of an item placed since a state, and what the plate choice does to the one member of an item with PLATE set. -/
def State.placedNow (sheet i : Nat) (c : PlateChoice) (s : State) : State :=
  let it := s.item sheet i
  let s := if it.pending.isEmpty then
      (s.mapItem sheet i (fun i => { i with st := .placed })).mapSheet sheet (fun h => { h with reservations := h.reservations.filter (fun r => r.item ≠ i) })
    else s
  match it.members with
  | [(_, _, th + 1)] => s.applyChoice th c
  | _ => s

/-- Every sheet on which an item may stand is drained for its launch, so that no member of it is placed (R366). -/
def State.itemDrained (s : State) (sheet i : Nat) : Bool :=
  let l := s.launch (s.item sheet i).launch
  match (s.startOf (s.wantOf sheet i)).1 with
  | .rect hs => hs.all (fun h => l.drained.contains h)
  | _ => l.drained.contains sheet

/-- One ready item in a dispatch cycle: whether the state changed, whether the item has no member left to place, and the state. -/
def State.tryItem (sheet i : Nat) (s : State) : Bool × Bool × State :=
  let it := s.item sheet i
  if it.st ≠ .ready || s.itemDrained sheet i then (false, true, s)
  else if it.members.isEmpty then (true, true, s.finalItem sheet i 0)
  else if s.lateNow it then (true, true, s.finalItem sheet i 256)
  else
    let r := s.placeChosen (s.wantOf sheet i) it.members.length
    if r.2.1 = 0 then (false, false, s)
    else let s := r.2.2.placedNow sheet i r.1; (true, (s.item sheet i).pending.isEmpty, s)

/-- The tasks that an item may displace: before commit, of lower PRIO, not frozen, of no team with a committed member (R365, R367). -/
def State.victims (s : State) (it : Item) : List Nat :=
  (s.threads.filter (fun (p : Nat × Thread) =>
    let t := p.2
    let o := s.item t.itemSheet t.item
    decide (t.st = .pre ∧ t.prio < it.prio) && (s.ctxOf (.task p.1 .c)).run != .frozen && (s.ctxOf (.task p.1 .a)).run != .frozen &&
      !(s.core (p.1 / 8)).frozen && o.ended.isEmpty && o.threads.all (fun x => (s.thread x).st != .post && (s.thread x).st != .ending) &&
      !it.pin.any (fun x => x != p.1))).map Prod.fst

/-- The order of victims: lowest PRIO, then latest deadline, then most recent start (R365). -/
def State.victimKey (s : State) (th : Nat) : Nat :=
  let t := s.thread th
  let dl := if t.deadline = 0 then 2 ^ 64 else t.deadline.toNat
  t.prio * 2 ^ 192 + (2 ^ 64 - dl) * 2 ^ 96 + (2 ^ 95 - t.started % 2 ^ 95)

/-- The choices of k elements of a list, in the order of the list. -/
def combos (k : Nat) (l : List α) : List (List α) :=
  match k, l with
  | 0, _ => [[]]
  | _ + 1, [] => []
  | j + 1, x :: rest => (combos j rest).map (x :: ·) ++ combos (j + 1) rest

/-- The fewest of a list with which a test holds, the first of them in the order of the list. -/
def fewest (l : List Nat) (fits : List Nat → Bool) : Option (List Nat) :=
  firstSome ((List.range l.length).map (· + 1)) (fun n => (combos n l).find? fits)

/-- The victims of an item that does not fit (R365): for a GANG or follower team, the fewest with which every member fits; otherwise the fewest on one core. -/
def State.chooseVictims (s : State) (w : Want) : Option (List Nat) :=
  let it := s.item w.sheet w.item
  let vs := sortBy s.victimKey (s.victims it)
  let fits := fun (l : List Nat) => (s.nextPlaces { w with freed := l }).isSome
  if it.gang || s.follows it then (if fits vs then fewest vs fits else none)
  else
    let cores := (vs.map (· / 8)).eraseDups
    let best := cores.filterMap (fun k =>
      fewest (vs.filter (fun v => v / 8 == k)) fits)
    argMin best (fun l => l.foldl (fun n v => n * 2 ^ 256 + s.victimKey v) l.length)

/-- Whether an item pre-empts, or has slots reserved for it: the highest-ranked that does not fit (R344, R365). -/
def State.makeWay (sheet i : Nat) (top : Bool) (s : State) : Bool × State :=
  let w := s.wantOf sheet i
  match s.chooseVictims w with
  | some vs => (true, ((vs.foldl (fun (s : State) v => if (s.thread v).st = .pre then s.discard v Why.plain else s) s).tryItem sheet i).2.2)
  | none =>
    let it := s.item sheet i
    let s' := if top && it.gang then s.reserveSlots w else s
    (decide ((s'.sheet sheet).reservations.length ≠ (s.sheet sheet).reservations.length), s')

/-- The ready items of a sheet in rank order (R343). -/
def State.readyItems (s : State) (sheet : Nat) : List Nat :=
  (sortBy (fun (p : Nat × Item) => p.2.rankKey) ((s.sheet sheet).items.filter (fun p => decide (p.2.st = .ready)))).map Prod.fst

/-- A dispatch cycle: whether anything changed, and the state (R344). -/
def State.dispatch (sheet : Nat) (s : State) : Bool × State :=
  let l := s.readyItems sheet
  let r := l.foldl (fun (acc : Bool × Option Nat × State) i =>
    let t := acc.2.2.tryItem sheet i
    (acc.1 || t.1, (if t.2.1 || acc.2.1.isSome then acc.2.1 else some i), t.2.2)) (false, none, s)
  match r.2.1 with
  | none => (r.1, r.2.2)
  | some i => if (r.2.2.item sheet i).st = .ready then let m := r.2.2.makeWay sheet i (l.head? == some i); (r.1 || m.1, m.2) else (r.1, r.2.2)

/-- DISPATCH_CYCLE (R344). -/
def execDispatchCycle (sheet : Nat) (s : State) : Out := .next (s.dispatch sheet).2

/-! ## The input copy and the start of a task -/

/-- The pages of an input area: the first address of each part. -/
def pageStarts (va n : Nat) : List Nat :=
  if n = 0 then [] else va :: ((List.range ((va + n - 1) / 65536 - va / 65536)).map (fun k => (va / 65536 + k + 1) * 65536))

/-- The cause and address with which the input copy of a member fails (R344). -/
def State.copyFault (s : State) (th : Nat) : Option (Nat × Nat) :=
  let t := s.thread th
  let it := s.item t.itemSheet t.item
  let l := s.launch t.launch
  firstSome (pageStarts it.linputAddr.toNat it.linputLen) (fun va =>
    match s.checkLeaf .load l.secure (s.pageWalk (sheetOfThread th) l.asid va .load) with | .cause c => some (c, va) | _ => none)

/-- The C side begins at entry_c with the state of R53; the start acquires at the member's scope (R320), and that of a
tile or combine task at scope 4 at least (R430). What a leader has forwarded meanwhile stands in the
hop buffers (R72). DESIGN CHOICE (log 155): a C side that has not issued counts as resident, for the wait of R71, from this start; R71 does not say whether from
here or from its placement. -/
def State.startTask (th : Nat) (s : State) : State :=
  let t := s.thread th
  let it := s.item t.itemSheet t.item
  let core := coreOfThread th
  let now := s.cycle.toNat
  let s := s.setThread th
    { t with st := .pre, post := false, queues := (s.launch t.launch).queuesOf t.qcfg, ovf := it.ovf.contains t.rank, started := now, wake := false, prio := it.prio }
  let s := s.setCtx (.task th .c) { Ctx.init with run := .running, pc := it.entryC, grp := it.entryC, since := now, hop := (s.ctxOf (.task th .c)).hop }
  let s := s.setCtx (.task th .a) { Ctx.init with since := now, hop := (s.ctxOf (.task th .a)).hop }
  if 2 ≤ s.scopeOf it || it.tile.isSome || it.combine.isSome then s.invalidateClean core (fun e => e.kind == 0 && !e.imm) else s

/-- The input of a member as the dispatcher reads it, with what the reads leave (R276, R344). -/
def State.readInput (th : Nat) (s : State) : Except (Option Nat) (List Byte) × State :=
  let t := s.thread th
  let it := s.item t.itemSheet t.item
  let l := s.launch t.launch
  s.readVa (sheetOfThread th) l.asid it.linputAddr.toNat it.linputLen l.secure

/-- Whether the input copy of a member takes place: not on a sheet that is drained of its launch (R366). -/
def State.copies (s : State) (th : Nat) : Bool := decide ((s.thread th).st = .placing) && !s.drained (.task th .c)

/-- INPUT_COPY_DONE: the input is copied to the member's core, and the member starts (R344, R348). -/
def execInputCopyDone (th : Nat) (s : State) : Out :=
  let t := s.thread th
  if !s.copies th then .fault .notEnabled
  else match s.readInput th with
    | (.error _, _) => .fault .notEnabled
    | (.ok bs, s) => .next ((s.putLocal (coreOfThread th) (s.item t.itemSheet t.item).linputOff bs).startTask th)

/-- INPUT_COPY_FAULT: the record, and the item returns to READY; a member of a GANG team with a committed member keeps its slot and copies again, and one of a
team that has started ends the team's run (R73, R344, R348). -/
def execInputCopyFault (th : Nat) (s : State) : Out :=
  let t := s.thread th
  let sh := sheetOfThread th
  match s.readInput th, s.copyFault th with
  | (.error (some _), _), some (c, va) =>
    if !s.copies th || s.ringBlocked sh then .fault .notEnabled
    else
      let it := s.item t.itemSheet t.item
      let s := s.recordOf sh c (recFlags true false t.post false false) (addrOf (.task th .c)) (BitVec.ofNat 64 va)
      let team := it.gang || s.follows it
      if it.gang && !s.follows it && s.teamCommitted it then .next s
      else if team && it.threads.any (fun x => (s.thread x).st != .placing) then .next (s.discard th Why.plain)
      else .next (((if team then it.threads else [th]).foldl (fun (s : State) x => s.unplace x) s).mapItem t.itemSheet t.item (fun i => { i with st := i.settled }))
  | _, _ => .fault .notEnabled

/-! ## The end of a task -/

/-- Every job that the task issued is complete (R116): a job leaves the table only then. -/
def State.jobsDone (s : State) (th : Nat) : Bool := (s.thread th).jobs.all (fun e => e.complete)

/-- A task past END of which the A side is idle and the jobs are complete (R116). -/
def State.ending (s : State) (th : Nat) : Bool := decide ((s.thread th).st = .ending) && s.aIdle th && s.jobsDone th

/-- The dirty lines of the task's ASID on its core. -/
def State.endDirty (s : State) (th : Nat) : L1Entry → Bool := let a := (s.launch (s.thread th).launch).asid; fun e => e.asid == a

/-- Whether the task's global stores are all performed (R116). -/
def State.storesDone (s : State) (th : Nat) : Bool :=
  !(s.core (coreOfThread th)).l1.any (fun e => s.endDirty th e && e.dirty != 0) && 
    (let asid := (s.launch (s.thread th).launch).asid
     !s.net.any (fun (p : Nat × Packet) => decide (p.2.origin.core? = some (coreOfThread th) ∧ p.2.asid = asid ∧ p.2.performed = false)))

/-- TASK_END_COMPLETE: while dirty bytes are left they are written back; once every store is performed the task has ended: its release at the member's scope is
complete, its slot and footprint are free, and the item is done when every member has ended (R116, R320, R345, R348). -/
def execTaskEndComplete (th : Nat) (s : State) : Out :=
  let t := s.thread th
  if !s.ending th then .fault .notEnabled
  else if s.storesDone th then
    let it := s.item t.itemSheet t.item
    let s := (s.mapItem t.itemSheet t.item (fun i => { i with ended := i.ended ++ [t.rank] })).unplace th
    .next (if it.ended.length + 1 = it.members.length then s.finalItem t.itemSheet t.item 0 else s)
  else
    let r := s.writeBackAll (coreOfThread th) (.core (coreOfThread th)) (s.endDirty th)
    if r.2.1 = 0 then .fault .notEnabled else .next r.2.2

/-! ## The governor -/

/-- One stage of a tick: it gains a unit from the donor with the most to spare (R347). -/
def State.govern (sheet st : Nat) (s : State) : State :=
  let h := s.sheet sheet
  let cfg := fun (k : Nat) => (h.stqcfg.get 0 k).toNat
  let quota := fun (k : Nat) => h.quota.get 0 k
  if bitsOf (cfg st) 57 44 < s.stageReady sheet st ∧ quota st < bitsOf (cfg st) 29 15 then
    let spare := fun (r : Nat) => quota r - bitsOf (cfg r) 14 0
    match argMin ((List.range 16).filter (fun r => decide (r ≠ 0 ∧ r ≠ st ∧ s.stageReady sheet r < bitsOf (cfg r) 43 30 ∧ bitsOf (cfg r) 14 0 < quota r)))
        (fun r => 2 ^ 15 - spare r) with
    | some r => s.mapSheet sheet (fun h => { h with quota := (h.quota.set r (quota r - 1)).set st (quota st + 1) })
    | none => s
  else s

/-- GOVERNOR_TICK, once in every 1,024 cycles (R347). -/
def execGovernorTick (sheet : Nat) (s : State) : Out :=
  let n := s.cycle.toNat / 1024
  if n ≤ (s.sheet sheet).gov then .fault .notEnabled
  else .next ((((List.range 15).map (· + 1)).foldl (fun (s : State) st => s.govern sheet st) s).mapSheet sheet (fun h => { h with gov := n }))

/-! ## Deadlock detection -/

/-- A context's wait on a synchronisation condition that does not hold. -/
def State.syncWait (s : State) (c : CtxId) : Option Wait :=
  match (s.ctxOf c).wait with | some w => if w.kind ≠ 0 && !w.cond.holds c s then some w else none | none => none

/-- Whether a task parks: it has started, its C side waits on a synchronisation condition, and its A side is idle (R353). -/
def State.parks (s : State) (th : Nat) : Bool :=
  let t := s.thread th
  (t.st == .pre || t.st == .post || t.st == .ending) && (s.syncWait (.task th .c)).isSome && s.aIdle th && (s.ctxOf (.task th .c)).run != .frozen &&
    !(s.core (coreOfThread th)).frozen && !(s.ending th && (s.storesDone th || (s.core (coreOfThread th)).l1.any (fun e => s.endDirty th e && e.dirty != 0)))

/-- Whether a ready item of a launch would fit but for a reservation or a quota (R353). -/
def State.wouldFit (s : State) (l : Nat) : Bool :=
  s.sheets.any (fun (h : Nat × Sheet) => (h.2.intakeQ.any (fun b => b.launch == l) && decide (h.2.pool < Config.poolSize)) || h.2.items.any (fun (p : Nat × Item) =>
    decide (p.2.launch = l ∧ p.2.st = .ready) && (p.2.members.isEmpty || (s.nextPlaces { s.wantOf h.1 p.1 with binding := false }).isSome)))

/-- The commands that a ring holds (R433). -/
def HostPort.ringSize (p : HostPort) : Nat := 64 * 2 ^ (p.cmdbase.toNat % 16)

/-- The host bus address of the command that stands k places after the next (R433). -/
def HostPort.cmdAt (p : HostPort) (k : Nat) : Nat := bitsOf p.cmdbase.toNat 63 12 * 4096 + 64 * ((p.cmdhead.toNat + k) % p.ringSize)

/-- The index of the command that stands k places after the next (R433). -/
def HostPort.indexAt (p : HostPort) (k : Nat) : Nat := (p.cmdhead.toNat + k) % 2 ^ 32

/-- The commands that wait in a port's ring (R433). -/
def HostPort.waiting (p : HostPort) : Nat := (p.cmdtail.toNat + 2 ^ 32 - p.cmdhead.toNat) % 2 ^ 32

/-- A host wake is armed: a wake command waits in a ring (R353, R434). -/
def State.wakeArmed (s : State) : Bool :=
  s.ports.any (fun (p : Nat × HostPort) => !p.2.stopped && (List.range (min p.2.waiting p.2.ringSize)).any (fun k =>
    leNat (s.hostMem.readList (p.2.cmdAt k) 1) == 5 && !p.2.finished.any (fun x => x.1 == p.2.indexAt k)))

/-- Whether a sweep finds a launch's rectangle at rest (R353, R361, R366, R368, R415, R425). -/
def State.atRest (s : State) (l : Nat) : Bool :=
  let k := s.launch l
  let here := fun (sheet : Nat) => k.covers sheet
  let clusters := s.clusters.filter (fun (c : Nat × Cluster) => here (sheetOfCluster c.1))
  let threads := s.threads.filter (fun (t : Nat × Thread) => here (sheetOfThread t.1) && t.2.st != .empty)
  threads.all (fun t => s.parks t.1) &&
    threads.all (fun t => (List.range 8).all (fun q => (s.stream? t.1 q).isNone)) &&
    s.cores.all (fun (c : Nat × Core) => !(here (sheetOfCore c.1) && c.2.frozen)) &&
    s.handlers.all (fun (h : (Nat × Nat) × Handler) => !here (sheetOfCore h.1.1)) &&
    clusters.all (fun c => c.2.walks.isEmpty && c.2.tracers.isEmpty && c.2.packets.isEmpty) &&
    s.net.all (fun (p : Nat × Packet) => !here (sheetOfCluster (s.entryOf p.2.origin).1)) &&
    threads.all (fun t => (s.ctxOf (.task t.1 .c)).route.flight.isEmpty && (s.ctxOf (.task t.1 .a)).route.flight.isEmpty) && s.openable.isEmpty &&
    !s.wakeArmed &&
    s.edges.all (fun (e : Nat × Edge) => !here (e.1 / 4) || (e.2.queue.isEmpty && e.2.dark.isEmpty)) &&
    s.sheets.all (fun (h : Nat × Sheet) => !here h.1 || h.2.compass.inhead == h.2.compass.intail) && !s.wouldFit l

/-- The object of a wait in its record: an MWALKG wait counts the arrivals (R353). -/
def State.waitObj (s : State) (c : CtxId) (w : Wait) : Word :=
  if w.kind = 5 then BitVec.ofNat 64 (((gangThreads (s.threadOf c)).filter (fun t => (s.thread t).mwalkg.isSome)).length * 2 ^ 16) else w.obj

/-- The 4 KiB area for the list of waits (R353). -/
def Sheet.deadlockArea (h : Sheet) : Nat := bitsOf h.dlbase.toNat 51 12 * 4096

/-- Declares a deadlock: the list at DLBASE, and cause 0x10 (R353). -/
def State.declare (sheet l : Nat) (s : State) : State :=
  let k := s.launch l
  let ws := (s.threads.filter (fun (t : Nat × Thread) => k.covers (sheetOfThread t.1) && t.2.st != .empty)).filterMap (fun t =>
    (s.syncWait (.task t.1 .c)).map (fun w =>
      leBytes 8 (w.kind * 2 ^ 56 + (addrOf (.task t.1 .c)).toNat) ++ leBytes 8 (s.waitObj (.task t.1 .c) w).toNat))
  let n := ws.length
  let bytes := leBytes 8 n ++ leBytes 8 0 ++ (ws.take 255).flatten
  (s.performSpan (s.sheet sheet).deadlockArea bytes 17).recordOf sheet 0x10 0 (BitVec.ofNat 64 (sheet * 2 ^ 17)) (BitVec.ofNat 64 n)

/-- DEADLOCK_SWEEP: a sweep of the rectangle of which the sheet is the origin, once for every multiple of 2^16 cycles; the second of two successive sweeps
that find it at rest, with no activity between them, declares a deadlock (R353), once the page of the list does not move (R278). -/
def execDeadlockSweep (sheet : Nat) (s : State) : Out :=
  let n := s.cycle.toNat / 65536
  let h := s.sheet sheet
  if n ≤ h.swept then .fault .notEnabled
  else
    let s1 := s.mapSheet sheet (fun h => { h with swept := n })
    match s.launches.find? (fun (p : Nat × Launch) => p.2.live && p.2.origin == sheet && p.2.drained.isEmpty) with
    | none => .next (s1.mapSheet sheet (fun h => { h with quiet := 0 }))
    | some (l, k) =>
      let idle := s.sheets.all (fun (x : Nat × Sheet) => !k.covers x.1 || decide (x.2.activeAt < h.swept * 65536))
      if !s.atRest l then .next (s1.mapSheet sheet (fun h => { h with quiet := 0 }))
      else if h.quiet = 0 ∨ !idle then .next (s1.mapSheet sheet (fun h => { h with quiet := 1 }))
      else if h.dlbase.toNat % 2 = 1 ∧ s.moving h.deadlockArea then .fault .notEnabled
      else
        let s2 := s1.mapSheet sheet (fun h => { h with quiet := 0 })
        .next (if h.dlbase.toNat % 2 = 1 then s2.declare sheet l else s2)

end Sys2Proof.Machine
end

