-- ==== Sys2Proof/Machine/Fetch.lean ====
section
/-! DEFINITION. Fetching and checking a group (R82 to R84, R99, R122), follower mode (R72, R73, R100), REP stepping (R86, R88), and the placing of a word
where the machine fetches its next instruction. -/

namespace Sys2Proof.Machine

/-- The word at a byte offset of a line. -/
def wordOf (d : LineData) (off : Nat) : BitVec 32 := BitVec.ofNat 32 (getBytes d off 4)

/-- The word at an address: from the core's copy of its line, or read through the home, which leaves a copy (R99, R122). A surveyor core fetches at
physical addresses (log 8). -/
def State.fetchWord (pc : Nat) (s : State) : Acc (BitVec 32) :=
  let va := BitVec.ofNat 64 pc
  if s.cur.isSurveyor then
    (if 2 ^ 51 ≤ pc then .trap 6 va s
     else if s.moving pc then .wait s.retry s
     else if s.poisoned pc 4 then .trap 0x17 va s
     else let r := (s.countUnbacked pc).readLine s.sheetId (pc / 256 * 256); .ok (wordOf r.1 (pc % 256)) r.2)
  else
    let asid := s.asidOf s.cur
    match (s.core s.coreId).ilines.get? (asid, pc / 256) with
    | some d => .ok (wordOf d (pc % 256)) s
    | none =>
      match s.translate s.clusterId asid pc .fetch (s.coreSecure s.coreId) with
      | (.cause c, s) => .trap c va s
      | (.nack, s) => .wait s.retry s
      | (.page l pa, s) =>
        if s.moving pa then .wait s.retry s
        else if s.poisoned pa 4 then .trap 0x17 va s
        else
          let s := (s.countUnbacked pa).readPass s.clusterId pa (s.entryOf (.side s.cur)).2
          let r := if l.kind = 1 then (s.homeLine (pa / 256 * 256), s) else s.readLine s.sheetId (pa / 256 * 256)
          .ok (wordOf r.1 (pc % 256)) (r.2.mapCore s.coreId (fun k => { k with ilines := k.ilines.set (asid, pc / 256) r.1 }))

/-- The words of the group at an address: hints and the first word after them, at most n words (R82). -/
def State.fetchGroup (pc n : Nat) (s : State) : Acc (List (BitVec 32)) :=
  match n with
  | 0 => .ok [] s
  | k + 1 =>
    (s.fetchWord pc).bind (fun w s =>
      if isHintWord w then (s.fetchGroup ((pc + 4) % 2 ^ 64) k).bind (fun ws s => .ok (w :: ws) s) else .ok [w] s)

/-- A group enters the issue of the context in focus. -/
def Ctx.begin (k : Ctx) (pc : Word) (ws : List (BitVec 32)) : Ctx :=
  { k with pc := pc, grp := pc, buf := ws, hints := Hints.none, repDone := 0, wait := none, stage := 0, begun := false, keep := 0, kept := [] }

/-- A fetch that faults is reported at the first hint: EPC, FAULTVA and CAUSE, with HINT where the group has one, are written also where the context then
waits for the service of its page (R99, R359). -/
def State.fetchFault (pc : Word) (cause : Nat) (va : Word) (s : State) : State :=
  let hint := decide (va ≠ pc)
  (if cause = 6 ∧ !s.cur.isSurveyor ∧ s.isPost s.cur ∧ !s.ringBlocked s.faultSheet then s.trapRegs cause (some va) hint pc else s).raiseAt cause (some va) hint

/-- The buffer of the context in focus, filled where it is empty: by a fetch, or in a follower from its hop buffer, where the words stay until their group is
over. A group that breaks R83 raises cause 0x02 at the first hint. -/
def State.fill (s : State) : Sum Out State :=
  let k := s.ctx
  if k.buf ≠ [] then .inr s
  else if s.isFollower then
    let ws := hopGroup k.hop
    .inr (s.upd (fun k => k.begin ((ws.map Prod.fst).headD k.pc) (ws.map Prod.snd)))
  else
    let pc := k.pc
    let s := s.upd (fun k => k.begin pc [])
    match s.fetchGroup pc.toNat 4 with
    | .trap c va s => .inl (.next (s.fetchFault pc c va))
    | .wait w s => .inl (.next (s.block w))
    | .gone s => .inl (.next s)
    | .ok ws s => if groupBad s.cur.isA ws then .inl (.next (s.raiseAt 0x02 none true)) else .inr (s.upd (fun k => k.begin pc ws))

/-- The instruction that the head of the buffer stands for, at its repetition: an instruction, an illegal word, or the cause that its stepped fields raise. -/
def State.headInstr (s : State) : Except Nat Instr :=
  let k := s.ctx
  let w := k.buf.headD 0
  match decode w with
  | .error _ => .ok (.illegalInstruction w)
  | .ok i =>
    match (if isHintWord w then none else k.hints.rep) with
    | none => .ok i
    | some r =>
      if s.repZero ∨ privileged s.cur i ∨ wrongSide s.cur i then .ok i
      else match stepWord i w r k.repDone s.named with
        | .error c => .error c
        | .ok w' => (match decode w' with | .ok i' => .ok i' | .error _ => .ok (.illegalInstruction w'))

/-- The watchdog: a side has issued 65,536 words since its commit (R362). -/
def State.watchdog (s : State) : Bool := s.counts && decide (65536 ≤ s.ctx.words)

/-- What the context in focus issues next: an instruction at a state, or the outcome that the issue has instead. -/
def State.prepare (s : State) : Sum Out (Instr × State) :=
  match (s.upd (fun k => { k with wait := none })).fill with
  | .inl o => .inl o
  | .inr s =>
    if s.watchdog then .inl (raise0 0x1C s)
    else match s.headInstr with
      | .ok i => .inr (i, s)
      | .error c => .inl (raise0 c s)

/-! ## An issue -/

/-- A context attempts its next word, with `run` as the meanings of the instructions: the fetch where it is due, the checks, and the instruction, and what the
issue leaves in the counts (R69 to R72, R82). -/
def State.attempt (run : Instr → State → Out) (c : CtxId) (s : State) : Out :=
  match ({ s with cur := c } : State).prepare with
  | .inl o => o
  | .inr (i, u) => match run i u with | .next t => .next (t.countAttempt c (u.rankOf c) u.ctx.begun) | o => o

/-- The first context that a choice makes and whose word issues, with the outcome of its attempt. A context whose word only begins to wait is not ready: it
keeps its wait, and the next choice follows in the same cycle (R70). -/
def State.winnow (run : Instr → State → Out) (pick : State → Option CtxId) (n : Nat) (s : State) : State × Option (CtxId × Out) :=
  match n with
  | 0 => (s, none)
  | k + 1 =>
    match pick s with
    | none => (s, none)
    | some c =>
      match s.attempt run c with
      | .next t => if (t.ctxOf c).stalls then t.winnow run pick k else (s, some (c, .next t))
      | o => (s, some (c, o))

/-- A front end issues from the context that R70 chooses, and at every 64th issue from the one that has waited longest among the others that are ready, if
there is one (R71). At most n contexts are tried for each of the two. -/
def State.front (run : Instr → State → Out) (core : Nat) (side : Side) (n : Nat) (s : State) : Option Out :=
  match s.winnow run (fun s => s.choose core side) n with
  | (t, none) => if (s.choose core side).isNone then none else some (.next t)
  | (t, some (c, o)) =>
    if !t.sixtyFourth core side then some o
    else match t.winnow run (fun s => s.longest core side c) n with
      | (_, some (_, o)) => some o
      | (t, none) => some (t.attempt run c)

/-! ## Placing a word for the next fetch (log 10) -/

/-- The instruction word that is laid behind a hint word, one that accepts it: ADDI after IMMX, LD after ORD and LOC, VADD after the others (R84). -/
def acceptingWord (w : BitVec 32) : BitVec 32 :=
  match hintKind w with
  | 0 => 0x10000000
  | 1 => 0x04000000
  | 2 => if w.toNat / 8 % 8 = 2 then 0x64000000 else if w.toNat / 8 % 8 = 3 then 0x70000000 else 0x60000000
  | 3 => 0x60000000
  | 5 => 0x80006318
  | _ => 0x80000000

/-- The page that holds the placed word: it maps the image base to physical address 0 of sheet 0. -/
def placedLeaf : Leaf := { pa := 0, size := 65536, kind := 0, imm := false, r := true, w := true, x := true, sec := false }

/-- Thread 0 of core 0 with a started task whose C side stands at the image base, and the words there. -/
def State.placeWords (ws : List (BitVec 32)) (s : State) : State :=
  let base := BitVec.ofNat 64 Config.imageBase
  let s := { s with cur := .task 0 .c, agenda := [], mem := s.mem.writeList 0 (ws.flatMap (fun (w : BitVec 32) => leBytes 4 w.toNat)) }
  let s := s.setThread 0 { Thread.init with st := .pre, n := 24, prio := 0, launch := 0, item := 0, itemSheet := 0 }
  let s := s.setCtx (.task 0 .c) { Ctx.init with run := .running, pc := base, grp := base }
  let s := s.mapCore 0 (fun k => { k with frozen := false, retired := false, ilines := [] })
  s.mapCluster 0 (fun c => { c with tlb := [{ asid := s.asidOf s.cur, va := Config.imageBase, leaf := placedLeaf, hc := 1 }] })

end Sys2Proof.Machine
end

