-- ==== Sys2Proof/Machine/Surveyor.lean ====
section
/-! DEFINITION. The SYS group (R278 to R281, R366, R368, R370, R372, R373, R444), the surveyor trap (R364), the watchdog (R362), and the wake of SLEEPU (R301). -/

namespace Sys2Proof.Machine

/-- The surveyor core in focus; a SYS instruction issues nowhere else (R68). -/
def State.surveyorSheet (s : State) : Nat := s.sheetId

/-- What an operand outside its table gives (R280, R373). -/
def badOperand : Word := BitVec.allOnes 64

/-! ## TLBINV -/

/-- A TLBINV: which addresses and which clusters it reaches. -/
structure Inv where
  va : Nat
  asid : Nat
  size : Nat
  allAsid : Bool
  allVa : Bool
  scope : Nat
  flush : Bool
  cluster : Nat
  deriving DecidableEq, Repr

/-- The operands of a TLBINV, or none where they break R280. -/
def invOf (a b : Word) : Option Inv :=
  let x := b.toNat
  let scope := x / 2 ^ 16 % 8
  let cluster := x / 2 ^ 20
  if 2 ^ 56 ≤ a.toNat ∨ 2 ^ 28 ≤ x ∨ scope < 2 ∨ 5 < scope ∨ (scope ≠ 2 ∧ cluster ≠ 0) then none
  else some { va := a.toNat, asid := x % 4096, size := x / 2 ^ 12 % 4, allAsid := x / 2 ^ 14 % 2 == 1, allVa := x / 2 ^ 15 % 2 == 1, scope := scope,
              flush := x / 2 ^ 19 % 2 == 1, cluster := cluster }

/-- The bytes of a size code (R280); 11 counts as 64 KiB (R444). -/
def invBytes (size : Nat) : Nat := match size with | 1 => 2 ^ 21 | 2 => 2 ^ 30 | _ => 2 ^ 16

/-- Whether a TLB entry matches: its ASID, and the page of that size that holds sA (R280). -/
def Inv.entry (n : Inv) (e : TlbEntry) : Bool :=
  (n.allAsid || e.asid == n.asid) && (n.allVa || (decide (e.va ≤ n.va ∧ n.va < e.va + e.leaf.size) && (n.size == 3 || e.leaf.size == invBytes n.size)))

/-- Whether a TLBINV covers an address of an ASID, but for its scope (R444). -/
def Inv.covers (n : Inv) (asid va : Nat) : Bool :=
  (n.allAsid || asid == n.asid) && (n.allVa || va / invBytes n.size == n.va / invBytes n.size)

/-- The sheets of a TLBINV from a surveyor core of a sheet: its own, those of the launch that the ASID names there, or all of the module (R280). -/
def State.invSheets (s : State) (sheet : Nat) (n : Inv) : List Nat :=
  if n.scope = 5 then List.range 32
  else if n.scope = 4 then
    match (if n.allAsid then (s.launches.find? (fun p => p.2.live && p.2.covers sheet)).map Prod.fst else s.launchOfAsid sheet n.asid) with
    | some l => (List.range 32).filter (fun h => (s.launch l).covers h)
    | none => [sheet]
  else [sheet]

/-- Whether a cluster lies in the scope. -/
def State.invCluster (s : State) (sheet : Nat) (n : Inv) (cl : Nat) : Bool :=
  if n.scope = 2 then cl == sheet * 256 + n.cluster else (s.invSheets sheet n).contains (sheetOfCluster cl)

/-- Drops the matching entries of a cluster TLB and spills their counts (R275, R280): the entries dropped, and the state. -/
def State.dropTlb (n : Inv) (cl : Nat) (s : State) : List TlbEntry × State :=
  let out := (s.cluster cl).tlb.filter n.entry
  (out, (out.foldl (fun (s : State) e => s.spillHc cl e) s).mapCluster cl (fun c => { c with tlb := c.tlb.filter (fun e => !n.entry e) }))

/-- Dirty lines whose write-back a moving table page has refused leave the L1d as refused requests, which are retried (R278, R279). -/
def State.refuseDirty (core : Nat) (f : L1Entry → Bool) (s : State) : State :=
  let refused := fun (e : L1Entry) => f e && e.dirty != 0 && (match s.pageWalk (sheetOfCore core) e.asid (e.line * 256) .writeBack with | .nack => true | _ => false)
  ((s.core core).l1.filter refused).foldl (fun (s : State) e =>
    (s.mapCore core (fun k => k.dropEntry e.asid e.line)).refused { writePacket (.core core) (2 ^ 52) e.line e.asid false e.dirty e.data with after := e.after }) s

/-- FLUSH on one core: matching lines are written back and invalidated, and matching speculative entries go with their owners' runs (R280). -/
def State.flushCore (core : Nat) (f : Nat → Nat → Bool) (s : State) : State :=
  let r := s.writeBackAll core (.core core) (fun e => f e.asid (e.line * 256))
  let s := (r.2.2.refuseDirty core (fun e => f e.asid (e.line * 256))).mapCore core (fun k => { k with l1 := k.l1.filter (fun e => !(f e.asid (e.line * 256) && e.dirty == 0)) })
  ((s.core core).spec.filter (fun e => f e.asid (e.line * 256))).foldl (fun (s : State) e => s.overflow (core * 8 + e.slot)) s

/-- The requests not yet performed that were translated through dropped entries of a cluster. -/
def State.throughEntries (s : State) (cl : Nat) (out : List TlbEntry) : List Nat :=
  (s.net.filter (fun (p : Nat × Packet) => !p.2.performed && p.2.nacked.isNone && (s.entryOf p.2.origin).1 == cl &&
    out.any (fun e => e.covers p.2.asid (p.2.va * 256)))).map Prod.fst

/-- The part of a TLBINV that drops entries and flushes: the count, the requests to wait for, and the state. -/
def State.invalidate (sheet : Nat) (n : Inv) (s : State) : Nat × List Nat × State :=
  (s.clusters.filter (fun (c : Nat × Cluster) => s.invCluster sheet n c.1)).foldl (fun (acc : Nat × List Nat × State) c =>
    let pending := acc.2.2.throughEntries c.1 ((acc.2.2.cluster c.1).tlb.filter n.entry)
    let d := acc.2.2.dropTlb n c.1
    let match1 := fun (asid va : Nat) => n.covers asid va || d.1.any (fun e => e.covers asid va)
    let s := if n.flush then (List.range 8).foldl (fun (s : State) k => s.flushCore (c.1 * 8 + k) match1) d.2 else d.2
    (acc.1 + d.1.length, acc.2.1 ++ pending, s)) (0, [], s)

/-- The members held for service of every item: the item's sheet and number, and the hold (R361). -/
def State.allHolds (s : State) : List (Nat × Nat × Hold) :=
  s.sheets.flatMap (fun (h : Nat × Sheet) => h.2.items.flatMap (fun (i : Nat × Item) => i.2.holds.map (fun x => (h.1, i.1, x))))

/-- Everything that waits for a TLBINV and that it covers goes on: walks, tracer jobs, streams, held requests, stalled sides, and held items (R16, R124, R240, R273,
R297, R361, R444). -/
def State.retryCovered (sheet : Nat) (n : Inv) (s : State) : State :=
  let here := fun (cl : Nat) => s.invCluster sheet n cl
  let s := { s with clusters := s.clusters.map (fun (c : Nat × Cluster) => if here c.1 then
      (c.1, { c.2 with walks := c.2.walks.map (fun (w : Nat × WalkJob) => (w.1, w.2.resume n.covers)),
                       tracers := c.2.tracers.map (fun (t : Nat × TracerJob) => (t.1, t.2.resume n.covers)) }) else c) }
  let s := { s with net := s.net.map (fun (p : Nat × Packet) => (p.1, if p.2.held && here (s.entryOf p.2.origin).1 && n.covers p.2.asid (p.2.va * 256)
      then { p.2 with held := false, nacked := some s.cycle.toNat } else p.2)) }
  let asidOfThread := fun (t : Thread) => (s.launch t.launch).asid
  let s := { s with threads := s.threads.map (fun (t : Nat × Thread) => if here (clusterOfThread t.1) then
      (t.1, { t.2 with queues := t.2.queues.map (fun (q : Queue) => q.resume (n.covers (asidOfThread t.2))) }) else t) }
  let stalled := s.ctxs.filter (fun (p : CtxId × Ctx) =>
    p.1.core?.any (fun core => here (clusterOfCore core)) && p.2.wait.any (fun (w : Wait) => match w.cond with | .page va => n.covers (s.asidOf p.1) va | _ => false))
  let s := stalled.foldl (fun (s : State) (p : CtxId × Ctx) => s.mapCtx p.1 (fun k => { k with wait := none })) s
  if n.scope = 2 then s
  else
    let sheets := s.invSheets sheet n
    s.allHolds.foldl (fun (s : State) x =>
      let asid := (s.launch (s.item x.1 x.2.1).launch).asid
      s.releaseHolds x.1 x.2.1 (fun h => sheets.contains x.1 && n.covers asid h.va)) s

/-- TLBINV (R280, R444). -/
def execTlbinv (g : Guard) (d a b : BitVec 5) (s : State) : Out :=
  issueScalar (.tlbinv g d a b) g s (fun s =>
    let sheet := s.surveyorSheet
    match invOf (s.reg a) (s.reg b) with
    | none => done (s.setReg d badOperand)
    | some n =>
      if s.ctx.stage = 1 then done ((s.retryCovered sheet n).setReg d s.ctx.keep)
      else if s.outstanding (.side s.cur) then .next (s.block (Wait.plain .acked))
      else
        let r := s.invalidate sheet n
        .next ((r.2.2.upd (fun k => { k with stage := 1, keep := BitVec.ofNat 64 (min 0xFFFFFFFF r.1) })).block (Wait.plain (.performed r.2.1))))

/-! ## PGMOVE -/

/-- Whether an address is a 64 KiB page in an HBM range of this module (R260, R281). -/
def movable (pa : Nat) : Bool := decide (pa % 65536 = 0 ∧ pa / 2 ^ 41 = 0 ∧ paOff pa < 0xC00000000)

/-- Whether a page touches a format window's decoded range or packed storage. -/
def State.inWindow (s : State) (pa : Nat) : Bool :=
  (s.sheet (paSheet pa)).windows.any (fun (p : Nat × Window) => (p.2.en || p.2.changing) &&
    (overlaps p.2.lo p.2.bytes pa 65536 || (p.2.fmt == 5 && overlaps (bitsOf p.2.store.toNat 51 0) (p.2.bytes / 4 * 3) pa 65536)))

/-- The moves in progress in the module: source and destination. -/
def State.allMoves (s : State) : List (Nat × Nat) := s.sheets.flatMap (fun h => h.2.moves)

/-- The finding of R281 about a move, or 0. -/
def State.moveStatus (s : State) (src dst : Nat) : Nat :=
  if !movable src then 1
  else if !movable dst ∨ dst = src then 2
  else if s.inWindow src ∨ s.inWindow dst then 3
  else if s.allMoves.any (fun m => m.1 == src) then 4
  else if s.allMoves.any (fun m => m.1 == dst || m.2 == dst) then 5
  else if 8 ≤ ((s.sheet (paSheet src)).moves).length then 7
  else 0

/-- The bytes of a memory with those of a 64 KiB page put in the place of another page. -/
def Memory.copyPage (m : Memory) (src dst : Nat) : Memory :=
  let page := (m.filter (fun (c : Host.Cell) => decide (src ≤ c.1 ∧ c.1 < src + 65536))).map (fun (c : Host.Cell) => (dst + (c.1 - src), c.2))
  m.filter (fun (c : Host.Cell) => decide (c.1 < dst)) ++ page ++ m.filter (fun (c : Host.Cell) => decide (dst + 65536 ≤ c.1))

/-- Steps 1 and 2 of a move (R276, R278). -/
def State.startMove (src dst : Nat) (s : State) : State :=
  let inSrc := fun (x : Nat) => x / 65536 == src / 65536
  let inDst := fun (x : Nat) => x / 65536 == dst / 65536
  let dstOf := fun (x : Nat) => dst + x % 65536
  let s := (s.dropReplicas src (BitVec.allOnes 32)).dropReplicas dst (BitVec.allOnes 32)
  let s := { s with mem := s.mem.copyPage src dst,
                    tags := s.tags.filter (fun (t : Nat × BitVec 32) => !inDst t.1) ++ (s.tags.filter (fun (t : Nat × BitVec 32) => inSrc t.1)).map (fun (t : Nat × BitVec 32) => (dstOf t.1, t.2)),
                    memPoison := s.memPoison.filter (fun x => !inDst x) ++ (s.memPoison.filter inSrc).map dstOf }
  let s := (s.setPage src { s.page src with repl := false, mask := 0 }).setPage dst PageRec.init
  let s := s.mapSheet (paSheet dst) (fun h => { h with llcTags := h.llcTags.filter (fun (t : Nat × WinTag) => !inDst t.1) })
  s.mapSheet (paSheet src) (fun h => { h with llcTags := h.llcTags.filter (fun (t : Nat × WinTag) => !inSrc t.1), moves := h.moves ++ [(src, dst)] })

/-- Step 4 of a move: the source is released, and the records that waited for the page enter their rings (R278, R363). -/
def State.endMove (src : Nat) (s : State) : State :=
  let s := s.mapSheet (paSheet src) (fun h => { h with moves := h.moves.filter (fun m => m.1 ≠ src) })
  s.sheetIds.foldl (fun (s : State) h => s.drainRing h (s.sheet h).evWait.length) s

/-- PGMOVE (R278, R281). -/
def execPgmove (g : Guard) (d a b : BitVec 5) (s : State) : Out :=
  issueScalar (.pgmove g d a b) g s (fun s =>
    let src := (s.reg a).toNat
    let op := (s.reg b).toNat % 65536
    let dst := (s.reg b).toNat / 65536 * 65536
    let status := fun (n : Nat) (s : State) => done (s.setReg d (BitVec.ofNat 64 n))
    match op with
    | 0 => let n := s.moveStatus src dst; if n = 0 then status 0 (s.startMove src dst) else status n s
    | 1 =>
      if !movable src then status 1 s
      else if !s.allMoves.any (fun m => m.1 == src) then status 4 s
      else status 0 (s.endMove src)
    | _ => status 8 s)

/-! ## Targets (R373) -/

/-- The context that an address names: SLOT and SIDE in the layout of R243; none for an address outside it. -/
def contextAt (x : Word) : Option (Nat × Side) :=
  let n := x.toNat
  if 2 ^ 22 ≤ n ∨ n / 8 % 2 ≠ 0 ∨ n / 32 % 2 ≠ 0 then none else some (threadOfAddr x, if n / 16 % 2 = 1 then .c else .a)

/-- The core that an address with [5:0] = 0 names. -/
def coreAt (x : Word) : Option Nat := if 2 ^ 22 ≤ x.toNat ∨ x.toNat % 64 ≠ 0 then none else some (coreOfAddr x)

/-- The block selector of WORLD: its kind and index (R373). -/
def blockAt (x : Word) : Option (Nat × Nat) :=
  let n := x.toNat
  let kind := n / 2 ^ 32
  let i := n % 2 ^ 32
  if 4 < kind ∨ 2 ^ 16 ≤ i then none
  else if kind = 3 then (if edgeOf (BitVec.ofNat 64 i) = some (i, i / 4, if i % 4 = 0 then i / 4 + 1 else i / 4 + 8) then some (3, i) else none)
  else if i < (if kind = 4 then 4 else 8192) then some (kind, i) else none

/-! ## FREEZE -/

/-- The tasks of a launch after commit that stand on a sheet (R366, R373). -/
def State.postOn (s : State) (sheet l : Nat) : Nat :=
  (s.threads.filter (fun (t : Nat × Thread) => decide (t.2.launch = l ∧ sheetOfThread t.1 = sheet) && match t.2.st with | .post => true | .ending => true | _ => false)).length

/-- FREEZE of kind 2 drains a launch from a sheet (R366). -/
def State.drain (sheet l : Nat) (s : State) : State :=
  let mine := (s.threads.filter (fun (t : Nat × Thread) => decide (t.2.launch = l ∧ sheetOfThread t.1 = sheet ∧ t.2.st ≠ .empty))).map Prod.fst
  let k := s.launch l
  let s := { s with launches := s.launches.set l { k with drained := k.drained ++ [sheet] } }
  mine.foldl (fun (s : State) th => match (s.thread th).st with | .pre => s.discard th Why.plain | .placing => s.discard th Why.plain | _ => s) s

/-- FREEZE (R366, R368, R373). -/
def execFreeze (g : Guard) (d a b : BitVec 5) (s : State) : Out :=
  issueScalar (.freeze g d a b) g s (fun s =>
    let x := s.reg a
    let ret := fun (n : Nat) (s : State) => done (s.setReg d (BitVec.ofNat 64 n))
    match (s.reg b).toNat with
    | 0 =>
      (match contextAt x with
      | none => done (s.setReg d badOperand)
      | some (th, side) =>
        match (s.ctxOf (.task th side)).run with
        | .running => ret 0 (s.freezeSide th side 0)
        | .frozen => ret 1 s
        | _ => ret 2 s)
    | 1 =>
      (match coreAt x with
      | none => done (s.setReg d badOperand)
      | some core => if (s.core core).retired then ret 2 s else if (s.core core).frozen then ret 1 s else ret 0 (s.freezeCore core false))
    | 2 =>
      if 4096 ≤ x.toNat then done (s.setReg d badOperand)
      else (match s.launchOfAsid s.surveyorSheet x.toNat with
        | none => ret 2 s
        | some l =>
          let h := s.surveyorSheet
          if (s.launch l).drained.contains h then ret (1 + s.postOn h l * 2 ^ 32) s
          else let s := s.drain h l; ret (s.postOn h l * 2 ^ 32) s)
    | _ => done (s.setReg d badOperand))

/-! ## THAW -/

/-- An instruction that a side leaves while it waits no longer stands in what it waits for: a barrier, a group, or a turn for an entry. -/
def State.leaveWait (th : Nat) (side : Side) (s : State) : State :=
  let c : CtxId := .task th side
  let cl := clusterOfThread th
  let turn := fun (s : State) => s.mapCluster cl (fun k => { k with walkWait := k.walkWait.filter (· ≠ th), walkQ := k.walkQ.filter (· ≠ grantMark th) })
  match (s.ctxOf c).wait.map (fun (w : Wait) => w.cond) with
  | some .gang => s.mapThread th (fun t => { t with gangMask := none, gangGo := false })
  | some .pmerge => s.mapThread th (fun t => { t with pmerge := none, pmergeRes := none })
  | some .mwalkg => s.mapThread th (fun t => { t with mwalkg := none, mwalkgId := none })
  | some .mwalkgForm => (turn s).mapThread th (fun t => { t with mwalkg := none, mwalkgId := none })
  | some .walkGrant => turn s
  | some .tracerGrant => s.mapCluster cl (fun k => { k with tracerWait := k.tracerWait.filter (· ≠ c) })
  | _ => s

/-- A side resumes at its EPC, or at EPC + 4; one stopped in a wait resumes there (R362, R373). Its count of words starts at 0. -/
def State.thawSide (th : Nat) (side : Side) (skip : Bool) (s : State) : State :=
  let epc := match side with | .a => (s.thread th).epca | .c => (s.thread th).epcc
  (if skip then s.leaveWait th side else s).mapCtx (.task th side) (fun k =>
    let k := { k with run := .running, frozenCause := 0, words := 0 }
    if skip then k.dropGroup.goTo (epc + 4) else if k.stage ≠ 0 ∨ k.keep ≠ 0 then k else { k.goTo epc with wait := k.pageWait })

/-- The block that a THAW of kind 0 names releases its engine, or its host function (R370). -/
def State.thawBlock (kind i : Nat) (s : State) : Option State :=
  match kind with
  | 1 => if (s.cluster i).engineHeld.contains 1 then some (s.mapCluster i (fun c => { c with engineHeld := c.engineHeld.filter (· ≠ 1) })) else none
  | 2 => if (s.cluster i).engineHeld.contains 2 then some (s.mapCluster i (fun c => { c with engineHeld := c.engineHeld.filter (· ≠ 2) })) else none
  | 4 => if (s.port i).stopped then some (s.mapPort i (fun p => { p with stopped := false })) else none
  | _ => none

/-- THAW (R361, R362, R366, R370, R373). -/
def execThaw (g : Guard) (d a b : BitVec 5) (s : State) : Out :=
  issueScalar (.thaw g d a b) g s (fun s =>
    let x := s.reg a
    let y := (s.reg b).toNat
    let kind := y % 4
    let action := y / 256
    let sheet := s.surveyorSheet
    let ret := fun (n : Nat) (s : State) => done (s.setReg d (BitVec.ofNat 64 n))
    if 2 < action ∨ y / 4 % 64 ≠ 0 then done (s.setReg d badOperand)
    else match kind with
      | 0 =>
        if x.toNat < 2 ^ 32 then
          match contextAt x with
          | none => done (s.setReg d badOperand)
          | some (th, side) =>
            let k := s.ctxOf (.task th side)
            let t := s.thread th
            if k.run ≠ .frozen then ret 2 s
            else if action = 2 then ret 0 (s.failItem t.itemSheet t.item k.frozenCause)
            else ret 0 (s.thawSide th side (action == 1))
        else match blockAt x with
          | none => done (s.setReg d badOperand)
          | some (bk, i) => if action ≠ 0 then ret 3 s else (match s.thawBlock bk i with | some s => ret 0 s | none => ret 2 s)
      | 1 =>
        (match coreAt x with
        | none => done (s.setReg d badOperand)
        | some core => if action ≠ 0 then ret 3 s else if (s.core core).frozen then ret 0 (s.mapCore core (fun k => { k with frozen := false })) else ret 2 s)
      | 2 =>
        if 4096 ≤ x.toNat then done (s.setReg d badOperand)
        else if action ≠ 0 then ret 3 s
        else (match s.launches.find? (fun p => p.2.live && p.2.asid == x.toNat && p.2.drained.contains sheet) with
          | none => ret 2 s
          | some (l, k) =>
            if s.launches.any (fun p => p.2.live && p.1 != l && p.2.covers sheet) then ret 2 s
            else ret 0 { s with launches := s.launches.set l { k with drained := k.drained.filter (· ≠ sheet) } })
      | _ =>
        if 2 ^ 32 ≤ x.toNat then done (s.setReg d badOperand)
        else if action = 1 then ret 3 s
        else (match s.allHolds.find? (fun p => p.2.2.sheet == sheet && p.2.2.no == x.toNat) with
          | none => ret 2 s
          | some (h, i, hold) => ret 0 (if action = 0 then s.releaseHolds h i (· == hold) else s.failItem h i hold.cause)))

/-! ## CSPARE -/

/-- A task whose state is lost: its team is discarded before commit, and its launch fails after it (R368). -/
def State.loseTask (th : Nat) (s : State) : State :=
  let t := s.thread th
  let it := s.item t.itemSheet t.item
  if t.st = .empty then s
  else if s.teamCommitted it then s.failLaunch t.launch 0x18
  else it.threads.foldl (fun (s : State) x =>
    if (s.thread x).st ≠ .empty ∧ (s.thread x).item = t.item ∧ (s.thread x).itemSheet = t.itemSheet then s.discard x Why.plain else s) s

/-- A context of a core whose state cannot be read: a slot, or a handler context, numbered 8 and 9, whose walk belongs to a task after commit. -/
def State.loseContext (core k : Nat) (s : State) : State :=
  if k < 8 then s.loseTask (core * 8 + k)
  else match s.handlers.get? (core, k - 8) with
    | none => s
    | some h => (s.failLaunch h.launch 0x18).endHandler core (k - 8) true

/-- The core's state moves to the spare, which takes its number: clean lines go (R368). -/
def State.moveCore (core : Nat) (s : State) : State :=
  let lost := (s.core core).unreadable
  let s := s.mapCore core (fun k => { k with frozen := false, moved := true, unreadable := [], ilines := [], l1 := (k.l1.filter (fun e => e.dirty != 0)) })
  let s := s.mapCluster (clusterOfCore core) (fun c => { c with spare := some core })
  let s := { s with lifetime := { s.lifetime with takeovers := sat16 s.lifetime.takeovers } }
  lost.foldl (fun (s : State) k => s.loseContext core k) s

/-- The core is retired: its teams are treated as unreadable, and its freeze ends (R368). -/
def State.retireCore (core : Nat) (s : State) : State :=
  let s := s.mapCore core (fun k => { k with frozen := false, retired := true, unreadable := [] })
  (List.range 10).foldl (fun (s : State) k => s.loseContext core k) s

/-- CSPARE (R368, R373). -/
def execCspare (g : Guard) (d : BitVec 5) (ab : BitVec 5 × BitVec 5) (s : State) : Out :=
  issueScalar (.cspare g d ab) g s (fun s =>
    let ret := fun (n : Nat) (s : State) => done (s.setReg d (BitVec.ofNat 64 n))
    if s.reg ab.2 ≠ 0 then done (s.setReg d badOperand)
    else match coreAt (s.reg ab.1) with
    | none => done (s.setReg d badOperand)
    | some core =>
      if !(s.core core).frozen then ret 1 s
      else if (s.cluster (clusterOfCore core)).spare.isSome then ret 2 (s.retireCore core)
      else ret (if (s.core core).unreadable.isEmpty then 0 else 3) (s.moveCore core))

/-! ## WORLD -/

/-- The world bit of a block (R370). -/
def State.worldBit (s : State) (kind i : Nat) : Bool :=
  match kind with
  | 0 => (s.cluster i).worldCl
  | 1 => (s.cluster i).worldArr
  | 2 => (s.cluster i).worldTrc
  | 3 => (s.edge i).world
  | _ => (s.port i).secure

def State.setWorld (kind i : Nat) (w : Bool) (s : State) : State :=
  match kind with
  | 0 => s.mapCluster i (fun c => { c with worldCl := w })
  | 1 => s.mapCluster i (fun c => { c with worldArr := w })
  | 2 => s.mapCluster i (fun c => { c with worldTrc := w })
  | 3 => s.mapEdge i (fun e => { e with world := w })
  | _ => s.mapPort i (fun p => { p with secure := w })

/-- Whether a block is busy: tasks or handlers on the cluster, jobs of the engine, commands of the edge or the port. -/
def State.blockBusy (s : State) (kind i : Nat) : Bool :=
  match kind with
  | 0 => s.threads.any (fun (t : Nat × Thread) => t.2.st != .empty && clusterOfThread t.1 == i) || s.handlers.any (fun (h : (Nat × Nat) × Handler) => clusterOfCore h.1.1 == i)
  | 1 => !(s.cluster i).walks.isEmpty
  | 2 => !(s.cluster i).tracers.isEmpty
  | 3 => !(s.edge i).queue.isEmpty || !(s.edge i).dark.isEmpty
  | _ => (s.port i).cmdhead != (s.port i).cmdtail

/-- WORLD (R370, R373). -/
def execWorld (g : Guard) (d a b : BitVec 5) (s : State) : Out :=
  issueScalar (.world g d a b) g s (fun s =>
    match blockAt (s.reg a) with
    | none => done (s.setReg d badOperand)
    | some (kind, i) =>
      if 2 ≤ (s.reg b).toNat ∨ s.blockBusy kind i then done (s.setReg d badOperand)
      else done ((s.setWorld kind i (s.reg b == 1)).setReg d (if s.worldBit kind i then 1 else 0)))

/-! ## Events -/

/-- SURVEYOR_TRAP: while the ring is not empty, the lowest-numbered surveyor core that accepts event interrupts takes one at its group boundary (R364). -/
def execSurveyorTrap (sheet : Nat) (s : State) : Out :=
  let h := s.sheet sheet
  match (List.range 4).find? (fun k => (h.sstat.get 0 k).toNat % 2 == 1) with
  | none => .fault .notEnabled
  | some k =>
    let c := s.ctxOf (.surveyor sheet k)
    if h.evhead = h.evtail ∨ c.run = .stopped ∨ c.pc ≠ c.grp ∨ c.repDone ≠ 0 ∨ c.stage ≠ 0 ∨ c.keep ≠ 0 then .fault .notEnabled
    else .next (s.surveyorTrap sheet k)

/-- WATCHDOG_EXPIRE: the next word of a side that has issued 65,536 words since its commit raises cause 0x1C (R115, R362). -/
def execWatchdogExpire (th : Nat) (side : Side) (s : State) : Out :=
  let c : CtxId := .task th side
  let s' : State := { s with cur := c }
  if !s.ready c || !s'.watchdog then .fault .notEnabled else raise0 0x1C s'

/-- SLEEPU_WAKE: a side that waits at SLEEPU until CYCLE reaches sA (R301); a recording takes its ordering entry (R379). -/
def execSleepuWake (th : Nat) (side : Side) (s : State) : Out :=
  let c : CtxId := .task th side
  let s' : State := { s with cur := c }
  match (s.ctxOf c).wait, decode ((s.ctxOf c).buf.headD 0) with
  | some w, .ok (.sleepu g d a b) =>
    match w.cond with
    | .cycle n =>
      if !s.ready c || decide (n ≠ (s'.reg a).toNat) then .fault .notEnabled
      else (match s'.sleepWake d b with | .next t => .next ((State.engrave (.sleepu g d a b) s' t).countAttempt c (s.rankOf c) (s.ctxOf c).begun) | o => o)
    | _ => .fault .notEnabled
  | _, _ => .fault .notEnabled

end Sys2Proof.Machine
end

