-- ==== Sys2Proof/Machine/Host.lean ====
section
/-! DEFINITION. The host link: ports and their registers (R431, R432), the command ring (R433), the operations (R434), the checks of a launch (R230, R335, R410),
and attestation (R440, R441). -/

namespace Sys2Proof.Machine

/-! ## Registers of BAR0 -/

/-- IDENT (R432). -/
def identOf (port : Nat) : Word := BitVec.ofNat 64 (0x5359 * 2 ^ 48 + 0x9632 * 2 ^ 32 + Config.stepping.toNat * 2 ^ 16 + port % 4)

/-- STATUS (R432). -/
def State.statusReg (s : State) : Word := BitVec.ofNat 64 (s.bootStage % 8 * 2 ^ 61 + s.bootReason % 32 * 2 ^ 56 + s.bootPort % 4)

/-- A read of BAR0: while STAGE is not 2 only IDENT and STATUS answer (R432, R436). -/
def State.bar0Read (s : State) (port off : Nat) : Word :=
  let p := s.port port
  if off = 0 then identOf port
  else if off = 8 then s.statusReg
  else if s.bootStage ≠ 2 then BitVec.allOnes 64
  else match off with
    | 0x10 => p.cmdbase
    | 0x18 => p.cmdtail
    | 0x20 => p.cmdhead
    | 0x28 => s.grid
    | 0x30 => p.evport
    | _ => 0

/-- A write of a register of a port, dropped while STAGE is not 2 (R436). -/
def portWrite (port : Nat) (f : HostPort → HostPort) (s : State) : Out :=
  if 4 ≤ port then .fault .notEnabled else if s.bootStage ≠ 2 then .next s else .next (s.mapPort port f)

/-- CMDBASE_WRITE (R433). -/
def execCmdbaseWrite (port : Nat) (v : BitVec 64) (s : State) : Out := portWrite port (fun p => { p with cmdbase := v }) s

/-- CMDTAIL_WRITE (R433). -/
def execCmdtailWrite (port : Nat) (v : BitVec 64) (s : State) : Out := portWrite port (fun p => { p with cmdtail := BitVec.ofNat 64 (v.toNat % 2 ^ 32) }) s

/-- HOST_REG_WRITE: GRID, before the first launch of the module; writes of any other offset without a row are dropped (R411, R432). -/
def execHostRegWrite (port off : Nat) (v : BitVec 64) (s : State) : Out :=
  if 4 ≤ port ∨ off = 0x8 ∨ off = 0x10 ∨ off = 0x18 then .fault .notEnabled
  else if off = 0x28 ∧ s.bootStage = 2 ∧ s.launches.isEmpty = true then .next { s with grid := v &&& 0xFF }
  else .next s

/-! ## Worlds and accesses by the host -/

/-- The block selector of a port in a record (R373). -/
def portSelector (port : Nat) : Word := BitVec.ofNat 64 (4 * 2 ^ 32 + port)

/-- Whether a host access breaks the worlds: a non-secure function reaches a secure region (R370, R439). -/
def State.hostBreach (s : State) (port pa n : Nat) : Bool :=
  !(s.port port).secure && (List.range ((pa % 65536 + n + 65535) / 65536)).any (fun k => s.secureRegion ((pa / 65536 + k) * 65536))

/-- The violation is recorded, and the host function stops (R370). -/
def State.stopPort (port pa : Nat) (s : State) : State :=
  (s.recordOf (paSheet pa) 9 0 (portSelector port) (BitVec.ofNat 64 pa)).mapPort port (fun p => { p with stopped := true })

/-- Whether a page of a range is moving, so that the access is retried (R278). -/
def State.anyMoving (s : State) (pa n : Nat) : Bool := (List.range ((pa % 65536 + n + 65535) / 65536)).any (fun k => s.moving (pa + k * 65536))

/-- The lines of a physical range. -/
def paLines (pa n : Nat) : List Nat := (List.range ((pa % 256 + n + 255) / 256)).map (fun k => (pa / 256 + k) * 256)

/-- A host write of memory: performed at the homes, and the tag of each line that it writes becomes 0 (R253, R322). -/
def State.hostWrite (pa : Nat) (bs : List Byte) (s : State) : State :=
  let s := s.performSpan pa bs (bs.length / 256 + 2)
  (paLines pa bs.length).foldl (fun (s : State) l => if s.backed l then s.setTag l 0 else s) s

/-- The latest write of a port waits for the change of a window's EN (R187). -/
def State.portHeld (s : State) (port : Nat) : Bool :=
  match (s.port port).cfgWait with | some (h, w) => ((s.sheet h).windows.get? w).any (fun x => x.changing) | none => false

/-- A host write of configuration space, doubleword by doubleword from the k-th on: what a register refuses is dropped, and a write that changes EN of a window
completes with the change (R187, R435). The result says whether every write is done. -/
def State.hostConfig (port pa : Nat) (ws : List Word) (k : Nat) (s : State) : Bool × State :=
  match ws with
  | [] => (true, s.mapPort port (fun p => { p with cfgDone := 0, cfgWait := none }))
  | w :: rest =>
    let s := match s.configWrite (pa + 8 * k) w (s.port port).secure with | .ok s => s | .error _ => s
    match s.windowChanging (pa + 8 * k) with
    | some x => (false, s.mapPort port (fun p => { p with cfgDone := k + 1, cfgWait := some x }))
    | none => s.hostConfig port pa rest (k + 1)

/-- Bytes as the host reads them, at their homes (R322, R435). -/
def State.hostRead (pa n : Nat) (s : State) : List Byte × State :=
  if paCfg pa then ((List.range (n / 8)).flatMap (fun k => leBytes 8 (s.configRead (pa + 8 * k)).toNat), s)
  else (s.homeBytes pa n, (paLines pa n).foldl (fun (s : State) l => s.countUnbacked l) s)

/-! ## The command ring (R433) -/

/-- The bytes of the command that stands k places after CMDHEAD. -/
def State.cmdBytes (s : State) (port k : Nat) : List Byte := s.hostMem.readList ((s.port port).cmdAt k) 64

/-- Whether a host read of n bytes completes with an error. -/
def State.hostFails (s : State) (a n : Nat) : Bool := s.hostErr.any (fun r => decide (a < r.1 + r.2 ∧ r.1 < a + n))

/-- The command at CMDHEAD completes: its status byte, CMDHEAD, and MSI-X vector 0 (R432, R433). -/
def State.completeHead (port status : Nat) (s : State) : State :=
  let p := s.port port
  ({ s with hostMem := s.hostMem.write (p.cmdAt 0 + 0x3F) (BitVec.ofNat 8 status) }).mapPort port (fun p =>
    { p with cmdhead := BitVec.ofNat 64 ((p.cmdhead.toNat + 1) % 2 ^ 32), msix := p.msix ++ [0] })

/-- Commands that are done and stand at CMDHEAD now complete, at most n of them. -/
def State.completeDone (port n : Nat) (s : State) : State :=
  match n with
  | 0 => s
  | m + 1 =>
    let i := (s.port port).indexAt 0
    match (s.port port).finished.find? (fun x => x.1 == i) with
    | none => s
    | some x => ((s.mapPort port (fun p => { p with finished := p.finished.filter (fun y => y.1 != i) })).completeHead port x.2).completeDone port m

/-- The command k places after CMDHEAD is done: it completes, and those behind it that wait for that; or it waits for those before it, since commands complete in ring
order (R432). -/
def State.complete (port k status : Nat) (s : State) : State :=
  if k = 0 then (s.completeHead port status).completeDone port (s.port port).finished.length
  else s.mapPort port (fun p => { p with finished := p.finished ++ [(p.indexAt k, status)] })

/-- The offsets of the body that an operation uses (R434). -/
def bodyUses (op off : Nat) : Bool :=
  match op with
  | 1 => decide (8 ≤ off ∧ off < 0x1C)
  | 2 => decide (8 ≤ off ∧ off < 0x1C)
  | 3 => decide (8 ≤ off ∧ off < 0x30)
  | 4 => decide (8 ≤ off ∧ off < 0x1C)
  | 5 => decide ((0x18 ≤ off ∧ off < 0x1A) ∨ (0x20 ≤ off ∧ off < 0x28))
  | 6 => decide ((0x18 ≤ off ∧ off < 0x1A) ∨ off = 0x1B)
  | _ => decide (8 ≤ off ∧ off < 0x18)

/-- A reserved byte of the frame that is not 0. -/
def frameBad (op : Nat) (bs : List Byte) : Bool :=
  (List.range 63).any (fun k => decide (1 ≤ k) && !(decide (4 ≤ k ∧ k < 8)) && !bodyUses op k && bs.getD k 0 != 0)

/-- The command k places after CMDHEAD is an end launch without FORCE whose launch has not ended: it is taken and waits (R434). -/
def State.endWaits (s : State) (port k : Nat) : Bool :=
  let bs := s.cmdBytes port k
  let id := leAt bs 0x18 2
  leAt bs 0 1 == 6 && !frameBad 6 bs && leAt bs 0x1B 1 == 0 && (s.launch id).live && s.launchBusy id

/-- The place of the command that the service core handles next: the module runs, its function is not stopped, CMDBASE is valid, and the command stands before CMDTAIL
and within a ring's size of CMDHEAD (R433, R436). Commands are handled in order (R322); only an end launch that waits lets those behind it be taken (log 90). -/
def State.cmdPlace (s : State) (port : Nat) : Option Nat :=
  let p := s.port port
  let n := p.waiting
  if port < 4 ∧ s.bootStage = 2 ∧ p.stopped = false ∧ p.cmdbase.toNat % 16 ≤ 8 ∧ bitsOf p.cmdbase.toNat 11 4 = 0 ∧ n < 2 ^ 31 then
    (List.range (min n p.ringSize)).find? (fun k => !(k != 0 && p.finished.any (fun x => x.1 == p.indexAt k)) && !s.endWaits port k)
  else none

/-- The part that the operations share: the port has no write that is not done, the command that it handles next is this operation, and its reserved bytes are 0. The
operation gets the command's place and its bytes. -/
def cmdOp (op port : Nat) (s : State) (f : Nat → List Byte → Out) : Out :=
  match s.cmdPlace port with
  | none => .fault .notEnabled
  | some k =>
    let bs := s.cmdBytes port k
    if s.portHeld port ∨ leAt bs 0 1 ≠ op then .fault .notEnabled
    else if frameBad op bs then .next (s.complete port k 0x01)
    else f k bs

/-- CMD_INVALID_OP: an operation outside 1 to 7 (R432). -/
def execCmdInvalidOp (port : Nat) (s : State) : Out :=
  match s.cmdPlace port with
  | none => .fault .notEnabled
  | some k =>
    let op := leAt (s.cmdBytes port k) 0 1
    if 1 ≤ op ∧ op ≤ 7 then .fault .notEnabled else .next (s.complete port k 0x01)

/-! ## Write and read -/

/-- The checks that write and read share: the status, or none (R433, R434). -/
def State.accessStatus (s : State) (port pa len : Nat) : Option Nat :=
  if 2 ^ 52 ≤ pa ∨ len = 0 ∨ 2 ^ 20 < len ∨ (paCfg pa = true ∧ (pa % 8 ≠ 0 ∨ len % 8 ≠ 0)) then some 0x1B
  else if paCfg pa && !(s.port port).secure then some 0x08
  else none

/-- CMD_WRITE (R434). -/
def execCmdWrite (port : Nat) (s : State) : Out :=
  cmdOp 1 port s (fun k bs =>
    let pa := leAt bs 8 8
    let src := leAt bs 0x10 8
    let len := leAt bs 0x18 4
    match s.accessStatus port pa len with
    | some c => .next (s.complete port k c)
    | none =>
      if s.hostFails src len then .next (s.complete port k 0x19)
      else
        let data := s.hostMem.readList src len
        if paCfg pa then
          let n := (s.port port).cfgDone
          let r := s.hostConfig port pa ((wordsOf data (len / 8)).drop n) n
          .next (if r.1 then r.2.complete port k 0 else r.2)
        else if s.hostBreach port pa len then .next ((s.complete port k 0x09).stopPort port pa)
        else if s.anyMoving pa len then .fault .notEnabled
        else .next ((s.hostWrite pa data).complete port k 0))

/-- CMD_READ (R434). -/
def execCmdRead (port : Nat) (s : State) : Out :=
  cmdOp 2 port s (fun k bs =>
    let pa := leAt bs 8 8
    let dst := leAt bs 0x10 8
    let len := leAt bs 0x18 4
    match s.accessStatus port pa len with
    | some c => .next (s.complete port k c)
    | none =>
      if !paCfg pa && s.hostBreach port pa len then .next ((s.complete port k 0x09).stopPort port pa)
      else if !paCfg pa && s.anyMoving pa len then .fault .notEnabled
      else let r := s.hostRead pa len; .next (({ r.2 with hostMem := r.2.hostMem.writeList dst r.1 } : State).complete port k 0))

/-! ## Create launch -/

/-- The breadth of a domain: a level may not be wider than the one before it; a handler level comes last (R334, R335). -/
def domainRank (d : Nat) : Nat := if d = 6 then 8 else d

/-- The narrowest scope that a domain allows (R335). -/
def domainScope (d : Nat) : Nat := match d with | 0 => 4 | 1 => 3 | 2 => 3 | 3 => 2 | 4 => 1 | _ => 0

/-- The largest EXTENT of a domain below the given domains, in a rectangle of so many sheets (R335): crows and clusters count per sheet, and straight below the
rectangle every sheet counts. -/
def domainExtent (sheets : Nat) (before : List Nat) (d : Nat) : Nat :=
  let n := if before.contains 0 && !before.contains 1 then sheets else 1
  match d with | 0 => 1 | 1 => sheets | 2 => 16 * n | 3 => if before.contains 2 then 16 else 256 * n | 4 => 8 | 5 => 8 | 6 => 2 | _ => 32

/-- One level of a legend against R334 and R335. -/
def levelOk (lg : List Byte) (l n : Nat) : Bool :=
  let v := levelAt lg l
  let before := (List.range l).map (levelAt lg)
  let sheets := leAt lg 6 2 * leAt lg 8 2
  decide (v.domain < 8 ∧ v.scope ≤ 6 ∧ domainScope v.domain ≤ v.scope ∧ v.place ≤ 2 ∧ leAt lg (67 + 8 * l) 1 < 2 ∧ leAt lg (70 + 8 * l) 2 = 0 ∧
      1 ≤ v.extent ∧ v.extent ≤ domainExtent sheets (before.map (fun b => b.domain)) v.domain) &&
    before.all (fun b => decide (domainRank b.domain ≤ domainRank v.domain)) && (!v.follow || decide (v.domain = 4 ∧ v.extent = 8)) &&
    (v.domain != 6 || decide (l + 1 = n)) && (v.domain != 7 || decide (l + 1 = n) || (decide (l + 2 = n) && (levelAt lg (l + 1)).domain == 6))

/-- A legend against R333 to R335, but for its rectangle. -/
def legendOk (lg : List Byte) : Bool :=
  let n := leAt lg 0 1
  let zero := fun (a b : Nat) => (List.range (b - a)).all (fun k => lg.getD (a + k) 0 == 0)
  decide (1 ≤ n ∧ n ≤ 8 ∧ leAt lg 1 1 ≤ 15 ∧ 1 ≤ leAt lg 6 2 ∧ 1 ≤ leAt lg 8 2 ∧ leAt lg 0x0A 1 ≤ 127 ∧ leAt lg 0x10 8 % 16 = 0) &&
    (leAt lg 0x0A 1 != 0 || leAt lg 0x10 8 == 0) && zero 0x0B 0x10 && zero 0x18 0x40 && zero (0x40 + 8 * n) 0x80 && (List.range n).all (fun l => levelOk lg l n) &&
    decide ((legendLevels lg).foldl (fun k v => if v.domain = 6 then k else k * v.extent) 1 ≤ 65536)

/-- One halfword of a queue configuration (R230). -/
def queueHalfOk (h : Nat) : Bool :=
  let depth := h % 32
  let kind := h / 32 % 2
  let prod := h / 64 % 4
  let cons := h / 256 % 2
  if depth = 0 then h == 0 else decide (h < 512 ∧ depth ≤ 16 ∧ prod ≠ 3 ∧ prod ≠ cons ∧ (kind = 1 ↔ prod = 2))

/-- A legend in the coordinates of this module: the host gives the global ones (R411). -/
def localLegend (grid : Word) (lg : List Byte) : List Byte :=
  lg.take 2 ++ leBytes 2 (leAt lg 2 2 - 8 * (grid.toNat % 16)) ++ leBytes 2 (leAt lg 4 2 - 4 * (grid.toNat / 16 % 16)) ++ lg.drop 6

/-- Whether a global rectangle lies in the grid of the fabric and has its origin in this module; it may go on into the modules to the east and north (R335, R411,
log 30). -/
def inGrid (grid : Word) (x y w h : Nat) : Bool :=
  let x0 := 8 * (grid.toNat % 16)
  let y0 := 4 * (grid.toNat / 16 % 16)
  decide (1 ≤ w ∧ 1 ≤ h ∧ x0 ≤ x ∧ x < x0 + 8 ∧ y0 ≤ y ∧ y < y0 + 4 ∧ x + w ≤ 128 ∧ y + h ≤ 64)

/-- Bytes that a launch's tables map, read before the launch exists (R335): a cause, or none while a page moves (R278). -/
def State.tableRead (table va : Nat) (secure : Bool) (n : Nat) (s : State) : Except (Option Nat) (List Byte) × State :=
  (spanReads va n (n / 256 + 2)).foldl (fun (acc : Except (Option Nat) (List Byte) × State) p =>
    match acc with
    | (.error e, s) => (.error e, s)
    | (.ok bs, s) =>
      if 2 ^ 56 ≤ p.1 then (.error (some 6), s)
      else match s.checkLeaf .load secure (s.walkFrom .load table p.1 4) with
        | .cause c => (.error (some c), s)
        | .nack => (.error none, s)
        | .page _ pa => if s.moving pa then (.error none, s) else (.ok (bs ++ s.homeBytes pa p.2), s.countUnbacked pa)) (.ok [], s)

/-- Whether a launch may take a sheet: no launch holds it, or a launch that is drained from it and has no slot there (R335, R366). -/
def State.sheetFree (s : State) (h : Nat) : Bool :=
  s.launches.all (fun (o : Nat × Launch) => !(o.2.live && o.2.covers h) ||
    (o.2.drained.contains h && s.threads.all (fun (t : Nat × Thread) => !decide (t.2.st ≠ .empty ∧ t.2.launch = o.1 ∧ sheetOfThread t.1 = h))))

/-! ## Routing tables (R410, R411) -/

/-- The Meridian port on the face of a sheet of the rim, by direction: 0 east, 1 north, 2 west, 3 south (R411). -/
def meridianPort (sheet d : Nat) : Nat := match d with | 0 => 16 + sheet / 8 | 1 => sheet % 8 | 2 => 20 + sheet / 8 | _ => 8 + sheet % 8

/-- The output by which a route leaves a sheet toward a place of the grid, in dimension order: a Meridian port where its next hop lies in another module (R409, R410,
R411). Places are counted from sheet 0 of this module. -/
def routeOut (sheet : Nat) (dst : Nat × Nat) : RouteOut :=
  let x := sheet % 8
  let y := sheet / 8
  if x < dst.1 then (if x = 7 then .meridian (meridianPort sheet 0) else .east)
  else if dst.1 < x then (if x = 0 then .meridian (meridianPort sheet 2) else .west)
  else if y < dst.2 then (if y = 3 then .meridian (meridianPort sheet 1) else .north)
  else if dst.2 < y then (if y = 0 then .meridian (meridianPort sheet 3) else .south)
  else .here

/-- The routing table that a sheet of a launch's rectangle loads (R410). -/
def Launch.routing (l : Launch) (sheet : Nat) : List ((Nat × Nat) × RouteOut) :=
  (List.range l.h).flatMap (fun j => (List.range l.w).map (fun i => let dst := (l.x + i, l.y + j); (dst, routeOut sheet dst)))

/-- Whether a route may use an output of a sheet: an edge with 2 usable groups in its direction, or a trained Meridian port, and of the launch's world (R410). No WORLD
selector names a Meridian port, whose world bit stays 0 (R373, log 30). -/
def State.outOk (s : State) (secure : Bool) (sheet : Nat) (o : RouteOut) : Bool :=
  let edge := fun (e : Nat) (n : Edge → Nat) => let k := s.edge e; decide (2 ≤ n k) && k.world == secure
  match o with
  | .here => true
  | .east => edge (4 * sheet) Edge.pos
  | .north => edge (4 * sheet + 1) Edge.pos
  | .west => edge (4 * (sheet - 1)) Edge.neg
  | .south => edge (4 * (sheet - 8) + 1) Edge.neg
  | .meridian p => s.meridian.contains p && !secure

/-- The routing tables of a rectangle pass (R410). -/
def State.routesOk (s : State) (l : Launch) : Bool :=
  (List.range 32).all (fun h => !l.covers h || (l.routing h).all (fun r => s.outOk l.secure h r.2))

/-- Each sheet of the rectangle loads its routing table (R410). -/
def State.loadRoutes (id : Nat) (l : Launch) (s : State) : State :=
  ((List.range 32).filter (fun h => l.covers h)).foldl (fun (s : State) h => s.mapSheet h (fun k => { k with routing := k.routing.set id (l.routing h) })) s

/-- The lowest number below a bound that a test does not refuse. -/
def lowestFree (n : Nat) (used : Nat → Bool) : Option Nat := (List.range n).find? (fun k => !used k)

/-- An entry of the phaser list within its limits (R434). -/
def phaserEntryOk (e : Nat) : Bool := decide (e % 8 ≠ 7 ∧ e / 64 % 1024 = 0) && (decide (e / 16 % 4 ≠ 0) || decide (e / 65536 % 65536 = 0))

/-- Creates the phasers of a list: their ids, or none where one cannot be created (R325, R434). -/
def State.makePhasers (l sheet : Nat) (es : List Nat) (s : State) : Option (List Nat × State) :=
  match es with
  | [] => some ([], s)
  | e :: rest =>
    let r := s.newPhaser l sheet (e % 8) (e / 8 % 2 == 1) (e / 16 % 4) (e / 65536 % 65536)
    if ((r.2.phaserAt r.1).any Phaser.live) = false ∨ (s.phaserAt r.1).any Phaser.live = true then none
    else (r.2.makePhasers l sheet rest).map (fun x => (r.1 :: x.1, x.2))

/-- The ASID table entry of a launch in every sheet of its rectangle (R273, R434). -/
def State.enterAsid (l : Launch) (table : Nat) (s : State) : State :=
  ((List.range 32).filter (fun h => l.covers h)).foldl (fun (s : State) h =>
    s.performBytes (bitsOf (s.sheet h).asidtab.toNat 51 15 * 2 ^ 15 + 8 * l.asid) (leBytes 8 (2 ^ 63 + table))) s

/-- A page of an ASID table that a new launch is entered in moves, so that the write is retried (R278). -/
def State.asidMoving (s : State) (l : Launch) : Bool :=
  (List.range 32).any (fun h => l.covers h && s.moving (bitsOf (s.sheet h).asidtab.toNat 51 15 * 2 ^ 15))

/-- CMD_CREATE_LAUNCH (R434). -/
def execCmdCreateLaunch (port : Nat) (s : State) : Out :=
  cmdOp 3 port s (fun k bs =>
    let fail := fun (c : Nat) => Host.Outcome.next (s.complete port k c)
    let la := leAt bs 8 8
    let table := leAt bs 0x10 8
    let pa := leAt bs 0x18 8
    let n := leAt bs 0x20 1
    let world := leAt bs 0x21 1
    let np := leAt bs 0x22 2
    let x := leAt bs 0x24 2
    let y := leAt bs 0x26 2
    let w := leAt bs 0x28 2
    let h := leAt bs 0x2A 2
    if table % 2048 ≠ 0 ∨ 2 ^ 51 ≤ table ∨ n = 0 ∨ 64 < n ∨ 2 ≤ world ∨ 1024 < np ∨ (np ≠ 0 ∧ pa = 0) then fail 0x1B
    else if world = 1 ∧ (s.port port).secure = false then fail 0x09
    else if s.hostFails la (128 * n) || (np != 0 && s.hostFails pa (8 * np)) then fail 0x19
    else
      let global := (List.range n).map (fun k => s.hostMem.readList (la + 128 * k) 128)
      let legends := global.map (localLegend s.grid)
      let first := legends.headD []
      let list := (List.range np).map (fun k => leNat (s.hostMem.readList (pa + 8 * k) 8) % 2 ^ 32)
      let nq := leAt first 0x0A 1
      let l : Launch :=
        { live := true, x := x - 8 * (s.grid.toNat % 16), y := y - 4 * (s.grid.toNat / 16 % 16), w := w, h := h, asid := 0, secure := world == 1, legends := legends,
          qcfgs := [], drained := [], port := port }
      let inside := fun (lg : List Byte) => decide (x ≤ leAt lg 2 2 ∧ y ≤ leAt lg 4 2 ∧ leAt lg 2 2 < 8 * (s.grid.toNat % 16) + 8 ∧ leAt lg 4 2 < 4 * (s.grid.toNat / 16 % 16) + 4 ∧ leAt lg 2 2 + leAt lg 6 2 ≤ x + w ∧ leAt lg 4 2 + leAt lg 8 2 ≤ y + h)
      if !inGrid s.grid x y w h || !global.all (fun lg => legendOk lg && inside lg) ||
          !legends.all (fun lg => decide (leAt lg 0x0A 1 = nq ∧ leAt lg 0x10 8 = leAt first 0x10 8)) || !list.all phaserEntryOk then fail 0x1B
      else if (List.range 32).any (fun k => l.covers k && !s.sheetFree k) || !s.routesOk l then fail 0x1B
      else match s.tableRead table (leAt first 0x10 8) l.secure (16 * nq) with
        | (.error none, _) => .fault .notEnabled
        | (.error (some c), _) => fail c
        | (.ok qs, s) =>
          let live := s.launches.filter (fun (o : Nat × Launch) => o.2.live)
          if s.asidMoving l then .fault .notEnabled
          else if !(List.range (8 * nq)).all (fun k => queueHalfOk (leAt qs (2 * k) 2)) then fail 0x1B
          else match lowestFree 65536 (fun k => live.any (fun o => o.1 == k)), lowestFree 4096 (fun k => live.any (fun o => o.2.asid == k)) with
            | some id, some asid =>
              let l := { l with asid := asid, qcfgs := (List.range nq).map (fun k => (qs.drop (16 * k)).take 16) }
              let s1 := { s with launches := s.launches.set id l }
              (match s1.makePhasers id l.origin list with
              | none => fail 0x1B
              | some (ids, s2) =>
                let s3 := ((s2.enterAsid l table).loadRoutes id l).loseRanks s.lxlost l
                let base := (s.port port).cmdAt k
                let hm := (s3.hostMem.writeList (base + 0x2C) (leBytes 2 id)).writeList (base + 0x2E) (leBytes 2 asid)
                let hm := ids.zipIdx.foldl (fun (m : Memory) p => m.writeList (pa + 8 * p.2 + 4) (leBytes 4 p.1)) hm
                .next (({ s3 with hostMem := hm } : State).complete port k 0))
            | _, _ => fail 0x1B)

/-! ## Items, tasks and launches -/

/-- CMD_SUBMIT_ITEM (R434). -/
def execCmdSubmitItem (port : Nat) (s : State) : Out :=
  cmdOp 4 port s (fun k bs =>
    let fail := fun (c : Nat) => Host.Outcome.next (s.complete port k c)
    let va := leAt bs 8 8
    let recAt := leAt bs 0x10 8
    let id := leAt bs 0x18 2
    let rank := leAt bs 0x1A 1
    let flags := leAt bs 0x1B 1
    let l := s.launch id
    if l.live = false ∨ l.w * l.h ≤ rank ∨ 32 ≤ l.sheetOfRank rank ∨ 2 ≤ flags then fail 0x1B
    else if flags = 1 ∧ (s.port port).secure = false then fail 0x08
    else if s.hostFails va 128 then fail 0x19
    else
      let sheet := l.sheetOfRank rank
      match s.intake sheet { Submission.ofVa 0 id with words := wordsOf (s.hostMem.readList va 128) 16, system := flags == 1, notify := some (port, recAt, leAt bs 4 4) } with
      | (.error _, _) => .fault .notEnabled
      | (.ok status, s) => .next (s.complete port k status))

/-- CMD_WAKE_TASK (R434). -/
def execCmdWakeTask (port : Nat) (s : State) : Out :=
  cmdOp 5 port s (fun k bs =>
    let id := leAt bs 0x18 2
    let a := leAt bs 0x20 8
    let th := threadOfAddr (BitVec.ofNat 64 a)
    if 2 ^ 22 ≤ a ∨ a / 8 % 8 ≠ 0 ∨ (s.launch id).live = false ∨ (s.thread th).st = .empty ∨ (s.thread th).launch ≠ id then .next (s.complete port k 0x1B)
    else .next ((s.mapThread th (fun t => { t with wake := true })).complete port k 0))

/-- CMD_END_LAUNCH: waits until the launch has ended, or fails it with cause 0x14 under FORCE (R332, R434). -/
def execCmdEndLaunch (port : Nat) (s : State) : Out :=
  cmdOp 6 port s (fun k bs =>
    let id := leAt bs 0x18 2
    let flags := leAt bs 0x1B 1
    if (s.launches.get? id).isNone ∨ 2 ≤ flags then .next (s.complete port k 0x1B)
    else if (s.launch id).live = false then .next (s.complete port k 0)
    else if flags = 1 then .next ((s.failLaunch id 0x14).complete port k 0)
    else if s.launchBusy id then .fault .notEnabled
    else .next ((s.launchEndCheck id).complete port k 0))

/-! ## Attestation -/

/-- The counters of R441, in the order of its table. -/
def State.counterBlock (s : State) : List Byte :=
  let l := s.lifetime
  let w4 := fun (x : BitVec 32) => leBytes 4 x.toNat
  let edges := (List.range 32).flatMap (fun h => (if h % 8 ≠ 7 then [4 * h] else []) ++ (if h / 8 < 3 then [4 * h + 1] else []))
  (List.range 7).flatMap (fun k => w4 (l.corrected.get 0 k) ++ w4 (l.uncorrected.get 0 k)) ++
    edges.flatMap (fun e => w4 (s.edge e).turns ++ w4 (s.edge e).retrains ++ w4 (s.edge e).retirements) ++
    (List.range 32).flatMap (fun h => w4 (s.sheet h).fallbacks) ++ leBytes 2 l.freezes.toNat ++ leBytes 2 l.takeovers.toNat ++
    (List.range 32).flatMap (fun st => (List.range 16).flatMap (fun b => w4 (l.temperature.get 0 (st, b)))) ++
    (List.range 16).flatMap (fun b => w4 (l.voltage.get 0 b))

/-- The private identity key of the running image, and the number that its signature draws: in the range that the curve gives them (R440). -/
def State.identity (s : State) : Nat := 1 + Config.identityKey s.bootDigest % (curveN - 1)
def State.signDraw (s : State) (digest : List Byte) : Nat := 1 + Config.signNonce s.bootDigest digest % (curveN - 1)

/-- The management controller counts a sample of a stack's temperature in one of its 16 bins, or of the input voltage; the counters saturate. When it takes one, and
what it reads, is the surroundings' (R441, log 97). -/
def State.sampleTemperature (stack bin : Nat) (s : State) : Out :=
  if 32 ≤ stack ∨ 16 ≤ bin then .fault .notEnabled
  else let l := s.lifetime; .next { s with lifetime := { l with temperature := l.temperature.set (stack, bin) (sat32 (l.temperature.get 0 (stack, bin))) } }
def State.sampleVoltage (bin : Nat) (s : State) : Out :=
  if 16 ≤ bin then .fault .notEnabled
  else let l := s.lifetime; .next { s with lifetime := { l with voltage := l.voltage.set bin (sat32 (l.voltage.get 0 bin)) } }

/-- The reply of R440. -/
def State.attestReply (s : State) (port : Nat) (nonce : List Byte) : List Byte :=
  let c := s.counterBlock
  let head := nonce ++ s.bootDigest ++ leBytes 8 (identOf port).toNat ++ leBytes 4 c.length ++ leBytes 4 0 ++ keyBytes (curveMul s.identity curveBase 384) ++ List.replicate 7 0 ++ c
  head ++ ecdsaSign s.identity (s.signDraw (sha384 head)) (sha384 head)

/-- CMD_ATTEST (R440). -/
def execCmdAttest (port : Nat) (s : State) : Out :=
  cmdOp 7 port s (fun k bs =>
    let na := leAt bs 8 8
    if s.hostFails na 48 then .next (s.complete port k 0x19)
    else .next (({ s with hostMem := s.hostMem.writeList (leAt bs 0x10 8) (s.attestReply port (s.hostMem.readList na 48)) } : State).complete port k 0))

/-! ## BAR2 -/

/-- BAR2_WINDOW_ACCESS: a doubleword of the module's physical space, at its home; while STAGE is not 2, from a stopped function, and in configuration space
from a non-secure function, a read returns all ones and a write is dropped (R431, R433, R436). -/
def execBar2WindowAccess (port : Nat) (write : Bool) (pa : Nat) (v : BitVec 64) (s : State) : Out :=
  let answer := fun (x : Word) (s : State) => Host.Outcome.next (if write then s else s.mapPort port (fun p => { p with rdata := x }))
  if 4 ≤ port || pa % 8 != 0 || 2 ^ 52 ≤ pa || s.portHeld port then .fault .notEnabled
  else if s.bootStage ≠ 2 ∨ (s.port port).stopped = true ∨ (paCfg pa = true ∧ (s.port port).secure = false) then answer (BitVec.allOnes 64) s
  else if !paCfg pa && s.hostBreach port pa 8 then answer (BitVec.allOnes 64) (s.stopPort port pa)
  else if !paCfg pa && s.moving pa then .fault .notEnabled
  else if write then .next (if paCfg pa then (s.hostConfig port pa [v] 0).2.mapPort port (fun p => { p with cfgDone := 0 }) else s.hostWrite pa (leBytes 8 v.toNat))
  else let r := s.hostRead pa 8; answer (BitVec.ofNat 64 (leNat r.1)) r.2

/-! ## Bring-up (R436 to R438, R442) -/

/-- STATUS_WRITE: accepted in stages 0 and 3 with GO; it loads the image at its address (R437). -/
def execStatusWrite (port : Nat) (v : BitVec 64) (s : State) : Out :=
  if 4 ≤ port then .fault .notEnabled
  else if (s.bootStage = 0 ∨ s.bootStage = 3) ∧ v.toNat % 2 = 1 then .next { s with bootStage := 1, bootReason := 0, bootPort := port, bootImage := v &&& ~~~0xFFF }
  else .next s

/-- The first finding of R438 about the image, in the order of its list, or 0. The bytes of a read that completes with an error are the surroundings' (log 160). -/
def State.bootFinding (s : State) : Nat :=
  let a := s.bootImage.toNat
  let hd := s.hostMem.readList a 64
  let len := leAt hd 8 4
  let key := s.hostMem.readList (a + len) 97
  let sig := s.hostMem.readList (a + len + 97) 96
  if hd.take 4 ≠ [0x54, 0x58, 0x42, 0x46] ∨ leAt hd 4 4 ≠ 1 ∨ !(hd.drop 12).all (fun b => b == 0) then 1
  else if len < 64 ∨ len % 64 ≠ 0 ∨ 2 ^ 26 < len then 2
  else if sha384 key ≠ Config.fusedKeyHash then 3
  else if !ecdsaOk key sig (sha384 (s.hostMem.readList a len)) then 4
  else if s.hostFails a (len + 193) then 5
  else 0

/-- BOOT_VERIFY_DONE: the module runs, or stands in stage 3 with REASON (R436, R438). -/
def execBootVerifyDone (reason : Nat) (s : State) : Out :=
  if s.bootStage ≠ 1 ∨ s.bootFinding ≠ reason then .fault .notEnabled
  else if reason = 0 then
    let len := leAt (s.hostMem.readList s.bootImage.toNat 64) 8 4
    .next { s with bootStage := 2, bootReason := 0, bootDigest := sha384 (s.hostMem.readList s.bootImage.toNat len) }
  else .next { s with bootStage := 3, bootReason := reason }

/-- The module as a reset leaves it: what lies outside it, and its lifetime records, stay (R253, R436, R441). -/
def State.resetModule (s : State) : State :=
  { State.reset with agenda := s.agenda, freeCtr := s.freeCtr, hostMem := s.hostMem, hostErr := s.hostErr, lifetime := s.lifetime,
                     edges := s.edges.map (fun (e : Nat × Edge) => (e.1, { Edge.init with turns := e.2.turns, retrains := e.2.retrains, retirements := e.2.retirements })),
                     sheets := s.sheets.map (fun (h : Nat × Sheet) => (h.1, { Sheet.init with fallbacks := h.2.fallbacks })) }

/-- MODULE_RESET (R436). -/
def execModuleReset (s : State) : Out := .next s.resetModule

/-- THERMAL_STOP: at 115 °C the module stops and STATUS returns to stage 0 (R442). -/
def execThermalStop (s : State) : Out := .next s.resetModule

end Sys2Proof.Machine
end

