-- ==== Sys2Proof/Machine/Registers.lean ====
section
/-! DEFINITION. Writes of the registers of a sheet and of the module as events of the device (R186, R187, R269, R270, R277, R346, R367, R396, R397, R423, R439). -/

namespace Sys2Proof.Machine

/-- A write of a surveyor control register; one that the register refuses changes nothing (R63, R397). -/
def svEvent (sheet k n : Nat) (v : Word) (s : State) : Out :=
  if 32 ≤ sheet ∨ 4 ≤ k then .fault .notEnabled
  else match s.svWrite sheet k n v with | .ok s => .next s | .error _ => .next s

/-- ATLAS_WRITE (R269). -/
def execAtlasWrite (sheet : Nat) (v : BitVec 64) (s : State) : Out := svEvent sheet 0 0x212 v s

/-- REPCTL_WRITE (R277). -/
def execRepctlWrite (sheet : Nat) (v : BitVec 64) (s : State) : Out := svEvent sheet 0 0x213 v s

/-- STQCFG_WRITE: the thresholds of a stage, and QUOTA becomes MIN (R346). -/
def execStqcfgWrite (sheet stage : Nat) (v : BitVec 64) (s : State) : Out :=
  if stage = 0 ∨ 16 ≤ stage then .fault .notEnabled else svEvent sheet 0 (0x220 + 2 * (stage - 1)) v s

/-- SVITEM_WRITE: submits a system item (R367). -/
def execSvitemWrite (sheet : Nat) (v : BitVec 64) (s : State) : Out := svEvent sheet 0 0x206 v s

/-- PLCTL_FLUSH: every plate of the sheet becomes invalid (R395, R397). -/
def execPlctlFlush (sheet : Nat) (s : State) : Out := svEvent sheet 0 0x248 1 s

/-- PLCTL_KIND: KGEN increases (R396). -/
def execPlctlKind (sheet : Nat) (s : State) : Out := svEvent sheet 0 0x248 2 s

/-- LXLOST_WRITE (R423). -/
def execLxlostWrite (v : BitVec 64) (s : State) : Out := svEvent 0 0 0x251 v s

/-- The register numbers whose writes have rows of their own. -/
def ownRow (n : Nat) : Bool := decide (n = 0x206 ∨ n = 0x212 ∨ n = 0x213 ∨ n = 0x248 ∨ n = 0x251 ∨ (0x220 ≤ n ∧ n ≤ 0x23D ∧ n % 2 = 0))

/-- SURVEYOR_REG_WRITE: a write of any other register; a number that is not assigned has none (R270). -/
def execSurveyorRegWrite (sheet k n : Nat) (v : BitVec 64) (s : State) : Out :=
  if n < 0x200 ∨ 0x400 ≤ n ∨ ownRow n then .fault .notEnabled else svEvent sheet k n v s

/-- SECURITY_REGION_WRITE: dropped unless it comes from secure service-core code (R439). -/
def execSecurityRegionWrite (sheet region reg : Nat) (v : BitVec 64) (secure : Bool) (s : State) : Out :=
  if 32 ≤ sheet ∨ 16 ≤ region ∨ 4 ≤ reg then .fault .notEnabled else .next (s.regionWrite sheet region reg v secure)

/-- WCFG_WRITE: the check, and the start of an EN change (R186). -/
def execWcfgWrite (sheet w : Nat) (v : BitVec 64) (s : State) : Out :=
  if 32 ≤ sheet ∨ 16 ≤ w then .fault .notEnabled else .next (s.windowWrite sheet w 0 v)

/-- Whether a request into a window's range is in flight. -/
def State.windowBusy (s : State) (k : Window) : Bool := s.net.any (fun (p : Nat × Packet) => !p.2.performed && k.covers p.2.pa)

/-- WINDOW_EN_CHANGE_DONE: once no write-back into the range is in flight, EN takes its new value and no LLC line keeps a tag of the range (R187). -/
def execWindowEnChangeDone (sheet w : Nat) (s : State) : Out :=
  let k := s.window sheet w
  if !k.changing || s.windowBusy k then .fault .notEnabled
  else
    let cfg := if k.target then k.cfg ||| (1 <<< 63) else k.cfg &&& 0x7FFFFFFFFFFFFFFF
    .next ((s.setWindow sheet w { k with cfg := cfg, changing := false }).mapSheet sheet (fun h =>
      { h with llcTags := h.llcTags.filter (fun (t : Nat × WinTag) => !k.covers t.1) }))

/-- JUNCTION_TEMPERATURE_FALL: the stack's cores issue freely again (R442). -/
def execJunctionTemperatureFall (sheet : Nat) (s : State) : Out :=
  if !(s.sheet sheet).throttled then .fault .notEnabled else .next (s.mapSheet sheet (fun h => { h with throttled := false }))

/-- THERMAL_THROTTLE: above 105 °C issue is withheld on the stack's cores (R442). -/
def execThermalThrottle (sheet : Nat) (s : State) : Out :=
  if 32 ≤ sheet ∨ (s.sheet sheet).throttled then .fault .notEnabled else .next (s.mapSheet sheet (fun h => { h with throttled := true }))

end Sys2Proof.Machine
end

