-- ==== Sys2Proof/Machine/Atomic.lean ====
section
/-! DEFINITION. AMO (R282 to R284) and the MEMC group (R256, R257, R287 to R289). -/

namespace Sys2Proof.Machine

/-! ## Atomics -/

/-- The value that an atomic leaves at the home, by its operation code (R282); 16 is the saturating add of a TLB's hit count (R275). `cmp` is the compare
value of CAS. -/
def atomicNew (op w old b cmp : Nat) : Nat :=
  match op with
  | 0 => (old + b) % 2 ^ w
  | 1 => old &&& b
  | 2 => old ||| b
  | 3 => old ^^^ b
  | 4 => if toSigned b w < toSigned old w then b else old
  | 5 => if toSigned old w < toSigned b w then b else old
  | 6 => if b < old then b else old
  | 7 => if old < b then b else old
  | 8 => b
  | 9 => if old = cmp then b else old
  | 10 => fadd32 old b
  | 16 => min 0xFFFFFFFF (old + b)
  | _ => b

/-- The request of an atomic. -/
def atomicPacket (c : CtxId) (pa va asid op w : Nat) (b cmp : Word) (so : Bool) (d : BitVec 5) (acq : Nat) : Packet :=
  { origin := .side c, pa := pa / 256 * 256, va := va / 256, asid := asid, so := so, req := .atomic op w (pa % 256) b cmp, dreg := some d.toNat, acq := acq,
    performed := false, answered := 0, nacked := none, held := false, tag := 0, result := 0, after := [] }

/-- The part of an atomic that follows its translation: the write-back of the line's dirty bytes, under whatever alias the cluster holds them, and the request (R265,
R283). Stage 4 is after it. -/
def State.sendAtomic (op w : Nat) (d a b : BitVec 5) (kind scope pk pa : Nat) (s : State) : Out :=
  let va := (s.reg a).toNat
  let asid := s.asidOf s.cur
  let so := pk == 1 || kind == 4
  if so && s.soOutstanding s.cur then .next (s.block (Wait.plain .soDone))
  else
    (if s.cur.isSurveyor then .ok () s else s.aliasFlush s.clusterId (pa / 256 * 256) asid (va / 256)).run fun _ s =>
    let m := lineMask (va % 256) (w / 8)
    let wb := match (s.core s.coreId).entry? asid (va / 256) with
      | some e => if e.dirty &&& m ≠ 0 then s.writeBack s.coreId (.core s.coreId) e else (true, s)
      | none => (true, s)
    if !wb.1 then .next (wb.2.block wb.2.retry)
    else
      let s := wb.2
      let acq := if (kind = 1 ∨ kind = 3) ∧ pk ≠ 2 then scope + 1 else 0
      let s := s.send (atomicPacket s.cur pa va asid op w (zeroExt (s.reg b) w) (zeroExt (s.reg d) w) so d acq)
      .next ((s.upd (fun k => { k with stage := 4 })).block (Wait.plain .reply))

/-- The release part of an atomic, which comes before its translation; on a UN page it acts as plain (R283, R284). -/
def State.amoRelease (va kind scope : Nat) (s : State) : Acc Unit :=
  if (kind = 2 ∨ kind = 3) ∧ (s.cur.isSurveyor ∨ s.peekKind s.clusterId (s.asidOf s.cur) va ≠ some 2) then s.release scope else .ok () s

/-- An atomic of width w (R283). It waits for its response, which ACK_RECEIVE leaves in `keep`, and then writes sD (log 7). -/
def amoOp (i : Instr) (g : Guard) (op w : Nat) (d a b : BitVec 5) (s : State) : Out :=
  issueScalar i g s (fun s =>
    let s := s.commit
    let o := s.ordHint
    let va := (s.reg a).toNat
    if s.ctx.stage = 4 then done (s.setReg d s.ctx.keep)
    else if va % (w / 8) ≠ 0 then raise 5 (s.reg a) s
    else (s.amoRelease va o.1 o.2).run (fun _ s =>
      if s.cur.isSurveyor then
        (if 2 ^ 52 ≤ va then raise 7 (s.reg a) s else if paCfg va then raise 8 (s.reg a) s else s.sendAtomic op w d a b o.1 o.2 1 va)
      else match s.translate s.clusterId (s.asidOf s.cur) va .store (s.coreSecure s.coreId) with
        | (.page l pa, s) => s.sendAtomic op w d a b o.1 o.2 l.kind pa
        | (.cause c, s) => raise c (s.reg a) s
        | (.nack, s) => .next (s.block s.retry)))

/-- The width that FN [4] selects (R282). -/
def amoWidth (w : BitVec 1) : Nat := if w = 1 then 32 else 64

/-- AMOADD (R282). -/
def execAmoadd (g : Guard) (d a b : BitVec 5) (w : BitVec 1) (s : State) : Out := amoOp (.amoadd g d a b w) g 0 (amoWidth w) d a b s

/-- AMOAND (R282). -/
def execAmoand (g : Guard) (d a b : BitVec 5) (w : BitVec 1) (s : State) : Out := amoOp (.amoand g d a b w) g 1 (amoWidth w) d a b s

/-- AMOOR (R282). -/
def execAmoor (g : Guard) (d a b : BitVec 5) (w : BitVec 1) (s : State) : Out := amoOp (.amoor g d a b w) g 2 (amoWidth w) d a b s

/-- AMOXOR (R282). -/
def execAmoxor (g : Guard) (d a b : BitVec 5) (w : BitVec 1) (s : State) : Out := amoOp (.amoxor g d a b w) g 3 (amoWidth w) d a b s

/-- AMOMIN (R282). -/
def execAmomin (g : Guard) (d a b : BitVec 5) (w : BitVec 1) (s : State) : Out := amoOp (.amomin g d a b w) g 4 (amoWidth w) d a b s

/-- AMOMAX (R282). -/
def execAmomax (g : Guard) (d a b : BitVec 5) (w : BitVec 1) (s : State) : Out := amoOp (.amomax g d a b w) g 5 (amoWidth w) d a b s

/-- AMOMINN (R282). -/
def execAmominn (g : Guard) (d a b : BitVec 5) (w : BitVec 1) (s : State) : Out := amoOp (.amominn g d a b w) g 6 (amoWidth w) d a b s

/-- AMOMAXN (R282). -/
def execAmomaxn (g : Guard) (d a b : BitVec 5) (w : BitVec 1) (s : State) : Out := amoOp (.amomaxn g d a b w) g 7 (amoWidth w) d a b s

/-- AMOSWAP (R282). -/
def execAmoswap (g : Guard) (d a b : BitVec 5) (w : BitVec 1) (s : State) : Out := amoOp (.amoswap g d a b w) g 8 (amoWidth w) d a b s

/-- AMOCAS (R282). -/
def execAmocas (g : Guard) (d a b : BitVec 5) (w : BitVec 1) (s : State) : Out := amoOp (.amocas g d a b w) g 9 (amoWidth w) d a b s

/-- AMOFADD: 32 bits (R282). -/
def execAmofadd (g : Guard) (d a b : BitVec 5) (s : State) : Out := amoOp (.amofadd g d a b) g 10 32 d a b s

/-- AMOSTAG: 32 bits (R282). -/
def execAmostag (g : Guard) (d a b : BitVec 5) (s : State) : Out := amoOp (.amostag g d a b) g 11 32 d a b s

/-! ## MEMC -/

/-- FENCE (R256): kind bit 1 is the release part and bit 0 the acquire part. -/
def execFence (g : Guard) (k sc : BitVec 5) (s : State) : Out :=
  issueScalar (.fence g k sc) g s (fun s =>
    let s := if 0 < sc.toNat then s.commit else s
    (if k.toNat / 2 % 2 = 1 then s.release sc.toNat else .ok () s).run (fun _ s => done (if k.toNat % 2 = 1 then s.acquire sc.toNat else s)))

/-- WAITACK (R257). -/
def execWaitack (g : Guard) (d a sc : BitVec 5) (s : State) : Out :=
  issueScalar (.waitack g d a sc) g s (fun s =>
    if s.outstanding (.side s.cur) then .next (s.block (Wait.plain .acked))
    else
      let line := bitsOf (s.reg a).toNat 55 8
      done (s.setReg d (match s.ctx.ackRecord.find? (fun e => e.1 == line) with | some e => BitVec.ofNat 64 e.2.toNat | none => BitVec.allOnes 64)))

/-- The lines that n bytes from an address overlap. -/
def linesOf (va n : Nat) : List Nat := if n = 0 then [] else (List.range ((va % 256 + n - 1) / 256 + 1)).map (fun k => va / 256 + k)

/-- PFETCH of one line: nothing where the translation fails, or on an SO page, an unbacked range or poisoned data. A line that is NACKed, or whose other alias is
still being written back, is requested again at least 64 cycles later: PFETCH itself waits for nothing (R265, R279, R287). -/
def State.prefetchLine (core : Nat) (p : Pfetch) (s : State) : State :=
  let cl := clusterOfCore core
  let again := fun (s : State) => s.mapCore core (fun k => { k with pfetches := k.pfetches ++ [{ p with due := s.cycle.toNat + 64 }] })
  match s.translate cl p.asid (p.line * 256) .load (s.coreSecure core) with
  | (.cause _, s) => s
  | (.nack, s) => again s
  | (.page l pa, s) =>
    let paLine := pa / 256 * 256
    if l.kind = 1 ∨ s.backed paLine = false then s
    else if s.moving pa then again s
    else if s.poisoned paLine 256 then s
    else if p.pol = 2 then (s.readPass cl pa p.dl).readTouch (sheetOfCore core) paLine
    else match s.aliasChange cl paLine p.asid p.line with
      | .ok _ s =>
        let r := (s.readPass cl pa p.dl).readLine (sheetOfCore core) paLine
        r.2.fillLine core p.asid p.line l (r.2.inflight core p.asid p.line paLine r.1) (BitVec.allOnes 256) p.pol
      | .wait _ s => again s
      | .trap _ _ s => s
      | .gone s => s

/-- PFETCH (R287). A surveyor core has no L1d to fetch into (log 8). -/
def execPfetch (g : Guard) (a b : BitVec 5) (s : State) : Out :=
  issueScalar (.pfetch g a b) g s (fun s =>
    if s.cur.isSurveyor then done s
    else
      let asid := s.asidOf s.cur
      let dl := (s.entryOf (.side s.cur)).2
      let pol := s.l1Policy
      let t := (linesOf (s.reg a).toNat (min (s.reg b).toNat 65536)).foldl (fun (t : State) line =>
        t.prefetchLine s.coreId { asid := asid, line := line, pol := pol, dl := dl, due := 0 }) s
      if State.lost s t then .next t else done t)

/-- A line of a PFETCH that was NACKed is requested again when it is due (R279, R287). -/
def State.prefetchTurn (core : Nat) (s : State) : Out :=
  match (s.core core).pfetches with
  | [] => .fault .notEnabled
  | p :: rest => if s.cycle.toNat < p.due then .fault .notEnabled else .next ((s.mapCore core (fun k => { k with pfetches := rest })).prefetchLine core p)

/-- The L1d entries that a maintenance instruction acts on (R288). -/
def State.maintained (a b : BitVec 5) (s : State) : L1Entry → Bool :=
  let ls := linesOf (s.reg a).toNat (min (s.reg b).toNat 0x100000)
  let asid := s.asidOf s.cur
  fun e => e.asid == asid && ls.contains e.line

/-- Writes back the selected lines, with a retry where a table of their page moves (R279); then waits for the acknowledgements and writes sD with their number
(R288). A write-back whose translation fails is held (R273). Stage 1 is between retries, 2 after the write-backs. -/
def cleanOp (i : Instr) (g : Guard) (d a b : BitVec 5) (drop : Bool) (s : State) : Out :=
  issueScalar i g s (fun s =>
    if s.ctx.stage = 2 then
      (if s.outstanding (.side s.cur) then .next (s.block (Wait.plain .acked)) else done (s.setReg d s.ctx.keep))
    else
      let f := s.maintained a b
      let r := s.writeBackAll s.coreId (.side s.cur) f
      let refused := fun (e : L1Entry) => match r.2.2.pageWalk r.2.2.sheetId e.asid (e.line * 256) .writeBack with | .nack => true | _ => false
      let again := (r.2.2.core s.coreId).l1.any (fun e => f e && decide (e.dirty ≠ 0) && refused e)
      let s := if drop then r.2.2.mapCore s.coreId (fun k => { k with l1 := k.l1.filter (fun e => !(f e && e.dirty == 0)) }) else r.2.2
      let s := s.upd (fun k => { k with stage := if again then 1 else 2, keep := k.keep + BitVec.ofNat 64 r.2.1 })
      .next (s.block (if again then s.retry else Wait.plain .acked)))

/-- CCLEAN (R288). -/
def execCclean (g : Guard) (d a b : BitVec 5) (s : State) : Out := cleanOp (.cclean g d a b) g d a b false s

/-- CINVAL: the selected lines go, with their dirty bytes (R288). -/
def execCinval (g : Guard) (d a b : BitVec 5) (s : State) : Out :=
  issueScalar (.cinval g d a b) g s (fun s =>
    let f := s.maintained a b
    let n := ((s.core s.coreId).l1.filter f).length
    done ((s.mapCore s.coreId (fun k => { k with l1 := k.l1.filter (fun e => !f e) })).setReg d (BitVec.ofNat 64 n)))

/-- CFLUSH (R288). -/
def execCflush (g : Guard) (d a b : BitVec 5) (s : State) : Out := cleanOp (.cflush g d a b) g d a b true s

/-- ACQINV: B = 1 takes UN pages in as well (R289). -/
def execAcqinv (g : Guard) (b : BitVec 5) (s : State) : Out :=
  issueScalar (.acqinv g b) g s (fun s =>
    let asid := s.asidOf s.cur
    done (s.invalidateClean s.coreId (fun e => e.asid == asid && !e.imm && (e.kind == 0 || (b.toNat == 1 && e.kind == 2)))))

end Sys2Proof.Machine
end

