-- ==== Sys2Proof/Machine/Sparse.lean ====
section
/-! DEFINITION. Sparse lists and scans (R198 to R202), and PMERGE (R226 to R229). -/

namespace Sys2Proof.Machine

/-! ## Sparse lists (R198) -/

/-- The 64 pairs of a register: index and value word. -/
def pairsOf (v : VReg) : List (Nat × Nat) := (List.range 64).map (fun p => (getBytes v (8 * p) 4, getBytes v (8 * p + 4) 4))

/-- The pairs before the first terminator. -/
def listOf (v : VReg) : List (Nat × Nat) := (pairsOf v).takeWhile (fun p => !(p.1 == 0xFFFFFFFF && p.2 == 0))

/-- The indices rise strictly. -/
def rising (l : List (Nat × Nat)) : Bool :=
  match l with
  | [] => true
  | (i, _) :: rest => (match rest with | [] => true | (j, _) :: _ => decide (i < j)) && rising rest

/-- The register that holds pairs, with terminators after them. -/
def regOfPairs (l : List (Nat × Nat)) : VReg :=
  (List.range 64).foldl (fun (v : VReg) p => let q := l.getD p (0xFFFFFFFF, 0); setBytes (setBytes v (8 * p) 4 q.1) (8 * p + 4) 4 q.2) 0

/-- The number of distinct indices in the union of two rising lists; `n` bounds the number of pairs. -/
def unionCount (n : Nat) (l r : List (Nat × Nat)) : Nat :=
  match n with
  | 0 => 0
  | k + 1 =>
    match l, r with
    | [], _ => r.length
    | _, [] => l.length
    | (i, _) :: l', (j, _) :: r' => 1 + (if i < j then unionCount k l' r else if j < i then unionCount k l r' else unionCount k l' r')

/-- The merge of R200 from positions a and b: the pairs produced, the positions reached, and the seed. `room` is the number of pairs that still fit. -/
def mergePairs (add : Nat → Nat → Nat → Nat) (draws zeros : Bool) (isZero : Nat → Bool) (n room : Nat) (l r : List (Nat × Nat)) (a b : Nat) (seed : Word) :
    List (Nat × Nat) × Nat × Nat × Word :=
  match n with
  | 0 => ([], a, b, seed)
  | k + 1 =>
    if room = 0 then ([], a, b, seed)
    else
      let go := fun (i v a b : Nat) (seed : Word) (l r : List (Nat × Nat)) =>
        if zeros && isZero v then mergePairs add draws zeros isZero k room l r a b seed
        else
          let q := mergePairs add draws zeros isZero k (room - 1) l r a b seed
          ((i, v) :: q.1, q.2)
      match l, r with
      | [], [] => ([], a, b, seed)
      | (i, v) :: l', [] => go i v (a + 1) b seed l' []
      | [], (j, v) :: r' => go j v a (b + 1) seed [] r'
      | (i, v) :: l', (j, w) :: r' =>
        if i < j then go i v (a + 1) b seed l' r
        else if j < i then go j w a (b + 1) seed l r'
        else let seed := if draws then xorshift seed else seed; go i (add (drawTop seed) v w) (a + 1) (b + 1) seed l' r'

/-- SMCOUNT (R199). -/
def execSmcount (g : Guard) (d a b : BitVec 5) (s : State) : Out :=
  issueScalar (.smcount g d a b) g s (fun s =>
    let l := listOf (s.vsrc a.toNat s.qwA.2)
    let r := listOf (s.vsrc b.toNat s.qwB.2)
    if !rising l || !rising r then raise0 0x1B s else done (s.setReg d (BitVec.ofNat 64 (unionCount 128 l r))))

/-- The value of a pair: its low bytes in the element type; the other bytes are ignored (R198). -/
def pairValue (ty x : Nat) : Nat := inType ty (x % 2 ^ elemBits ty)

/-- SMERGE and SMERGEZ (R200). -/
def smergeOp (i : Instr) (zeros : Bool) (g : Guard) (d a b : BitVec 5) (s : State) : Out :=
  issueScalar i g s (fun s =>
    let ty := s.shape.ty
    let l := listOf (s.vsrc a.toNat s.qwA.2)
    let r := listOf (s.vsrc b.toNat s.qwB.2)
    if !rising l || !rising r then raise0 0x1B s
    else
      let m := s.ctx.round.toNat % 8
      let c := s.ctx.mcons.toNat
      let a0 := min (c % 1024) l.length
      let b0 := min (bitsOf c 19 10) r.length
      let val := fun (p : Nat × Nat) => (p.1, pairValue ty p.2)
      let q := mergePairs (fun u x y => arith .add ty m u x y 0) (m == 5 && floatOrL6 ty) zeros (isZeroElem ty) 128 64 ((l.map val).drop a0) ((r.map val).drop b0) a0 b0
        s.ctx.seed
      let mc := BitVec.ofNat 64 (q.1.length * 2 ^ 20 + q.2.2.1 * 2 ^ 10 + q.2.1)
      done ((s.upd (fun k => { k with mcons := mc, seed := q.2.2.2 })).vset d.toNat s.qwD.2 (regOfPairs q.1)))

/-- SMERGE (R200). -/
def execSmerge (g : Guard) (d a b : BitVec 5) (s : State) : Out := smergeOp (.smerge g d a b) false g d a b s

/-- SMERGEZ drops every zero (R200). -/
def execSmergez (g : Guard) (d a b : BitVec 5) (s : State) : Out := smergeOp (.smergez g d a b) true g d a b s

/-! ## Scans (R201) -/

/-- SCAN and SCANX: the running sum with or before each element, and the total in SCANOUT. -/
def scanOp (i : Instr) (before : Bool) (g : Guard) (d a b : BitVec 5) (s : State) : Out :=
  issue i s (fun s =>
    let h := s.shape
    let m := s.ctx.round.toNat % 8
    let x := s.elemA a h
    let draws := m == 5 && floatOrL6 h.ty
    let r := h.elems.foldl (fun (acc : VReg × Nat × Word) p =>
      if s.executes g (h.offset p.1 p.2) then
        let seed := if draws then xorshift acc.2.2 else acc.2.2
        let sum := arith .add h.ty m (drawTop seed) acc.2.1 (x p.1 p.2) 0
        (h.put acc.1 p.1 p.2 (if before then acc.2.1 else sum), sum, seed)
      else acc) (s.vold d.toNat s.qwD.2, scalarElem h.ty (s.reg b), s.ctx.seed)
    let total := BitVec.ofNat 64 r.2.1
    let out := if isSignedInt h.ty then signExt total (elemBits h.ty) else total
    done ((s.upd (fun k => { k with scanout := out, seed := r.2.2 })).vset d.toNat s.qwD.2 r.1))

/-- SCAN (R201). -/
def execScan (g : Guard) (d a b : BitVec 5) (s : State) : Out := scanOp (.scan g d a b) false g d a b s

/-- SCANX (R201). -/
def execScanx (g : Guard) (d a b : BitVec 5) (s : State) : Out := scanOp (.scanx g d a b) true g d a b s

/-! ## PMERGE (R226 to R229) -/

/-- The threads of a PMERGE group: the same slot of the same core in s clusters of a mesh row, from the lowest x (R226). -/
def pmergeGroup (th span : Nat) : List Nat :=
  let cl := clusterOfThread th
  let x := cl % 16
  (List.range span).map (fun k => (cl - x % span + k) * 64 + th % 64)

/-- The operation of PMERGE on one element, left operand from the lower x (R228). -/
def pmergeElem (op ty a b : Nat) : Nat :=
  if op = 0 then arith .add ty 0 0 a b 0 else inType ty (minMax (op == 1) ty a b)

/-- Combines registers pairwise, level by level (R228). -/
def pmergeTree (f : VReg → VReg → VReg) (n : Nat) (l : List VReg) : VReg :=
  match n with
  | 0 => l.headD 0
  | k + 1 => pmergeTree f k ((List.range (l.length / 2)).map (fun m => f (l.getD (2 * m) 0) (l.getD (2 * m + 1) 0)))

/-- The result of a PMERGE group over the elements of a shape; other bytes are those of the first participant, and are written nowhere. -/
def pmergeCombine (h : Shape) (op : Nat) (l : List VReg) : VReg :=
  pmergeTree (fun a b => h.elems.foldl (fun (v : VReg) p => h.put v p.1 p.2 (pmergeElem op h.ty (h.get a p.1 p.2) (h.get b p.1 p.2))) a) (Nat.log2 l.length) l

/-- PMERGE: joins its group and waits for the result, which PMERGE_RESULT gives every participant (R227). DESIGN CHOICE (log 164): an operation outside R226 raises
0x1B before the findings of R227 raise 0x1A; R227 gives no order. -/
def execPmerge (g : Guard) (d a b f : BitVec 5) (s : State) : Out :=
  issue (.pmerge g d a b f) s (fun s =>
    let th := s.threadId
    let h := s.shape
    let op := (s.reg b).toNat
    let shape := s.ctx.vshape
    match (s.thread th).pmergeRes with
    | some v =>
      let old := s.vold d.toNat 0
      let new := h.elems.foldl (fun (acc : VReg) p => if s.executes g (h.offset p.1 p.2) then h.put acc p.1 p.2 (h.get v p.1 p.2) else acc) old
      done ((s.mapThread th (fun t => { t with pmergeRes := none, pmerge := none })).vset d.toNat 0 new)
    | none =>
      if 2 < op then raise0 0x1B s
      else if !(s.thread th).post then raise0 0x1A s
      else if (pmergeGroup th f.toNat).any (fun t => match (s.thread t).pmerge with
          | some p => decide (t ≠ th ∧ (s.thread t).pmergeRes = none ∧ (p.1 ≠ f.toNat ∨ p.2.1 ≠ op ∨ p.2.2.1 ≠ shape)) | none => false) then raise0 0x1A s
      else .next (((s.mapThread th (fun t => { t with pmerge := some (f.toNat, op, shape, s.vsrc a.toNat 0) })).upd (fun k => { k with stage := 1 })).block
        (sync 9 0 .pmerge)))

end Sys2Proof.Machine
end

