-- ==== Sys2Proof/Machine/Requests.lean ====
section
/-! DEFINITION. What happens to requests at their homes and on their way back (R253, R255, R259, R279, R283), translation and caches (R188, R273, R275, R276), and the
result of a PMERGE group (R227). -/

namespace Sys2Proof.Machine

/-! ## Homes -/

/-- Whether a request is at its home and first in its order: no earlier request of its core for the line is left to perform, no earlier SO access of its
origin is unacknowledged, and what it must follow is acknowledged (R254, R304, R307, R314). -/
def State.atHome (s : State) (pkt : Nat) (p : Packet) : Bool :=
  let left := fun (q : Nat × Packet) => decide (q.1 < pkt) && !q.2.performed
  let sameCore := fun (q : Packet) => decide (q.origin = p.origin) || (q.origin.core?.isSome && q.origin.core? == p.origin.core?)
  !p.performed && p.nacked.isNone && !s.underway pkt && p.after.all (fun k => (s.net.get? k).isNone) &&
    !s.net.any (fun (q : Nat × Packet) => (left q && sameCore q.2 && (q.2.pa == p.pa || (q.2.asid == p.asid && q.2.va == p.va))) ||
      (decide (q.1 < pkt) && q.2.so && p.so && q.2.origin == p.origin))

def State.setPacket (pkt : Nat) (p : Packet) (s : State) : State := { s with net := s.net.set pkt p }

/-- A home whose page moves refuses a request, which is retried at least 64 cycles later (R278, R279). -/
def State.nack (pkt : Nat) (p : Packet) (s : State) : State := s.setPacket pkt { p with nacked := some (s.cycle.toNat + 64) }

/-- HOME_WRITE: a write is performed at its home, which counts it in the line's tag; its acknowledgement carries the tag (R253, R255). -/
def execHomeWrite (pkt : Nat) (s : State) : Out :=
  match s.net.get? pkt with
  | none => .fault .notEnabled
  | some p =>
    match p.req with
    | .write mask data =>
      if !s.atHome pkt p then .fault .notEnabled
      else if s.moving p.pa then .next (s.nack pkt p)
      else let s := s.performWrite p.pa mask data; .next (s.setPacket pkt { p with performed := true, answered := s.cycle.toNat, tag := s.ackTag p.pa })
    | .atomic .. => .fault .notEnabled

/-- Whether an atomic is performed at an address: not in an aperture and not in an unbacked range (R283). -/
def State.atomicBacked (s : State) (pa : Nat) : Bool := match s.region pa with | .hbm => true | .atlas => true | _ => false

/-- An atomic at its home, indivisibly: the old value is read, the new one is written and the tag counts it; AMOSTAG takes the new tag (R282, R283). -/
def State.performAtomic (p : Packet) (op w off : Nat) (b cmp : Word) (s : State) : Packet × State :=
  let old := s.homeNat (p.pa + off) (w / 8)
  let s := s.performBytes (p.pa + off) (leBytes (w / 8) (atomicNew op w old b.toNat cmp.toNat))
  let tag := s.tagOf p.pa
  ({ p with performed := true, answered := s.cycle.toNat, tag := tag, result := if op = 11 then zeroExt (BitVec.ofNat 64 tag.toNat) 32 else BitVec.ofNat 64 old }, s)

/-- An atomic that cannot be performed ends with a cause at its side, and its request is gone (R124, R359, R369). -/
def State.atomicFault (pkt cause : Nat) (p : Packet) (s : State) : State :=
  let s := { s with net := s.net.del pkt }
  let off := match p.req with | .atomic _ _ off _ _ => off | .write .. => 0
  match p.origin with
  | .side c =>
    let t := ({ s with cur := c } : State).upd (fun k => { k with wait := none, stage := 0, keep := 0 })
    { t.raiseAt cause (some (BitVec.ofNat 64 (p.va * 256 + off))) t.hinted with cur := s.cur }
  | _ => s

/-- The value that a performed atomic left at its home. -/
def leftBy (op w : Nat) (b cmp result : Word) : Nat := if op = 11 then b.toNat % 2 ^ w else atomicNew op w result.toNat b.toNat cmp.toNat

/-- The bytes of a line that the writes of a core, sent after a request, are still to perform. -/
def State.youngerBytes (s : State) (pkt core : Nat) (p : Packet) : LineMask :=
  s.net.foldl (fun (m : LineMask) q => if decide (pkt < q.1) && q.2.pendingOf core && q.2.targets p.asid p.va p.pa then
    (match q.2.req with | .write x _ => m ||| x | .atomic .. => m) else m) 0

/-- The issuing core's L1d copy of an atomic's bytes takes the new value as the home performs it, not dirty; bytes that the core has stored since stay, whether they
are dirty or on their way (R283, R304). -/
def State.updateCopy (pkt : Nat) (p : Packet) (op w off : Nat) (b cmp : Word) (s : State) : State :=
  match p.origin with
  | .side c => (match c.core? with
    | some core => s.updateEntry core p.asid p.va (lineOf off (leBytes (w / 8) (leftBy op w b cmp p.result))) (lineMask off (w / 8) &&& ~~~s.youngerBytes pkt core p)
    | none => s)
  | _ => s

/-- HOME_ATOMIC (R283). -/
def execHomeAtomic (pkt : Nat) (s : State) : Out :=
  match s.net.get? pkt with
  | none => .fault .notEnabled
  | some p =>
    match p.req with
    | .write .. => .fault .notEnabled
    | .atomic op w off b cmp =>
      if !s.atHome pkt p then .fault .notEnabled
      else if s.moving p.pa then .next (s.nack pkt p)
      else if !s.atomicBacked p.pa then .next ((s.countUnbacked p.pa).setPacket pkt { p with performed := true, answered := s.cycle.toNat, tag := 0, result := 0 })
      else if s.poisoned (p.pa + off) (w / 8) then .next (s.atomicFault pkt 0x17 p)
      else let r := s.performAtomic p op w off b cmp; .next ((r.2.setPacket pkt r.1).updateCopy pkt r.1 op w off b cmp)

/-- The response of an atomic reaches its side: the result that the side waits for, and the acquire part, which an atomic that was not performed leaves out
(R283, R284). -/
def State.atomicReply (c : CtxId) (p : Packet) (s : State) : State :=
  match p.req with
  | .write .. => s
  | .atomic .. =>
    let s := s.mapCtx c (fun k => { k with keep := p.result })
    if p.acq = 0 || !s.atomicBacked p.pa then s else { ({ s with cur := c } : State).acquire (p.acq - 1) with cur := s.cur }

/-- The links between sheets that a route crosses. -/
def crossings (src dst : Nat) : List (Nat × Nat) := (outputs src dst maxHops).filter (fun o => sheetOfCluster o.1 ≠ sheetOfCluster (neighbour o.1 o.2))

/-- Whether the response of a request is behind that of another on the response channel of a link: the other was sent first, is not of a later class, and crosses the
link too (R408, R409). -/
def State.behindReply (s : State) (pkt : Nat) (p : Packet) : Bool :=
  let e := s.entryOf p.origin
  s.net.any (fun (q : Nat × Packet) => q.1 != pkt && q.2.performed && decide (q.2.answered < p.answered) &&
    (let f := s.entryOf q.2.origin
     !goesFirst (0, e.2, 0) (0, f.2, 0) && (crossings (homeCluster p.pa) e.1).any (fun o => (crossings (homeCluster q.2.pa) f.1).contains o)))

/-- ACK_RECEIVE: the acknowledgement of a performed request reaches its side, in the order of the channel that carries it, and enters the side's record (R255, R408). -/
def execAckReceive (pkt : Nat) (s : State) : Out :=
  match s.net.get? pkt with
  | none => .fault .notEnabled
  | some p =>
    if !p.performed || s.behindReply pkt p then .fault .notEnabled
    else
      let e := s.entryOf p.origin
      let s := ({ s with net := s.net.del pkt } : State).travel (homeCluster p.pa) e.1 e.2
      match p.origin with
      | .side c => .next ((s.mapCtx c (fun k => { k with ackRecord := ackInto k.ackRecord p.va p.tag })).atomicReply c p)
      | _ => .next s

/-! ## Retries -/

/-- The world of the master that sent a request (R370). -/
def State.originSecure (s : State) (o : Origin) : Bool :=
  let c := s.cluster (s.entryOf o).1
  match o with | .tracer .. => c.worldTrc | .side (.surveyor ..) => true | _ => c.worldCl

/-- What a refused write reports when its new translation fails: to the surveyor, with the stall or the stop that the cause has for its sender (R273, R359, R368,
R370). -/
def State.reportRefused (p : Packet) (cause : Nat) (s : State) : State :=
  let va := BitVec.ofNat 64 (p.va * 256)
  let at' := fun (c : CtxId) (s : State) => ({ s with cur := c } : State)
  let event := match p.origin with
    | .side c => (at' c s).faultRec cause va false false false
    | .core core => s.eventOf cause 1 (coreAddr core) va
    | _ => s.eventOf cause 0 (BitVec.ofNat 64 ((s.entryOf p.origin).1 * 512)) va
  let sheet := sheetOfCluster (s.entryOf p.origin).1
  match p.origin.core?, p.origin with
  | some core, .side c =>
    if cause = 9 then s.freezeOn core event
    else if cause = 6 ∨ cause = 7 ∨ (s.ctxOf c).run ≠ .running then s.record sheet event
    else match c with
      | .task th side =>
        let t := s.record sheet { event with flags := event.flags + 8 }
        { ((at' c t).trapRegs cause (some va) false (t.ctxOf c).grp).freezeSide th side cause with cur := s.cur }
      | _ => { (at' c s).raiseAt cause (some va) false with cur := s.cur }
  | some core, _ => if cause = 9 then s.freezeOn core event else s.record sheet event
  | none, _ => s.record sheet event

/-- NACK_RETRY: a refused request goes again, through a new translation, in the order in which its origin's refused requests were issued (R279). Where that
translation fails, an atomic ends with the cause at its side, and a write is held and reported once, until a TLBINV covers it (R124, R273, R359, log 76). -/
def execNackRetry (pkt : Nat) (s : State) : Out :=
  match s.net.get? pkt with
  | none => .fault .notEnabled
  | some p =>
    match p.nacked with
    | none => .fault .notEnabled
    | some t =>
      if p.held ∨ s.cycle.toNat < t ∨ s.net.any (fun (q : Nat × Packet) => decide (q.1 < pkt) && q.2.nacked.isSome && !q.2.held && q.2.origin == p.origin) then
        .fault .notEnabled
      else
        let e := s.entryOf p.origin
        let go := fun (pa : Nat) (s : State) =>
          (s.setPacket pkt { p with pa := pa / 256 * 256, nacked := none }).mapCluster e.1 (fun c => { c with packets := c.packets ++ [(pkt, e.2, 4)] })
        let acc := if p.so || p.req.isAtomic then Access.store else Access.writeBack
        match p.origin with
        | .side (.surveyor ..) => .next (go p.pa s)
        | .tlb _ => .next (go p.pa s)
        | o =>
          match s.translate e.1 p.asid (p.va * 256) acc (s.originSecure o) with
          | (.page _ pa, s) => .next (go pa s)
          | (.nack, s) => .next (s.nack pkt p)
          | (.cause c, s) =>
            if s.ringBlocked (sheetOfCluster e.1) then .fault .notEnabled
            else if p.req.isAtomic then .next (s.atomicFault pkt c p)
            else .next ((s.setPacket pkt { p with held := true }).reportRefused p c)

/-! ## Translation and caches -/

/-- TLB_MISS_WALK: a walk of the sheet's tables fills the cluster TLB; the entry has served no translation yet (R273, R274). -/
def execTlbMissWalk (cl asid va : Nat) (s : State) : Out :=
  if (s.cluster cl).tlb.any (fun e => e.covers asid va) then .fault .notEnabled
  else match s.pageWalk (sheetOfCluster cl) asid va .load with
    | .page l _ => .next (((s.walked (sheetOfCluster cl) asid va).tlbFill cl asid va l).mapCluster cl (fun c => { c with tlb := c.tlb.modify 0 (fun e => { e with hc := 0 }) }))
    | _ => .fault .notEnabled

/-- TLB_HC_SPILL: an entry whose count has reached 0xFFFF spills it (R275). -/
def execTlbHcSpill (cl idx : Nat) (s : State) : Out :=
  match (s.cluster cl).tlb[idx]? with
  | none => .fault .notEnabled
  | some e =>
    if e.hc < 0xFFFF then .fault .notEnabled
    else .next ((s.spillHc cl e).mapCluster cl (fun c => { c with tlb := c.tlb.modify idx (fun e => { e with hc := 0 }) }))

/-- LLC_FILL: a sheet's LLC is filled with a line, which a format window tags, and which a remote read may install as a replica (R188, R276). -/
def execLlcFill (sheet line : Nat) (s : State) : Out :=
  if line % 256 ≠ 0 ∨ 2 ^ 41 ≤ line ∨ s.moving line then .fault .notEnabled
  else .next ((s.countUnbacked line).readLine sheet line).2

/-- The first page epoch boundary of a sheet after this cycle: a multiple of 2^EPOCH (R276). -/
def State.nextEpoch (s : State) (sheet : Nat) : Nat := let n := 2 ^ ((s.sheet sheet).repctl.toNat / 256 % 32); (s.cycle.toNat / n + 1) * n

/-- PAGE_EPOCH_BOUNDARY: RR, WSEEN and HOLD of the sheet's pages become 0, and the EPOCH that REPCTL holds now governs the next boundary (R276, R277). -/
def execPageEpochBoundary (sheet : Nat) (s : State) : Out :=
  if s.cycle.toNat < (s.sheet sheet).epochAt then .fault .notEnabled
  else .next (s.mapSheet sheet (fun h =>
    { h with epochAt := s.nextEpoch sheet, pages := h.pages.map (fun (p : Nat × PageRec) => (p.1, { p.2 with rr := 0, wseen := false, hold := false })) }))

/-! ## PMERGE -/

/-- PMERGE_RESULT: once every participant of a group waits with the same operation, each receives the combined register (R227, R228). -/
def execPmergeResult (th : Nat) (s : State) : Out :=
  match (s.thread th).pmerge with
  | none => .fault .notEnabled
  | some p =>
    let g := pmergeGroup th p.1
    let waits := fun (t : Nat) => (s.thread t).pmergeRes.isNone && (match (s.thread t).pmerge with | some q => decide (q.1 = p.1 ∧ q.2.1 = p.2.1 ∧ q.2.2.1 = p.2.2.1) | none => false)
    if !g.all waits then .fault .notEnabled
    else
      let v := pmergeCombine (shapeOf p.2.2.1) p.2.1 (g.map (fun t => match (s.thread t).pmerge with | some q => q.2.2.2 | none => 0))
      .next (g.foldl (fun (s : State) t => s.mapThread t (fun t => { t with pmergeRes := some v })) s)

end Sys2Proof.Machine
end

