-- ==== Sys2Proof/Machine/Compass.lean ====
section
/-! DEFINITION. The Compass of a sheet (R417 to R420), layer transactions (R421, R422), and the XPRT group (R424 to R430). -/

namespace Sys2Proof.Machine

/-! ## Transactions -/

/-- The transaction that a register names for a launch; none where cause 0x1A is due (R351, R424). -/
def State.lx? (s : State) (launch : Nat) (id : Nat) : Option Lx :=
  if 2 ^ 30 ≤ id ∨ id / 2 ^ 8 % 256 ≠ 0 then none else match s.lxOf id with | some t => if t.launch = launch then some t else none | none => none

/-- The ranks of the participants (R421). -/
def Lx.participants (t : Lx) : List Nat := (List.range 64).filter (fun r => (leAt t.desc 0 8).testBit r)

/-- The rank of a sheet in a transaction's launch, where it participates. -/
def State.lxRank (s : State) (t : Lx) (sheet : Nat) : Option Nat :=
  let l := s.launch t.launch
  if l.covers sheet ∧ l.rankOf sheet ∈ t.participants then some (l.rankOf sheet) else none

/-- Whether every participant has issued LXEND and sealed, and ACKS = TILES = the sum of the SEALs (R422). -/
def Lx.ready (t : Lx) : Bool :=
  t.participants.all (fun r => t.ends.contains r && (t.seals.get? r).isSome) && t.acks == t.tiles &&
    (t.participants.foldl (fun n r => n + (t.seals.get? r).getD 0) 0) == t.tiles

/-- A transaction changes, and moves from OPEN to COMMITTING when it is ready (R422). -/
def State.putLx (id : Nat) (t : Lx) (s : State) : State := s.setLx (lxHome id) (id % 4096) { t with st := if t.st = 1 ∧ t.ready then 2 else t.st }

/-- The state word (R429). -/
def Lx.word (t : Lx) : Word :=
  BitVec.ofNat 64 (t.st * 2 ^ 61 + t.why * 2 ^ 58 + leAt t.desc 0x37 1 % 4 * 2 ^ 56 + t.tiles % 2 ^ 24 * 2 ^ 32 + t.acks % 2 ^ 24 * 2 ^ 8 + t.ends.length % 256)

/-- The transaction that an INDEX names on a sheet: one in which the sheet participates, homed on the sheet itself, or on the lowest-numbered other home. -/
def State.lxNamed (s : State) (sheet idx : Nat) : Option (Nat × Lx) :=
  (sheet :: List.range 32).findSome? (fun home =>
    let t := s.lx home idx
    if t.live ∧ (s.lxRank t sheet).isSome then some (lxId home t.gen idx, t) else none)

/-- Whether the descriptor of a transaction obeys R421. -/
def lxDescOk (bs : List Byte) : Bool :=
  let f := leAt bs
  decide (f 0 8 ≠ 0 ∧ f 0x10 8 % 128 = 0 ∧ f 0x18 8 % 256 = 0 ∧ f 0x20 8 % 128 = 0 ∧ f 0x28 8 % 128 = 0 ∧ 1 ≤ f 0x30 4 ∧ f 0x30 4 ≤ 2 ^ 24 ∧
    1 ≤ f 0x34 2 ∧ f 0x34 2 ≤ 4096 ∧ 1 ≤ f 0x36 1 ∧ f 0x36 1 ≤ 8 ∧ f 0x37 1 ≤ 3 ∧ f 0x3A 6 = 0)

/-! ## The inbox -/

/-- The header and the tile of the next inbox entry (R417, R418). -/
def State.inbox (sheet : Nat) (head tile : List Byte) (s : State) : State :=
  s.mapSheet sheet (fun h =>
    let k := h.compass
    let at1 := 0x30000 + 1024 * (k.inhead.toNat % 64)
    { h with compass := { k with pad := (k.pad.writeList at1 head).writeList (at1 + 0x200) tile, inhead := k.inhead + 1 } })

/-- A header (R418). -/
def inboxHead (id bases ty rows cols rank last : Nat) : List Byte :=
  leBytes 4 id ++ leBytes 4 bases ++ leBytes 1 ty ++ leBytes 1 rows ++ leBytes 1 cols ++ leBytes 1 rank ++ leBytes 1 last ++ leBytes 3 0

/-- The inbox of a sheet holds 64 entries (R417). -/
def State.inboxFull (s : State) (sheet : Nat) : Bool := let k := (s.sheet sheet).compass; decide (64 ≤ (k.inhead - k.intail).toNat)

/-! ## Instructions -/

/-- An XPRT instruction that is not issued before commit (R424). -/
def committedOp (i : Instr) (g : Guard) (s : State) (f : State → Out) : Out :=
  issueScalar i g s (fun s => if !s.isPost s.cur then raise0 0x1A s else f s)

/-- GPUSH (R425): sD receives the INHEAD count at which the entry stands. -/
def execGpush (g : Guard) (d a b : BitVec 5) (s : State) : Out :=
  committedOp (.gpush g d a b) g s (fun s =>
    let x := (s.reg b).toNat
    let id := x % 2 ^ 32
    let h := s.shape
    let sheet := s.sheetId
    if h.ty ≠ 0 ∧ h.ty ≠ 1 ∧ h.ty ≠ 2 then raise0 0x1B s
    else match s.lx? (s.launchOf s.cur) id with
      | none => raise0 0x1A s
      | some t =>
        match s.lxRank t sheet with
        | none => raise0 0x1A s
        | some r =>
          if t.st ≠ 1 then raise0 0x1A s
          else if s.inboxFull sheet then .next (s.block (Wait.plain .inboxRoom))
          else (s.release 3).run (fun _ s =>
            if s.inboxFull sheet then .next (s.block (Wait.plain .inboxRoom))
            else
              let n := (s.sheet sheet).compass.inhead
              done ((s.inbox sheet (inboxHead id (x / 2 ^ 32) h.ty h.rows h.cols r 0) (byteList (s.vsrc a.toNat s.qwA.2) 0 512)).setReg d (BitVec.ofNat 64 n.toNat))))

/-- RPOP (R426). -/
def execRpop (g : Guard) (d : BitVec 4) (b : BitVec 5) (s : State) : Out :=
  committedOp (.rpop g d b) g s (fun s =>
    let r : BitVec 5 := BitVec.ofNat 5 (2 * d.toNat)
    let pair := fun (x y : Word) (s : State) => (s.setReg r x).setReg (r + 1) y
    if 1 < (s.reg b).toNat then raise0 0x1B s
    else match (s.sheet s.sheetId).compass.popq with
      | (x, y) :: rest => done (((s.mapSheet s.sheetId (fun h => { h with compass := { h.compass with popq := rest } })).acquire 3 |> pair x y))
      | [] => if s.reg b = 1 then done (pair (BitVec.allOnes 64) (BitVec.allOnes 64) s) else .next (s.block (sync 12 0 .popRecord)))

/-- Whether tiles of a transaction have not reached their final state: their LXACKs are still to be answered (R422). -/
def State.tilesLeft (s : State) (id : Nat) : Bool :=
  s.sheets.any (fun (h : Nat × Sheet) => h.2.items.any (fun p => decide (p.2.tile = some id ∧ p.2.st ≠ .final)) || h.2.intakeQ.any (fun b => decide (b.tile = some id)))

/-- Whether an INDEX of a home is free: unused, or of a transaction that is CLOSED or FAILED, of which no tile is left and on which no LXEND waits. -/
def State.lxFree (s : State) (home idx : Nat) : Bool :=
  let t := s.lx home idx
  !t.live || (decide (5 ≤ t.st) && !s.tilesLeft (lxId home t.gen idx) && !s.ctxs.any (fun (p : CtxId × Ctx) => p.2.wait.any (fun w => decide (w.cond = .lxFinal home idx))))

/-- LXBEGIN (R427). -/
def execLxbegin (g : Guard) (d a : BitVec 5) (s : State) : Out :=
  committedOp (.lxbegin g d a) g s (fun s =>
    if (s.reg a).toNat % 64 ≠ 0 then raise 5 (s.reg a) s
    else (s.spawnBytes (s.reg a) 64).run (fun bs s =>
      if !lxDescOk bs then raise0 0x1B s
      else
        let home := s.sheetId
        match (List.range 256).find? (fun i => s.lxFree home i) with
        | none => done (s.setReg d 0)
        | some i =>
          let old := s.lx home i
          let gen := if old.live then (old.gen + 1) % 512 else old.gen
          let t : Lx := { Lx.none with live := true, gen := gen, desc := bs, descVa := s.reg a, st := 1, launch := s.launchOf s.cur }
          done ((s.setLx home i t).setReg d (BitVec.ofNat 64 (lxId home gen i)))))

/-- What LXACK does once its release is complete (R422, R428): its result and the state. -/
def State.lxAck (id : Nat) (status : Word) (s : State) : Nat × State :=
  let th := s.threadId
  let t := s.thread th
  let it := s.item t.itemSheet t.item
  if it.tile ≠ some id ∨ it.acked then (1, s)
  else match s.lxOf id with
    | none => (2, s)
    | some x =>
      if x.st ≠ 1 then (2, s)
      else
        let s := s.mapItem t.itemSheet t.item (fun i => { i with acked := true })
        (0, if status = 0 then s.putLx id { x with acks := x.acks + 1 } else s.lxAbort (lxHome id) (id % 4096) 1)

/-- LXACK (R428). -/
def execLxack (g : Guard) (d a b : BitVec 5) (s : State) : Out :=
  issueScalar (.lxack g d a b) g s (fun s =>
    let id := (s.reg a).toNat
    if s.ctx.stage = 0 ∧ (s.lx? (s.launchOf s.cur) id).isNone then raise0 0x1A s
    else (s.commit.release 4).run (fun _ s => let r := s.lxAck id (s.reg b); done (r.2.setReg d (BitVec.ofNat 64 r.1))))

/-- The wait of LXEND for the final state, and its completion (R429). -/
def State.lxEndWait (d : BitVec 5) (id : Nat) (s : State) : Out :=
  match s.lxOf id with
  | none => done (s.setReg d 0)
  | some t =>
    if 5 ≤ t.st then done ((if t.st = 5 then s.acquire 4 else s).setReg d t.word)
    else .next (s.block (sync 13 (BitVec.ofNat 64 id) (.lxFinal (lxHome id) (id % 4096))))

/-- LXEND (R429). -/
def execLxend (g : Guard) (d a : BitVec 5) (s : State) : Out :=
  committedOp (.lxend g d a) g s (fun s =>
    let id := (s.reg a).toNat
    let sheet := s.sheetId
    if s.ctx.stage = 1 then s.lxEndWait d id
    else match s.lx? (s.launchOf s.cur) id with
      | none => raise0 0x1A s
      | some t =>
        match s.lxRank t sheet with
        | none => raise0 0x1A s
        | some r =>
          if t.ends.contains r then raise0 0x1A s
          else if s.inboxFull sheet then .next (s.block (Wait.plain .inboxRoom))
          else (((s.inbox sheet (inboxHead id 0 0 0 0 r 1) []).putLx id { t with ends := t.ends ++ [r] }).upd (fun k => { k with stage := 1 })).lxEndWait d id)

/-- LXSTAT (R429). -/
def execLxstat (g : Guard) (d a : BitVec 5) (s : State) : Out :=
  issueScalar (.lxstat g d a) g s (fun s =>
    match s.lx? (s.launchOf s.cur) (s.reg a).toNat with | none => raise0 0x1A s | some t => done (s.setReg d t.word))

/-! ## Writes of a Compass (R417) -/

/-- The launch that holds a sheet, whose transactions its Compass serves; one that is drained from the sheet holds it only where no other does (R366, R417). -/
def State.launchHolding (s : State) (sheet : Nat) : Option Nat :=
  let mine := s.launches.filter (fun p => p.2.live && p.2.covers sheet)
  ((mine.find? (fun p => !p.2.drained.contains sheet)).or mine.head?).map Prod.fst

def State.mapCompass (sheet : Nat) (f : Compass → Compass) (s : State) : State := s.mapSheet sheet (fun h => { h with compass := f h.compass })

/-- The substitute of a rank in the surveyor's remap table (R423). -/
def State.remap (s : State) (r : Nat) : Option Nat :=
  let n := (s.homeByte (bitsOf s.lxremap.toNat 51 6 * 64 + r)).toNat
  if 64 ≤ r ∨ n = 255 then none else some n

/-- The sheet that takes an expert's tiles: the one at the rank that the placement table gives, or its substitute; an error while a page of the table moves
(R278, R420, R423). -/
def State.expertSheet (sheet : Nat) (t : Lx) (expert : Nat) (s : State) : Except Unit (Option Nat) × State :=
  let l := s.launch t.launch
  let live := fun (r : Nat) => if r < l.w * l.h ∧ l.sheetOfRank r < 32 ∧ (s.sheet (l.sheetOfRank r)).lost = false then some (l.sheetOfRank r) else none
  match s.readVa sheet l.asid (leAt t.desc 8 8 + expert) 1 l.secure with
  | (.error none, s) => (.error (), s)
  | (.error (some _), s) => (.ok none, s)
  | (.ok bs, s) => let r := leNat bs; (.ok ((live r).or ((s.remap r).bind live)), s)

/-- COMPASS_SPAWN (R417, R420, R422). -/
def execCompassSpawn (sheet : Nat) (v : BitVec 64) (s : State) : Out :=
  let x := v.toNat
  let expert := x / 2 ^ 8 % 4096
  let tile := x / 2 ^ 20 % 2 ^ 24
  let res := fun (n : Nat) (s : State) => Host.Outcome.next (s.mapCompass sheet (fun k => { k with spres := n }))
  if 32 ≤ sheet ∨ (s.launchHolding sheet).isNone then .fault .notEnabled
  else if 2 ^ 48 ≤ x then .next s
  else match s.lxNamed sheet (x % 256) with
    | none => res 1 s
    | some (id, t) =>
      if t.st ≠ 1 then res 1 s
      else if leAt t.desc 0x30 4 ≤ tile then res 2 (s.lxAbort (lxHome id) (id % 4096) 4)
      else match s.expertSheet sheet t expert with
        | (.error _, _) => .fault .notEnabled
        | (.ok none, s) => res 3 (s.lxAbort (lxHome id) (id % 4096) 5)
        | (.ok (some target), s) =>
          let b := { Submission.ofVa (BitVec.ofNat 64 (leAt t.desc 0x10 8)) t.launch with
            a0 := some (BitVec.ofNat 64 (expert * 2 ^ 32 + tile)), a1 := some (BitVec.ofNat 64 (leAt t.desc 0x18 8 + 256 * tile)), tile := some id }
          res 0 ((s.putLx id { t with tiles := t.tiles + 1 }).submit target b)

/-- COMPASS_SEAL (R417, R422). -/
def execCompassSeal (sheet : Nat) (v : BitVec 64) (s : State) : Out :=
  let x := v.toNat
  if 32 ≤ sheet ∨ (s.launchHolding sheet).isNone then .fault .notEnabled
  else if 2 ^ 32 ≤ x then .next s
  else match s.lxNamed sheet (x % 256) with
    | none => .next s
    | some (id, t) =>
      match s.lxRank t sheet with
      | none => .next s
      | some r => .next (if t.st = 1 then s.putLx id { t with seals := t.seals.set r (x / 256) } else s)

/-- COMPASS_POPQ: the second half enqueues the record, and waits while the pop queue holds 256 (R417). -/
def execCompassPopq (sheet : Nat) (second : Bool) (v : BitVec 64) (s : State) : Out :=
  let k := (s.sheet sheet).compass
  if 32 ≤ sheet ∨ (s.launchHolding sheet).isNone then .fault .notEnabled
  else if !second then .next (s.mapCompass sheet (fun k => { k with pop0 := some v }))
  else if 256 ≤ k.popq.length then .fault .notEnabled
  else .next (s.mapCompass sheet (fun k => { k with popq := k.popq ++ [(k.pop0.getD 0, v)], pop0 := none }))

/-- COMPASS_INDEX_WRITE (R417). -/
def execCompassIndexWrite (sheet : Nat) (v : BitVec 64) (s : State) : Out :=
  if 32 ≤ sheet then .fault .notEnabled
  else if 256 ≤ v.toNat then .next s
  else .next (s.mapCompass sheet (fun k => { k with index := v.toNat }))

/-- COMPASS_INTAIL_WRITE (R417). -/
def execCompassIntailWrite (sheet : Nat) (v : BitVec 64) (s : State) : Out :=
  if 32 ≤ sheet then .fault .notEnabled
  else if 2 ^ 32 ≤ v.toNat then .next s
  else .next (s.mapCompass sheet (fun k => { k with intail := BitVec.ofNat 32 v.toNat }))

/-- LXDESC: the VA of the descriptor of the transaction that INDEX names (R417, R427). -/
def State.lxDesc (s : State) (sheet : Nat) : Word := match s.lxNamed sheet (s.sheet sheet).compass.index with | some (_, t) => t.descVa | none => 0

/-- LX_COMMIT: every release of an LXACK is acknowledged before the LXACK counts, so the transaction is COMMITTED, and its combine item is spawned at the home
with a0 = id (R422, R428). -/
def execLxCommit (sheet idx : Nat) (s : State) : Out :=
  let t := s.lx sheet idx
  if !t.live ∨ t.st ≠ 2 then .fault .notEnabled
  else
    let id := lxId sheet t.gen idx
    .next ((s.setLx sheet idx { t with st := 3 }).submit sheet
      { Submission.ofVa (BitVec.ofNat 64 (leAt t.desc 0x20 8)) t.launch with a0 := some (BitVec.ofNat 64 id), combine := some id })

end Sys2Proof.Machine
end

