-- ==== Sys2Proof/Machine/Rv64.lean ====
section
/-! DEFINITION. The RV64 core of a Compass (R1, R417). PRESUMED (log 150): the spec names its instruction set, RV64 with I, M, A, C, Zba and Zbb, and gives no
encoding; encodings and effects are those of the RISC-V unprivileged architecture. Its addresses and device registers are those of R417. -/

namespace Sys2Proof.Machine

/-- The outcome of an access or an instruction of a Compass: a value, a wait for which the instruction is tried again, or an end of execution. -/
inductive CpRes (α : Type) where
  | ok (a : α) (s : State)
  | wait
  | stop
  deriving Repr

def CpRes.bind (x : CpRes α) (f : α → State → CpRes β) : CpRes β := match x with | .ok a s => f a s | .wait => .wait | .stop => .stop

/-! ## Addresses (R417) -/

/-- A read of the launch's memory, at its home. -/
def State.cpLoadVa (sheet va n : Nat) (s : State) : CpRes (List Byte) :=
  match s.launchHolding sheet with
  | none => .stop
  | some id =>
    let l := s.launch id
    match s.readVa sheet l.asid va n l.secure with
    | (.ok bs, s) => .ok bs s
    | (.error none, _) => .wait
    | (.error (some _), _) => .stop

/-- The physical address that a VA of the launch has for an access. -/
def State.cpPlace (sheet va : Nat) (acc : Access) (s : State) : CpRes Nat :=
  match s.launchHolding sheet with
  | none => .stop
  | some id =>
    let l := s.launch id
    match s.checkLeaf acc l.secure (s.pageWalk sheet l.asid va acc) with
    | .page _ pa => if s.moving pa then .wait else .ok pa (s.walked sheet l.asid va)
    | .nack => .wait
    | .cause _ => .stop

/-- A write of the launch's memory, performed at its home: the earlier writes of a Compass are performed before a later one, so each of its release points has
nothing to wait for. -/
def State.cpStoreVa (sheet va : Nat) (bs : List Byte) (s : State) : CpRes Unit :=
  (spanReads va bs.length 2).foldl (fun (acc : CpRes Unit) p => acc.bind (fun _ s => (s.cpPlace sheet p.1 .store).bind (fun pa s =>
    .ok () (s.performBytes pa ((bs.drop (p.1 - va)).take p.2))))) (.ok () s)

/-- A device register: those that are written only read 0 (R8, R417). -/
def State.cpRegister (s : State) (sheet off : Nat) : Word :=
  let k := (s.sheet sheet).compass
  match off with
  | 0x00 => BitVec.ofNat 64 k.inhead.toNat
  | 0x08 => BitVec.ofNat 64 k.intail.toNat
  | 0x20 => BitVec.ofNat 64 k.spres
  | 0x40 => s.lxDesc sheet
  | _ => 0

/-- A write of a device register: one that cannot take place yet waits, and one of a register that is only read is ignored (R8, R417). -/
def State.cpWrite (sheet off : Nat) (v : Word) (s : State) : CpRes Unit :=
  let of := fun (o : Out) => match o with | .next s => CpRes.ok () s | _ => .wait
  match off with
  | 0x08 => of (execCompassIntailWrite sheet v s)
  | 0x10 => of (execCompassSpawn sheet v s)
  | 0x18 => of (execCompassSeal sheet v s)
  | 0x30 => of (execCompassPopq sheet false v s)
  | 0x38 => of (execCompassPopq sheet true v s)
  | 0x48 => of (execCompassIndexWrite sheet v s)
  | _ => .ok () s

def State.cpLoad (sheet a n : Nat) (s : State) : CpRes (List Byte) :=
  if a / 2 ^ 55 = 1 then s.cpLoadVa sheet (a % 2 ^ 55) n
  else if a + n ≤ 0x40000 then .ok ((s.sheet sheet).compass.pad.readList a n) s
  else if 0x10000000 ≤ a ∧ a + n ≤ 0x10000050 then .ok (((leBytes 8 (s.cpRegister sheet (a % 0x1000 / 8 * 8)).toNat).drop (a % 8)).take n) s
  else .stop

def State.cpStore (sheet a : Nat) (bs : List Byte) (s : State) : CpRes Unit :=
  if a / 2 ^ 55 = 1 then s.cpStoreVa sheet (a % 2 ^ 55) bs
  else if a + bs.length ≤ 0x40000 then .ok () (s.mapCompass sheet (fun k => { k with pad := k.pad.writeList a bs }))
  else if 0x10000000 ≤ a ∧ a + bs.length ≤ 0x10000050 ∧ a % 8 = 0 then s.cpWrite sheet (a % 0x1000) (BitVec.ofNat 64 (leNat bs))
  else .stop

/-! ## Arithmetic -/

/-- A result of 32 bits, sign-extended. -/
def rvW (f : BitVec 32 → BitVec 32 → BitVec 32) (a b : Word) : Word := (f (a.setWidth 32) (b.setWidth 32)).signExtend 64

/-- Quotient and remainder of n bits: division by zero and overflow give the results of RISC-V. -/
def rvDiv (x y : BitVec n) : BitVec n := if y = 0 then BitVec.allOnes n else x.sdiv y
def rvRem (x y : BitVec n) : BitVec n := if y = 0 then x else x.srem y
def rvDivu (x y : BitVec n) : BitVec n := if y = 0 then BitVec.allOnes n else x / y
def rvRemu (x y : BitVec n) : BitVec n := if y = 0 then x else x % y

def rvBool (b : Bool) : Word := if b then 1 else 0

/-- The high half of a product. -/
def rvMulh (x y : Int) : Word := BitVec.ofInt 64 (x * y / 2 ^ 64)

/-- Register operations of 64 bits, by funct7 and funct3. -/
def rvOp (f7 f3 : Nat) : Option (Word → Word → Word) :=
  match f7, f3 with
  | 0x00, 0 => some (· + ·)
  | 0x00, 1 => some (fun a b => a <<< (b.toNat % 64))
  | 0x00, 2 => some (fun a b => rvBool (a.slt b))
  | 0x00, 3 => some (fun a b => rvBool (a.ult b))
  | 0x00, 4 => some (· ^^^ ·)
  | 0x00, 5 => some (fun a b => a >>> (b.toNat % 64))
  | 0x00, 6 => some (· ||| ·)
  | 0x00, 7 => some (· &&& ·)
  | 0x20, 0 => some (· - ·)
  | 0x20, 4 => some (fun a b => ~~~(a ^^^ b))
  | 0x20, 5 => some (fun a b => a.sshiftRight (b.toNat % 64))
  | 0x20, 6 => some (fun a b => a ||| ~~~b)
  | 0x20, 7 => some (fun a b => a &&& ~~~b)
  | 0x01, 0 => some (· * ·)
  | 0x01, 1 => some (fun a b => rvMulh a.toInt b.toInt)
  | 0x01, 2 => some (fun a b => rvMulh a.toInt b.toNat)
  | 0x01, 3 => some (fun a b => rvMulh a.toNat b.toNat)
  | 0x01, 4 => some rvDiv
  | 0x01, 5 => some rvDivu
  | 0x01, 6 => some rvRem
  | 0x01, 7 => some rvRemu
  | 0x10, 2 => some (fun a b => (a <<< 1) + b)
  | 0x10, 4 => some (fun a b => (a <<< 2) + b)
  | 0x10, 6 => some (fun a b => (a <<< 3) + b)
  | 0x05, 4 => some (fun a b => if a.slt b then a else b)
  | 0x05, 5 => some (fun a b => if a.ult b then a else b)
  | 0x05, 6 => some (fun a b => if a.slt b then b else a)
  | 0x05, 7 => some (fun a b => if a.ult b then b else a)
  | 0x30, 1 => some (fun a b => a.rotateLeft (b.toNat % 64))
  | 0x30, 5 => some (fun a b => a.rotateRight (b.toNat % 64))
  | _, _ => none

/-- Register operations on 32-bit operands, by funct7 and funct3. -/
def rvOp32 (f7 f3 : Nat) : Option (Word → Word → Word) :=
  let low := fun (a : Word) => a &&& 0xFFFFFFFF
  match f7, f3 with
  | 0x00, 0 => some (rvW (· + ·))
  | 0x00, 1 => some (rvW (fun a b => a <<< (b.toNat % 32)))
  | 0x00, 5 => some (rvW (fun a b => a >>> (b.toNat % 32)))
  | 0x20, 0 => some (rvW (· - ·))
  | 0x20, 5 => some (rvW (fun a b => a.sshiftRight (b.toNat % 32)))
  | 0x01, 0 => some (rvW (· * ·))
  | 0x01, 4 => some (rvW rvDiv)
  | 0x01, 5 => some (rvW rvDivu)
  | 0x01, 6 => some (rvW rvRem)
  | 0x01, 7 => some (rvW rvRemu)
  | 0x04, 0 => some (fun a b => low a + b)
  | 0x10, 2 => some (fun a b => (low a <<< 1) + b)
  | 0x10, 4 => some (fun a b => (low a <<< 2) + b)
  | 0x10, 6 => some (fun a b => (low a <<< 3) + b)
  | 0x30, 1 => some (rvW (fun a b => a.rotateLeft (b.toNat % 32)))
  | 0x30, 5 => some (rvW (fun a b => a.rotateRight (b.toNat % 32)))
  | _, _ => none

/-- Each byte that is not 0 becomes all ones. -/
def rvOrcb (a : Word) : Word := BitVec.ofNat 64 (leNat ((leBytes 8 a.toNat).map (fun b => if b = 0 then 0 else 0xFF)))
def rvRev8 (a : Word) : Word := BitVec.ofNat 64 (leNat (leBytes 8 a.toNat).reverse)

/-- Operations of a register and an immediate of 12 bits, by funct3: shifts and bit counts use the immediate's fields. -/
def rvImm (f3 imm : Nat) : Option (Word → Word) :=
  let x := (BitVec.ofNat 12 imm).signExtend 64
  let sh := imm % 64
  match f3 with
  | 0 => some (· + x)
  | 2 => some (fun a => rvBool (a.slt x))
  | 3 => some (fun a => rvBool (a.ult x))
  | 4 => some (· ^^^ x)
  | 6 => some (· ||| x)
  | 7 => some (· &&& x)
  | 1 =>
    if imm / 64 = 0 then some (· <<< sh)
    else match imm with
      | 0x600 => some (fun a => BitVec.ofNat 64 (leadingZeros 64 a.toNat))
      | 0x601 => some (fun a => BitVec.ofNat 64 (trailingZeros 64 a.toNat))
      | 0x602 => some (fun a => BitVec.ofNat 64 (popCount 64 a.toNat))
      | 0x604 => some (fun a => (a.setWidth 8).signExtend 64)
      | 0x605 => some (fun a => (a.setWidth 16).signExtend 64)
      | _ => none
  | _ =>
    if imm / 64 = 0 then some (· >>> sh)
    else if imm / 64 = 0x10 then some (fun a => a.sshiftRight sh)
    else if imm / 64 = 0x18 then some (fun a => a.rotateRight sh)
    else if imm = 0x287 then some rvOrcb
    else if imm = 0x6B8 then some rvRev8
    else none

/-- Operations of a 32-bit operand and an immediate, by funct3. -/
def rvImm32 (f3 imm : Nat) : Option (Word → Word) :=
  let sh := imm % 32
  let w := fun (f : BitVec 32 → BitVec 32) (a : Word) => (f (a.setWidth 32)).signExtend 64
  match f3 with
  | 0 => some (w (· + (BitVec.ofNat 12 imm).signExtend 32))
  | 1 =>
    if imm / 32 = 0 then some (w (· <<< sh))
    else if imm / 64 = 2 then some (fun a => (a &&& 0xFFFFFFFF) <<< (imm % 64))
    else match imm with
      | 0x600 => some (fun a => BitVec.ofNat 64 (leadingZeros 32 (a.toNat % 2 ^ 32)))
      | 0x601 => some (fun a => BitVec.ofNat 64 (trailingZeros 32 (a.toNat % 2 ^ 32)))
      | 0x602 => some (fun a => BitVec.ofNat 64 (popCount 32 (a.toNat % 2 ^ 32)))
      | _ => none
  | 5 =>
    if imm / 32 = 0 then some (w (· >>> sh))
    else if imm / 32 = 0x20 then some (w (fun a => a.sshiftRight sh))
    else if imm / 32 = 0x30 then some (w (fun a => a.rotateRight sh))
    else none
  | _ => none

/-- A branch is taken, by funct3. -/
def rvTaken (f3 : Nat) (a b : Word) : Option Bool :=
  match f3 with
  | 0 => some (a == b)
  | 1 => some (a != b)
  | 4 => some (a.slt b)
  | 5 => some !(a.slt b)
  | 6 => some (a.ult b)
  | 7 => some !(a.ult b)
  | _ => none

/-- The value that an atomic leaves, by funct5, from the old value and the operand. -/
def rvAmo (f5 : Nat) (n : Nat) (x y : BitVec n) : Option (BitVec n) :=
  match f5 with
  | 0x00 => some (x + y)
  | 0x01 => some y
  | 0x04 => some (x ^^^ y)
  | 0x08 => some (x ||| y)
  | 0x0C => some (x &&& y)
  | 0x10 => some (if x.slt y then x else y)
  | 0x14 => some (if x.slt y then y else x)
  | 0x18 => some (if x.ult y then x else y)
  | 0x1C => some (if x.ult y then y else x)
  | _ => none

/-! ## Compressed instructions: each stands for a word of 32 bits -/

def rvI (op f3 rd rs1 imm : Nat) : Nat := imm % 4096 * 2 ^ 20 + rs1 * 2 ^ 15 + f3 * 2 ^ 12 + rd * 2 ^ 7 + op
def rvR (op f7 f3 rd rs1 rs2 : Nat) : Nat := f7 * 2 ^ 25 + rs2 * 2 ^ 20 + rs1 * 2 ^ 15 + f3 * 2 ^ 12 + rd * 2 ^ 7 + op
def rvS (f3 rs1 rs2 imm : Nat) : Nat := imm / 32 % 128 * 2 ^ 25 + rs2 * 2 ^ 20 + rs1 * 2 ^ 15 + f3 * 2 ^ 12 + imm % 32 * 2 ^ 7 + 0x23
def rvB (f3 rs1 imm : Nat) : Nat :=
  imm / 4096 % 2 * 2 ^ 31 + imm / 32 % 64 * 2 ^ 25 + rs1 * 2 ^ 15 + f3 * 2 ^ 12 + imm / 2 % 16 * 2 ^ 8 + imm / 2048 % 2 * 2 ^ 7 + 0x63
def rvJ (rd imm : Nat) : Nat :=
  imm / 2 ^ 20 % 2 * 2 ^ 31 + imm / 2 % 1024 * 2 ^ 21 + imm / 2048 % 2 * 2 ^ 20 + imm / 4096 % 256 * 2 ^ 12 + rd * 2 ^ 7 + 0x6F

/-- A number of n bits, sign-extended to 32. -/
def rvSext (n x : Nat) : Nat := if x / 2 ^ (n - 1) % 2 = 1 then x + 2 ^ 32 - 2 ^ n else x

/-- The word that a compressed instruction stands for, if it is legal. -/
def rvExpand (c : Nat) : Option Nat :=
  let f := fun (hi lo : Nat) => bitsOf c hi lo
  let r1 := f 11 7
  let r2 := f 6 2
  let p1 := 8 + f 9 7
  let p2 := 8 + f 4 2
  let imm6 := rvSext 6 (f 12 12 * 32 + f 6 2)
  let sh := f 12 12 * 32 + f 6 2
  let when := fun (b : Bool) (w : Nat) => if b then some w else none
  match c % 4, f 15 13 with
  | 0, 0 =>
    let n := f 10 7 * 64 + f 12 11 * 16 + f 5 5 * 8 + f 6 6 * 4
    when (n != 0) (rvI 0x13 0 p2 2 n)
  | 0, 2 => some (rvI 0x03 2 p2 p1 (f 5 5 * 64 + f 12 10 * 8 + f 6 6 * 4))
  | 0, 3 => some (rvI 0x03 3 p2 p1 (f 6 5 * 64 + f 12 10 * 8))
  | 0, 6 => some (rvS 2 p1 p2 (f 5 5 * 64 + f 12 10 * 8 + f 6 6 * 4))
  | 0, 7 => some (rvS 3 p1 p2 (f 6 5 * 64 + f 12 10 * 8))
  | 1, 0 => some (rvI 0x13 0 r1 r1 imm6)
  | 1, 1 => when (r1 != 0) (rvI 0x1B 0 r1 r1 imm6)
  | 1, 2 => some (rvI 0x13 0 r1 0 imm6)
  | 1, 3 =>
    if r1 = 2 then
      let n := f 12 12 * 512 + f 4 3 * 128 + f 5 5 * 64 + f 2 2 * 32 + f 6 6 * 16
      when (n != 0) (rvI 0x13 0 2 2 (rvSext 10 n))
    else when (sh != 0) (imm6 % 2 ^ 20 * 2 ^ 12 + r1 * 2 ^ 7 + 0x37)
  | 1, 4 =>
    match f 11 10 with
    | 0 => some (rvI 0x13 5 p1 p1 sh)
    | 1 => some (rvI 0x13 5 p1 p1 (0x400 + sh))
    | 2 => some (rvI 0x13 7 p1 p1 imm6)
    | _ => match f 12 12, f 6 5 with
      | 0, 0 => some (rvR 0x33 0x20 0 p1 p1 p2)
      | 0, 1 => some (rvR 0x33 0 4 p1 p1 p2)
      | 0, 2 => some (rvR 0x33 0 6 p1 p1 p2)
      | 0, _ => some (rvR 0x33 0 7 p1 p1 p2)
      | _, 0 => some (rvR 0x3B 0x20 0 p1 p1 p2)
      | _, 1 => some (rvR 0x3B 0 0 p1 p1 p2)
      | _, _ => none
  | 1, 5 =>
    some (rvJ 0 (rvSext 12 (f 12 12 * 2048 + f 8 8 * 1024 + f 10 9 * 256 + f 6 6 * 128 + f 7 7 * 64 + f 2 2 * 32 + f 11 11 * 16 + f 5 3 * 2)))
  | 1, k =>
    let n := rvSext 9 (f 12 12 * 256 + f 6 5 * 64 + f 2 2 * 32 + f 11 10 * 8 + f 4 3 * 2)
    some (rvB (k - 6) p1 n)
  | 2, 0 => some (rvI 0x13 1 r1 r1 sh)
  | 2, 2 => when (r1 != 0) (rvI 0x03 2 r1 2 (f 3 2 * 64 + f 12 12 * 32 + f 6 4 * 4))
  | 2, 3 => when (r1 != 0) (rvI 0x03 3 r1 2 (f 4 2 * 64 + f 12 12 * 32 + f 6 5 * 8))
  | 2, 4 =>
    if f 12 12 = 0 then (if r2 = 0 then when (r1 != 0) (rvI 0x67 0 0 r1 0) else some (rvR 0x33 0 0 r1 0 r2))
    else if r2 = 0 then (if r1 = 0 then some 0x00100073 else some (rvI 0x67 0 1 r1 0))
    else some (rvR 0x33 0 0 r1 r1 r2)
  | 2, 6 => some (rvS 2 2 r2 (f 8 7 * 64 + f 12 9 * 4))
  | 2, 7 => some (rvS 3 2 r2 (f 9 7 * 64 + f 12 10 * 8))
  | _, _ => none

/-! ## Execution -/

/-- The next instruction, as a word of 32 bits and its length in bytes. -/
def State.cpFetch (sheet : Nat) (s : State) : CpRes (Nat × Nat) :=
  let pc := (s.sheet sheet).compass.pc.toNat
  (s.cpLoad sheet pc 2).bind (fun lo s =>
    let c := leNat lo
    if c % 4 = 3 then (s.cpLoad sheet ((pc + 2) % 2 ^ 64) 2).bind (fun hi s => .ok (c + 65536 * leNat hi, 4) s)
    else match rvExpand c with | some w => .ok (w, 2) s | none => .stop)

def Compass.reg (k : Compass) (r : Nat) : Word := if r % 32 = 0 then 0 else k.x[r % 32]'(Nat.mod_lt _ (by decide))

/-- Writes a register and moves on. -/
def State.cpNext (sheet rd : Nat) (v pc : Word) (s : State) : CpRes Unit :=
  .ok () (s.mapCompass sheet (fun k => { k with x := if rd % 32 = 0 then k.x else k.x.set (rd % 32) v (Nat.mod_lt _ (by decide)), pc := pc }))

/-- The line and its tag at an address of the launch, which a reservation holds; an address of the scratchpad stands for itself. -/
def State.cpLine (sheet a : Nat) (s : State) : CpRes (Nat × BitVec 32) :=
  if a / 2 ^ 55 = 1 then (s.cpPlace sheet (a % 2 ^ 55) .load).bind (fun pa s => .ok (pa / 256 * 256, s.tagOf (pa / 256 * 256)) s)
  else if a < 0x40000 then .ok (a, 0) s
  else .stop

/-- LR, SC and the atomics of n bytes. -/
def State.cpAtomic (sheet f5 n rd a : Nat) (v next : Word) (s : State) : CpRes Unit :=
  let ext := fun (bs : List Byte) => if n = 8 then BitVec.ofNat 64 (leNat bs) else (BitVec.ofNat 32 (leNat bs)).signExtend 64
  if a % n ≠ 0 then .stop
  else (s.cpLine sheet a).bind (fun line s =>
    match f5 with
    | 0x02 => (s.cpLoad sheet a n).bind (fun bs s => (s.mapCompass sheet (fun k => { k with resv := some line })).cpNext sheet rd (ext bs) next)
    | 0x03 =>
      let held := (s.sheet sheet).compass.resv == some line
      let s := s.mapCompass sheet (fun k => { k with resv := none })
      if held then (s.cpStore sheet a (leBytes n v.toNat)).bind (fun _ s => s.cpNext sheet rd 0 next) else s.cpNext sheet rd 1 next
    | _ =>
      (s.cpLoad sheet a n).bind (fun bs s =>
        match rvAmo f5 (8 * n) (BitVec.ofNat (8 * n) (leNat bs)) (BitVec.ofNat (8 * n) v.toNat) with
        | none => .stop
        | some r => (s.cpStore sheet a (leBytes n r.toNat)).bind (fun _ s => s.cpNext sheet rd (ext bs) next)))

/-- One instruction: its word of 32 bits and its length. ECALL, EBREAK and every word that is no instruction end the execution (log 151). -/
def State.cpExec (sheet w n : Nat) (s : State) : CpRes Unit :=
  let k := (s.sheet sheet).compass
  let f := fun (hi lo : Nat) => bitsOf w hi lo
  let rd := f 11 7
  let f3 := f 14 12
  let f7 := f 31 25
  let a := k.reg (f 19 15)
  let b := k.reg (f 24 20)
  let immI := (BitVec.ofNat 12 (f 31 20)).signExtend 64
  let immU := (BitVec.ofNat 32 (f 31 12 * 4096)).signExtend 64
  let next := k.pc + BitVec.ofNat 64 n
  let alu := fun (r : Option Word) => match r with | some v => s.cpNext sheet rd v next | none => CpRes.stop
  match w % 128 with
  | 0x37 => s.cpNext sheet rd immU next
  | 0x17 => s.cpNext sheet rd (k.pc + immU) next
  | 0x6F =>
    let j := (BitVec.ofNat 21 (f 31 31 * 2 ^ 20 + f 19 12 * 4096 + f 20 20 * 2048 + f 30 21 * 2)).signExtend 64
    s.cpNext sheet rd next (k.pc + j)
  | 0x67 => if f3 = 0 then s.cpNext sheet rd next ((a + immI) &&& ~~~1) else .stop
  | 0x63 =>
    let j := (BitVec.ofNat 13 (f 31 31 * 4096 + f 7 7 * 2048 + f 30 25 * 32 + f 11 8 * 2)).signExtend 64
    match rvTaken f3 a b with
    | some t => s.cpNext sheet 0 0 (if t then k.pc + j else next)
    | none => .stop
  | 0x03 =>
    if f3 = 7 then .stop
    else
      let m := 2 ^ (f3 % 4)
      (s.cpLoad sheet (a + immI).toNat m).bind (fun bs s =>
        let v := BitVec.ofNat 64 (leNat bs)
        s.cpNext sheet rd (if f3 < 4 then signExt v (8 * m) else v) next)
  | 0x23 =>
    if 3 < f3 then .stop
    else
      let j := (BitVec.ofNat 12 (f7 * 32 + rd)).signExtend 64
      (s.cpStore sheet (a + j).toNat (leBytes (2 ^ f3) b.toNat)).bind (fun _ s => s.cpNext sheet 0 0 next)
  | 0x13 => alu ((rvImm f3 (f 31 20)).map (fun g => g a))
  | 0x1B => alu ((rvImm32 f3 (f 31 20)).map (fun g => g a))
  | 0x33 => alu ((rvOp f7 f3).map (fun g => g a b))
  | 0x3B => if f7 = 4 ∧ f3 = 4 then (if f 24 20 = 0 then s.cpNext sheet rd (a &&& 0xFFFF) next else .stop) else alu ((rvOp32 f7 f3).map (fun g => g a b))
  | 0x0F => if f3 = 0 then s.cpNext sheet 0 0 next else .stop
  | 0x2F =>
    if f3 ≠ 2 ∧ f3 ≠ 3 ∨ f 31 27 = 2 ∧ f 24 20 ≠ 0 then .stop
    else s.cpAtomic sheet (f 31 27) (2 ^ f3) rd a.toNat b next
  | _ => .stop

/-- A Compass runs one instruction; while one waits, the core stays at it. -/
def State.compassTurn (sheet : Nat) (s : State) : Out :=
  if 32 ≤ sheet ∨ (s.sheet sheet).compass.halted then .fault .notEnabled
  else match (s.cpFetch sheet).bind (fun i s => s.cpExec sheet i.1 i.2) with
    | .ok _ s => .next s
    | .wait => .fault .notEnabled
    | .stop => .next (s.mapCompass sheet (fun k => { k with halted := true }))

end Sys2Proof.Machine
end

