-- ==== Sys2Proof/Machine/Auto.lean ====
section
/-! DEFINITION. The step that the device takes on its own account when nothing is scheduled: the first of its activities that can take place (log 1). Events of the
surroundings (writes of registers, soft errors, temperatures, links, resets) are never taken here. -/

namespace Sys2Proof.Machine

/-- The first of a list of activities that can take place. -/
def State.firstOf (s : State) (l : List (State → Out)) : Option Out := l.findSome? (fun f => match f s with | .next t => some (.next t) | _ => none)

/-- The activities of the requests in flight. -/
def State.requestTurns (s : State) : List (State → Out) :=
  s.net.flatMap (fun (p : Nat × Packet) => [execHomeWrite p.1, execHomeAtomic p.1, execAckReceive p.1, execNackRetry p.1])

/-- The activities of a cluster: its router, its burin array and its tracer. -/
def clusterTurns (cl : Nat) (c : Cluster) : List (State → Out) :=
  [execPacketForward cl, execLatePacketRecord cl, execJobQueueGrant cl, execTracerGrant cl] ++
    c.walks.flatMap (fun (w : Nat × WalkJob) =>
      [execWalkJobAccept cl w.1, execWalkLoadDone cl w.1, execWalkStep cl w.1, execWalkStepEnd cl w.1, execWalkSuspend cl w.1, execWalkJobComplete cl w.1] ++
        w.2.cores.map execHandlerStart) ++
    c.tracers.flatMap (fun (t : Nat × TracerJob) =>
      [execTracerJobStart cl t.1, execTracerPart cl t.1, execTracerSig cl t.1, execTracerSuspend cl t.1, execAppendReadyAdd cl t.1, execTracerJobComplete cl t.1])

/-- The activities for a task: its placement, its print, its end, its routes and its streams. -/
def threadTurns (th : Nat) : List (State → Out) :=
  [execPrintEntryIssue th, execInputCopyDone th, execInputCopyFault th, execTaskEndComplete th, execPmergeResult th] ++
    [Side.a, Side.c].flatMap (fun side => [execRouteOpen th side, execPortItemArrive th side, execRouteCloseFlit th side]) ++
    (List.range 8).flatMap (fun q => [execStreamStart th q, execStreamSlotPublish th q, execStreamSuspend th q])

/-- The activities of a core: lines of a PFETCH that are requested again. -/
def coreTurns (core : Nat) : List (State → Out) := [State.prefetchTurn core]

/-- A dispatch cycle that changes something. -/
def dispatchTurn (sheet : Nat) (s : State) : Out := let r := s.dispatch sheet; if r.1 then .next r.2 else .fault .notEnabled

/-- The activities of a sheet: its dispatcher, its memory controller, its surveyor cores, its transactions and its Compass. -/
def sheetTurns (sheet : Nat) (h : Sheet) : List (State → Out) :=
  [execItemIntake sheet, dispatchTurn sheet, execGovernorTick sheet, execDeadlockSweep sheet, execPageEpochBoundary sheet, execSurveyorTrap sheet] ++
    h.windows.map (fun (w : Nat × Window) => execWindowEnChangeDone sheet w.1) ++ h.lxs.flatMap (fun (x : Nat × Lx) => [execLxCommit sheet x.1, State.lxResolve sheet x.1]) ++ [State.compassTurn sheet]

/-- The activities of a port's service core. -/
def portTurns (port : Nat) : List (State → Out) :=
  [execCmdWrite port, execCmdRead port, execCmdCreateLaunch port, execCmdSubmitItem port, execCmdWakeTask port, execCmdEndLaunch port, execCmdAttest port, execCmdInvalidOp port]

def State.autoEvent (s : State) : Option Out :=
  s.firstOf (s.requestTurns ++ s.clusters.flatMap (fun (c : Nat × Cluster) => clusterTurns c.1 c.2) ++ s.cores.flatMap (fun (c : Nat × Core) => coreTurns c.1) ++ s.threads.flatMap (fun (t : Nat × Thread) => threadTurns t.1) ++
    s.sheets.flatMap (fun (h : Nat × Sheet) => sheetTurns h.1 h.2) ++ s.edges.flatMap (fun (e : Nat × Edge) => [execTurnGroupStart e.1, execTurnGroupRetrain e.1 true]) ++ (List.range 32).map execSheetLost ++
    s.ports.flatMap (fun (p : Nat × HostPort) => portTurns p.1) ++ [fun s => execBootVerifyDone s.bootFinding s])

end Sys2Proof.Machine
end

