-- ==== Sys2Proof/Machine/Hints.lean ====
section
/-! DEFINITION. The hint words (R81, R85 to R95): each takes an issue slot of its own and modifies the instruction of its group. -/

namespace Sys2Proof.Machine

/-- A hint changes what its context holds for the instruction of its group, and the next word follows (R82). -/
def hintCtx (i : Instr) (s : State) (f : Ctx → Ctx) : Out :=
  match issueFault i s with | some c => raise0 c s | none => done (s.upd f)

/-- A hint is recorded for the instruction of its group. -/
def hintOp (i : Instr) (s : State) (f : Hints → Hints) : Out := hintCtx i s (fun k => { k with hints := f k.hints })

/-- IMMX (R85). -/
def execImmxHint (x : BitVec 22) (s : State) : Out := hintOp (.immxHint x) s (fun h => { h with immx := some x })

/-- The repetition at which a REP group starts: REPCNT.DONE when the group stands at its side's EPC and VALID is set, otherwise 0 (R86, R89). -/
def State.repStart (s : State) : Option Nat :=
  let n := if s.cur.isA then 0x00A else 0x00B
  let r := s.ctx.repcnt.toNat
  if r / 256 % 2 = 1 ∧ s.ctx.grp = s.controlRead n then some (r % 256) else none

/-- REP (R86 to R89). -/
def execRepHint (b a d : BitVec 3) (c : BitVec 8) (s : State) : Out :=
  let start := s.repStart
  hintCtx (.repHint b a d c) s (fun k =>
    { k with repDone := start.getD 0, repcnt := if start.isSome then k.repcnt else 0,
             hints := { k.hints with rep := some { count := c.toNat, dStep := repStep d, aStep := repStep a, bStep := repStep b } } })

/-- ORD (R91). -/
def execOrdHint (k st : BitVec 3) (s : State) : Out := hintOp (.ordHint k st) s (fun h => { h with ord := some (k.toNat, st.toNat) })

/-- LOC: `m` is the L2 policy and `l` the L1 policy (R286). -/
def execLocHint (m l : BitVec 2) (s : State) : Out := hintOp (.locHint m l) s (fun h => { h with loc := some (l.toNat, m.toNat) })

/-- MCOMP (R93, R94). -/
def execMcompHint (p : BitVec 1) (m : BitVec 5) (s : State) : Out := hintOp (.mcompHint p m) s (fun h => { h with mcomp := some (m.toNat, p == 1) })

/-- QW: each count field holds the count minus 1 (R95). -/
def execQwHint (o c k j f h : BitVec 3) (s : State) : Out :=
  hintOp (.qwHint o c k j f h) s (fun x =>
    { x with qw := some { dCount := h.toNat + 1, dOff := f.toNat, aCount := j.toNat + 1, aOff := k.toNat, bCount := c.toNat + 1, bOff := o.toNat } })

/-- RND (R92). -/
def execRndHint (r : BitVec 3) (s : State) : Out := hintOp (.rndHint r) s (fun h => { h with rnd := some r.toNat })

end Sys2Proof.Machine
end

