-- ==== Sys2Proof/Machine/Scalar.lean ====
section
/-! DEFINITION. Scalar arithmetic, comparisons, predicates and select (R101 to R110). -/

namespace Sys2Proof.Machine

/-- A scalar instruction that writes one register and goes on to the next word (R101). -/
def aluOp (i : Instr) (g : Guard) (d : BitVec 5) (v : State → Word) (s : State) : Out :=
  issueScalar i g s (fun s => done (s.setReg d (v s)))

/-- A scalar instruction that writes one predicate. -/
def predOp (i : Instr) (g : Guard) (p : BitVec 4) (v : State → Pred) (s : State) : Out :=
  issueScalar i g s (fun s => done (s.setPred p (v s)))

/-! ## IALU (R103) -/

/-- ADD (R103). -/
def execAdd (g : Guard) (d a b : BitVec 5) (s : State) : Out := aluOp (.add g d a b) g d (fun s => s.reg a + s.reg b) s

/-- SUB (R103). -/
def execSub (g : Guard) (d a b : BitVec 5) (s : State) : Out := aluOp (.sub g d a b) g d (fun s => s.reg a - s.reg b) s

/-- AND (R103). -/
def execAnd (g : Guard) (d a b : BitVec 5) (s : State) : Out := aluOp (.and g d a b) g d (fun s => s.reg a &&& s.reg b) s

/-- OR (R103). -/
def execOr (g : Guard) (d a b : BitVec 5) (s : State) : Out := aluOp (.or g d a b) g d (fun s => s.reg a ||| s.reg b) s

/-- XOR (R103). -/
def execXor (g : Guard) (d a b : BitVec 5) (s : State) : Out := aluOp (.xor g d a b) g d (fun s => s.reg a ^^^ s.reg b) s

/-- ANDN (R103). -/
def execAndn (g : Guard) (d a b : BitVec 5) (s : State) : Out := aluOp (.andn g d a b) g d (fun s => s.reg a &&& ~~~(s.reg b)) s

/-- SHL: the count is sB [5:0] (R103). -/
def execShl (g : Guard) (d a b : BitVec 5) (s : State) : Out := aluOp (.shl g d a b) g d (fun s => s.reg a <<< ((s.reg b).toNat % 64)) s

/-- SHR, logical (R103). -/
def execShr (g : Guard) (d a b : BitVec 5) (s : State) : Out := aluOp (.shr g d a b) g d (fun s => s.reg a >>> ((s.reg b).toNat % 64)) s

/-- SAR, arithmetic (R103). -/
def execSar (g : Guard) (d a b : BitVec 5) (s : State) : Out := aluOp (.sar g d a b) g d (fun s => (s.reg a).sshiftRight ((s.reg b).toNat % 64)) s

/-- MIN, signed (R103). -/
def execMin (g : Guard) (d a b : BitVec 5) (s : State) : Out := aluOp (.min g d a b) g d (fun s => if (s.reg b).slt (s.reg a) then s.reg b else s.reg a) s

/-- MAX, signed (R103). -/
def execMax (g : Guard) (d a b : BitVec 5) (s : State) : Out := aluOp (.max g d a b) g d (fun s => if (s.reg a).slt (s.reg b) then s.reg b else s.reg a) s

/-- MINN, unsigned (R103). -/
def execMinn (g : Guard) (d a b : BitVec 5) (s : State) : Out := aluOp (.minn g d a b) g d (fun s => if (s.reg b).ult (s.reg a) then s.reg b else s.reg a) s

/-- MAXN, unsigned (R103). -/
def execMaxn (g : Guard) (d a b : BitVec 5) (s : State) : Out := aluOp (.maxn g d a b) g d (fun s => if (s.reg a).ult (s.reg b) then s.reg b else s.reg a) s

/-- ADDW (R103). -/
def execAddw (g : Guard) (d a b : BitVec 5) (s : State) : Out := aluOp (.addw g d a b) g d (fun s => signExt (s.reg a + s.reg b) 32) s

/-- SUBW (R103). -/
def execSubw (g : Guard) (d a b : BitVec 5) (s : State) : Out := aluOp (.subw g d a b) g d (fun s => signExt (s.reg a - s.reg b) 32) s

/-- CLZ (R103). -/
def execClz (g : Guard) (d a : BitVec 5) (s : State) : Out := aluOp (.clz g d a) g d (fun s => BitVec.ofNat 64 (leadingZeros 64 (s.reg a).toNat)) s

/-- CTZ (R103). -/
def execCtz (g : Guard) (d a : BitVec 5) (s : State) : Out := aluOp (.ctz g d a) g d (fun s => BitVec.ofNat 64 (trailingZeros 64 (s.reg a).toNat)) s

/-- POPC (R103). -/
def execPopc (g : Guard) (d a : BitVec 5) (s : State) : Out := aluOp (.popc g d a) g d (fun s => BitVec.ofNat 64 (popCount 64 (s.reg a).toNat)) s

/-- SEXT8 (R103). -/
def execSext8 (g : Guard) (d a : BitVec 5) (s : State) : Out := aluOp (.sext8 g d a) g d (fun s => signExt (s.reg a) 8) s

/-- SEXT16 (R103). -/
def execSext16 (g : Guard) (d a : BitVec 5) (s : State) : Out := aluOp (.sext16 g d a) g d (fun s => signExt (s.reg a) 16) s

/-- SEXT32 (R103). -/
def execSext32 (g : Guard) (d a : BitVec 5) (s : State) : Out := aluOp (.sext32 g d a) g d (fun s => signExt (s.reg a) 32) s

/-- ZEXT32 (R103). -/
def execZext32 (g : Guard) (d a : BitVec 5) (s : State) : Out := aluOp (.zext32 g d a) g d (fun s => zeroExt (s.reg a) 32) s

/-! ## IMUL (R104) -/

/-- MUL (R104). -/
def execMul (g : Guard) (d a b : BitVec 5) (s : State) : Out := aluOp (.mul g d a b) g d (fun s => s.reg a * s.reg b) s

/-- MULH: bits [127:64] of the signed product (R104). -/
def execMulh (g : Guard) (d a b : BitVec 5) (s : State) : Out := aluOp (.mulh g d a b) g d (fun s => BitVec.ofInt 64 ((s.reg a).toInt * (s.reg b).toInt / 2 ^ 64)) s

/-- MULHN: bits [127:64] of the unsigned product (R104). -/
def execMulhn (g : Guard) (d a b : BitVec 5) (s : State) : Out := aluOp (.mulhn g d a b) g d (fun s => BitVec.ofNat 64 ((s.reg a).toNat * (s.reg b).toNat / 2 ^ 64)) s

/-- MULW (R104). -/
def execMulw (g : Guard) (d a b : BitVec 5) (s : State) : Out := aluOp (.mulw g d a b) g d (fun s => signExt (s.reg a * s.reg b) 32) s

/-- DIV, rounded toward zero (R104). -/
def execDiv (g : Guard) (d a b : BitVec 5) (s : State) : Out := aluOp (.div g d a b) g d (fun s => if s.reg b = 0 then BitVec.allOnes 64 else BitVec.ofInt 64 ((s.reg a).toInt.tdiv (s.reg b).toInt)) s

/-- DIVN (R104). -/
def execDivn (g : Guard) (d a b : BitVec 5) (s : State) : Out := aluOp (.divn g d a b) g d (fun s => if s.reg b = 0 then BitVec.allOnes 64 else s.reg a / s.reg b) s

/-- REM: the sign of the dividend (R104). -/
def execRem (g : Guard) (d a b : BitVec 5) (s : State) : Out := aluOp (.rem g d a b) g d (fun s => if s.reg b = 0 then s.reg a else BitVec.ofInt 64 ((s.reg a).toInt.tmod (s.reg b).toInt)) s

/-- REMN (R104). -/
def execRemn (g : Guard) (d a b : BitVec 5) (s : State) : Out := aluOp (.remn g d a b) g d (fun s => if s.reg b = 0 then s.reg a else s.reg a % s.reg b) s

/-! ## Immediates (R105, R106) -/

/-- ADDI (R105). -/
def execAddi (g : Guard) (d a : BitVec 5) (i : BitVec 10) (s : State) : Out :=
  aluOp (.addi g d a i) g d (fun s => s.reg a + s.imm 10 i) s

/-- ANDI (R105). -/
def execAndi (g : Guard) (d a : BitVec 5) (i : BitVec 10) (s : State) : Out :=
  aluOp (.andi g d a i) g d (fun s => s.reg a &&& s.imm 10 i) s

/-- ORI (R105). -/
def execOri (g : Guard) (d a : BitVec 5) (i : BitVec 10) (s : State) : Out :=
  aluOp (.ori g d a i) g d (fun s => s.reg a ||| s.imm 10 i) s

/-- XORI (R105). -/
def execXori (g : Guard) (d a : BitVec 5) (i : BitVec 10) (s : State) : Out :=
  aluOp (.xori g d a i) g d (fun s => s.reg a ^^^ s.imm 10 i) s

/-- SHLI (R106). -/
def execShli (g : Guard) (d a : BitVec 5) (n : BitVec 6) (s : State) : Out :=
  aluOp (.shli g d a n) g d (fun s => s.reg a <<< n.toNat) s

/-- SHRI (R106). -/
def execShri (g : Guard) (d a : BitVec 5) (n : BitVec 6) (s : State) : Out :=
  aluOp (.shri g d a n) g d (fun s => s.reg a >>> n.toNat) s

/-- SARI (R106). -/
def execSari (g : Guard) (d a : BitVec 5) (n : BitVec 6) (s : State) : Out :=
  aluOp (.sari g d a n) g d (fun s => (s.reg a).sshiftRight n.toNat) s

/-! ## Comparisons, LEA and SEL (R107 to R109) -/

/-- CMPI_EQ (R107). -/
def execCmpiEq (g : Guard) (p : BitVec 4) (a : BitVec 5) (i : BitVec 8) (s : State) : Out :=
  issueScalar (.cmpiEq g p a i) g s (fun s => done (s.setCond p .eq (s.reg a) (s.imm 8 i)))

/-- CMPI_NE (R107). -/
def execCmpiNe (g : Guard) (p : BitVec 4) (a : BitVec 5) (i : BitVec 8) (s : State) : Out :=
  issueScalar (.cmpiNe g p a i) g s (fun s => done (s.setCond p .ne (s.reg a) (s.imm 8 i)))

/-- CMPI_LT (R107). -/
def execCmpiLt (g : Guard) (p : BitVec 4) (a : BitVec 5) (i : BitVec 8) (s : State) : Out :=
  issueScalar (.cmpiLt g p a i) g s (fun s => done (s.setCond p .lt (s.reg a) (s.imm 8 i)))

/-- CMPI_LTN (R107). -/
def execCmpiLtn (g : Guard) (p : BitVec 4) (a : BitVec 5) (i : BitVec 8) (s : State) : Out :=
  issueScalar (.cmpiLtn g p a i) g s (fun s => done (s.setCond p .ltn (s.reg a) (s.imm 8 i)))

/-- CMPI_GE (R107). -/
def execCmpiGe (g : Guard) (p : BitVec 4) (a : BitVec 5) (i : BitVec 8) (s : State) : Out :=
  issueScalar (.cmpiGe g p a i) g s (fun s => done (s.setCond p .ge (s.reg a) (s.imm 8 i)))

/-- CMPI_GEN (R107). -/
def execCmpiGen (g : Guard) (p : BitVec 4) (a : BitVec 5) (i : BitVec 8) (s : State) : Out :=
  issueScalar (.cmpiGen g p a i) g s (fun s => done (s.setCond p .gen (s.reg a) (s.imm 8 i)))

/-- CMP_EQ (R107). -/
def execCmpEq (g : Guard) (p : BitVec 4) (a b : BitVec 5) (s : State) : Out :=
  issueScalar (.cmpEq g p a b) g s (fun s => done (s.setCond p .eq (s.reg a) (s.reg b)))

/-- CMP_NE (R107). -/
def execCmpNe (g : Guard) (p : BitVec 4) (a b : BitVec 5) (s : State) : Out :=
  issueScalar (.cmpNe g p a b) g s (fun s => done (s.setCond p .ne (s.reg a) (s.reg b)))

/-- CMP_LT (R107). -/
def execCmpLt (g : Guard) (p : BitVec 4) (a b : BitVec 5) (s : State) : Out :=
  issueScalar (.cmpLt g p a b) g s (fun s => done (s.setCond p .lt (s.reg a) (s.reg b)))

/-- CMP_LTN (R107). -/
def execCmpLtn (g : Guard) (p : BitVec 4) (a b : BitVec 5) (s : State) : Out :=
  issueScalar (.cmpLtn g p a b) g s (fun s => done (s.setCond p .ltn (s.reg a) (s.reg b)))

/-- CMP_GE (R107). -/
def execCmpGe (g : Guard) (p : BitVec 4) (a b : BitVec 5) (s : State) : Out :=
  issueScalar (.cmpGe g p a b) g s (fun s => done (s.setCond p .ge (s.reg a) (s.reg b)))

/-- CMP_GEN (R107). -/
def execCmpGen (g : Guard) (p : BitVec 4) (a b : BitVec 5) (s : State) : Out :=
  issueScalar (.cmpGen g p a b) g s (fun s => done (s.setCond p .gen (s.reg a) (s.reg b)))

/-- LEA: sA + (sB << shift) (R108). -/
def execLea (g : Guard) (d a b : BitVec 5) (n : BitVec 2) (s : State) : Out :=
  aluOp (.lea g d a b n) g d (fun s => s.reg a + (s.reg b <<< n.toNat)) s

/-- SEL: sA where the tested bit of the predicate is set, otherwise sB (R109). -/
def execSel (g : Guard) (d a b : BitVec 5) (p : BitVec 4) (s : State) : Out :=
  aluOp (.sel g d a b p) g d (fun s => if s.predBit p then s.reg a else s.reg b) s

/-! ## PRED (R110) -/

/-- PAND (R110). -/
def execPand (g : Guard) (d a b : BitVec 4) (s : State) : Out := predOp (.pand g d a b) g d (fun s => s.pred a &&& s.pred b) s

/-- POR (R110). -/
def execPor (g : Guard) (d a b : BitVec 4) (s : State) : Out := predOp (.por g d a b) g d (fun s => s.pred a ||| s.pred b) s

/-- PXOR (R110). -/
def execPxor (g : Guard) (d a b : BitVec 4) (s : State) : Out := predOp (.pxor g d a b) g d (fun s => s.pred a ^^^ s.pred b) s

/-- PANDN (R110). -/
def execPandn (g : Guard) (d a b : BitVec 4) (s : State) : Out := predOp (.pandn g d a b) g d (fun s => s.pred a &&& ~~~(s.pred b)) s

/-- PNOT (R110). -/
def execPnot (g : Guard) (d a : BitVec 4) (s : State) : Out := predOp (.pnot g d a) g d (fun s => ~~~(s.pred a)) s

/-- PSET (R110). -/
def execPset (g : Guard) (d : BitVec 4) (s : State) : Out := predOp (.pset g d) g d (fun _ => BitVec.allOnes 512) s

/-- PCLR (R110). -/
def execPclr (g : Guard) (d : BitVec 4) (s : State) : Out := predOp (.pclr g d) g d (fun _ => 0) s

/-- PMOVS: one bit of sA for each row; the A side takes bit 0 (R110). -/
def execPmovs (g : Guard) (d : BitVec 4) (a : BitVec 5) (s : State) : Out := predOp (.pmovs g d a) g d (fun s => spread (s.reg a)) s

/-- PANY (R110). -/
def execPany (g : Guard) (d : BitVec 5) (a : BitVec 4) (s : State) : Out :=
  aluOp (.pany g d a) g d (fun s => if (s.counted a).any id then 1 else 0) s

/-- PALL (R110). -/
def execPall (g : Guard) (d : BitVec 5) (a : BitVec 4) (s : State) : Out :=
  aluOp (.pall g d a) g d (fun s => if (s.counted a).all id then 1 else 0) s

/-- PCNT (R110). -/
def execPcnt (g : Guard) (d : BitVec 5) (a : BitVec 4) (s : State) : Out :=
  aluOp (.pcnt g d a) g d (fun s => BitVec.ofNat 64 ((s.counted a).filter id).length) s

/-- PFIRST: the index of the first counted bit that is set, or all ones (R110). -/
def execPfirst (g : Guard) (d : BitVec 5) (a : BitVec 4) (s : State) : Out :=
  aluOp (.pfirst g d a) g d (fun s => match firstIndex (s.counted a) id with | some k => BitVec.ofNat 64 k | none => BitVec.allOnes 64) s

end Sys2Proof.Machine
end

