-- ==== Sys2Proof/Machine/Dispatch.lean ====
section
/-! DEFINITION. The dispatch of every instruction and event to its meaning. -/

namespace Sys2Proof.Machine

def exec (i : Instr) (s : State) : Host.Outcome State Fault Refusal :=
  match i with
  | .add g d a b => Sys2Proof.Machine.execAdd g d a b s
  | .sub g d a b => Sys2Proof.Machine.execSub g d a b s
  | .and g d a b => Sys2Proof.Machine.execAnd g d a b s
  | .or g d a b => Sys2Proof.Machine.execOr g d a b s
  | .xor g d a b => Sys2Proof.Machine.execXor g d a b s
  | .andn g d a b => Sys2Proof.Machine.execAndn g d a b s
  | .shl g d a b => Sys2Proof.Machine.execShl g d a b s
  | .shr g d a b => Sys2Proof.Machine.execShr g d a b s
  | .sar g d a b => Sys2Proof.Machine.execSar g d a b s
  | .min g d a b => Sys2Proof.Machine.execMin g d a b s
  | .max g d a b => Sys2Proof.Machine.execMax g d a b s
  | .minn g d a b => Sys2Proof.Machine.execMinn g d a b s
  | .maxn g d a b => Sys2Proof.Machine.execMaxn g d a b s
  | .addw g d a b => Sys2Proof.Machine.execAddw g d a b s
  | .subw g d a b => Sys2Proof.Machine.execSubw g d a b s
  | .clz g d a => Sys2Proof.Machine.execClz g d a s
  | .ctz g d a => Sys2Proof.Machine.execCtz g d a s
  | .popc g d a => Sys2Proof.Machine.execPopc g d a s
  | .sext8 g d a => Sys2Proof.Machine.execSext8 g d a s
  | .sext16 g d a => Sys2Proof.Machine.execSext16 g d a s
  | .sext32 g d a => Sys2Proof.Machine.execSext32 g d a s
  | .zext32 g d a => Sys2Proof.Machine.execZext32 g d a s
  | .mul g d a b => Sys2Proof.Machine.execMul g d a b s
  | .mulh g d a b => Sys2Proof.Machine.execMulh g d a b s
  | .mulhn g d a b => Sys2Proof.Machine.execMulhn g d a b s
  | .mulw g d a b => Sys2Proof.Machine.execMulw g d a b s
  | .div g d a b => Sys2Proof.Machine.execDiv g d a b s
  | .divn g d a b => Sys2Proof.Machine.execDivn g d a b s
  | .rem g d a b => Sys2Proof.Machine.execRem g d a b s
  | .remn g d a b => Sys2Proof.Machine.execRemn g d a b s
  | .addi g d a im => Sys2Proof.Machine.execAddi g d a im s
  | .andi g d a im => Sys2Proof.Machine.execAndi g d a im s
  | .ori g d a im => Sys2Proof.Machine.execOri g d a im s
  | .xori g d a im => Sys2Proof.Machine.execXori g d a im s
  | .shli g d a st => Sys2Proof.Machine.execShli g d a st s
  | .shri g d a st => Sys2Proof.Machine.execShri g d a st s
  | .sari g d a st => Sys2Proof.Machine.execSari g d a st s
  | .cmpiEq g p a im => Sys2Proof.Machine.execCmpiEq g p a im s
  | .cmpiNe g p a im => Sys2Proof.Machine.execCmpiNe g p a im s
  | .cmpiLt g p a im => Sys2Proof.Machine.execCmpiLt g p a im s
  | .cmpiLtn g p a im => Sys2Proof.Machine.execCmpiLtn g p a im s
  | .cmpiGe g p a im => Sys2Proof.Machine.execCmpiGe g p a im s
  | .cmpiGen g p a im => Sys2Proof.Machine.execCmpiGen g p a im s
  | .cmpEq g p a b => Sys2Proof.Machine.execCmpEq g p a b s
  | .cmpNe g p a b => Sys2Proof.Machine.execCmpNe g p a b s
  | .cmpLt g p a b => Sys2Proof.Machine.execCmpLt g p a b s
  | .cmpLtn g p a b => Sys2Proof.Machine.execCmpLtn g p a b s
  | .cmpGe g p a b => Sys2Proof.Machine.execCmpGe g p a b s
  | .cmpGen g p a b => Sys2Proof.Machine.execCmpGen g p a b s
  | .lea g d a b st => Sys2Proof.Machine.execLea g d a b st s
  | .pand g d a b => Sys2Proof.Machine.execPand g d a b s
  | .por g d a b => Sys2Proof.Machine.execPor g d a b s
  | .pxor g d a b => Sys2Proof.Machine.execPxor g d a b s
  | .pandn g d a b => Sys2Proof.Machine.execPandn g d a b s
  | .pnot g d a => Sys2Proof.Machine.execPnot g d a s
  | .pset g d => Sys2Proof.Machine.execPset g d s
  | .pclr g d => Sys2Proof.Machine.execPclr g d s
  | .pmovs g d a => Sys2Proof.Machine.execPmovs g d a s
  | .pany g d a => Sys2Proof.Machine.execPany g d a s
  | .pall g d a => Sys2Proof.Machine.execPall g d a s
  | .pcnt g d a => Sys2Proof.Machine.execPcnt g d a s
  | .pfirst g d a => Sys2Proof.Machine.execPfirst g d a s
  | .sel g d a b p => Sys2Proof.Machine.execSel g d a b p s
  | .jump g o => Sys2Proof.Machine.execJump g o s
  | .jumpLink g o => Sys2Proof.Machine.execJumpLink g o s
  | .jumpReg g a => Sys2Proof.Machine.execJumpReg g a s
  | .jumpLinkReg g a => Sys2Proof.Machine.execJumpLinkReg g a s
  | .nop g => Sys2Proof.Machine.execNop g s
  | .endTask g => Sys2Proof.Machine.execEndTask g s
  | .commit g => Sys2Proof.Machine.execCommit g s
  | .yield g => Sys2Proof.Machine.execYield g s
  | .park g => Sys2Proof.Machine.execPark g s
  | .trap g c => Sys2Proof.Machine.execTrap g c s
  | .eret g => Sys2Proof.Machine.execEret g s
  | .brk g => Sys2Proof.Machine.execBrk g s
  | .hret g => Sys2Proof.Machine.execHret g s
  | .astart g a => Sys2Proof.Machine.execAstart g a s
  | .await g => Sys2Proof.Machine.execAwait g s
  | .iflush g => Sys2Proof.Machine.execIflush g s
  | .crd g d c => Sys2Proof.Machine.execCrd g d c s
  | .cwr g a c => Sys2Proof.Machine.execCwr g a c s
  | .ld g d b z st o => Sys2Proof.Machine.execLd g d b z st o s
  | .st g d b z st o => Sys2Proof.Machine.execSt g d b z st o s
  | .ldv g d b p st t => Sys2Proof.Machine.execLdv g d b p st t s
  | .stv g d b p st => Sys2Proof.Machine.execStv g d b p st s
  | .amoadd g d a b w => Sys2Proof.Machine.execAmoadd g d a b w s
  | .amoand g d a b w => Sys2Proof.Machine.execAmoand g d a b w s
  | .amoor g d a b w => Sys2Proof.Machine.execAmoor g d a b w s
  | .amoxor g d a b w => Sys2Proof.Machine.execAmoxor g d a b w s
  | .amomin g d a b w => Sys2Proof.Machine.execAmomin g d a b w s
  | .amomax g d a b w => Sys2Proof.Machine.execAmomax g d a b w s
  | .amominn g d a b w => Sys2Proof.Machine.execAmominn g d a b w s
  | .amomaxn g d a b w => Sys2Proof.Machine.execAmomaxn g d a b w s
  | .amoswap g d a b w => Sys2Proof.Machine.execAmoswap g d a b w s
  | .amocas g d a b w => Sys2Proof.Machine.execAmocas g d a b w s
  | .amofadd g d a b => Sys2Proof.Machine.execAmofadd g d a b s
  | .amostag g d a b => Sys2Proof.Machine.execAmostag g d a b s
  | .fence g k st => Sys2Proof.Machine.execFence g k st s
  | .waitack g d a st => Sys2Proof.Machine.execWaitack g d a st s
  | .pfetch g a b => Sys2Proof.Machine.execPfetch g a b s
  | .cclean g d a b => Sys2Proof.Machine.execCclean g d a b s
  | .cinval g d a b => Sys2Proof.Machine.execCinval g d a b s
  | .cflush g d a b => Sys2Proof.Machine.execCflush g d a b s
  | .acqinv g b => Sys2Proof.Machine.execAcqinv g b s
  | .vadd g d a b => Sys2Proof.Machine.execVadd g d a b s
  | .vsub g d a b => Sys2Proof.Machine.execVsub g d a b s
  | .vmul g d a b => Sys2Proof.Machine.execVmul g d a b s
  | .vmin g d a b => Sys2Proof.Machine.execVmin g d a b s
  | .vmax g d a b => Sys2Proof.Machine.execVmax g d a b s
  | .vabs g d a => Sys2Proof.Machine.execVabs g d a s
  | .vneg g d a => Sys2Proof.Machine.execVneg g d a s
  | .vand g d a b => Sys2Proof.Machine.execVand g d a b s
  | .vor g d a b => Sys2Proof.Machine.execVor g d a b s
  | .vxor g d a b => Sys2Proof.Machine.execVxor g d a b s
  | .vshl g d a b => Sys2Proof.Machine.execVshl g d a b s
  | .vshr g d a b => Sys2Proof.Machine.execVshr g d a b s
  | .vsar g d a b => Sys2Proof.Machine.execVsar g d a b s
  | .vfma g d a b => Sys2Proof.Machine.execVfma g d a b s
  | .vfms g d a b => Sys2Proof.Machine.execVfms g d a b s
  | .vadds g d a b => Sys2Proof.Machine.execVadds g d a b s
  | .vsubs g d a b => Sys2Proof.Machine.execVsubs g d a b s
  | .vmuls g d a b => Sys2Proof.Machine.execVmuls g d a b s
  | .vmins g d a b => Sys2Proof.Machine.execVmins g d a b s
  | .vmaxs g d a b => Sys2Proof.Machine.execVmaxs g d a b s
  | .vfmas g d a b => Sys2Proof.Machine.execVfmas g d a b s
  | .vexp2 g d a => Sys2Proof.Machine.execVexp2 g d a s
  | .vlog2 g d a => Sys2Proof.Machine.execVlog2 g d a s
  | .vrcp g d a => Sys2Proof.Machine.execVrcp g d a s
  | .vrsq g d a => Sys2Proof.Machine.execVrsq g d a s
  | .vsqrt g d a => Sys2Proof.Machine.execVsqrt g d a s
  | .vtanh g d a => Sys2Proof.Machine.execVtanh g d a s
  | .vrsum g d a => Sys2Proof.Machine.execVrsum g d a s
  | .vrmax g d a => Sys2Proof.Machine.execVrmax g d a s
  | .vrmin g d a => Sys2Proof.Machine.execVrmin g d a s
  | .vcsum g d a => Sys2Proof.Machine.execVcsum g d a s
  | .vcmax g d a => Sys2Proof.Machine.execVcmax g d a s
  | .vramax g d a => Sys2Proof.Machine.execVramax g d a s
  | .vcmpEq g p a b => Sys2Proof.Machine.execVcmpEq g p a b s
  | .vcmpNe g p a b => Sys2Proof.Machine.execVcmpNe g p a b s
  | .vcmpLt g p a b => Sys2Proof.Machine.execVcmpLt g p a b s
  | .vcmpLe g p a b => Sys2Proof.Machine.execVcmpLe g p a b s
  | .vcmpGt g p a b => Sys2Proof.Machine.execVcmpGt g p a b s
  | .vcmpGe g p a b => Sys2Proof.Machine.execVcmpGe g p a b s
  | .vcmpUn g p a b => Sys2Proof.Machine.execVcmpUn g p a b s
  | .vcvt g d a st t => Sys2Proof.Machine.execVcvt g d a st t s
  | .vmov g d a => Sys2Proof.Machine.execVmov g d a s
  | .vsplat g d a => Sys2Proof.Machine.execVsplat g d a s
  | .vext g d a b => Sys2Proof.Machine.execVext g d a b s
  | .vins g d a b => Sys2Proof.Machine.execVins g d a b s
  | .vbrow g d a b => Sys2Proof.Machine.execVbrow g d a b s
  | .vbcol g d a b => Sys2Proof.Machine.execVbcol g d a b s
  | .vshape g d a => Sys2Proof.Machine.execVshape g d a s
  | .vzero g d => Sys2Proof.Machine.execVzero g d s
  | .viota g d a => Sys2Proof.Machine.execViota g d a s
  | .vshuf g d a b => Sys2Proof.Machine.execVshuf g d a b s
  | .vscale g d a b => Sys2Proof.Machine.execVscale g d a b s
  | .smerge g d a b => Sys2Proof.Machine.execSmerge g d a b s
  | .smergez g d a b => Sys2Proof.Machine.execSmergez g d a b s
  | .smcount g d a b => Sys2Proof.Machine.execSmcount g d a b s
  | .scan g d a b => Sys2Proof.Machine.execScan g d a b s
  | .scanx g d a b => Sys2Proof.Machine.execScanx g d a b s
  | .vprune g d a b => Sys2Proof.Machine.execVprune g d a b s
  | .vprunes g d a b => Sys2Proof.Machine.execVprunes g d a b s
  | .vrng g d => Sys2Proof.Machine.execVrng g d s
  | .vcompact g d a p => Sys2Proof.Machine.execVcompact g d a p s
  | .pmerge g d a b f => Sys2Proof.Machine.execPmerge g d a b f s
  | .qcfg g d q => Sys2Proof.Machine.execQcfg g d q s
  | .qpub g q => Sys2Proof.Machine.execQpub g q s
  | .qadv g q => Sys2Proof.Machine.execQadv g q s
  | .qfill g d q b => Sys2Proof.Machine.execQfill g d q b s
  | .sstr g q a => Sys2Proof.Machine.execSstr g q a s
  | .istr g q a => Sys2Proof.Machine.execIstr g q a s
  | .sclose g q => Sys2Proof.Machine.execSclose g q s
  | .sstat g d q => Sys2Proof.Machine.execSstat g d q s
  | .spsend g a b => Sys2Proof.Machine.execSpsend g a b s
  | .spsendv g d a => Sys2Proof.Machine.execSpsendv g d a s
  | .spclose g => Sys2Proof.Machine.execSpclose g s
  | .sprecv g d a p => Sys2Proof.Machine.execSprecv g d a p s
  | .sprecvv g d a p => Sys2Proof.Machine.execSprecvv g d a p s
  | .spstat g d a => Sys2Proof.Machine.execSpstat g d a s
  | .mwalk g d a => Sys2Proof.Machine.execMwalk g d a s
  | .mwalkg g d a => Sys2Proof.Machine.execMwalkg g d a s
  | .mprog g d a b => Sys2Proof.Machine.execMprog g d a b s
  | .mcancel g d a => Sys2Proof.Machine.execMcancel g d a s
  | .mnode g d a b => Sys2Proof.Machine.execMnode g d a b s
  | .gang g a => Sys2Proof.Machine.execGang g a s
  | .jwait g d a => Sys2Proof.Machine.execJwait g d a s
  | .jpoll g d a => Sys2Proof.Machine.execJpoll g d a s
  | .tcopy g d a => Sys2Proof.Machine.execTcopy g d a s
  | .tgather g d a => Sys2Proof.Machine.execTgather g d a s
  | .tscatter g d a => Sys2Proof.Machine.execTscatter g d a s
  | .tscadd g d a => Sys2Proof.Machine.execTscadd g d a s
  | .tfill g d a => Sys2Proof.Machine.execTfill g d a s
  | .sleepu g d a b => Sys2Proof.Machine.execSleepu g d a b s
  | .phreg g d a b => Sys2Proof.Machine.execPhreg g d a b s
  | .phdrop g d a b => Sys2Proof.Machine.execPhdrop g d a b s
  | .phsig g d a b => Sys2Proof.Machine.execPhsig g d a b s
  | .phwait g d a b => Sys2Proof.Machine.execPhwait g d a b s
  | .phnext g d a b => Sys2Proof.Machine.execPhnext g d a b s
  | .phread g d a b => Sys2Proof.Machine.execPhread g d a b s
  | .phnew g d a => Sys2Proof.Machine.execPhnew g d a s
  | .phfree g d a => Sys2Proof.Machine.execPhfree g d a s
  | .tspawn g d a b => Sys2Proof.Machine.execTspawn g d a b s
  | .tdep g d a b => Sys2Proof.Machine.execTdep g d a b s
  | .tctr g d a => Sys2Proof.Machine.execTctr g d a s
  | .tshape g d a b => Sys2Proof.Machine.execTshape g d a b s
  | .targ g d b => Sys2Proof.Machine.execTarg g d b s
  | .tself g d => Sys2Proof.Machine.execTself g d s
  | .tlate g d => Sys2Proof.Machine.execTlate g d s
  | .pgld g d a b => Sys2Proof.Machine.execPgld g d a b s
  | .pdrop g d a => Sys2Proof.Machine.execPdrop g d a s
  | .pstat g d a => Sys2Proof.Machine.execPstat g d a s
  | .pnorec g d a => Sys2Proof.Machine.execPnorec g d a s
  | .lturn g d a b => Sys2Proof.Machine.execLturn g d a b s
  | .lstat g d a b => Sys2Proof.Machine.execLstat g d a b s
  | .lquiet g d a => Sys2Proof.Machine.execLquiet g d a s
  | .gpush g d a b => Sys2Proof.Machine.execGpush g d a b s
  | .rpop g d b => Sys2Proof.Machine.execRpop g d b s
  | .lxbegin g d a => Sys2Proof.Machine.execLxbegin g d a s
  | .lxack g d a b => Sys2Proof.Machine.execLxack g d a b s
  | .lxend g d a => Sys2Proof.Machine.execLxend g d a s
  | .lxstat g d a => Sys2Proof.Machine.execLxstat g d a s
  | .tlbinv g d a b => Sys2Proof.Machine.execTlbinv g d a b s
  | .freeze g d a b => Sys2Proof.Machine.execFreeze g d a b s
  | .thaw g d a b => Sys2Proof.Machine.execThaw g d a b s
  | .pgmove g d a b => Sys2Proof.Machine.execPgmove g d a b s
  | .cspare g d a => Sys2Proof.Machine.execCspare g d a s
  | .world g d a b => Sys2Proof.Machine.execWorld g d a b s
  | .immxHint x => Sys2Proof.Machine.execImmxHint x s
  | .repHint b a d c => Sys2Proof.Machine.execRepHint b a d c s
  | .ordHint k st => Sys2Proof.Machine.execOrdHint k st s
  | .locHint m l => Sys2Proof.Machine.execLocHint m l s
  | .mcompHint p m => Sys2Proof.Machine.execMcompHint p m s
  | .qwHint o c k j f h => Sys2Proof.Machine.execQwHint o c k j f h s
  | .rndHint r => Sys2Proof.Machine.execRndHint r s
  | .illegalInstruction w => Sys2Proof.Machine.execIllegalInstruction w s
  | .jobQueueGrant cl => Sys2Proof.Machine.execJobQueueGrant cl s
  | .walkJobAccept cl job => Sys2Proof.Machine.execWalkJobAccept cl job s
  | .walkLoadDone cl job => Sys2Proof.Machine.execWalkLoadDone cl job s
  | .walkStep cl job => Sys2Proof.Machine.execWalkStep cl job s
  | .walkStepEnd cl job => Sys2Proof.Machine.execWalkStepEnd cl job s
  | .walkSuspend cl job => Sys2Proof.Machine.execWalkSuspend cl job s
  | .handlerStart core => Sys2Proof.Machine.execHandlerStart core s
  | .walkJobComplete cl job => Sys2Proof.Machine.execWalkJobComplete cl job s
  | .tracerGrant cl => Sys2Proof.Machine.execTracerGrant cl s
  | .tracerJobStart cl job => Sys2Proof.Machine.execTracerJobStart cl job s
  | .tracerPart cl job => Sys2Proof.Machine.execTracerPart cl job s
  | .tracerSig cl job => Sys2Proof.Machine.execTracerSig cl job s
  | .tracerSuspend cl job => Sys2Proof.Machine.execTracerSuspend cl job s
  | .appendReadyAdd cl job => Sys2Proof.Machine.execAppendReadyAdd cl job s
  | .tracerJobComplete cl job => Sys2Proof.Machine.execTracerJobComplete cl job s
  | .streamStart th q => Sys2Proof.Machine.execStreamStart th q s
  | .streamSlotPublish th q => Sys2Proof.Machine.execStreamSlotPublish th q s
  | .streamSuspend th q => Sys2Proof.Machine.execStreamSuspend th q s
  | .pmergeResult th => Sys2Proof.Machine.execPmergeResult th s
  | .homeWrite pkt => Sys2Proof.Machine.execHomeWrite pkt s
  | .homeAtomic pkt => Sys2Proof.Machine.execHomeAtomic pkt s
  | .ackReceive pkt => Sys2Proof.Machine.execAckReceive pkt s
  | .nackRetry pkt => Sys2Proof.Machine.execNackRetry pkt s
  | .tlbMissWalk cl asid va => Sys2Proof.Machine.execTlbMissWalk cl asid va s
  | .tlbHcSpill cl idx => Sys2Proof.Machine.execTlbHcSpill cl idx s
  | .llcFill sheet line => Sys2Proof.Machine.execLlcFill sheet line s
  | .pageEpochBoundary sheet => Sys2Proof.Machine.execPageEpochBoundary sheet s
  | .wcfgWrite sheet w v => Sys2Proof.Machine.execWcfgWrite sheet w v s
  | .windowEnChangeDone sheet w => Sys2Proof.Machine.execWindowEnChangeDone sheet w s
  | .atlasWrite sheet v => Sys2Proof.Machine.execAtlasWrite sheet v s
  | .repctlWrite sheet v => Sys2Proof.Machine.execRepctlWrite sheet v s
  | .stqcfgWrite sheet stage v => Sys2Proof.Machine.execStqcfgWrite sheet stage v s
  | .svitemWrite sheet v => Sys2Proof.Machine.execSvitemWrite sheet v s
  | .plctlFlush sheet => Sys2Proof.Machine.execPlctlFlush sheet s
  | .plctlKind sheet => Sys2Proof.Machine.execPlctlKind sheet s
  | .lxlostWrite v => Sys2Proof.Machine.execLxlostWrite v s
  | .securityRegionWrite sheet region reg v secure => Sys2Proof.Machine.execSecurityRegionWrite sheet region reg v secure s
  | .surveyorRegWrite sheet k n v => Sys2Proof.Machine.execSurveyorRegWrite sheet k n v s
  | .itemIntake sheet => Sys2Proof.Machine.execItemIntake sheet s
  | .dispatchCycle sheet => Sys2Proof.Machine.execDispatchCycle sheet s
  | .printEntryIssue th => Sys2Proof.Machine.execPrintEntryIssue th s
  | .inputCopyDone th => Sys2Proof.Machine.execInputCopyDone th s
  | .inputCopyFault th => Sys2Proof.Machine.execInputCopyFault th s
  | .taskEndComplete th => Sys2Proof.Machine.execTaskEndComplete th s
  | .governorTick sheet => Sys2Proof.Machine.execGovernorTick sheet s
  | .deadlockSweep sheet => Sys2Proof.Machine.execDeadlockSweep sheet s
  | .surveyorTrap sheet => Sys2Proof.Machine.execSurveyorTrap sheet s
  | .watchdogExpire th side => Sys2Proof.Machine.execWatchdogExpire th side s
  | .softErrorCorrected site => Sys2Proof.Machine.execSoftErrorCorrected site s
  | .softErrorUncorrected site => Sys2Proof.Machine.execSoftErrorUncorrected site s
  | .latePacketRecord cl => Sys2Proof.Machine.execLatePacketRecord cl s
  | .packetForward cl => Sys2Proof.Machine.execPacketForward cl s
  | .routeOpen th side => Sys2Proof.Machine.execRouteOpen th side s
  | .portItemArrive th side => Sys2Proof.Machine.execPortItemArrive th side s
  | .routeCloseFlit th side => Sys2Proof.Machine.execRouteCloseFlit th side s
  | .turnGroupStart edge => Sys2Proof.Machine.execTurnGroupStart edge s
  | .turnGroupRetrain edge ok => Sys2Proof.Machine.execTurnGroupRetrain edge ok s
  | .compassSpawn sheet v => Sys2Proof.Machine.execCompassSpawn sheet v s
  | .compassSeal sheet v => Sys2Proof.Machine.execCompassSeal sheet v s
  | .compassPopq sheet second v => Sys2Proof.Machine.execCompassPopq sheet second v s
  | .compassIndexWrite sheet v => Sys2Proof.Machine.execCompassIndexWrite sheet v s
  | .compassIntailWrite sheet v => Sys2Proof.Machine.execCompassIntailWrite sheet v s
  | .lxCommit sheet idx => Sys2Proof.Machine.execLxCommit sheet idx s
  | .sheetLost sheet => Sys2Proof.Machine.execSheetLost sheet s
  | .cmdbaseWrite port v => Sys2Proof.Machine.execCmdbaseWrite port v s
  | .cmdtailWrite port v => Sys2Proof.Machine.execCmdtailWrite port v s
  | .hostRegWrite port off v => Sys2Proof.Machine.execHostRegWrite port off v s
  | .cmdWrite port => Sys2Proof.Machine.execCmdWrite port s
  | .cmdRead port => Sys2Proof.Machine.execCmdRead port s
  | .cmdCreateLaunch port => Sys2Proof.Machine.execCmdCreateLaunch port s
  | .cmdSubmitItem port => Sys2Proof.Machine.execCmdSubmitItem port s
  | .cmdWakeTask port => Sys2Proof.Machine.execCmdWakeTask port s
  | .cmdEndLaunch port => Sys2Proof.Machine.execCmdEndLaunch port s
  | .cmdAttest port => Sys2Proof.Machine.execCmdAttest port s
  | .cmdInvalidOp port => Sys2Proof.Machine.execCmdInvalidOp port s
  | .statusWrite port v => Sys2Proof.Machine.execStatusWrite port v s
  | .bootVerifyDone reason => Sys2Proof.Machine.execBootVerifyDone reason s
  | .moduleReset => Sys2Proof.Machine.execModuleReset s
  | .thermalThrottle sheet => Sys2Proof.Machine.execThermalThrottle sheet s
  | .thermalStop => Sys2Proof.Machine.execThermalStop s
  | .sleepuWake th side => Sys2Proof.Machine.execSleepuWake th side s
  | .bar2WindowAccess port write pa v => Sys2Proof.Machine.execBar2WindowAccess port write pa v s
  | .meridianLinkTraining port trained => Sys2Proof.Machine.execMeridianLinkTraining port trained s
  | .junctionTemperatureFall sheet => Sys2Proof.Machine.execJunctionTemperatureFall sheet s

end Sys2Proof.Machine
end

