-- ==== Sys2Proof/Machine/Step.lean ====
section
/-! DEFINITION. One step of the module: the turn that comes next, and what it does. Every step takes one cycle (log 11). -/

namespace Sys2Proof.Machine

/-- The cycle counter advances (R62). -/
def State.tick (s : State) : State := { s with cycle := s.cycle + 1 }

/-- A step's next state, with the cycle counted. -/
def ticked (o : Out) : Out := match o with | .next s => .next s.tick | .fault f => .fault f | .refused r => .refused r

/-- What a recording in progress makes of an instruction that its task issues (R375). -/
def engraved (i : Instr) (pre : State) (o : Out) : Out := match o with | .next s => .next (State.engrave i pre s) | .fault f => .fault f | .refused r => .refused r

/-- The effect of a word, with what a recording in progress makes of it. -/
def runWord (i : Instr) (s : State) : Out := engraved i s (exec i s)

/-- A ready context issues one word (R69, R70, R82). -/
def State.issueFrom (c : CtxId) (s : State) : Out := ticked (s.attempt runWord c)

/-- A front end of a core issues if it can: it has at most ten contexts to choose from. -/
def State.frontIssue (core : Nat) (side : Side) (s : State) : Option Out := (s.front runWord core side 10).map ticked

/-- A front end of a core takes its turn, or the cycle passes. -/
def State.frontTurn (core : Nat) (side : Side) (s : State) : Out := (s.frontIssue core side).getD (.next s.tick)

/-- The front end of the context in focus, or a surveyor core, issues if it can. -/
def State.focusTurn (s : State) : Option Out :=
  match s.cur with
  | .task th side => s.frontIssue (coreOfThread th) side
  | .handler core _ => s.frontIssue core .c
  | .surveyor h k => if s.ready (.surveyor h k) then some (s.issueFrom (.surveyor h k)) else none

/-- The contexts in turn: they start at a place that moves with the cycle, so that none of them is left out for long (log 1). -/
def State.inTurn (s : State) : Map CtxId Ctx := let k := s.cycle.toNat / 4 % max 1 s.ctxs.length; s.ctxs.drop k ++ s.ctxs.take k

/-- Some context that can issue, whether or not through the front end in focus. -/
def State.otherTurn (s : State) : Option Out :=
  match s.inTurn.find? (fun p => s.ready p.1) with
  | some (.task th side, _) => some (s.frontTurn (coreOfThread th) side)
  | some (.handler core _, _) => some (s.frontTurn core .c)
  | some (.surveyor h k, _) => some (s.issueFrom (.surveyor h k))
  | none => none

/-- An activity of a device. -/
def State.deviceTurn (s : State) : Option Out := s.autoEvent.map ticked

/-- The step when nothing is scheduled: the focus, an activity of a device, another context, or an idle cycle. The last two come first in one cycle of four
each, so that a program that polls keeps neither the devices nor the other contexts waiting (log 1). -/
def State.ownTurn (s : State) : Out :=
  let turn := match s.cycle.toNat % 4 with
    | 3 => s.deviceTurn.orElse (fun _ => s.focusTurn.orElse (fun _ => s.otherTurn))
    | 1 => s.otherTurn.orElse (fun _ => s.deviceTurn)
    | _ => s.focusTurn.orElse (fun _ => s.deviceTurn.orElse (fun _ => s.otherTurn))
  turn.getD (.next s.tick)

/-- One step of the module. -/
def step (s : State) : Out :=
  match s.agenda with
  | [] => s.ownTurn
  | t :: rest =>
    let s := { s with agenda := rest }
    match t with
    | .event i => ticked (exec i s)
    | .front core side => s.frontTurn core side
    | .compass sheet => ticked (s.compassTurn sheet)
    | .temperature stack bin => ticked (s.sampleTemperature stack bin)
    | .voltage bin => ticked (s.sampleVoltage bin)
    | .aborted sheet idx => ticked (s.lxResolve sheet idx)
    | .ctx c => if s.ready c then s.issueFrom c else .fault .notEnabled

/-- The state with an instruction word where the next step fetches (log 10). Behind a hint word stands an instruction that accepts it, because a group is
fetched and checked whole (R82, R83). -/
def State.withFetchWord (s : State) (nbits w : Nat) : State :=
  let v := BitVec.ofNat 32 (w % 2 ^ nbits)
  ({ s with cycle := 0 } : State).placeWords (if isHintWord v then [v, acceptingWord v] else [v])

end Sys2Proof.Machine
end

