-- ==== Sys2Proof/Safety.lean ====
section
/-! DEFINITION. What a safe run is, and the terms in which statements speak of an instruction: when it issues, and when it completes with an effect and
changes nothing else. -/

namespace Sys2Proof

/-- A state from which n steps all answer next states. -/
def runs (n : Nat) (s : Machine.State) : Bool :=
  match n with
  | 0 => true
  | k + 1 => match Machine.step s with | .next t => runs k t | .fault _ => false | .refused _ => false

/-- A step does not refuse. -/
def stepSafe (s : Machine.State) : Bool := match Machine.step s with | .refused _ => false | _ => true

end Sys2Proof

namespace Sys2Proof.Machine

/-- The instruction passes the checks of R69, its REP hint leaves a repetition to execute (R87), and no queue window that it names makes it wait (R96). -/
def Issues (i : Instr) (s : State) : Prop := issueFault i s = none ∧ s.repZero = false ∧ s.windowWaits (opndsOf i) = none

/-- A context but for the progress of the group that it issues: its registers, predicates, vector registers and control registers (REPCNT apart, which the
completion of a REP group sets to 0, R89), its acknowledgement record, its route and its run state. -/
def Ctx.held (k : Ctx) : Ctx :=
  { k with pc := 0, grp := 0, buf := [], hints := Hints.none, repDone := 0, repcnt := 0, wait := none, stage := 0, begun := false, keep := 0, kept := [], words := 0, hop := [] }

/-- The issuing word has a further repetition after this one (R86). -/
def State.repeats (s : State) : Bool :=
  !isHintWord (s.ctx.buf.headD 0) && (match s.ctx.hints.rep with | some r => decide (s.ctx.repDone + 1 < r.count) | none => false)

/-- A context but for the words that its leader has sent it (R72). -/
def Ctx.unhopped (k : Ctx) : Ctx := { k with hop := [] }

/-- An outcome is a next state in which the issuing word has completed on the state `r`, which holds the instruction's effect, with the program counter at
`pc` when no repetition is left. The FRAME: outside the contexts the next state is `r`; the issuing context keeps the registers that it has in `r`; and every
other context is as in `r`, but for the words that a leader sends its followers. -/
def CompletesAt (pc : Word) (r : State) (o : Out) : Prop :=
  ∃ t, o = .next t ∧ t = { r with ctxs := t.ctxs } ∧ t.ctx.held = r.ctx.held ∧ (∀ c, c ≠ r.cur → (t.ctxOf c).unhopped = (r.ctxOf c).unhopped) ∧
    t.ctx.wait = none ∧ t.ctx.stage = 0 ∧ t.ctx.pc = if r.repeats then r.ctx.pc else pc

/-- The same, with the program counter at the next word. -/
def Completes (r : State) (o : Out) : Prop := CompletesAt (r.ctx.pc + 4) r o

/-- An outcome is the next state `r` with the issuing context waiting for a condition; the word issues again when it holds (R9). -/
def Waits (c : WaitCond) (r : State) (o : Out) : Prop :=
  ∃ t, o = .next t ∧ t = { r with ctxs := t.ctxs } ∧ (∀ x, x ≠ r.cur → t.ctxOf x = r.ctxOf x) ∧
    ∃ w : Wait, w.cond = c ∧ t.ctx = { r.ctx with wait := some w }

end Sys2Proof.Machine
end

