-- ==== Sys2Proof/Certificates/Slice0/Obligations.lean ====
section
/-! DEFINITION. The statements about this model. Each names the rules of the spec that it formalises. Helper tables in Sys2Proof.Claims say what the spec's
tables say, in terms of integers, bits and bytes; the statements compare the model with them. -/

namespace Sys2Proof.Claims
end Sys2Proof.Claims

open Sys2Proof Sys2Proof.Machine Sys2Proof.Claims

namespace Sys2Proof.Claims

/-! ### Encodings and steps -/

/-- An instruction that is written as a word: every row of the opcode map and every hint; the other constructors are steps of a device and the words that
select nothing. -/
def hasWord (i : Instr) : Prop := groupOf i ≠ .event

/-- The major opcodes that R78 leaves unassigned. -/
def unassignedMajors : List Nat := [0x00, 0x03, 0x0E, 0x0F, 0x16, 0x17, 0x1E, 0x1F, 0x29, 0x2A, 0x2B, 0x2E, 0x2F, 0x35, 0x36, 0x37, 0x3E]

/-- The first FN value of each group of R79 above which every value raises cause 0x01. -/
def firstReservedFn : List (Nat × Nat) :=
  [(0x01, 0x17), (0x02, 0x08), (0x0A, 0x06), (0x0B, 0x04), (0x0C, 0x0C), (0x0D, 0x10), (0x12, 0x02), (0x13, 0x0C), (0x1C, 0x1A), (0x1D, 0x07), (0x20, 0x0F),
    (0x21, 0x06), (0x22, 0x06), (0x23, 0x06), (0x24, 0x07), (0x26, 0x0B), (0x27, 0x09), (0x2C, 0x08), (0x2D, 0x06), (0x30, 0x05), (0x31, 0x01), (0x32, 0x02),
    (0x33, 0x05), (0x34, 0x01), (0x38, 0x08), (0x39, 0x07), (0x3A, 0x04), (0x3B, 0x03), (0x3C, 0x06), (0x3D, 0x06)]

/-- Words that the spec writes out, with the instruction that each stands for. -/
def specWords : List (BitVec 32 × Instr) :=
  [(0x10008310, .addi .always 1 0 0x310), (0x280190A3, .cmpLtn .always 3 4 5), (0x0A130405, .divn (.on false 1) 6 1 0), (0x4C000001, .endTask .always),
    (0x50020000, .crd .always 4 0), (0x54000C02, .cwr .always 3 2), (0x600225FF, .ld .always 4 9 3 1 0x3F), (0x68000870, .ldv .always 0 2 3 1 0),
    (0x680198E8, .ldv .always 3 6 7 0 1), (0x6C029060, .stv .always 5 4 3 0), (0x8003044D, .vfma .always 6 1 2), (0x86439D20, .vadds (.on false 4) 7 7 9),
    (0x88018C00, .vexp2 .always 3 3), (0x8C008001, .vrmax .always 1 0), (0x90018442, .vcmpLt .always 3 1 2), (0x94031403, .vcvt .always 6 5 0 3),
    (0x98000406, .vshape .always 0 1), (0x98010405, .vbcol .always 2 1 0), (0xFC000000, .immxHint 0), (0xFD800001, .rndHint 1)]

/-- The state in which a context attempts its word once the scheduled turn has come: the context is in focus and no longer waits. -/
def issuing (s : State) (c : CtxId) (rest : List Turn) : State :=
  ({ s with agenda := rest, cur := c } : State).upd (fun k => { k with wait := none })

/-- An outcome with the attempt counted as an issue at a priority where it is one: `resumed` says that the word had begun before (R70, R71). -/
def counted (c : CtxId) (p : Nat) (resumed : Bool) (o : Out) : Out := match o with | .next t => .next (t.countAttempt c p resumed) | o => o

end Sys2Proof.Claims

/-- Every instruction has a word for every value of its operands, and that word decodes to the instruction with those operands (R74 to R81). -/
def Obligations.EveryInstructionDecodesFromItsWord : Prop :=
  ∀ i : Instr, hasWord i → ∃ w, encode i = some w ∧ decode w = .ok i

/-- A word that decodes to an instruction is the word of that instruction: no bit of a word goes unread, and no two words stand for one instruction (R74 to
R81). -/
def Obligations.DecodingReadsEveryBit : Prop :=
  (∀ (w : BitVec 32) (i : Instr), decode w = .ok i → hasWord i ∧ encode i = some w) ∧
  ∀ (v w : BitVec 32) (i : Instr), decode v = .ok i → decode w = .ok i → v = w

/-- Words that the spec writes out decode to what they stand for. A check on fixed values. -/
def Obligations.WordsOfTheSpecDecode : Prop := ∀ p ∈ specWords, decode p.1 = .ok p.2

/-- A word with E = 0 and a non-zero N or G, a word of a reserved major opcode, and a word of a reserved FN decode to no instruction (R75, R78, R79); such a word
issues as a word that raises cause 0x01. -/
def Obligations.ReservedWordsRaiseIllegal : Prop :=
  (∀ w : BitVec 32, w.toNat / 2 ^ 26 ≠ 0x3F → w.toNat / 2 ^ 25 % 2 = 0 → w.toNat / 2 ^ 20 % 32 ≠ 0 → decode w = .error .guardBits) ∧
  (∀ w : BitVec 32, w.toNat / 2 ^ 26 ∈ unassignedMajors → ∃ e, decode w = .error e) ∧
  (∀ (w : BitVec 32) (n : Nat), (w.toNat / 2 ^ 26, n) ∈ firstReservedFn → n ≤ w.toNat % 32 → ∃ e, decode w = .error e) ∧
  (∀ (w : BitVec 32) (e : DecodeError) (s : State), decode w = .error e → s.ctx.buf.headD 0 = w → s.headInstr = .ok (.illegalInstruction w)) ∧
  ∀ (w : BitVec 32) (e : DecodeError) (s : State), decode w = .error e → exec (.illegalInstruction w) s = .next (s.raiseAt 0x01 none s.hinted)

/-- The step of a ready context is `exec` of the instruction that its word decodes to: the word at the head of its buffer, or else the word that the fetch at its
program counter returns (R82). Around `exec`, the step lets a recording in progress follow the instruction, and counts the attempt as an issue of its front end,
at the priority at which it was chosen, where the word does not only begin to wait (R70, R71). That a step adds exactly 1 to CYCLE is the model's choice
(log 11). -/
def Obligations.StepRunsTheDecodedInstruction : Prop :=
  (∀ (s : State) (c : CtxId) (rest : List Turn) (i : Instr),
    s.agenda = .ctx c :: rest → s.ready c = true → (issuing s c rest).ctx.buf ≠ [] → (issuing s c rest).watchdog = false → (issuing s c rest).ctx.hints.rep = none →
    decode ((issuing s c rest).ctx.buf.headD 0) = .ok i →
    step s = ticked (counted c ((issuing s c rest).rankOf c) (issuing s c rest).ctx.begun (engraved i (issuing s c rest) (exec i (issuing s c rest))))) ∧
  (∀ (s : State) (c : CtxId) (rest : List Turn) (w : BitVec 32) (u : State) (i : Instr),
    s.agenda = .ctx c :: rest → s.ready c = true → (issuing s c rest).ctx.buf = [] → (issuing s c rest).isFollower = false →
    ((issuing s c rest).upd (fun k => k.begin k.pc [])).fetchWord (issuing s c rest).ctx.pc.toNat = .ok w u → isHintWord w = false →
    (u.upd (fun k => k.begin (issuing s c rest).ctx.pc [w])).watchdog = false → decode w = .ok i →
    step s = ticked (counted c ((u.upd (fun k => k.begin (issuing s c rest).ctx.pc [w])).rankOf c) false (engraved i (u.upd (fun k => k.begin (issuing s c rest).ctx.pc [w])) (exec i (u.upd (fun k => k.begin (issuing s c rest).ctx.pc [w])))))) ∧
  (∀ (i : Instr) (s : State) (o : Out), (∀ p ∈ s.threads, p.2.recd = none) → engraved i s o = o) ∧
  (∀ (s : State) (c : CtxId) (p : Nat) (b : Bool), b = true ∨ (s.ctxOf c).stalls = true → s.countAttempt c p b = s) ∧
  (∀ (s : State) (c : CtxId) (p : Nat), (s.ctxOf c).wait = none → s.countAttempt c p false = s.countIssue c p) ∧
  (∀ (s : State) (th p : Nat), let t := s.countIssue (.task th .c) p
    (t.core (th / 8)).issuedC = (s.core (th / 8)).issuedC + 1 ∧ (t.core (th / 8)).issuedA = (s.core (th / 8)).issuedA ∧
    (t.core (th / 8)).lastC.get 7 p = th % 8 ∧ (t.ctxOf (.task th .c)).since = s.cycle.toNat) ∧
  ∀ s : State, ticked (.next s) = .next { s with cycle := s.cycle + 1 }

/-- A fetch reads the four bytes at its address, lowest first: from the core's own copy of the line, or at the home that translation gives, and then the core
keeps a copy; a sheet that holds a replica of the line reads the replica (R7, R74, R99, R122, R276). -/
def Obligations.FetchReadsTheWordAtTheAddress : Prop :=
  (∀ (s : State) (pc : Nat) (d : LineData), s.cur.isSurveyor = false → (s.core s.coreId).ilines.get? (s.asidOf s.cur, pc / 256) = some d →
    s.fetchWord pc = .ok (BitVec.ofNat 32 (d.toNat / 2 ^ (8 * (pc % 256)))) s) ∧
  (∀ (s u : State) (pc : Nat) (l : Leaf) (pa : Nat), s.cur.isSurveyor = false → (s.core s.coreId).ilines.get? (s.asidOf s.cur, pc / 256) = none →
    s.translate s.clusterId (s.asidOf s.cur) pc .fetch (s.coreSecure s.coreId) = (.page l pa, u) → u.moving pa = false → u.poisoned pa 4 = false →
    let line := pa / 256 * 256
    let v := (u.countUnbacked pa).readPass u.clusterId pa (u.entryOf (.side u.cur)).2
    let r := if l.kind = 1 then (v.homeLine line, v) else v.readLine v.sheetId line
    s.fetchWord pc = .ok (BitVec.ofNat 32 (r.1.toNat / 2 ^ (8 * (pc % 256))))
      (r.2.mapCore v.coreId (fun k => { k with ilines := k.ilines.set (s.asidOf s.cur, pc / 256) r.1 }))) ∧
  (∀ (s : State) (sheet line : Nat), paSheet line = sheet ∨ (s.sheet sheet).replicas.get? line = none → (s.readLine sheet line).1 = s.homeLine line) ∧
  (∀ (s : State) (sheet line : Nat) (x : LineData × BitVec 32 × Option WinTag), paSheet line ≠ sheet → (s.sheet sheet).replicas.get? line = some x →
    s.readLine sheet line = (x.1, s)) ∧
  (∀ (s : State) (pa : Nat), pa % 4 = 0 →
    BitVec.ofNat 32 ((s.homeLine (pa / 256 * 256)).toNat / 2 ^ (8 * (pa % 256))) = BitVec.ofNat 32 (leNat (s.homeBytes pa 4))) ∧
  ∀ (s u : State) (pc : Nat) (c : Nat), s.cur.isSurveyor = false → (s.core s.coreId).ilines.get? (s.asidOf s.cur, pc / 256) = none →
    s.translate s.clusterId (s.asidOf s.cur) pc .fetch (s.coreSecure s.coreId) = (.cause c, u) → s.fetchWord pc = .trap c (BitVec.ofNat 64 pc) u

namespace Sys2Proof.Claims

/-! ### Scalar instructions -/

/-- The guard of a scalar instruction on registers, the register that it writes and the value that it writes there, by the tables of R103 to R106, R108 and
R109, in terms of integers. -/
def scalarValue (i : Instr) : Option (Guard × BitVec 5 × (State → Word)) :=
  match i with
  | .add g d a b => some (g, d, fun s => BitVec.ofInt 64 ((s.reg a).toInt + (s.reg b).toInt))
  | .sub g d a b => some (g, d, fun s => BitVec.ofInt 64 ((s.reg a).toInt - (s.reg b).toInt))
  | .and g d a b => some (g, d, fun s => s.reg a &&& s.reg b)
  | .or g d a b => some (g, d, fun s => s.reg a ||| s.reg b)
  | .xor g d a b => some (g, d, fun s => s.reg a ^^^ s.reg b)
  | .andn g d a b => some (g, d, fun s => s.reg a &&& ~~~s.reg b)
  | .shl g d a b => some (g, d, fun s => BitVec.ofNat 64 ((s.reg a).toNat * 2 ^ ((s.reg b).toNat % 64)))
  | .shr g d a b => some (g, d, fun s => BitVec.ofNat 64 ((s.reg a).toNat / 2 ^ ((s.reg b).toNat % 64)))
  | .sar g d a b => some (g, d, fun s => BitVec.ofInt 64 ((s.reg a).toInt / 2 ^ ((s.reg b).toNat % 64)))
  | .min g d a b => some (g, d, fun s => if (s.reg a).toInt ≤ (s.reg b).toInt then s.reg a else s.reg b)
  | .max g d a b => some (g, d, fun s => if (s.reg a).toInt ≤ (s.reg b).toInt then s.reg b else s.reg a)
  | .minn g d a b => some (g, d, fun s => if (s.reg a).toNat ≤ (s.reg b).toNat then s.reg a else s.reg b)
  | .maxn g d a b => some (g, d, fun s => if (s.reg a).toNat ≤ (s.reg b).toNat then s.reg b else s.reg a)
  | .addw g d a b => some (g, d, fun s => ((s.reg a + s.reg b).setWidth 32).signExtend 64)
  | .subw g d a b => some (g, d, fun s => ((s.reg a - s.reg b).setWidth 32).signExtend 64)
  | .clz g d a => some (g, d, fun s => BitVec.ofNat 64 (((List.range 64).find? (fun k => (s.reg a).getLsbD (63 - k))).getD 64))
  | .ctz g d a => some (g, d, fun s => BitVec.ofNat 64 (((List.range 64).find? (fun k => (s.reg a).getLsbD k)).getD 64))
  | .popc g d a => some (g, d, fun s => BitVec.ofNat 64 ((List.range 64).filter (fun k => (s.reg a).getLsbD k)).length)
  | .sext8 g d a => some (g, d, fun s => ((s.reg a).setWidth 8).signExtend 64)
  | .sext16 g d a => some (g, d, fun s => ((s.reg a).setWidth 16).signExtend 64)
  | .sext32 g d a => some (g, d, fun s => ((s.reg a).setWidth 32).signExtend 64)
  | .zext32 g d a => some (g, d, fun s => ((s.reg a).setWidth 32).setWidth 64)
  | .shli g d a n => some (g, d, fun s => BitVec.ofNat 64 ((s.reg a).toNat * 2 ^ n.toNat))
  | .shri g d a n => some (g, d, fun s => BitVec.ofNat 64 ((s.reg a).toNat / 2 ^ n.toNat))
  | .sari g d a n => some (g, d, fun s => BitVec.ofInt 64 ((s.reg a).toInt / 2 ^ n.toNat))
  | .lea g d a b n => some (g, d, fun s => BitVec.ofNat 64 ((s.reg a).toNat + (s.reg b).toNat * 2 ^ n.toNat))
  | .sel g d a b p => some (g, d, fun s => if (s.pred p).getLsbD 0 then s.reg a else s.reg b)
  | _ => none

/-- The same for IMUL, by the table of R104. -/
def multiplyValue (i : Instr) : Option (Guard × BitVec 5 × (State → Word)) :=
  match i with
  | .mul g d a b => some (g, d, fun s => BitVec.ofInt 64 ((s.reg a).toInt * (s.reg b).toInt))
  | .mulh g d a b => some (g, d, fun s => BitVec.ofInt 64 ((s.reg a).toInt * (s.reg b).toInt / 2 ^ 64))
  | .mulhn g d a b => some (g, d, fun s => BitVec.ofNat 64 ((s.reg a).toNat * (s.reg b).toNat / 2 ^ 64))
  | .mulw g d a b => some (g, d, fun s => ((s.reg a * s.reg b).setWidth 32).signExtend 64)
  | .div g d a b => some (g, d, fun s => if s.reg b = 0 then BitVec.allOnes 64 else (s.reg a).sdiv (s.reg b))
  | .divn g d a b => some (g, d, fun s => if s.reg b = 0 then BitVec.allOnes 64 else BitVec.ofNat 64 ((s.reg a).toNat / (s.reg b).toNat))
  | .rem g d a b => some (g, d, fun s => if s.reg b = 0 then s.reg a else (s.reg a).srem (s.reg b))
  | .remn g d a b => some (g, d, fun s => if s.reg b = 0 then s.reg a else BitVec.ofNat 64 ((s.reg a).toNat % (s.reg b).toNat))
  | _ => none

/-- The immediate of a field of 10 bits: sign-extended, or after an IMMX hint the low 32 bits that the hint and the field make (R85, R105). -/
def immediate10 (s : State) (x : BitVec 10) : Word :=
  match s.ctx.hints.immx with | none => x.signExtend 64 | some h => (h ++ x).signExtend 64

/-- The same for the immediate operations of R105. -/
def immediateValue (i : Instr) : Option (Guard × BitVec 5 × (State → Word)) :=
  match i with
  | .addi g d a x => some (g, d, fun s => BitVec.ofInt 64 ((s.reg a).toInt + (immediate10 s x).toInt))
  | .andi g d a x => some (g, d, fun s => s.reg a &&& immediate10 s x)
  | .ori g d a x => some (g, d, fun s => s.reg a ||| immediate10 s x)
  | .xori g d a x => some (g, d, fun s => s.reg a ^^^ immediate10 s x)
  | _ => none

/-- The immediate of CMPI: 8 bits, or 30 under IMMX (R85, R107). -/
def immediate8 (s : State) (x : BitVec 8) : Word :=
  match s.ctx.hints.immx with | none => x.signExtend 64 | some h => (h ++ x).signExtend 64

/-- The guard of a comparison, the predicate that it writes, and its condition (R107). -/
def comparison (i : Instr) : Option (Guard × BitVec 4 × (State → Bool)) :=
  match i with
  | .cmpEq g p a b => some (g, p, fun s => decide (s.reg a = s.reg b))
  | .cmpNe g p a b => some (g, p, fun s => decide (s.reg a ≠ s.reg b))
  | .cmpLt g p a b => some (g, p, fun s => decide ((s.reg a).toInt < (s.reg b).toInt))
  | .cmpLtn g p a b => some (g, p, fun s => decide ((s.reg a).toNat < (s.reg b).toNat))
  | .cmpGe g p a b => some (g, p, fun s => decide ((s.reg b).toInt ≤ (s.reg a).toInt))
  | .cmpGen g p a b => some (g, p, fun s => decide ((s.reg b).toNat ≤ (s.reg a).toNat))
  | .cmpiEq g p a x => some (g, p, fun s => decide (s.reg a = immediate8 s x))
  | .cmpiNe g p a x => some (g, p, fun s => decide (s.reg a ≠ immediate8 s x))
  | .cmpiLt g p a x => some (g, p, fun s => decide ((s.reg a).toInt < (immediate8 s x).toInt))
  | .cmpiLtn g p a x => some (g, p, fun s => decide ((s.reg a).toNat < (immediate8 s x).toNat))
  | .cmpiGe g p a x => some (g, p, fun s => decide ((immediate8 s x).toInt ≤ (s.reg a).toInt))
  | .cmpiGen g p a x => some (g, p, fun s => decide ((immediate8 s x).toNat ≤ (s.reg a).toNat))
  | _ => none

/-- The guard of a predicate operation that writes a predicate, the predicate, and its bits (R110). -/
def predicateValue (i : Instr) : Option (Guard × BitVec 4 × (State → Nat → Bool)) :=
  match i with
  | .pand g d a b => some (g, d, fun s k => (s.pred a).getLsbD k && (s.pred b).getLsbD k)
  | .por g d a b => some (g, d, fun s k => (s.pred a).getLsbD k || (s.pred b).getLsbD k)
  | .pxor g d a b => some (g, d, fun s k => (s.pred a).getLsbD k != (s.pred b).getLsbD k)
  | .pandn g d a b => some (g, d, fun s k => (s.pred a).getLsbD k && !(s.pred b).getLsbD k)
  | .pnot g d a => some (g, d, fun s k => !(s.pred a).getLsbD k)
  | .pset g d => some (g, d, fun _ _ => true)
  | .pclr g d => some (g, d, fun _ _ => false)
  | .pmovs g d a => some (g, d, fun s k => (s.reg a).getLsbD (k / 32))
  | _ => none

/-- The bits that PANY to PFIRST count, in their order: the single bit of the A side, and elsewhere bit 32i + j * e for each element (i, j) of the shape in
row-major order (R56, R110). -/
def countedBits (s : State) (p : BitVec 4) : List Bool :=
  if s.cur.isA then [(s.pred p).getLsbD 0]
  else (List.range (s.shape.rows * s.shape.cols)).map (fun k => (s.pred p).getLsbD (32 * (k / s.shape.cols) + k % s.shape.cols * s.shape.esize))

/-- The guard of PANY, PALL, PCNT and PFIRST, the register that they write, and its value (R110). -/
def predicateCount (i : Instr) : Option (Guard × BitVec 5 × (State → Word)) :=
  match i with
  | .pany g d a => some (g, d, fun s => if true ∈ countedBits s a then 1 else 0)
  | .pall g d a => some (g, d, fun s => if false ∈ countedBits s a then 0 else 1)
  | .pcnt g d a => some (g, d, fun s => BitVec.ofNat 64 ((countedBits s a).count true))
  | .pfirst g d a => some (g, d, fun s => if true ∈ countedBits s a then BitVec.ofNat 64 ((countedBits s a).idxOf true) else BitVec.allOnes 64)
  | _ => none

end Sys2Proof.Claims

/-- s0 reads as 0 and a write to it is discarded; any other scalar register reads as what was written last, and a write leaves every other register, and
everything else that the context and the machine hold, as they were (R55). -/
def Sys2Proof.Claims.ScalarRegistersReadBack : Prop :=
  ∀ (s : State) (d r : BitVec 5) (v : Word),
    s.reg 0 = 0 ∧ (s.setReg 0 v).ctx = s.ctx ∧ (s.setReg d v).reg r = (if r = d ∧ d ≠ 0 then v else s.reg r) ∧
    s.setReg d v = { s with ctxs := (s.setReg d v).ctxs } ∧ (∀ c, c ≠ s.cur → (s.setReg d v).ctxOf c = s.ctxOf c) ∧
    (s.setReg d v).ctx = { s.ctx with x := (s.setReg d v).ctx.x }

/-- IALU, SHI, LEA and SEL write the value of their table to sD, and change nothing else (R102, R103, R106, R108, R109). -/
def Sys2Proof.Claims.ScalarArithmeticWritesItsValue : Prop :=
  ∀ (i : Instr) (g : Guard) (d : BitVec 5) (v : State → Word) (s : State),
    scalarValue i = some (g, d, v) → Issues i s → s.selected g = true → Completes (s.setReg d (v s)) (exec i s)

/-- IMUL: the product, its upper half, the quotient and the remainder, with the results that the table gives for a zero divisor (R104). -/
def Sys2Proof.Claims.MultiplyAndDivideWriteTheirValue : Prop :=
  ∀ (i : Instr) (g : Guard) (d : BitVec 5) (v : State → Word) (s : State),
    multiplyValue i = some (g, d, v) → Issues i s → s.selected g = true → Completes (s.setReg d (v s)) (exec i s)

/-- ADDI, ANDI, ORI and XORI use the sign-extended 10-bit immediate, or under IMMX the sign-extended 32-bit one (R85, R105). -/
def Sys2Proof.Claims.ImmediateArithmeticWritesItsValue : Prop :=
  ∀ (i : Instr) (g : Guard) (d : BitVec 5) (v : State → Word) (s : State),
    immediateValue i = some (g, d, v) → Issues i s → s.selected g = true → Completes (s.setReg d (v s)) (exec i s)

/-- A comparison writes its result to every bit of the predicate on the C side and in a handler, and to the single bit on the A side (R56, R107). -/
def Sys2Proof.Claims.ComparisonsWriteTheirPredicate : Prop :=
  ∀ (i : Instr) (g : Guard) (p : BitVec 4) (c : State → Bool) (s : State),
    comparison i = some (g, p, c) → Issues i s → s.selected g = true →
    ∃ r, Completes r (exec i s) ∧ r = { s with ctxs := r.ctxs } ∧ (∀ x, x ≠ s.cur → r.ctxOf x = s.ctxOf x) ∧ r.ctx = { s.ctx with p := r.ctx.p } ∧
      (∀ q, q ≠ p → r.pred q = s.pred q) ∧ ∀ k, k < 512 → (r.pred p).getLsbD k = (c s && (!s.cur.isA || decide (k = 0)))

/-- PAND to PMOVS write all the bits of pD on the C side and in a handler, and the single bit on the A side; PANY to PFIRST write sD from the counted bits
(R56, R110). -/
def Sys2Proof.Claims.PredicateInstructionsWriteTheirResult : Prop :=
  (∀ (i : Instr) (g : Guard) (p : BitVec 4) (v : State → Nat → Bool) (s : State),
    predicateValue i = some (g, p, v) → Issues i s → s.selected g = true →
    ∃ r, Completes r (exec i s) ∧ r = { s with ctxs := r.ctxs } ∧ (∀ x, x ≠ s.cur → r.ctxOf x = s.ctxOf x) ∧ r.ctx = { s.ctx with p := r.ctx.p } ∧
      (∀ q, q ≠ p → r.pred q = s.pred q) ∧ ∀ k, k < 512 → (r.pred p).getLsbD k = (v s k && (!s.cur.isA || decide (k = 0)))) ∧
  (∀ (i : Instr) (g : Guard) (d : BitVec 5) (v : State → Word) (s : State),
    predicateCount i = some (g, d, v) → Issues i s → s.selected g = true → Completes (s.setReg d (v s)) (exec i s))

/-- Each scalar instruction that computes a value writes it to its destination register and goes on: the register forms, the multiplications and divisions with their corner cases, and the immediate forms. -/
def Obligations.ScalarInstructionsWriteTheirValue : Prop :=
  Claims.ScalarArithmeticWritesItsValue ∧ Claims.MultiplyAndDivideWriteTheirValue ∧ Claims.ImmediateArithmeticWritesItsValue

/-- Each scalar comparison and each predicate instruction writes its predicate or its count, and goes on. -/
def Obligations.ScalarPredicatesAreWritten : Prop :=
  Claims.ComparisonsWriteTheirPredicate ∧ Claims.PredicateInstructionsWriteTheirResult


namespace Sys2Proof.Claims

/-! ### Issue, completion, faults and control -/

/-- The instructions whose guard tests a bit for each element; every other instruction executes wholly or not at all (R75, R205). -/
def guardsElements (i : Instr) : Bool :=
  match i with
  | .vext .. => false
  | .smerge .. => false
  | .smergez .. => false
  | .smcount .. => false
  | .vcompact .. => false
  | i => match groupOf i with | .vector => true | .vred => true | .vcmp => true | .vmisc => true | .tile => true | .pmerge => true | .hint => true | _ => false

/-- The number of a control register is one that CRD may read, or CWR may write, at all (R63, R123); any other instruction names none. -/
def numberStands (i : Instr) (s : State) : Prop :=
  match i with
  | .crd _ _ c => ∀ h k, s.cur = .surveyor h k → 0x200 ≤ c.toNat → (s.svRead h k c.toNat).isSome = true
  | .cwr _ _ c => s.numberFault c.toNat = none
  | _ => True

/-- The groups that R68 marks for the A side of a task. -/
def onASide : List Group :=
  [.ialu, .immediate, .shi, .cmpi, .compare, .jump, .ctlAny, .ctlTask, .control, .loadStore, .tile, .amo, .pfetch, .memc, .queue, .stream, .port, .taskOnly, .every]

/-- The groups that R68 marks for the C side of a task. -/
def onCSide : List Group :=
  [.ialu, .immediate, .shi, .cmpi, .compare, .jump, .ctlAny, .ctlTask, .ctlC, .control, .loadStore, .tile, .amo, .pfetch, .memc, .vector, .vred, .vcmp, .vmisc,
    .vshape, .pmerge, .queue, .port, .portV, .matrix, .taskOnly, .every, .gpush]

/-- The groups that R68 marks for handlers. -/
def inHandlers : List Group :=
  [.ialu, .immediate, .shi, .cmpi, .compare, .jump, .ctlAny, .hret, .control, .loadStore, .tile, .amo, .pfetch, .memc, .vector, .vred, .vcmp, .vmisc, .vshape, .every,
    .gpush]

/-- Bits [hi : lo] of a scalar as a number. -/
def bitsAt (x : Word) (hi lo : Nat) : Nat := x.toNat / 2 ^ lo % 2 ^ (hi + 1 - lo)

/-- The causes that a thread-side fault of a task raises plainly: not the page faults, overflow, world, retirement, poison and trap causes, which have routes of
their own (R359). -/
def plainCause (c : Nat) : Bool := !([0x06, 0x07, 0x09, 0x0B, 0x0E, 0x11, 0x14, 0x15, 0x17].contains c)

end Sys2Proof.Claims

namespace Sys2Proof.Claims

/-! ### Hint groups -/

/-- The instruction groups that accept a hint kind: the columns of R84 (VSCALE stands with the VALU groups); MCOMP is for the C side alone (R93). -/
def takesKind (kind : Nat) (aSide : Bool) (g : Group) : Prop :=
  match kind with
  | 0 => g ∈ [.immediate, .cmpi, .loadStore]
  | 1 => g ∈ [.immediate, .shi, .ialu, .loadStore, .tile, .vector, .vred, .vmisc]
  | 2 => g ∈ [.loadStore, .tile, .amo]
  | 3 => g ∈ [.loadStore, .tile, .pfetch]
  | 4 => g ∈ [.vector, .vmisc, .tile] ∧ aSide = false
  | 5 => g ∈ [.tile, .vector, .vred, .vcmp, .vmisc, .portV]
  | 6 => g ∈ [.vector, .vred]
  | _ => False

/-- A register field that REP may step: the instruction uses it as a register, and it names no queue window (R88). -/
def mayStep (o : Opnd) : Prop := (∃ r, o = .scalar r) ∨ ∃ r, (o = .src r ∨ o = .dst r) ∧ r < 24

/-- An operand that is a queue window (R60). -/
def namesWindow (o : Opnd) : Prop := ∃ r, (o = .src r ∨ o = .dst r) ∧ 24 ≤ r

/-- What R84, R88 and R95 ask of a hint for its instruction: the kind, the ORD kinds of each instruction, steps in steppable fields alone, and QW fields for windows
alone. -/
def suits (aSide : Bool) (i : Instr) (kind payload : Nat) : Prop :=
  takesKind kind aSide (groupOf i) ∧
  (kind = 2 → (payload / 8 % 8 = 3 → groupOf i = .amo) ∧
    (payload / 8 % 8 = 1 → groupOf i = .amo ∨ (∃ g d b z p o, i = .ld g d b z p o) ∨ ∃ g d b p s t, i = .ldv g d b p s t) ∧
    (payload / 8 % 8 = 2 → groupOf i = .amo ∨ (∃ g d b z p o, i = .st g d b z p o) ∨ ∃ g d b p s, i = .stv g d b p s)) ∧
  (kind = 1 → (payload / 256 % 8 ≠ 0 → mayStep (opndsOf i).d) ∧ (payload / 2048 % 8 ≠ 0 → mayStep (opndsOf i).a) ∧
    (payload / 2 ^ 14 % 8 ≠ 0 → mayStep (opndsOf i).b)) ∧
  (kind = 5 → (payload % 64 ≠ 0 → namesWindow (opndsOf i).d) ∧ (payload / 64 % 64 ≠ 0 → namesWindow (opndsOf i).a) ∧
    (payload / 2 ^ 12 % 64 ≠ 0 → namesWindow (opndsOf i).b))

/-- A hint word that R81 reserves: its kind, a payload bit, or a value. -/
def reservedHint (kind payload : Nat) : Prop :=
  7 ≤ kind ∨ (kind = 1 ∧ payload / 2 ^ 17 ≠ 0) ∨ (kind = 2 ∧ (payload / 2 ^ 6 ≠ 0 ∨ payload % 8 = 7 ∨ 5 ≤ payload / 8 % 8)) ∨ (kind = 3 ∧ payload / 2 ^ 4 ≠ 0) ∨
  (kind = 4 ∧ payload / 2 ^ 6 ≠ 0) ∨ (kind = 5 ∧ payload / 2 ^ 18 ≠ 0) ∨ (kind = 6 ∧ (payload / 2 ^ 3 ≠ 0 ∨ 6 ≤ payload % 8))

def kindOf (h : BitVec 32) : Nat := h.toNat / 2 ^ 22 % 16
def payloadOf (h : BitVec 32) : Nat := h.toNat % 2 ^ 22

/-- A group of hint words and an instruction word that R83 lets issue. -/
def legalGroup (aSide : Bool) (hs : List (BitVec 32)) (w : BitVec 32) : Prop :=
  (hs.map kindOf).Nodup ∧ (∀ h ∈ hs, ¬reservedHint (kindOf h) (payloadOf h)) ∧
  ∃ i, decode w = .ok i ∧ i.wellFormed = true ∧ ∀ h ∈ hs, suits aSide i (kindOf h) (payloadOf h)

end Sys2Proof.Claims

/-- At issue the checks run in the order of R69 and the first failure alone is raised, with no part of the instruction's effect: a reserved value (0x01), privilege
(0x08), side (0x03), allotment (0x04), queue misuse (0x0A); before all of them an illegal hint group (0x02), at the first hint. Under a REP with count 0 only checks 2 to 4 run; then the group
completes with no effect, no guard tested and no wait, and REPCNT is 0 (R69, R87). -/
def Obligations.ChecksAtIssueRunInOrder : Prop :=
  (∀ (v u : State) (hs : List (BitVec 32)) (w : BitVec 32), let s := v.upd (fun k => { k with wait := none }); s.ctx.buf = [] → s.isFollower = false → hs ≠ [] →
    (∀ h ∈ hs, isHintWord h = true) → isHintWord w = false → (s.upd (fun k => k.begin k.pc [])).fetchGroup s.ctx.pc.toNat 4 = .ok (hs ++ [w]) u →
    ¬legalGroup u.cur.isA hs w → v.prepare = .inl (.next (u.raiseAt 0x02 none true))) ∧
  ∀ (i : Instr) (s : State), hasWord i →
    (i.wellFormed = false → exec i s = raise0 0x01 s) ∧
    (i.wellFormed = true → privileged s.cur i = true → exec i s = raise0 0x08 s) ∧
    (i.wellFormed = true → privileged s.cur i = false → wrongSide s.cur i = true → exec i s = raise0 0x03 s) ∧
    (i.wellFormed = true → privileged s.cur i = false → wrongSide s.cur i = false → groupOf i ≠ .hint → s.repZero = true →
      exec i s = done s ∧ ∀ t, exec i s = .next t → isHintWord (s.ctx.buf.headD 0) = false → t.ctx.repcnt = 0) ∧
    (i.wellFormed = true → privileged s.cur i = false → wrongSide s.cur i = false → s.repZero = false → s.beyondAllotment i = true → exec i s = raise0 0x04 s) ∧
    (i.wellFormed = true → privileged s.cur i = false → wrongSide s.cur i = false → s.repZero = false → s.beyondAllotment i = false → s.misuse i = true →
      exec i s = raise0 0x0A s)

/-- The side table: outside the surveyor cores SYS and ERET are privileged, and so are CRD and CWR of 0x200 and above; otherwise a group may issue exactly where R68
marks it, the A side names no register that the C side holds, and no vector register but a queue window (R62, R64, R68). -/
def Obligations.GroupsIssueWhereTheSideTableMarksThem : Prop :=
  ∀ (i : Instr) (th core k : Nat), hasWord i → groupOf i ≠ .hint →
    (∀ c : CtxId, c.isSurveyor = false → (privileged c i = true ↔ groupOf i = .eret ∨ groupOf i = .surveyor ∨ ∃ n, controlNumber i = some n ∧ 0x200 ≤ n)) ∧
    (privileged (.task th .c) i = false → (wrongSide (.task th .c) i = false ↔ groupOf i ∈ onCSide)) ∧
    (privileged (.handler core k) i = false → (wrongSide (.handler core k) i = false ↔ groupOf i ∈ inHandlers)) ∧
    (privileged (.task th .a) i = false → (wrongSide (.task th .a) i = false ↔
      groupOf i ∈ onASide ∧ (∀ n ∈ controlNumber i, n ∉ [1, 2, 3, 5, 6]) ∧ ∀ r ∈ (opndsOf i).vectors, 24 ≤ r))

/-- An instruction whose guard tests lane 0, or the single bit, and does not select it has no effect and goes on (R75). The number of a control register alone may
still raise its cause: 0x08 for CWR of a read-only register, and on a surveyor core 0x01 for a number that is not assigned. That it does so whatever the guard is the
model's reading (log 145). -/
def Sys2Proof.Claims.AnUnselectedInstructionHasNoEffect : Prop :=
  ∀ (i : Instr) (s : State), hasWord i → guardsElements i = false → Issues i s → s.selected (guardOf i) = false →
    (numberStands i s → Completes s (exec i s)) ∧
    (∀ g a c, i = .cwr g a c → c.toNat ∈ [0x000, 0x004, 0x008, 0x010, 0x012] → exec i s = raise0 0x08 s) ∧
    (∀ g d a c h k, i = .crd g d c ∨ i = .cwr g a c → s.cur = .surveyor h k → 0x200 ≤ c.toNat → s.svRead h k c.toNat = none → exec i s = raise0 0x01 s)

/-- An instruction with a queue window that lacks filled or free slots waits, and changes nothing else (R96). -/
def Sys2Proof.Claims.QueueWindowsWait : Prop :=
  ∀ (i : Instr) (s : State) (w : Wait), hasWord i → groupOf i ≠ .hint → issueFault i s = none → s.repZero = false → s.windowWaits (opndsOf i) = some w →
    Waits w.cond s (exec i s)

/-- When a word completes: a hint leaves the rest of its group, with the hints so far; an instruction under REP with repetitions left issues again at the next
repetition; and otherwise the group ends, its hints with it, and a completed REP group clears REPCNT (R82, R86, R89). -/
def Sys2Proof.Claims.CompletedWordsGoOn : Prop :=
  ∀ (s : State), s.cur.isTask = false ∨ s.followers s.threadId = [] →
    let k := s.ctx
    let t := s.retire.ctx
    (isHintWord (k.buf.headD 0) = true → t.pc = k.pc + 4 ∧ t.buf = k.buf.drop 1 ∧ t.hints = k.hints ∧ t.repDone = k.repDone ∧ t.grp = k.grp) ∧
    (isHintWord (k.buf.headD 0) = false → s.repeats = true → t.pc = k.pc ∧ t.buf = k.buf ∧ t.hints = k.hints ∧ t.repDone = k.repDone + 1 ∧ t.grp = k.grp) ∧
    (isHintWord (k.buf.headD 0) = false → s.repeats = false → t.pc = k.pc + 4 ∧ t.grp = k.pc + 4 ∧ t.buf = [] ∧ t.hints = Hints.none ∧ t.repDone = 0 ∧
      (k.hints.rep.isSome = true → t.repcnt = 0) ∧ (k.hints.rep = none → t.repcnt = k.repcnt)) ∧
    t.held = k.held ∧ t.words = k.words + (if s.counts then 1 else 0) ∧ s.retire = { s with ctxs := s.retire.ctxs }

/-- Repetition k of a word under REP is the word with k times each signed step added to its field at [19:15], [14:10] or [9:5], and with every other bit as in the
word (R86, R88). -/
def Sys2Proof.Claims.RepetitionsStepTheirFields : Prop :=
  ∀ (i : Instr) (w w' : BitVec 32) (r : RepHint) (k n : Nat), stepWord i w r k n = .ok w' →
    ((w'.toNat / 2 ^ 15 % 32 : Nat) : Int) = (((w.toNat / 2 ^ 15 % 32 : Nat) : Int) + k * r.dStep) % 32 ∧
    ((w'.toNat / 2 ^ 10 % 32 : Nat) : Int) = (((w.toNat / 2 ^ 10 % 32 : Nat) : Int) + k * r.aStep) % 32 ∧
    ((w'.toNat / 2 ^ 5 % 32 : Nat) : Int) = (((w.toNat / 2 ^ 5 % 32 : Nat) : Int) + k * r.bStep) % 32 ∧
    w'.toNat / 2 ^ 20 = w.toNat / 2 ^ 20 ∧ w'.toNat % 32 = w.toNat % 32

/-- Before commit, a thread-side fault of a task outside a team discards the run: the member leaves its slot, its registers are cleared on both sides, and its item
returns to the ready pool to be run again, unless another of its members is held; memory keeps every byte (R330, R359, R361). A run of a member that ends in the
same fault at the same place as its last run fails the item. -/
def Sys2Proof.Claims.AFaultBeforeCommitDiscardsTheRun : Prop :=
  ∀ (s : State) (th : Nat) (side : Side) (cause : Nat) (va : Option Word) (hint : Bool),
    s.cur = .task th side → (s.thread th).post = false → plainCause cause = true →
    let t := s.thread th
    let it := s.item t.itemSheet t.item
    let u := s.raiseAt cause va hint
    let fault := (cause, side, s.ctx.grp)
    (it.gang = false → s.follows it = false → it.st ≠ .final → (∃ m ∈ it.members, m.1 = t.rank ∧ m.2.2 = th + 1 ∧ m.1 ∉ it.ended) → (∀ h ∈ it.holds, h.rank = t.rank) →
      it.faults.get? t.rank ≠ some fault →
      (u.thread th).st = .empty ∧ (u.ctxOf (.task th .a)).x = Ctx.init.x ∧ (u.ctxOf (.task th .c)).x = Ctx.init.x ∧ (u.ctxOf (.task th .c)).v = [] ∧
        (u.item t.itemSheet t.item).st = .ready ∧ (u.item t.itemSheet t.item).rerun = true ∧
        (u.item t.itemSheet t.item).faults.get? t.rank = some fault ∧ u.mem = s.mem) ∧
    (it.faults.get? t.rank = some fault → u = s.failItem t.itemSheet t.item cause)

/-- After commit, such a fault writes a record to the sheet's ring, with the frozen flag, leaves the group's address in EPCA or EPCC, the cause with SIDE and HINT in
CAUSE, the value that the rule names in FAULTVA, and freezes the side at its group boundary (R67, R359, R360, R362, R363). -/
def Sys2Proof.Claims.AFaultAfterCommitFreezesTheSide : Prop :=
  ∀ (s : State) (th : Nat) (side : Side) (cause : Nat) (va : Option Word) (hint : Bool),
    s.cur = .task th side → (s.thread th).post = true → (s.thread th).follow = none → plainCause cause = true → cause < 256 →
    s.ringBlocked (sheetOfCore (coreOfThread th)) = false →
    let sh := sheetOfCore (coreOfThread th)
    let u := s.raiseAt cause va hint
    let w := s.record sh { cause := cause, flags := (if side = .a then 0 else 1) + (if hint then 2 else 0) + 4 + 8, source := addrOf (.task th side),
                           obj := va.getD 0, epc := s.ctx.grp, cycle := s.cycle.toNat % 2 ^ 32, freeze := none }
    let c := u.ctxOf (.task th side)
    c.run = .frozen ∧ c.frozenCause = cause ∧ c.pc = s.ctx.grp ∧ c.buf = [] ∧ c.hints = Hints.none ∧ c.x = s.ctx.x ∧ c.v = s.ctx.v ∧ c.p = s.ctx.p ∧
    c.cause = BitVec.ofNat 64 ((if hint then 512 else 0) + (if side = .a then 0 else 256) + cause) ∧ c.faultva = va.getD s.ctx.faultva ∧
    (∀ r, s.ctx.hints.rep = some r → c.repcnt = if r.count = 0 then 0 else BitVec.ofNat 64 (256 + s.ctx.repDone % 256)) ∧ (s.ctx.hints.rep = none → c.repcnt = s.ctx.repcnt) ∧
    (side = .a → (u.thread th).epca = s.ctx.grp &&& ~~~3 ∧ (u.thread th).epcc = (s.thread th).epcc) ∧
    (side = .c → (u.thread th).epcc = s.ctx.grp &&& ~~~3 ∧ (u.thread th).epca = (s.thread th).epca) ∧
    u.mem = w.mem ∧ u.sheets = w.sheets ∧ u.tags = w.tags

/-- An event that finds room in the sheet's ring is written there at once; one that does not waits, and of causes 0x12 and 0x16 it is dropped and counted where the ring
is full. A record takes 32 bytes at the head of the ring: cause, flags, source, object, EPC, record number and cycle, little-endian; its line's sequence tag goes up by
1; and where its address is unbacked it is dropped with no tag change (R253, R260, R363). No plate was made or is recorded from the page of the record; of such a
page the plates become invalid too (R395). -/
def Sys2Proof.Claims.EventRecordsStandInTheRing : Prop :=
  ∀ (s : State) (sh : Nat) (e : EventRec), s.mem.wf = true → e.cause < 256 → e.flags < 256 → e.source.toNat < 2 ^ 32 → e.cycle < 2 ^ 32 →
    let h := s.sheet sh
    let base := h.evbase.toNat / 2 ^ 12 % 2 ^ 40 * 2 ^ 12 + 32 * (h.evhead.toNat % (128 * 2 ^ (h.evbase.toNat % 16)))
    let u := s.writeRecord sh e
    let m := u.mem
    (s.region base = .hbm → leNat (m.readList base 1) = e.cause ∧ leNat (m.readList (base + 1) 1) = e.flags ∧ leNat (m.readList (base + 2) 2) = 0 ∧
    leNat (m.readList (base + 4) 4) = e.source.toNat ∧ leNat (m.readList (base + 8) 8) = e.obj.toNat ∧ leNat (m.readList (base + 16) 8) = e.epc.toNat ∧
    leNat (m.readList (base + 24) 4) = h.recordNo.toNat ∧ leNat (m.readList (base + 28) 4) = e.cycle ∧
    (∀ a, a < base ∨ base + 32 ≤ a → m.read a = s.mem.read a) ∧ u.tagOf (base / 256 * 256) = s.tagOf (base / 256 * 256) + 1) ∧
    (s.backed (base / 256 * 256) = false → u.mem = s.mem ∧ u.tags = s.tags) ∧ (u.sheet sh).evhead = h.evhead + 1 ∧ (u.sheet sh).recordNo = h.recordNo + 1 ∧
    ((∀ q ∈ s.sheets, ∀ p ∈ q.2.plates, p.page0 ≠ base / 65536 ∧ (p.page1 = 0 ∨ p.page1 ≠ base / 65536)) →
      (s.ringBlocked sh = false → s.record sh e = u) ∧
      (h.ringFull = true → e.cause = 0x12 ∨ e.cause = 0x16 → s.record sh e = s.mapSheet sh (fun h => { h with drops := h.drops + 1 })) ∧
      (s.ringBlocked sh = true → h.ringFull = false ∨ (e.cause ≠ 0x12 ∧ e.cause ≠ 0x16) → s.record sh e = s.mapSheet sh (fun h => { h with evWait := h.evWait ++ [e] })))

/-- TRAP and BRK raise cause 0x14 or 0x15 at their own word, TRAP with its code for FAULTVA. In a task that has a user trap vector and is no follower the side takes the
trap: the word's address goes to EPCA or EPCC, the cause with SIDE to CAUSE, the code of TRAP to FAULTVA, and the side goes on at UTVEC; every register, the other side
and memory are as before, the word counts toward the watchdog as any other, and it is forwarded to the followers of a leader (R72). In a task with UTVEC 0 the same registers are written, a record with the frozen flag goes to the
sheet's ring, and the side is frozen at the word (R119, R359, R360). In a follower and outside a task
the cause is raised as any other. -/
def Obligations.TrapAndBrkGoToTheUserVector : Prop :=
  ∀ (s : State) (g : Guard) (code : BitVec 5) (i : Instr), i = .trap g code ∨ i = .brk g → Issues i s → s.selected g = true →
    let trap := decide (i = .trap g code)
    let cause := if trap then 0x14 else 0x15
    let va : Option Word := if trap then some (code.setWidth 64) else none
    (∀ th side, s.cur = .task th side → (s.thread th).utvec ≠ 0 → (s.thread th).follow = none →
      ∃ u, exec i s = .next u ∧ u = { s with ctxs := u.ctxs, threads := u.threads } ∧
        u.ctx.pc = (s.thread th).utvec &&& ~~~3 ∧ u.ctx.buf = [] ∧ u.ctx.run = s.ctx.run ∧ u.ctx.x = s.ctx.x ∧ u.ctx.p = s.ctx.p ∧ u.ctx.v = s.ctx.v ∧
        u.ctx.cause = BitVec.ofNat 64 ((if s.hinted then 512 else 0) + (if side = .a then 0 else 256) + cause) ∧ u.ctx.faultva = va.getD s.ctx.faultva ∧
        u.ctx.words = s.ctx.words + (if s.counts then 1 else 0) ∧
        (side = .a → (u.thread th).epca = s.ctx.pc &&& ~~~3 ∧ u.thread th = { s.thread th with epca := (u.thread th).epca, recd := (u.thread th).recd }) ∧
        (side = .c → (u.thread th).epcc = s.ctx.pc &&& ~~~3 ∧ u.thread th = { s.thread th with epcc := (u.thread th).epcc, recd := (u.thread th).recd }) ∧
        (∀ x, x ≠ s.cur → (∀ f ∈ s.followers th, x ≠ .task f side) → u.ctxOf x = s.ctxOf x) ∧
        (∀ f, f ≠ th → (s.followers th).count f = 1 → s.ctx.begun = false → u.ctxOf (.task f side) = (s.ctxOf (.task f side)).takeHop s.ctx.pc (s.ctx.buf.headD 0)) ∧
        ∀ n, n ≠ th → u.thread n = s.thread n) ∧
    (∀ th side, s.cur = .task th side → (s.thread th).utvec = 0 → (s.thread th).follow = none → s.ctx.grp = s.ctx.pc →
      s.ringBlocked (sheetOfCore (coreOfThread th)) = false →
      ∃ u, exec i s = .next u ∧ u.ctx.run = .frozen ∧ u.ctx.frozenCause = cause ∧ u.ctx.pc = s.ctx.pc ∧ u.ctx.x = s.ctx.x ∧
        u.ctx.cause = BitVec.ofNat 64 ((if s.hinted then 512 else 0) + (if side = .a then 0 else 256) + cause) ∧ u.ctx.faultva = va.getD s.ctx.faultva ∧
        (side = .a → (u.thread th).epca = s.ctx.pc &&& ~~~3) ∧ (side = .c → (u.thread th).epcc = s.ctx.pc &&& ~~~3) ∧
        u.sheets = (s.record (sheetOfCore (coreOfThread th))
          { cause := cause, flags := (if side = .a then 0 else 1) + (if s.hinted then 2 else 0) + (if (s.thread th).post then 4 else 0) + 8,
            source := addrOf (.task th side), obj := va.getD 0, epc := s.ctx.pc, cycle := s.cycle.toNat % 2 ^ 32, freeze := none }).sheets) ∧
    (s.cur.isTask = false ∨ s.isFollower = true → exec i s = .next (s.raiseAt cause va s.hinted))

/-- J and JAL go to the word's address plus four times the signed offset, and JR and JALR to sA; JAL and JALR write the address of the next word to s31, and JALR reads
its target first. In a follower a transfer writes its link alone. A target of JR or JALR that is not a multiple of 4 raises cause 0x05 with the target in FAULTVA, and
no link is written (R73, R111, R112). -/
def Sys2Proof.Claims.TransfersGoToTheirTarget : Prop :=
  ∀ (s : State) (g : Guard) (o : BitVec 20) (a : BitVec 5), s.selected g = true →
    let far := s.ctx.pc + o.signExtend 64 * 4
    let goes := fun (t : Word) => if s.isFollower then s.ctx.pc + 4 else t
    (Issues (.jump g o) s → CompletesAt (goes far) s (exec (.jump g o) s)) ∧
    (Issues (.jumpLink g o) s → CompletesAt (goes far) (s.setReg 31 (s.ctx.pc + 4)) (exec (.jumpLink g o) s)) ∧
    (Issues (.jumpReg g a) s → (s.reg a).toNat % 4 = 0 ∨ s.isFollower = true → CompletesAt (goes (s.reg a)) s (exec (.jumpReg g a) s)) ∧
    (Issues (.jumpLinkReg g a) s → (s.reg a).toNat % 4 = 0 ∨ s.isFollower = true →
      CompletesAt (goes (s.reg a)) (s.setReg 31 (s.ctx.pc + 4)) (exec (.jumpLinkReg g a) s)) ∧
    ((s.reg a).toNat % 4 ≠ 0 → s.isFollower = false →
      (Issues (.jumpReg g a) s → exec (.jumpReg g a) s = raise 0x05 (s.reg a) s) ∧ (Issues (.jumpLinkReg g a) s → exec (.jumpLinkReg g a) s = raise 0x05 (s.reg a) s))

/-- NOP, COMMIT, YIELD and PARK: NOP has no effect; COMMIT in a task after commit has none; YIELD records the other contexts of its front end that are ready, and itself until that YIELD has issued; PARK clears a
wake bit that is set, and otherwise waits for it (R114, R115, R117, R118). -/
def Sys2Proof.Claims.NopCommitYieldAndParkComplete : Prop :=
  ∀ (s : State) (g : Guard), s.selected g = true →
    (Issues (.nop g) s → Completes s (exec (.nop g) s)) ∧
    (∀ th side, s.cur = .task th side → Issues (.commit g) s → Completes (s.commitThread th) (exec (.commit g) s)) ∧
    (∀ th side, s.cur = .task th side → (s.thread th).post = true → s.commitThread th = s) ∧
    (∀ th side, s.cur = .task th side → (s.thread th).post = false → ((s.commitThread th).thread th).post = true ∧ ((s.commitThread th).thread th).soLog = []) ∧
    (∀ th side, s.cur = .task th side → Issues (.yield g) s → ∃ u, exec (.yield g) s = .next u ∧ u.ctx.pc = (if s.repeats then s.ctx.pc else s.ctx.pc + 4) ∧
      (∀ c, c ∈ u.ctx.yielded ↔ c = s.cur ∨ (c ∈ frontCtxs (coreOfThread th) side ∧ c ≠ s.cur ∧ s.ready c = true)) ∧ u.ctx.x = s.ctx.x ∧ u = { s with ctxs := u.ctxs }) ∧
    (∀ th side, s.cur = .task th side → Issues (.park g) s →
      ((s.thread th).wake = true → Completes (s.mapThread th (fun t => { t with wake := false })) (exec (.park g) s)) ∧
      ((s.thread th).wake = false → Waits .wake s (exec (.park g) s)))

/-- END on the A side ends that side. END on the C side commits the task, which is then ENDING until the waits of R116 are over. HRET ends its handler: the context is
free and the row drained. -/
def Sys2Proof.Claims.EndAndHretEndTheirSide : Prop :=
  ∀ (s : State) (g : Guard), s.selected g = true →
    (∀ th, s.cur = .task th .a → Issues (.endTask g) s →
      ∃ u, exec (.endTask g) s = .next u ∧ (u.ctxOf (.task th .a)).run = .ended ∧ u.aIdle th = true ∧ u = { s with ctxs := u.ctxs }) ∧
    (∀ th, s.cur = .task th .c → Issues (.endTask g) s →
      ∃ u, exec (.endTask g) s = .next u ∧ (u.ctxOf (.task th .c)).run = .ended ∧ (u.thread th).st = .ending ∧ (u.thread th).post = true ∧
        u.mem = (s.commitThread th).mem ∧ u.net = (s.commitThread th).net) ∧
    (∀ core k h, s.cur = .handler core k → s.handlers.get? (core, k) = some h → Issues (.hret g) s →
      ∃ u, exec (.hret g) s = .next u ∧ u.handlers.get? (core, k) = none ∧ (u.ctxOf (.handler core k)).run = .idle ∧ u.mem = s.mem ∧
        ∀ (j : WalkJob) (r : WalkRow), s.walk? h.cl h.job = some j → j.rows[h.row]? = some r → (∀ n < j.descs.length, n = h.slice ∨ n ∈ r.hdone) → r.st = 0 →
          ((u.walk? h.cl h.job).bind (fun j => j.rows[h.row]?)).map WalkRow.st = some 1)

/-- ASTART of a task whose A side has not run and whose item has an entry_a starts it there with s1 = sA, every other register 0 and every predicate clear; in any other
case it has no effect. AWAIT goes on when the A side is idle, and otherwise waits for that (R120). -/
def Sys2Proof.Claims.AstartAndAwaitRunTheASide : Prop :=
  ∀ (s : State) (g : Guard) (a : BitVec 5) (th : Nat), s.selected g = true → s.cur = .task th .c →
    (Issues (.astart g a) s → (s.thread th).aStarted = false → (s.itemOf s.cur).entryA ≠ 0 →
      ∃ u, exec (.astart g a) s = .next u ∧
        let k := u.ctxOf (.task th .a)
        k.run = .running ∧ k.pc = (s.itemOf s.cur).entryA ∧ k.buf = [] ∧ (∀ r, k.reg r = if r = 1 then s.reg a else 0) ∧ k.p = Ctx.init.p ∧ k.cause = 0 ∧
          (u.thread th).aStarted = true ∧ u.ctx.held = s.ctx.held ∧ u.ctx.pc = (if s.repeats then s.ctx.pc else s.ctx.pc + 4) ∧
          u = { s with ctxs := u.ctxs, threads := u.threads }) ∧
    (Issues (.astart g a) s → (s.thread th).aStarted = true ∨ (s.itemOf s.cur).entryA = 0 → Completes s (exec (.astart g a) s)) ∧
    (Issues (.await g) s → s.aIdle th = true → Completes s (exec (.await g) s)) ∧ (Issues (.await g) s → s.aIdle th = false → Waits .aIdle s (exec (.await g) s))

/-- IFLUSH drops the core's copies of instruction lines once the side's earlier stores are sent and performed: with no dirty line and no request of the core outstanding
it goes on at once (R122). ERET goes on at SEPC with IE = PIE (R364). -/
def Sys2Proof.Claims.IflushAndEretComplete : Prop :=
  ∀ (s : State) (g : Guard), s.selected g = true →
    (Issues (.iflush g) s → (∀ e ∈ (s.core s.coreId).l1, e.dirty = 0) → s.net = [] → s.ctx.stage = 0 →
      Completes (s.mapCore s.coreId (fun k => { k with ilines := [] })) (exec (.iflush g) s)) ∧
    (∀ h k, s.cur = .surveyor h k → Issues (.eret g) s →
      CompletesAt ((s.sheet h).sepc.get 0 k)
        (s.mapSheet h (fun x => { x with sstat := x.sstat.set k (BitVec.ofNat 64 (3 * (((s.sheet h).sstat.get 0 k).toNat / 2 % 2))) })) (exec (.eret g) s))

/-- An instruction that its guard does not select has no effect and goes on, but for the cause that the number of a control register raises by itself, by the model's reading whatever
the guard is (log 145); one that a queue window keeps waiting changes nothing (R63, R75, R96, R123). -/
def Obligations.UnselectedAndWaitingInstructionsChangeNothing : Prop :=
  Claims.AnUnselectedInstructionHasNoEffect ∧ Claims.QueueWindowsWait

/-- Hints, repetitions and the ends of groups: where the next word stands and what stays of the group; and the word of each repetition (R82, R86, R88, R89). -/
def Obligations.WordsAndRepetitionsGoOn : Prop :=
  Claims.CompletedWordsGoOn ∧ Claims.RepetitionsStepTheirFields

/-- Faults before commit discard the run, faults after commit freeze the side, and each record stands in its sheet's ring (R330, R359 to R363). -/
def Obligations.FaultsDiscardOrFreezeAndAreRecorded : Prop :=
  Claims.AFaultBeforeCommitDiscardsTheRun ∧ Claims.AFaultAfterCommitFreezesTheSide ∧ Claims.EventRecordsStandInTheRing

/-- Branches, calls and jumps go to their targets; NOP, COMMIT, YIELD, PARK, END, HRET, ASTART, AWAIT, IFLUSH and ERET act as R99 to R122 and R364 say. -/
def Obligations.ControlInstructionsComplete : Prop :=
  Claims.TransfersGoToTheirTarget ∧ Claims.NopCommitYieldAndParkComplete ∧ Claims.EndAndHretEndTheirSide ∧ Claims.AstartAndAwaitRunTheASide ∧ Claims.IflushAndEretComplete


namespace Sys2Proof.Claims

/-! ### Control registers, hints and memory -/

/-- What CRD reads of a register that the side or the module holds (R62). -/
def sideRegister (n : Nat) : Option (State → Word) :=
  match n with
  | 0x000 => some (fun s => s.cycle)
  | 0x001 => some (fun s => s.ctx.seed)
  | 0x002 => some (fun s => s.ctx.round)
  | 0x003 => some (fun s => s.ctx.vshape)
  | 0x005 => some (fun s => s.ctx.mcons)
  | 0x006 => some (fun s => s.ctx.scanout)
  | 0x007 => some (fun s => s.ctx.repcnt)
  | 0x009 => some (fun s => s.ctx.cause)
  | 0x00D => some (fun s => s.ctx.faultva)
  | _ => none

/-- What CRD reads in a task of a register that its thread holds (R62, R65). -/
def threadRegister (n : Nat) : Option (Thread → Word) :=
  match n with
  | 0x00A => some Thread.epca
  | 0x00B => some Thread.epcc
  | 0x00C => some Thread.utvec
  | 0x011 => some (fun t => BitVec.ofNat 64 t.prio)
  | 0x012 => some Thread.deadline
  | _ => none

/-- The bits of a shape that R61 admits: a type code below 12, columns that fit a row of 32 bytes, and no reserved bit. -/
def legalShape (v : Word) : Prop := v.toNat < 2 ^ 13 ∧ v.toNat % 16 < 12 ∧ (v.toNat / 256 % 32 + 1) * elemSize (v.toNat % 16) ≤ 32

/-- The value that a write of a writable control register leaves, where the register takes the value (R62, R63, R67). -/
def stored (n : Nat) (v : Word) : Option Word :=
  match n with
  | 0x001 => some (if v = 0 then 1 else v)
  | 0x002 => if v.toNat < 6 then some v else none
  | 0x005 => if v.toNat < 2 ^ 30 then some v else none
  | 0x006 => some v
  | 0x007 => if v.toNat < 2 ^ 9 then some v else none
  | 0x009 => if v.toNat < 2 ^ 10 then some v else none
  | 0x00A => some (v &&& ~~~3)
  | 0x00B => some (v &&& ~~~3)
  | 0x00C => some (v &&& ~~~3)
  | 0x00D => some v
  | _ => none

/-- The numbers of the registers that R62 lists. -/
def controlNumbers : List Nat := [0, 1, 2, 3, 4, 5, 6, 7, 8, 9, 0xA, 0xB, 0xC, 0xD, 0x10, 0x11, 0x12]

/-- What a hint leaves for the instruction of its group (R81, R85 to R95); REP is stated apart. -/
def hintEffect (i : Instr) : Option (Hints → Hints) :=
  match i with
  | .immxHint x => some (fun h => { h with immx := some x })
  | .ordHint k sc => some (fun h => { h with ord := some (k.toNat, sc.toNat) })
  | .locHint l2 l1 => some (fun h => { h with loc := some (l1.toNat, l2.toNat) })
  | .mcompHint p m => some (fun h => { h with mcomp := some (m.toNat, decide (p = 1)) })
  | .qwHint bo bc ao ac off cnt => some (fun h =>
      { h with qw := some { dCount := cnt.toNat + 1, dOff := off.toNat, aCount := ac.toNat + 1, aOff := ao.toNat, bCount := bc.toNat + 1, bOff := bo.toNat } })
  | .rndHint r => some (fun h => { h with rnd := some r.toNat })
  | _ => none

/-- After a hint: the hints of the group, the next repetition and REPCNT, the words left in the buffer, and the group where it was (R82). -/
def leavesHints (h : Hints) (n : Nat) (c : Word) (s t : State) : Prop :=
  t.ctx.hints = h ∧ t.ctx.repDone = n ∧ t.ctx.repcnt = c ∧ t.ctx.grp = s.ctx.grp ∧ t.ctx.buf = s.ctx.buf.drop 1 ∧ t.ctx.pc = s.ctx.pc + 4

/-- The bytes of an access by its SZ code, and whether LD extends its sign (R127). -/
def accessSize (z : BitVec 3) : Nat := match z.toNat with | 0 => 1 | 4 => 1 | 1 => 2 | 5 => 2 | 2 => 4 | 6 => 4 | _ => 8
def signed (z : BitVec 3) : Bool := decide (z.toNat < 4)

/-- The value that LD writes from the bytes read, lowest address first (R127). -/
def extended (z : BitVec 3) (bs : List Byte) : Word :=
  let x := leNat bs
  let n := 8 * accessSize z
  if signed z ∧ 2 ^ (n - 1) ≤ x then BitVec.ofInt 64 ((x : Int) - 2 ^ n) else BitVec.ofNat 64 x

/-- The address of LD and ST: the base plus the signed offset in units of the access size, 6 bits or 28 under IMMX (R85, R127). -/
def address (s : State) (b : BitVec 5) (z : BitVec 3) (o : BitVec 6) : Word :=
  let off : Int := match s.ctx.hints.immx with | none => o.toInt | some h => (h ++ o).toInt
  BitVec.ofInt 64 ((s.reg b).toInt + off * accessSize z)

/-- The core whose local memory an address names (R125). -/
def namedCore (s : State) (la : Nat) : Nat := s.coreId / 8 * 8 + la / 2 ^ 17 % 8

/-- A local address that R125 admits: in range, on a core that is neither frozen nor retired. -/
def localOk (s : State) (la : Nat) : Prop :=
  la < 2 ^ 20 ∧ la % 2 ^ 17 < 0x18000 ∧ (s.core (namedCore s la)).frozen = false ∧ (s.core (namedCore s la)).retired = false

/-- No byte of a range of a core's local memory is poisoned (R369). -/
def unpoisoned (k : Core) (off n : Nat) : Prop := ∀ w ∈ k.poison, 8 * w + 8 ≤ off ∨ off + n ≤ 8 * w

/-- The plain form of an access: no ORD hint, or ORD plain (R81, R91). -/
def plainOrder (s : State) : Prop := s.ctx.hints.ord = none ∨ ∃ sc, s.ctx.hints.ord = some (0, sc)

/-- The byte that a side sees at an offset of a line which its L1d holds: the task's own speculative byte, or else the entry's (R263, R304). -/
def seenByte (e : L1Entry) (p : Option SpecEntry) (k : Nat) : Byte :=
  match p with
  | some p => if p.mask.getLsbD k then BitVec.ofNat 8 (getBytes p.data k 1) else BitVec.ofNat 8 (getBytes e.data k 1)
  | none => BitVec.ofNat 8 (getBytes e.data k 1)

/-- The entry holds the byte: dirty, or in a valid sector of 64 bytes (R261). -/
def holdsByte (e : L1Entry) (p : Option SpecEntry) (k : Nat) : Prop :=
  (∃ q, p = some q ∧ q.mask.getLsbD k = true) ∨ e.dirty.getLsbD k = true ∨ e.valid.getLsbD (k / 64) = true

end Sys2Proof.Claims

/-- CRD of a task's or handler's control registers: the registers that the side or the module holds, those that the thread holds, ALLOT, TSTAT and SELF with their
fields (R62, R65, R66, R123). -/
def Sys2Proof.Claims.ControlRegistersAreRead : Prop :=
  ∀ (s : State) (g : Guard) (d : BitVec 5) (c : BitVec 10), s.selected g = true → Issues (.crd g d c) s → s.cur.isSurveyor = false →
    (∀ v, sideRegister c.toNat = some v → Completes (s.setReg d (v s)) (exec (.crd g d c) s)) ∧
    (∀ th side v, s.cur = .task th side → threadRegister c.toNat = some v → Completes (s.setReg d (v (s.thread th))) (exec (.crd g d c) s)) ∧
    (∀ th side, s.cur = .task th side → c.toNat = 4 →
      Completes (s.setReg d (BitVec.ofNat 64 ((s.thread th).qcfg * 2 ^ 10 + (s.thread th).q * 2 ^ 5 + (s.thread th).n))) (exec (.crd g d c) s)) ∧
    (∀ core k, s.cur = .handler core k → c.toNat = 4 → Completes (s.setReg d 0x20004) (exec (.crd g d c) s)) ∧
    (∀ th side, s.cur = .task th side → c.toNat = 8 → ∃ v : Word, Completes (s.setReg d v) (exec (.crd g d c) s) ∧ v.getLsbD 0 = (s.thread th).post ∧
      v.getLsbD 1 = (s.thread th).ovf ∧ bitsAt v 3 2 = (s.thread th).plate % 4 ∧ v.getLsbD 4 = (s.thread th).late ∧ v.getLsbD 5 = (s.thread th).rerun ∧ bitsAt v 63 6 = 0) ∧
    (∀ th side, s.cur = .task th side → th < 2 ^ 19 → c.toNat = 0x10 → ∃ v : Word, Completes (s.setReg d v) (exec (.crd g d c) s) ∧ bitsAt v 2 0 = th % 8 ∧
      v.getLsbD 3 = decide (side = .c) ∧ v.getLsbD 4 = false ∧ v.getLsbD 5 = (s.thread th).follow.isSome ∧ bitsAt v 8 6 = th / 8 % 8 ∧ bitsAt v 16 9 = th / 64 % 256 ∧
      bitsAt v 21 17 = th / 2 ^ 14 ∧ bitsAt v 47 32 = (s.thread th).member % 2 ^ 16 ∧ bitsAt v 63 48 = 0) ∧
    (∀ core k, s.cur = .handler core k → core < 2 ^ 16 → k < 2 → c.toNat = 0x10 → ∃ v : Word, Completes (s.setReg d v) (exec (.crd g d c) s) ∧ bitsAt v 2 0 = k ∧
      v.getLsbD 3 = true ∧ v.getLsbD 4 = true ∧ bitsAt v 8 6 = core % 8 ∧ bitsAt v 16 9 = core / 8 % 256 ∧ bitsAt v 21 17 = core / 2048)

/-- CWR of a task: a value that the register takes is what CRD then reads, and every other control register reads as before; VSHAPE takes the shapes of R61 and raises
cause 0x1B for any other; PRIO takes a value at or below its present one; and a read-only register or a value with a reserved bit raises its cause and changes nothing
(R61 to R63, R123). -/
def Sys2Proof.Claims.ControlRegistersTakeLegalValues : Prop :=
  ∀ (s : State) (g : Guard) (a : BitVec 5) (c : BitVec 10) (th : Nat) (side : Side),
    s.selected g = true → Issues (.cwr g a c) s → s.cur = .task th side → (s.thread th).prio < 16 →
    let n := c.toNat
    let v := s.reg a
    (∀ x, stored n v = some x → ∃ r, Completes r (exec (.cwr g a c) s) ∧ r.controlRead n = x ∧ (∀ m ∈ controlNumbers, m ≠ n → r.controlRead m = s.controlRead m) ∧
      r.ctx.x = s.ctx.x ∧ r.ctx.p = s.ctx.p ∧ r.ctx.v = s.ctx.v ∧ r = { s with ctxs := r.ctxs, threads := r.threads }) ∧
    (n = 0x003 → legalShape v → Completes (s.upd (fun k => { k with vshape := v })) (exec (.cwr g a c) s)) ∧
    (n = 0x003 → ¬legalShape v → exec (.cwr g a c) s = raise0 0x1B s) ∧
    (n = 0x011 → v.toNat < 16 → v.toNat ≤ (s.thread th).prio → Completes (s.mapThread th (fun t => { t with prio := v.toNat })) (exec (.cwr g a c) s)) ∧
    (n = 0x011 → v.toNat < 16 → (s.thread th).prio < v.toNat → exec (.cwr g a c) s = raise0 0x08 s) ∧
    (n ∈ [0x000, 0x004, 0x008, 0x010, 0x012] → exec (.cwr g a c) s = raise0 0x08 s) ∧
    (n ∈ [0x002, 0x005, 0x007, 0x009] → stored n v = none → exec (.cwr g a c) s = raise0 0x01 s) ∧
    (n = 0x011 → 16 ≤ v.toNat → exec (.cwr g a c) s = raise0 0x01 s)

/-- A hint changes what the context holds for the instruction of its group and nothing else: it completes, and from the head of the buffer it leaves the word behind it
to issue next, in the same group. REP sets the count and the three signed steps, and starts at repetition 0, or at REPCNT.DONE where VALID is set and the group stands at
its side's EPC (R81, R82, R85, R86, R89, R91 to R95). -/
def Obligations.HintsModifyTheirGroup : Prop :=
  (∀ (i : Instr) (f : Hints → Hints) (s : State), hintEffect i = some f → issueFault i s = none →
    Completes (s.upd (fun k => { k with hints := f k.hints })) (exec i s) ∧
    (isHintWord (s.ctx.buf.headD 0) = true → ∃ t, exec i s = .next t ∧ leavesHints (f s.ctx.hints) s.ctx.repDone s.ctx.repcnt s t)) ∧
  ∀ (s : State) (b a d : BitVec 3) (n : BitVec 8), issueFault (.repHint b a d n) s = none →
    let resumes := s.ctx.repcnt.getLsbD 8 && decide (s.ctx.grp = s.controlRead (if s.cur.isA then 0x00A else 0x00B))
    let hints := { s.ctx.hints with rep := some { count := n.toNat, dStep := d.toInt, aStep := a.toInt, bStep := b.toInt } }
    let start := if resumes then s.ctx.repcnt.toNat % 256 else 0
    Completes (s.upd (fun k => { k with hints := hints, repDone := start, repcnt := if resumes then k.repcnt else 0 })) (exec (.repHint b a d n) s) ∧
    (isHintWord (s.ctx.buf.headD 0) = true → ∃ t, exec (.repHint b a d n) s = .next t ∧ leavesHints hints start (if resumes then s.ctx.repcnt else 0) s t)

/-- LD and ST of local memory: a load takes the bytes of the named core of the cluster, extended as its SZ code says; a store writes the low bytes of sD to its own core's
memory, and every other byte of every core keeps its value. An address out of range or on a retired core raises cause 0x08, one on a frozen core is held, and then a
misaligned address raises cause 0x05, with the address in FAULTVA; a store to another core, or into the input area before commit, raises cause 0x08 (R125 to R128). -/
def Obligations.LocalLoadsAndStores : Prop :=
  ∀ (s : State) (g : Guard) (d b : BitVec 5) (z : BitVec 3) (o : BitVec 6),
    s.selected g = true → s.cur.isSurveyor = false → plainOrder s →
    let a := address s b z o
    let la := a.toNat
    let n := accessSize z
    let off := la % 2 ^ 17
    (Issues (.ld g d b z 1 o) s → localOk s la → la % n = 0 → unpoisoned (s.core (namedCore s la)) off n →
      Completes (s.setReg d (extended z ((s.core (namedCore s la)).mem.readList off n))) (exec (.ld g d b z 1 o) s)) ∧
    (Issues (.ld g d b z 1 o) s → 2 ^ 20 ≤ la ∨ 0x18000 ≤ off → exec (.ld g d b z 1 o) s = raise 0x08 a s) ∧
    (Issues (.ld g d b z 1 o) s → (s.core (namedCore s la)).retired = true → exec (.ld g d b z 1 o) s = raise 0x08 a s) ∧
    (Issues (.ld g d b z 1 o) s → la < 2 ^ 20 → off < 0x18000 → (s.core (namedCore s la)).retired = false → (s.core (namedCore s la)).frozen = true →
      Waits (.held (namedCore s la)) s (exec (.ld g d b z 1 o) s)) ∧
    (Issues (.ld g d b z 1 o) s → localOk s la → la % n ≠ 0 → exec (.ld g d b z 1 o) s = raise 0x05 a s) ∧
    (Issues (.st g d b z 1 o) s → localOk s la → namedCore s la = s.coreId → la % n ≠ 0 → exec (.st g d b z 1 o) s = raise 0x05 a s) ∧
    (Issues (.st g d b z 1 o) s → localOk s la → namedCore s la = s.coreId → la % n = 0 → s.inputArea off n = false → (s.core s.coreId).mem.wf = true →
      ∃ r, Completes r (exec (.st g d b z 1 o) s) ∧ r = { s with cores := r.cores } ∧ (∀ c, c ≠ s.coreId → r.core c = s.core c) ∧
        (∀ x, (r.core s.coreId).mem.read x = if off ≤ x ∧ x < off + n then BitVec.ofNat 8 ((s.reg d).toNat / 2 ^ (8 * (x - off))) else (s.core s.coreId).mem.read x) ∧
        (r.core s.coreId).l1 = (s.core s.coreId).l1 ∧ (r.core s.coreId).spec = (s.core s.coreId).spec) ∧
    (Issues (.st g d b z 1 o) s → la < 2 ^ 20 → off < 0x18000 → namedCore s la ≠ s.coreId → exec (.st g d b z 1 o) s = raise 0x08 a s) ∧
    (Issues (.st g d b z 1 o) s → localOk s la → namedCore s la = s.coreId → la % n = 0 → s.inputArea off n = true → exec (.st g d b z 1 o) s = raise 0x08 a s)

/-- A plain LD whose bytes all stand in the core's L1d takes the task's own speculative bytes before the entry's, and changes nothing but sD, the use stamps of the
entry and of the task's speculative entry whose bytes it takes (R264), and under L1 policy 3 whether the entry is retained (R286); one that may not be read raises cause 0x08; a misaligned global address raises cause 0x05 before any translation (R124, R126, R127, R262, R263). -/
def Sys2Proof.Claims.GlobalLoadsThatHit : Prop :=
  ∀ (s : State) (g : Guard) (d b : BitVec 5) (z : BitVec 3) (o : BitVec 6) (e : L1Entry),
    s.selected g = true → Issues (.ld g d b z 0 o) s → s.cur.isSurveyor = false → plainOrder s →
    let a := address s b z o
    let va := a.toNat
    let n := accessSize z
    let p := s.ownSpec (s.asidOf s.cur) (va / 256)
    (va % n ≠ 0 → exec (.ld g d b z 0 o) s = raise 0x05 a s) ∧
    (va % n = 0 → (s.core s.coreId).entry? (s.asidOf s.cur) (va / 256) = some e → (∀ k, k < n → holdsByte e p (va % 256 + k)) →
      (e.r = true → Completes (((s.hitLine s.coreId (s.asidOf s.cur) (va / 256) s.l1Policy).useSpec (s.asidOf s.cur) (va / 256) (lineMask (va % 256) n)).setReg d
        (extended z ((List.range n).map (fun k => seenByte e p (va % 256 + k))))) (exec (.ld g d b z 0 o) s)) ∧
      (e.r = false → exec (.ld g d b z 0 o) s = raise 0x08 a s))

/-- A plain LD that misses takes the bytes at the home of its translated address, and memory keeps every byte; an address that the translation refuses raises the cause
that the translation gives, with the address in FAULTVA (R124, R127, R254, R261, R273). -/
def Sys2Proof.Claims.GlobalLoadsThatMiss : Prop :=
  ∀ (s u : State) (g : Guard) (d b : BitVec 5) (z : BitVec 3) (o : BitVec 6),
    s.selected g = true → Issues (.ld g d b z 0 o) s → s.cur.isSurveyor = false → plainOrder s →
    let a := address s b z o
    let va := a.toNat
    let n := accessSize z
    va % n = 0 → (s.core s.coreId).entry? (s.asidOf s.cur) (va / 256) = none → s.ownSpec (s.asidOf s.cur) (va / 256) = none →
    (∀ l pa, s.translate s.clusterId (s.asidOf s.cur) va .load (s.coreSecure s.coreId) = (.page l pa, u) → l.kind ≠ 1 → u.moving pa = false → u.memPoison = [] →
      u.net = [] → (u.core s.coreId).ways (va / 256) < 10 → (u.cluster s.clusterId).rmap.get? (pa / 256 * 256) = none → paSheet pa = s.sheetId → pa % 256 = va % 256 →
      ∃ t, exec (.ld g d b z 0 o) s = .next t ∧ t.ctx.held = (s.setReg d (extended z (u.homeBytes pa n))).ctx.held ∧ t.mem = u.mem ∧ t.net = [] ∧
        t.ctx.pc = (if s.repeats then s.ctx.pc else s.ctx.pc + 4)) ∧
    (∀ c, s.translate s.clusterId (s.asidOf s.cur) va .load (s.coreSecure s.coreId) = (.cause c, u) → exec (.ld g d b z 0 o) s = raise c a u)

/-- A plain ST after commit, to a line that the core's L1d holds with write permission and no SO kind, leaves its bytes dirty in that entry; a plain ST before commit leaves
them in the task's speculative entry, which no other context reads. Neither changes a byte of global memory, nor any other line (R124, R128, R261, R263). -/
def Sys2Proof.Claims.GlobalStoresStayInTheL1d : Prop :=
  ∀ (s : State) (g : Guard) (d b : BitVec 5) (z : BitVec 3) (o : BitVec 6) (e : L1Entry),
    s.selected g = true → Issues (.st g d b z 0 o) s → s.cur.isSurveyor = false → plainOrder s →
    let a := address s b z o
    let va := a.toNat
    let n := accessSize z
    let asid := s.asidOf s.cur
    let line := va / 256
    (va % n ≠ 0 → exec (.st g d b z 0 o) s = raise 0x05 a s) ∧
    (va % n = 0 → s.isPost s.cur = true → (s.core s.coreId).entry? asid line = some e → e.w = true → e.kind ≠ 1 →
      ∃ r e', Completes r (exec (.st g d b z 0 o) s) ∧ r = { s with cores := r.cores } ∧ (∀ c, c ≠ s.coreId → r.core c = s.core c) ∧
        (r.core s.coreId).entry? asid line = some e' ∧ e'.kind = e.kind ∧ e'.valid = e.valid ∧
        (∀ k, k < 256 → e'.dirty.getLsbD k = (e.dirty.getLsbD k || decide (va % 256 ≤ k ∧ k < va % 256 + n))) ∧
        (∀ k, k < 256 → getBytes e'.data k 1 = if va % 256 ≤ k ∧ k < va % 256 + n then (s.reg d).toNat / 2 ^ (8 * (k - va % 256)) % 256 else getBytes e.data k 1) ∧
        (r.core s.coreId).spec = (s.core s.coreId).spec ∧ (r.core s.coreId).mem = (s.core s.coreId).mem) ∧
    (∀ th side p, s.cur = .task th side → va % n = 0 → (s.thread th).post = false → (s.core s.coreId).entry? asid line = none → s.ownSpec asid line = some p →
      p.w = true → p.kind ≠ 1 →
      ∃ r p', Completes r (exec (.st g d b z 0 o) s) ∧ r = { s with cores := r.cores } ∧ (∀ c, c ≠ s.coreId → r.core c = s.core c) ∧ r.ownSpec asid line = some p' ∧
        (∀ k, k < 256 → p'.mask.getLsbD k = (p.mask.getLsbD k || decide (va % 256 ≤ k ∧ k < va % 256 + n))) ∧
        (∀ k, k < 256 → getBytes p'.data k 1 = if va % 256 ≤ k ∧ k < va % 256 + n then (s.reg d).toNat / 2 ^ (8 * (k - va % 256)) % 256 else getBytes p.data k 1) ∧
        (r.core s.coreId).l1 = (s.core s.coreId).l1 ∧ (r.core s.coreId).mem = (s.core s.coreId).mem)

/-- CRD reads each control register, and CWR writes what the register takes or raises its cause (R61 to R67, R123). -/
def Obligations.ControlRegistersAreReadAndWritten : Prop :=
  Claims.ControlRegistersAreRead ∧ Claims.ControlRegistersTakeLegalValues

/-- Global loads take the bytes of the L1d or of the home, and global stores stay in the L1d, speculative before commit (R124 to R127, R254, R261 to R263). -/
def Obligations.GlobalLoadsAndStores : Prop :=
  Claims.GlobalLoadsThatHit ∧ Claims.GlobalLoadsThatMiss ∧ Claims.GlobalStoresStayInTheL1d


namespace Sys2Proof.Claims

/-! ### Tiles, atomics, maintenance and homes -/

/-- The address of element (i, j) of a tile (R129). -/
def tileAddress (s : State) (b p : BitVec 5) (t : Bool) (i j : Nat) : Word :=
  s.reg b + (if t then BitVec.ofNat 64 j * s.reg p + BitVec.ofNat 64 (i * s.shape.esize) else BitVec.ofNat 64 i * s.reg p + BitVec.ofNat 64 (j * s.shape.esize))

/-- The elements of the shape that execute, in row-major order (R75, R93, R129). -/
def executing (s : State) (g : Guard) : List (Nat × Nat) :=
  ((List.range s.shape.rows).flatMap (fun i => (List.range s.shape.cols).map (fun j => (i, j)))).filter (fun e => s.executes g (32 * e.1 + e.2 * s.shape.esize))

/-- An atomic: its guard, operation code, width in bits, and registers D, A and B (R282). -/
def atomicForm (i : Instr) : Option (Guard × Nat × Nat × BitVec 5 × BitVec 5 × BitVec 5) :=
  let w := fun (x : BitVec 1) => if x = 1 then 32 else 64
  match i with
  | .amoadd g d a b x => some (g, 0, w x, d, a, b)
  | .amoand g d a b x => some (g, 1, w x, d, a, b)
  | .amoor g d a b x => some (g, 2, w x, d, a, b)
  | .amoxor g d a b x => some (g, 3, w x, d, a, b)
  | .amomin g d a b x => some (g, 4, w x, d, a, b)
  | .amomax g d a b x => some (g, 5, w x, d, a, b)
  | .amominn g d a b x => some (g, 6, w x, d, a, b)
  | .amomaxn g d a b x => some (g, 7, w x, d, a, b)
  | .amoswap g d a b x => some (g, 8, w x, d, a, b)
  | .amocas g d a b x => some (g, 9, w x, d, a, b)
  | .amofadd g d a b => some (g, 10, 32, d, a, b)
  | .amostag g d a b => some (g, 11, 32, d, a, b)
  | _ => none

/-- The value that an atomic of width w leaves at the home (R282): the sum, the bit operations, the signed and unsigned extremes, the operand, and for CAS the operand
where the old value equals the compare value. AMOFADD adds FP32 values; the hit count of a TLB entry is added with saturation (R275). -/
def leftAtHome (op w : Nat) (old b cmp : Nat) : Nat :=
  match op with
  | 0 => (BitVec.ofNat w old + BitVec.ofNat w b).toNat
  | 1 => (BitVec.ofNat w old &&& BitVec.ofNat w b).toNat
  | 2 => (BitVec.ofNat w old ||| BitVec.ofNat w b).toNat
  | 3 => (BitVec.ofNat w old ^^^ BitVec.ofNat w b).toNat
  | 4 => if (BitVec.ofNat w b).toInt < (BitVec.ofNat w old).toInt then b else old
  | 5 => if (BitVec.ofNat w old).toInt < (BitVec.ofNat w b).toInt then b else old
  | 6 => min old b
  | 7 => max old b
  | 9 => if old = cmp then b else old
  | 10 => arith .add 0 0 0 old b 0
  | 16 => min 0xFFFFFFFF (old + b)
  | _ => b

/-- No recording is in progress on any sheet, so that a write to a page abandons none (R395, R396). -/
def noRecording (s : State) : Prop := ∀ h ∈ s.sheets, h.2.plates = []

/-- The request with which a TLB adds the hit count of an entry to the word of its first 64 KiB page in the shadow table of its sheet: 32 bits at SHADOW.BASE plus
4 times PA [40:16] (R275). -/
def spillRequest (s : State) (cl : Nat) (e : TlbEntry) : Packet :=
  let word := (s.sheet (cl / 256)).shadow.toNat / 2 ^ 27 % 2 ^ 25 * 2 ^ 27 + 4 * (e.leaf.pa / 2 ^ 16 % 2 ^ 25)
  { origin := .tlb cl, pa := word / 256 * 256, va := word / 256, asid := 0, so := false, req := .atomic 16 32 (word % 256) (BitVec.ofNat 64 e.hc) 0,
    dreg := none, acq := 0, performed := false, answered := 0, nacked := none, held := false, tag := 0, result := 0, after := [] }

/-- What the spill of an entry sends: its request, or nothing while SHADOW.EN is 0 and for a page of another module (R275). -/
def spilled (s t : State) (cl : Nat) (e : TlbEntry) : Prop :=
  t.net = if (s.sheet (cl / 256)).shadow.toNat % 2 = 1 ∧ e.leaf.pa / 2 ^ 41 % 2 ^ 10 = 0 then s.net.set s.nextPkt (spillRequest s cl e) else s.net

/-- The tag of a line of a format window: FMT, BLK, with SCL the address of the scale byte of its first element, and how far that element lies in its block (R188,
R191). -/
def windowTag (w : Window) (line : Nat) : WinTag :=
  { phase := (line - w.base.toNat / 2 ^ 16 % 2 ^ 36 * 2 ^ 16) % (w.cfg.toNat % 2 ^ 11),
    fmt := w.cfg.toNat / 2 ^ 20 % 16, blk := w.cfg.toNat % 2 ^ 11,
    scaleAt := if w.cfg.toNat / 2 ^ 16 % 2 = 1 then some (w.scale.toNat % 2 ^ 52 + (line - w.base.toNat / 2 ^ 16 % 2 ^ 36 * 2 ^ 16) / (w.cfg.toNat % 2 ^ 11)) else none }

/-- The lines of a cache maintenance instruction's range: those that [sA, sA + sB) overlaps, sB at most 1 MiB (R288). -/
def inRange (s : State) (a b : BitVec 5) (line : Nat) : Prop :=
  let va := (s.reg a).toNat
  let n := min (s.reg b).toNat 0x100000
  0 < n ∧ va / 256 ≤ line ∧ line ≤ (va + n - 1) / 256

end Sys2Proof.Claims

/-- LDV of local memory reads every executing element before it writes its destination, and leaves or zeroes the others; bytes outside the shape keep their values in a
register and are 0 in a queue slot. STV stores its executing elements to its own core in row-major order. A local element out of range raises cause 0x08, and a misaligned
global element cause 0x05, with nothing read or written (R126, R129 to R131). -/
def Obligations.TilesMoveTheirElements : Prop :=
  ∀ (s : State) (g : Guard) (d b p : BitVec 5) (t : BitVec 1),
    s.cur.isSurveyor = false → plainOrder s → s.shape.cols * s.shape.esize ≤ 32 →
    let e := s.shape.esize
    let addr := fun (x : Nat × Nat) => (tileAddress s b p (decide (t = 1)) x.1 x.2).toNat
    let row := fun (x : Nat × Nat) => (tileAddress s b p false x.1 x.2).toNat
    let old := s.vold d.toNat s.qwD.2
    (Issues (.ldv g d b p 1 t) s →
      (∀ x ∈ executing s g, localOk s (addr x) ∧ addr x % e = 0 ∧ unpoisoned (s.core (namedCore s (addr x))) (addr x % 2 ^ 17) e) →
      ∃ v, Completes (s.vset d.toNat s.qwD.2 v) (exec (.ldv g d b p 1 t) s) ∧
        (∀ x ∈ executing s g, getBytes v (32 * x.1 + x.2 * e) e = leNat ((s.core (namedCore s (addr x))).mem.readList (addr x % 2 ^ 17) e)) ∧
        (∀ i j, i < s.shape.rows → j < s.shape.cols → (i, j) ∉ executing s g →
          getBytes v (32 * i + j * e) e = if s.zeroFill then 0 else getBytes old (32 * i + j * e) e) ∧
        ∀ k, k < 512 → s.shape.rows ≤ k / 32 ∨ s.shape.cols * e ≤ k % 32 → getBytes v k 1 = if d.toNat < 24 then getBytes old k 1 else 0) ∧
    (Issues (.stv g d b p 1) s → s.ctx.keep = 0 →
      (∀ x ∈ executing s g, localOk s (row x) ∧ namedCore s (row x) = s.coreId ∧ row x % e = 0 ∧ s.inputArea (row x % 2 ^ 17) e = false) →
      ∃ r, Completes r (exec (.stv g d b p 1) s) ∧ r = { s with cores := r.cores } ∧ (∀ c, c ≠ s.coreId → r.core c = s.core c) ∧
        (r.core s.coreId).mem = (executing s g).foldl (fun m x =>
          m.writeList (row x % 2 ^ 17) (leBytes e (getBytes (s.vsrc d.toNat s.qwD.2) (32 * x.1 + x.2 * e) e))) (s.core s.coreId).mem) ∧
    (∀ x rest, executing s g = x :: rest → 2 ^ 20 ≤ addr x ∨ 0x18000 ≤ addr x % 2 ^ 17 → Issues (.ldv g d b p 1 t) s →
      exec (.ldv g d b p 1 t) s = raise 0x08 (tileAddress s b p (decide (t = 1)) x.1 x.2) s) ∧
    (∀ pre x post, executing s g = pre ++ x :: post → (∀ y ∈ pre, addr y % e = 0) → addr x % e ≠ 0 → Issues (.ldv g d b p 0 t) s →
      exec (.ldv g d b p 0 t) s = raise 0x05 (tileAddress s b p (decide (t = 1)) x.1 x.2) s) ∧
    (∀ pre x post, executing s g = pre ++ x :: post → (∀ y ∈ pre, row y % e = 0) → row x % e ≠ 0 → Issues (.stv g d b p 0) s →
      exec (.stv g d b p 0) s = raise 0x05 (tileAddress s b p false x.1 x.2) s)

/-- An atomic commits the task first. A misaligned address then raises cause 0x05. Otherwise, with no dirty byte of its line in the L1d and its line under no other
alias, it sends its request toward the home of its translated address; and when the response has come, it writes the old value to sD, and completes (R282, R283). That the
side stands at the atomic until its response comes is the model's reading (log 7). -/
def Obligations.AtomicsSendAndWriteTheirResult : Prop :=
  ∀ (i : Instr) (g : Guard) (op w : Nat) (d a b : BitVec 5) (s : State),
    atomicForm i = some (g, op, w, d, a, b) → Issues i s → s.selected g = true →
    let c := s.commit
    (c.ctx.stage = 4 → Completes (c.setReg d c.ctx.keep) (exec i s)) ∧
    (c.ctx.stage ≠ 4 → (c.reg a).toNat % (w / 8) ≠ 0 → exec i s = raise 0x05 (c.reg a) c) ∧
    (∀ u l pa, c.ctx.stage = 0 → (c.reg a).toNat % (w / 8) = 0 → c.cur.isSurveyor = false → plainOrder c →
      c.translate c.clusterId (c.asidOf c.cur) (c.reg a).toNat .store (c.coreSecure c.coreId) = (.page l pa, u) → l.kind ≠ 1 →
      (u.core c.coreId).entry? (c.asidOf c.cur) ((c.reg a).toNat / 256) = none →
      (∀ k, (u.cluster c.clusterId).rmap.get? (pa / 256 * 256) = some k → k = (c.asidOf c.cur, (c.reg a).toNat / 256)) →
      ∃ t, exec i s = .next t ∧ t.ctx.held = u.ctx.held ∧ t.ctx.stage = 4 ∧ t.ctx.wait.map Wait.cond = some .reply ∧ t.mem = u.mem ∧
        t.net = u.net.set u.nextPkt (atomicPacket c.cur pa (c.reg a).toNat (c.asidOf c.cur) op w ((c.reg b) &&& BitVec.ofNat 64 (2 ^ w - 1))
          ((c.reg d) &&& BitVec.ofNat 64 (2 ^ w - 1)) false d 0))

/-- A write reaches its home: its marked bytes take their values, every other byte keeps its value, the line's tag advances, and the acknowledgement carries it. An atomic
reads the old value and leaves the new one as one event, and its response holds the old value, or for AMOSTAG the new tag (R253, R255, R282, R283). A request in a page that
moves is refused and may be retried 64 cycles later (R278, R279). -/
def Sys2Proof.Claims.HomesPerformRequests : Prop :=
  ∀ (s : State) (k : Nat) (p : Packet), s.net.get? k = some p → s.atHome k p = true →
    (s.moving p.pa = true → (∀ m x, p.req = .write m x → exec (.homeWrite k) s = .next { s with net := s.net.set k { p with nacked := some (s.cycle.toNat + 64) } }) ∧
      (∀ op w off b c, p.req = .atomic op w off b c → exec (.homeAtomic k) s = .next { s with net := s.net.set k { p with nacked := some (s.cycle.toNat + 64) } })) ∧
    (s.moving p.pa = false → s.region p.pa = .hbm → p.pa % 256 = 0 → s.mem.wf = true → noRecording s →
      (∀ m x, p.req = .write m x → ∃ t, exec (.homeWrite k) s = .next t ∧
        (∀ a, t.mem.read a = if p.pa ≤ a ∧ a < p.pa + 256 ∧ m.getLsbD (a - p.pa) = true then BitVec.ofNat 8 (getBytes x (a - p.pa) 1) else s.mem.read a) ∧
        t.tagOf p.pa = s.tagOf p.pa + 1 ∧ t.net.get? k = some { p with performed := true, answered := s.cycle.toNat, tag := s.tagOf p.pa + 1 } ∧ t.ctxs = s.ctxs ∧ t.cores = s.cores) ∧
      (∀ op w off b c, p.req = .atomic op w off b c → w = 32 ∨ w = 64 → off + w / 8 ≤ 256 → op < 12 ∨ (op = 16 ∧ w = 32) → b.toNat < 2 ^ w → s.memPoison = [] →
        let old := leNat (s.mem.readList (p.pa + off) (w / 8))
        ∃ t, exec (.homeAtomic k) s = .next t ∧ leNat (t.mem.readList (p.pa + off) (w / 8)) = leftAtHome op w old b.toNat c.toNat ∧
          (∀ a, a < p.pa + off ∨ p.pa + off + w / 8 ≤ a → t.mem.read a = s.mem.read a) ∧ t.tagOf p.pa = s.tagOf p.pa + 1 ∧
          t.net.get? k = some { p with performed := true, answered := s.cycle.toNat, tag := s.tagOf p.pa + 1,
                                       result := if op = 11 then BitVec.ofNat 64 (s.tagOf p.pa + 1).toNat else BitVec.ofNat 64 old } ∧ t.ctxs = s.ctxs))

/-- An acknowledgement that is behind no other on the channels that carry it removes its request, and enters the side's record of four lines, the newest first and each line
once; an atomic's response leaves its result for its side; that of the request performed first is behind none. A refused request goes again when its time has come (R255,
R279, R283, R408). -/
def Sys2Proof.Claims.AcknowledgementsReachTheirSide : Prop :=
  ∀ (s : State) (k : Nat) (p : Packet), s.net.get? k = some p →
    ((∀ q ∈ s.net, q.1 ≠ k → q.2.performed = true → p.answered ≤ q.2.answered) → s.behindReply k p = false) ∧
    (p.performed = true → s.behindReply k p = false → ∃ t, exec (.ackReceive k) s = .next t ∧ t.net.get? k = none ∧ (∀ j, j ≠ k → t.net.get? j = s.net.get? j) ∧ t.mem = s.mem ∧
      (∀ c, p.origin = .side c → ((t.ctxOf c).ackRecord = ((p.va, p.tag) :: (s.ctxOf c).ackRecord.filter (fun e => decide (e.1 ≠ p.va))).take 4) ∧
        (t.ctxOf c).x = (s.ctxOf c).x ∧ (∀ op w off b y, p.req = .atomic op w off b y → (t.ctxOf c).keep = p.result)) ∧
      ((∀ c, p.origin ≠ .side c) → t = { s with net := t.net, clusters := t.clusters })) ∧
    (∀ n h j, p.nacked = some n → n ≤ s.cycle.toNat → p.held = false → p.origin = .side (.surveyor h j) → p.pa % 256 = 0 →
      (∀ q ∈ s.net, q.1 < k → q.2.nacked = none ∨ q.2.origin ≠ p.origin) →
      ∃ t, exec (.nackRetry k) s = .next t ∧ t.net.get? k = some { p with nacked := none } ∧ t.mem = s.mem ∧ t.ctxs = s.ctxs) ∧
    (∀ n u l pa c, p.nacked = some n → n ≤ s.cycle.toNat → p.held = false → p.so = false → p.origin = .core c → (∃ m x, p.req = .write m x) →
      (∀ q ∈ s.net, q.1 < k → q.2.nacked = none ∨ q.2.origin ≠ p.origin) →
      s.translate (clusterOfCore c) p.asid (p.va * 256) .writeBack (s.cluster (clusterOfCore c)).worldCl = (.page l pa, u) →
      ∃ t, exec (.nackRetry k) s = .next t ∧ t.net.get? k = some { p with nacked := none, pa := pa / 256 * 256 } ∧ t.mem = u.mem)

/-- FENCE after commit, with nothing to write back and nothing outstanding, goes on, and its acquire part invalidates the clean bytes of RC lines without IMM at scope 2 and
above; ACQINV invalidates them for its ASID, and with B = 1 those of UN lines too. WAITACK returns the tag of its line from the side's record, or all ones, once nothing of the
side is outstanding (R256, R257, R284, R289, R312, R313). -/
def Sys2Proof.Claims.FencesAndWaitack : Prop :=
  ∀ (s : State) (g : Guard) (k sc d a : BitVec 5), s.selected g = true →
    (Issues (.fence g k sc) s → s.isPost s.cur = true → s.ctx.stage = 0 → s.net = [] → (∀ e ∈ (s.core s.coreId).l1, e.dirty = 0) →
      ∃ r, Completes r (exec (.fence g k sc) s) ∧ r = { s with cores := r.cores } ∧ (∀ c, c ≠ s.coreId → r.core c = s.core c) ∧
        (k.toNat % 2 = 0 ∨ sc.toNat < 2 → r = s) ∧
        (k.toNat % 2 = 1 → 2 ≤ sc.toNat → ∀ e, e ∈ (r.core s.coreId).l1 ↔ e ∈ (s.core s.coreId).l1.filter (fun e => e.kind != 0 || e.imm) ∧ (e.valid ≠ 0 ∨ e.dirty ≠ 0))) ∧
    (Issues (.acqinv g sc) s → ∃ r, Completes r (exec (.acqinv g sc) s) ∧ r = { s with cores := r.cores } ∧ (∀ c, c ≠ s.coreId → r.core c = s.core c) ∧
      (∀ e ∈ (r.core s.coreId).l1, e.asid = s.asidOf s.cur → e.imm = false → e.kind = 0 ∨ (sc = 1 ∧ e.kind = 2) → e.valid = 0) ∧
      (∀ e ∈ (s.core s.coreId).l1, e.dirty ≠ 0 → ∃ e' ∈ (r.core s.coreId).l1, e' = { e with valid := e'.valid }) ∧ (r.core s.coreId).spec = (s.core s.coreId).spec) ∧
    (Issues (.waitack g d a sc) s → s.outstanding (.side s.cur) = true → Waits .acked s (exec (.waitack g d a sc) s)) ∧
    (Issues (.waitack g d a sc) s → s.outstanding (.side s.cur) = false →
      (∀ e, s.ctx.ackRecord.find? (fun e => e.1 == bitsAt (s.reg a) 55 8) = some e → Completes (s.setReg d (BitVec.ofNat 64 e.2.toNat)) (exec (.waitack g d a sc) s)) ∧
      (s.ctx.ackRecord.find? (fun e => e.1 == bitsAt (s.reg a) 55 8) = none → Completes (s.setReg d (BitVec.allOnes 64)) (exec (.waitack g d a sc) s)))

/-- CINVAL drops the lines of its range and ASID from the core's L1d and counts them. CCLEAN and CFLUSH write back the dirty ones and wait for their acknowledgements, and then
write their number to sD; CFLUSH drops the clean ones. PFETCH raises no fault, and a line that it fetches is then held whole in the L1d (R287, R288). -/
def Sys2Proof.Claims.CacheMaintenance : Prop :=
  ∀ (s : State) (g : Guard) (d a b : BitVec 5), s.selected g = true →
    (Issues (.cinval g d a b) s → ∃ r : State, Completes (r.setReg d (BitVec.ofNat 64 ((s.core s.coreId).l1.length - (r.core s.coreId).l1.length))) (exec (.cinval g d a b) s) ∧
      r = { s with cores := r.cores } ∧ (∀ c, c ≠ s.coreId → r.core c = s.core c) ∧ (r.core s.coreId).spec = (s.core s.coreId).spec ∧
      ∀ e, e ∈ (r.core s.coreId).l1 ↔ e ∈ (s.core s.coreId).l1 ∧ ¬(e.asid = s.asidOf s.cur ∧ inRange s a b e.line)) ∧
    (∀ i, i = .cclean g d a b ∨ i = .cflush g d a b → Issues i s → s.ctx.stage = 2 →
      (s.outstanding (.side s.cur) = false → Completes (s.setReg d s.ctx.keep) (exec i s)) ∧ (s.outstanding (.side s.cur) = true → Waits .acked s (exec i s))) ∧
    (∀ i, i = .cclean g d a b ∨ i = .cflush g d a b → Issues i s → s.ctx.stage = 0 →
      (∀ e ∈ (s.core s.coreId).l1, e.asid = s.asidOf s.cur → inRange s a b e.line → e.dirty = 0) →
      ∃ t, exec i s = .next t ∧ t.ctx.stage = 2 ∧ t.ctx.keep = s.ctx.keep ∧ t.ctx.wait.map Wait.cond = some .acked ∧ t.net = s.net ∧ t.ctx.held = s.ctx.held ∧
        (i = .cclean g d a b → t.core s.coreId = s.core s.coreId) ∧
        (i = .cflush g d a b → ∀ e, e ∈ (t.core s.coreId).l1 ↔ e ∈ (s.core s.coreId).l1 ∧ ¬(e.asid = s.asidOf s.cur ∧ inRange s a b e.line))) ∧
    (∀ i e u l pa, i = .cclean g d a b ∨ i = .cflush g d a b → Issues i s → s.ctx.stage = 0 → (s.core s.coreId).l1.count e = 1 → e.asid = s.asidOf s.cur → inRange s a b e.line →
      e.dirty ≠ 0 → (∀ x ∈ (s.core s.coreId).l1, x.asid = s.asidOf s.cur → x.line = e.line ∨ (inRange s a b x.line ∧ x.dirty ≠ 0) → x = e) →
      s.translate s.clusterId e.asid (e.line * 256) .writeBack (s.coreSecure s.coreId) = (.page l pa, u) →
      ∃ t, exec i s = .next t ∧ t.ctx.stage = 2 ∧ t.ctx.keep = s.ctx.keep + 1 ∧ t.ctx.wait.map Wait.cond = some .acked ∧ t.ctx.held = s.ctx.held ∧ t.mem = s.mem ∧
        t.net = u.net.set u.nextPkt { writePacket (.side s.cur) (pa / 256 * 256) e.line e.asid false e.dirty e.data with after := e.after } ∧
        (i = .cclean g d a b → (t.core s.coreId).entry? e.asid e.line = some { e with dirty := 0, after := [] }) ∧ (i = .cflush g d a b → (t.core s.coreId).entry? e.asid e.line = none)) ∧
    (Issues (.pfetch g a b) s → s.reg b = 0 ∨ s.cur.isSurveyor = true → Completes s (exec (.pfetch g a b) s)) ∧
    (∀ u l pa, Issues (.pfetch g a b) s → s.cur.isSurveyor = false → s.reg b = 1 → s.ctx.hints.loc = none →
      s.translate s.clusterId (s.asidOf s.cur) ((s.reg a).toNat / 256 * 256) .load (s.coreSecure s.coreId) = (.page l pa, u) → l.kind ≠ 1 → pa % 256 = 0 →
      u.backed pa = true → u.moving pa = false → u.memPoison = [] → u.net = [] → (u.core s.coreId).ways ((s.reg a).toNat / 256) < 10 →
      (u.core s.coreId).entry? (s.asidOf s.cur) ((s.reg a).toNat / 256) = none → (u.cluster s.clusterId).rmap.get? pa = none → paSheet pa = s.sheetId →
      ∃ t e, exec (.pfetch g a b) s = .next t ∧ t.ctx.held = s.ctx.held ∧ (t.core s.coreId).entry? (s.asidOf s.cur) ((s.reg a).toNat / 256) = some e ∧
        e.valid = 15 ∧ e.dirty = 0 ∧ e.data = u.homeLine pa ∧ t.mem = u.mem ∧ t.ctx.pc = (if s.repeats then s.ctx.pc else s.ctx.pc + 4))

/-- A TLB miss walk, which the model makes a step of its own (log 28), enters the page that the tables give as the most recent entry, with a hit count of 0 that the next
translation is the first to raise (log 28); a full TLB gives up its least recently used entry, which spills
its count. A hit count that has reached 0xFFFF is spilled, as an atomic add at the page's word of the shadow table, and starts again at 0 (R273 to R275). An LLC fill changes
no byte of memory; through a format window it tags the line, and one from outside every window leaves the tags; one of another sheet's HBM counts a read of the page, and
installs a replica where the page is replicated or becomes so, and one that finds a replica changes nothing (R188, R276). An epoch boundary clears RR, WSEEN and HOLD of the
sheet's pages, and leaves their MODE and their masks; the EPOCH that REPCTL then holds sets the next one (R276, R277). -/
def Obligations.TranslationAndCacheSteps : Prop :=
  (∀ (s : State) (cl asid va : Nat) (l : Leaf) (pa : Nat), (∀ e ∈ (s.cluster cl).tlb, e.covers asid va = false) → s.pageWalk (cl / 256) asid va .load = .page l pa →
    ∃ t, exec (.tlbMissWalk cl asid va) s = .next t ∧
      (t.cluster cl).tlb = { asid := asid, va := va / l.size * l.size, leaf := l, hc := 0 } :: (s.cluster cl).tlb.take 2047 ∧
      ((s.cluster cl).tlb.length < 2048 → t.net = s.net) ∧ (∀ e, 2048 ≤ (s.cluster cl).tlb.length → (s.cluster cl).tlb.getLast? = some e → spilled s t cl e) ∧
      t.mem = s.mem ∧ t.ctxs = s.ctxs ∧ t.cores = s.cores) ∧
  (∀ (s : State) (cl idx : Nat) (e : TlbEntry), (s.cluster cl).tlb[idx]? = some e → 0xFFFF ≤ e.hc →
    ∃ t, exec (.tlbHcSpill cl idx) s = .next t ∧ (t.cluster cl).tlb = (s.cluster cl).tlb.set idx { e with hc := 0 } ∧ spilled s t cl e ∧
      t.mem = s.mem ∧ t.ctxs = s.ctxs ∧ t.cores = s.cores) ∧
  (∀ (s : State) (h line : Nat), line % 256 = 0 → line < 2 ^ 41 → s.moving line = false →
    ∃ t, exec (.llcFill h line) s = .next t ∧ t.mem = s.mem ∧ t.ctxs = s.ctxs ∧ t.cores = s.cores ∧ t.net = s.net ∧
      (paSheet line = h → (∀ w, s.windowOf line = some w → (t.sheet h).llcTags.get? line = some (windowTag w line)) ∧
        (s.windowOf line = none → (t.sheet h).llcTags = (s.sheet h).llcTags)) ∧
      (paSheet line ≠ h → ((s.sheet h).replicas.get? line).isSome = true → s.region line ≠ .unbacked → t = s) ∧
      (paSheet line ≠ h → (s.sheet h).replicas.get? line = none → s.region line = .hbm →
        let p := s.page line
        let rthr := (s.sheet (paSheet line)).repctl.toNat % 256
        let rr := min 255 (p.rr + 1)
        let installs := p.repl = true ∨ (rthr ≠ 0 ∧ rthr ≤ rr ∧ p.wseen = false ∧ p.hold = false)
        (installs → t.page line = { p with rr := rr, repl := true, mask := p.mask ||| (1 <<< h) } ∧
          (t.sheet h).replicas.get? line = some (s.homeLine line, s.tagOf line, (s.windowOf line).map (fun w => windowTag w line))) ∧
        (¬installs → t.page line = { p with rr := rr } ∧ (t.sheet h).replicas = (s.sheet h).replicas))) ∧
  ∀ (s : State) (h : Nat), (s.sheet h).epochAt ≤ s.cycle.toNat →
    let n := 2 ^ ((s.sheet h).repctl.toNat / 256 % 32)
    ∃ t, exec (.pageEpochBoundary h) s = .next t ∧
      (∀ k, (t.sheet h).pages.get? k = ((s.sheet h).pages.get? k).map (fun p => { p with rr := 0, wseen := false, hold := false })) ∧
      (t.sheet h).epochAt = (s.cycle.toNat / n + 1) * n ∧ t = { s with sheets := t.sheets } ∧ ∀ x, x ≠ h → t.sheet x = s.sheet x

/-- A home performs each write and atomic once, with its tag, and the acknowledgement reaches the side that sent it (R253, R255, R259). -/
def Obligations.HomesPerformAndAcknowledge : Prop :=
  Claims.HomesPerformRequests ∧ Claims.AcknowledgementsReachTheirSide

/-- FENCE, WAITACK and the cache-maintenance instructions complete, or wait for what they wait for. -/
def Obligations.FencesAndCacheMaintenanceComplete : Prop :=
  Claims.FencesAndWaitack ∧ Claims.CacheMaintenance


namespace Sys2Proof.Claims

/-! ### Vector instructions -/

/-- Element (i, j) of a register in the current shape (R57, R205). -/
def elementOf (s : State) (v : VReg) (i j : Nat) : Nat := getBytes v (32 * i + j * s.shape.esize) s.shape.esize

/-- Elements of the sources A and B, of the old destination, and the scalar operand of VALUS (R96, R210, R212). -/
def elA (s : State) (a : BitVec 5) : Nat → Nat → Nat := elementOf s (s.vsrc a.toNat s.qwA.2)
def elB (s : State) (b : BitVec 5) : Nat → Nat → Nat := elementOf s (s.vsrc b.toNat s.qwB.2)
def elD (s : State) (d : BitVec 5) : Nat → Nat → Nat := elementOf s (s.vold d.toNat s.qwD.2)
def elS (s : State) (b : BitVec 5) : Nat → Nat → Nat := fun _ _ => if s.shape.ty = 5 then (s.reg b).toNat % 64 else (s.reg b).toNat % 2 ^ (8 * s.shape.esize)

/-- A code as a unit writes it: L6 has bits [7:6] equal to 0 (R172). -/
def code (ty x : Nat) : Nat := if ty = 5 then x % 64 else x

/-- An addition, subtraction, multiplication and fused forms of an element type: integers keep the low bits of the exact result; a float or L6 result is the exact one rounded
once (R211). -/
def sumOfElements (ty m u x y : Nat) : Nat :=
  if isInt ty then (x + y) % 2 ^ elemBits ty else toFloat ty m false u (addVal (decide (m = 3)) (valueOf ty x) (valueOf ty y))
def differenceOfElements (ty m u x y : Nat) : Nat :=
  if isInt ty then (((x : Int) - y) % 2 ^ elemBits ty).toNat else toFloat ty m false u (addVal (decide (m = 3)) (valueOf ty x) (negVal (valueOf ty y)))
def productOfElements (ty m u x y : Nat) : Nat :=
  if isInt ty then x * y % 2 ^ elemBits ty else toFloat ty m false u (mulVal (valueOf ty x) (valueOf ty y))
def fusedSum (ty m u x y z : Nat) : Nat :=
  if isInt ty then (x * y + z) % 2 ^ elemBits ty else toFloat ty m false u (addVal (decide (m = 3)) (mulVal (valueOf ty x) (valueOf ty y)) (valueOf ty z))
def fusedDifference (ty m u x y z : Nat) : Nat :=
  if isInt ty then (((z : Int) - x * y) % 2 ^ elemBits ty).toNat
  else toFloat ty m false u (addVal (decide (m = 3)) (valueOf ty z) (negVal (mulVal (valueOf ty x) (valueOf ty y))))

/-- What a vector instruction writes to its elements: the element types and operands that it admits, the bytes of a destination element, whether an element draws under RSTO,
and the value of element (i, j) from the rounding mode and the draw. -/
structure ElementRule where
  guard : Guard
  dest : BitVec 5
  admits : Nat → Bool
  operand : State → Bool
  size : State → Nat
  draws : Nat → Bool
  value : State → Nat → Nat → Nat → Nat → Nat

/-- A rule of an instruction that admits every operand and keeps the element size. -/
def rule (g : Guard) (d : BitVec 5) (admits draws : Nat → Bool) (v : State → Nat → Nat → Nat → Nat → Nat) : ElementRule :=
  { guard := g, dest := d, admits := admits, operand := fun _ => true, size := fun s => s.shape.esize, draws := draws, value := v }

def every (_ : Nat) : Bool := true
def never (_ : Nat) : Bool := false
def onFloats (ty : Nat) : Bool := decide (ty < 6)
def onInts (ty : Nat) : Bool := decide (6 ≤ ty)

/-- VALU, VALUS, VSFU, VCVT and VMISC, but for VEXT, VINS and VSHAPE (R210 to R213, R217 to R221). -/
def elementRule (i : Instr) : Option ElementRule :=
  match i with
  | .vadd g d a b => some (rule g d every onFloats (fun s m u i j => sumOfElements s.shape.ty m u (elA s a i j) (elB s b i j)))
  | .vsub g d a b => some (rule g d every onFloats (fun s m u i j => differenceOfElements s.shape.ty m u (elA s a i j) (elB s b i j)))
  | .vmul g d a b => some (rule g d every onFloats (fun s m u i j => productOfElements s.shape.ty m u (elA s a i j) (elB s b i j)))
  | .vmin g d a b => some (rule g d every never (fun s _ _ i j => code s.shape.ty (minMax false s.shape.ty (elA s a i j) (elB s b i j))))
  | .vmax g d a b => some (rule g d every never (fun s _ _ i j => code s.shape.ty (minMax true s.shape.ty (elA s a i j) (elB s b i j))))
  | .vabs g d a => some (rule g d every never (fun s _ _ i j => absElem s.shape.ty (elA s a i j)))
  | .vneg g d a => some (rule g d every never (fun s _ _ i j => negElem s.shape.ty (elA s a i j)))
  | .vand g d a b => some (rule g d every never (fun s _ _ i j => code s.shape.ty (elA s a i j &&& elB s b i j)))
  | .vor g d a b => some (rule g d every never (fun s _ _ i j => code s.shape.ty (elA s a i j ||| elB s b i j)))
  | .vxor g d a b => some (rule g d every never (fun s _ _ i j => code s.shape.ty (elA s a i j ^^^ elB s b i j)))
  | .vshl g d a b => some (rule g d onInts never (fun s _ _ i j => elA s a i j * 2 ^ (elB s b i j % (8 * s.shape.esize)) % 2 ^ (8 * s.shape.esize)))
  | .vshr g d a b => some (rule g d onInts never (fun s _ _ i j => elA s a i j / 2 ^ (elB s b i j % (8 * s.shape.esize))))
  | .vsar g d a b => some (rule g d onInts never (fun s _ _ i j =>
      ((BitVec.ofNat (8 * s.shape.esize) (elA s a i j)).sshiftRight (elB s b i j % (8 * s.shape.esize))).toNat))
  | .vfma g d a b => some (rule g d every onFloats (fun s m u i j => fusedSum s.shape.ty m u (elA s a i j) (elB s b i j) (elD s d i j)))
  | .vfms g d a b => some (rule g d every onFloats (fun s m u i j => fusedDifference s.shape.ty m u (elA s a i j) (elB s b i j) (elD s d i j)))
  | .vadds g d a b => some (rule g d every onFloats (fun s m u i j => sumOfElements s.shape.ty m u (elA s a i j) (elS s b i j)))
  | .vsubs g d a b => some (rule g d every onFloats (fun s m u i j => differenceOfElements s.shape.ty m u (elA s a i j) (elS s b i j)))
  | .vmuls g d a b => some (rule g d every onFloats (fun s m u i j => productOfElements s.shape.ty m u (elA s a i j) (elS s b i j)))
  | .vmins g d a b => some (rule g d every never (fun s _ _ i j => code s.shape.ty (minMax false s.shape.ty (elA s a i j) (elS s b i j))))
  | .vmaxs g d a b => some (rule g d every never (fun s _ _ i j => code s.shape.ty (minMax true s.shape.ty (elA s a i j) (elS s b i j))))
  | .vfmas g d a b => some (rule g d every onFloats (fun s m u i j => fusedSum s.shape.ty m u (elA s a i j) (elS s b i j) (elD s d i j)))
  | .vexp2 g d a => some (rule g d (fun ty => decide (ty < 3)) onFloats (fun s m u i j => sfu 0 s.shape.ty m u (elA s a i j)))
  | .vlog2 g d a => some (rule g d (fun ty => decide (ty < 3)) onFloats (fun s m u i j => sfu 1 s.shape.ty m u (elA s a i j)))
  | .vrcp g d a => some (rule g d (fun ty => decide (ty < 3)) onFloats (fun s m u i j => sfu 2 s.shape.ty m u (elA s a i j)))
  | .vrsq g d a => some (rule g d (fun ty => decide (ty < 3)) onFloats (fun s m u i j => sfu 3 s.shape.ty m u (elA s a i j)))
  | .vsqrt g d a => some (rule g d (fun ty => decide (ty < 3)) onFloats (fun s m u i j => sfu 4 s.shape.ty m u (elA s a i j)))
  | .vtanh g d a => some (rule g d (fun ty => decide (ty < 3)) onFloats (fun s m u i j => sfu 5 s.shape.ty m u (elA s a i j)))
  | .vcvt g d a sat t => some { guard := g, dest := d, admits := every, operand := fun s => decide (t.toNat < 12 ∧ s.shape.cols * elemSize t.toNat ≤ 32),
                                size := fun _ => elemSize t.toNat, draws := every,
                                value := fun s m u i j => convert s.shape.ty t.toNat m (decide (sat = 1)) u (elA s a i j) }
  | .vmov g d a => some (rule g d every never (fun s _ _ i j => elA s a i j))
  | .vsplat g d a => some (rule g d every never (fun s _ _ _ _ => (s.reg a).toNat % 2 ^ (8 * s.shape.esize)))
  | .vbrow g d a b => some { rule g d every never (fun s _ _ _ j => elA s a (s.reg b).toNat j) with operand := fun s => decide ((s.reg b).toNat < s.shape.rows) }
  | .vbcol g d a b => some { rule g d every never (fun s _ _ i _ => elA s a i (s.reg b).toNat) with operand := fun s => decide ((s.reg b).toNat < s.shape.cols) }
  | .vzero g d => some (rule g d every never (fun _ _ _ _ _ => 0))
  | .viota g d a => some (rule g d every onFloats (fun s m u i j =>
      let n : Int := (s.reg a).toInt + (i * s.shape.cols + j : Nat)
      if isInt s.shape.ty then (n % 2 ^ elemBits s.shape.ty).toNat else toFloat s.shape.ty m false u (.fin (decide (n < 0)) n.natAbs 0)))
  | .vshuf g d a b => some (rule g d every never (fun s _ _ i j =>
      let x := elB s b i j
      if x < s.shape.rows * s.shape.cols then elA s a (x / s.shape.cols) (x % s.shape.cols) else 0))
  | .vscale g d a b => some { rule g d onFloats onFloats (fun s m u i j =>
      let c := (s.reg b).toNat
      if c = 255 then canonNaN s.shape.ty
      else toFloat s.shape.ty m false u (match valueOf s.shape.ty (elA s a i j) with | .fin n k e => .fin n k (e + c - 127) | x => x))
      with operand := fun s => decide ((s.reg b).toNat < 256) }
  | _ => none

/-- The rounding code in force: RND on a float type, otherwise ROUND [2:0] (R84, R92, R175). -/
def roundingCode (s : State) : Nat :=
  match s.ctx.hints.rnd with | some r => if 6 ≤ s.shape.ty then s.ctx.round.toNat % 8 else r | none => s.ctx.round.toNat % 8

/-- SEED after n draws (R176). -/
def seedAfter (s : State) (n : Nat) : Word :=
  match n with | 0 => s.ctx.seed | k + 1 => xorshift (seedAfter s k)

/-- The top 24 bits of SEED after n draws: the draw that a rounding uses (R176). -/
def drawn (s : State) (n : Nat) : Nat := (seedAfter s n).toNat / 2 ^ 40

/-- A destination of element size `e` holds `value k x` for the k-th executing element x; an element that does not execute is as before, or 0 under MCOMP policy 1; and every
byte outside the shape is as before (R93, R205, R206). -/
def elementsOf (s : State) (g : Guard) (e : Nat) (old new : VReg) (value : Nat → Nat × Nat → Nat) : Prop :=
  (∀ k x, (executing s g)[k]? = some x → getBytes new (32 * x.1 + x.2 * e) e = value k x % 2 ^ (8 * e)) ∧
  (∀ i j, i < s.shape.rows → j < s.shape.cols → (i, j) ∉ executing s g → getBytes new (32 * i + j * e) e = if s.zeroFill then 0 else getBytes old (32 * i + j * e) e) ∧
  ∀ k, k < 512 → s.shape.rows ≤ k / 32 ∨ s.shape.cols * e ≤ k % 32 → getBytes new k 1 = getBytes old k 1

/-- The bits of an element (i, j) in a predicate (R56). -/
def inElement (s : State) (k : Nat) (x : Nat × Nat) : Prop := k / 32 = x.1 ∧ x.2 * s.shape.esize ≤ k % 32 ∧ k % 32 < (x.2 + 1) * s.shape.esize

/-- The condition of VCMP by suffix (R216). -/
def vectorCondition (n ty x y : Nat) : Bool :=
  let a := valueOf ty x
  let b := valueOf ty y
  let ordered := decide (a ≠ .nan ∧ b ≠ .nan)
  match n with
  | 0 => ordered && !ltVal a b && !ltVal b a
  | 1 => !(ordered && !ltVal a b && !ltVal b a)
  | 2 => ordered && ltVal a b
  | 3 => ordered && !ltVal b a
  | 4 => ordered && ltVal b a
  | 5 => ordered && !ltVal a b
  | _ => !ordered

/-- A vector comparison: guard, suffix, predicate and sources (R216). -/
def vectorComparison (i : Instr) : Option (Guard × Nat × BitVec 4 × BitVec 5 × BitVec 5) :=
  match i with
  | .vcmpEq g p a b => some (g, 0, p, a, b)
  | .vcmpNe g p a b => some (g, 1, p, a, b)
  | .vcmpLt g p a b => some (g, 2, p, a, b)
  | .vcmpLe g p a b => some (g, 3, p, a, b)
  | .vcmpGt g p a b => some (g, 4, p, a, b)
  | .vcmpGe g p a b => some (g, 5, p, a, b)
  | .vcmpUn g p a b => some (g, 6, p, a, b)
  | _ => none

/-- A reduction: guard, destination, source, whether it goes along columns, the types that it admits, whether it sums, and what it does to an element first and to two
elements (R215). -/
structure ReductionRule where
  guard : Guard
  dest : BitVec 5
  src : BitVec 5
  byColumn : Bool
  admits : Nat → Bool
  sums : Bool
  first : Nat → Nat → Nat
  two : Nat → Nat → Nat → Nat → Nat → Nat

def reduction (i : Instr) : Option ReductionRule :=
  let id := fun (_ x : Nat) => x
  let max := fun (ty _ _ x y : Nat) => minMax true ty x y
  match i with
  | .vrsum g d a => some ⟨g, d, a, false, every, true, id, sumOfElements⟩
  | .vrmax g d a => some ⟨g, d, a, false, every, false, id, max⟩
  | .vrmin g d a => some ⟨g, d, a, false, every, false, id, fun ty _ _ x y => minMax false ty x y⟩
  | .vcsum g d a => some ⟨g, d, a, true, every, true, id, sumOfElements⟩
  | .vcmax g d a => some ⟨g, d, a, true, every, false, id, max⟩
  | .vramax g d a => some ⟨g, d, a, false, onFloats, false, absElem, max⟩
  | _ => none

/-- The elements of line l that take part, in ascending order (R215). -/
def lineOfReduction (s : State) (r : ReductionRule) (l : Nat) : List Nat :=
  ((executing s r.guard).filter (fun x => decide ((if r.byColumn then x.2 else x.1) = l))).map (fun x => r.first s.shape.ty (elA s r.src x.1 x.2))

/-- The additions of the lines before line l. -/
def additionsBefore (s : State) (r : ReductionRule) (l : Nat) : Nat := ((List.range l).map (fun k => (lineOfReduction s r k).length - 1)).sum

/-- The result of a line from its first element x and the others, the n-th addition of the instruction using the n-th draw where it draws. -/
def reduceFrom (s : State) (r : ReductionRule) (draws : Bool) (n x : Nat) (rest : List Nat) : Nat :=
  match rest with
  | [] => x
  | y :: ys => reduceFrom s r draws (n + 1) (r.two s.shape.ty (roundingCode s) (drawn s (if draws then n + 1 else 0)) x y) ys

end Sys2Proof.Claims

/-- A vector register or queue slot reads as what was written to it last; a write to v0 to v23 changes that register alone, and one to a window changes the producer's slot
alone (R57, R96, R231). -/
def Sys2Proof.Claims.VectorRegistersReadBack : Prop :=
  (∀ (s : State) (r k : Nat) (v : VReg), r < 24 →
    (s.vset r k v).vold r k = v ∧ (∀ q n, q < 24 → q ≠ r → (s.vset r k v).vold q n = s.vold q n) ∧ (∀ q n, 24 ≤ q → (s.vset r k v).vsrc q n = s.vsrc q n) ∧
    s.vset r k v = { s with ctxs := (s.vset r k v).ctxs } ∧ (∀ c, c ≠ s.cur → (s.vset r k v).ctxOf c = s.ctxOf c) ∧
    (s.vset r k v).ctx = { s.ctx with v := (s.vset r k v).ctx.v }) ∧
  ∀ (s : State) (r k : Nat) (v : VReg), 24 ≤ r → r - 24 < (s.thread s.threadId).queues.length →
    (s.vset r k v).vold r k = v ∧ (s.vset r k v).ctxs = s.ctxs ∧ (∀ t, t ≠ s.threadId → (s.vset r k v).thread t = s.thread t) ∧
    (∀ q, q ≠ r - 24 → (s.vset r k v).queue q = s.queue q) ∧
    (∀ n, n ≠ (s.queue (r - 24)).prodSlot k → ((s.vset r k v).queue (r - 24)).slots.get 0 n = (s.queue (r - 24)).slots.get 0 n) ∧
    (s.vset r k v).queue (r - 24) = { s.queue (r - 24) with slots := ((s.vset r k v).queue (r - 24)).slots }

/-- VALU, VALUS, VSFU, VCVT and the element-wise VMISC instructions: an element type or operand that the instruction does not admit raises cause 0x1B with nothing written;
otherwise each executing element takes its value, read from the old sources, and SEED advances by one draw for each of them under RSTO where the instruction rounds (R176, R204
to R207, R210 to R221). The model's readings are: cause 0x1B for a type code of 12 or more in VCVT (log 14); that instructions on integer types draw nothing and that VCVT
draws for each executing element whatever its types (log 15); and that VCVT of an L6 element to L6 clears bits [7:6] (log 161). -/
def Obligations.VectorInstructionsWriteTheirElements : Prop :=
  ∀ (i : Instr) (r : ElementRule) (s : State), elementRule i = some r → Issues i s → s.shape.cols * s.shape.esize ≤ 32 →
    (r.admits s.shape.ty = false ∨ r.operand s = false → exec i s = raise0 0x1B s) ∧
    (r.admits s.shape.ty = true → r.operand s = true →
      let m := roundingCode s
      let draws := decide (m = 5) && r.draws s.shape.ty
      let nth := fun (k : Nat) => if draws then k else 0
      ∃ v, Completes ((s.upd (fun k => { k with seed := seedAfter s (nth (executing s r.guard).length) })).vset r.dest.toNat s.qwD.2 v) (exec i s) ∧
        elementsOf s r.guard (r.size s) (s.vold r.dest.toNat s.qwD.2) v (fun k x => r.value s m (drawn s (nth (k + 1))) x.1 x.2))

/-- VRED: a line in which an element takes part receives, at its first row or column, its elements combined in ascending order from the first, one rounding for each further
element, and one draw for each addition under RSTO; an L6 result has bits [7:6] equal to 0, for a maximum or minimum by the model's choice (log 161); every other byte of vD is as
before (R172, R176, R215). -/
def Sys2Proof.Claims.ReductionsCombineTheirLines : Prop :=
  ∀ (i : Instr) (r : ReductionRule) (s : State), reduction i = some r → Issues i s → s.shape.cols * s.shape.esize ≤ 32 →
    (r.admits s.shape.ty = false → exec i s = raise0 0x1B s) ∧
    (r.admits s.shape.ty = true →
      let draws := decide (roundingCode s = 5) && r.sums && onFloats s.shape.ty
      let lines := if r.byColumn then s.shape.cols else s.shape.rows
      let old := s.vold r.dest.toNat s.qwD.2
      let place := fun (l : Nat) => if r.byColumn then l * s.shape.esize else 32 * l
      ∃ v, Completes ((s.upd (fun k => { k with seed := seedAfter s (if draws then additionsBefore s r lines else 0) })).vset r.dest.toNat s.qwD.2 v) (exec i s) ∧
        (∀ l x rest, l < lines → lineOfReduction s r l = x :: rest →
          getBytes v (place l) s.shape.esize = code s.shape.ty (reduceFrom s r draws (additionsBefore s r l) x rest) % 2 ^ (8 * s.shape.esize)) ∧
        ∀ k, k < 512 → (∀ l, l < lines → lineOfReduction s r l ≠ [] → k < place l ∨ place l + s.shape.esize ≤ k) → getBytes v k 1 = getBytes old k 1)

/-- VCMP writes all the bits of each executing element of pD with its condition, false with a NaN except for `ne` and `un`, and leaves every other bit (R56, R216). -/
def Sys2Proof.Claims.VectorComparisonsWriteTheirPredicate : Prop :=
  ∀ (i : Instr) (g : Guard) (n : Nat) (p : BitVec 4) (a b : BitVec 5) (s : State), vectorComparison i = some (g, n, p, a, b) → Issues i s →
    s.shape.cols * s.shape.esize ≤ 32 →
    ∃ r, Completes r (exec i s) ∧ r = { s with ctxs := r.ctxs } ∧ (∀ x, x ≠ s.cur → r.ctxOf x = s.ctxOf x) ∧ r.ctx = { s.ctx with p := r.ctx.p } ∧
      (∀ q, q ≠ p → r.pred q = s.pred q) ∧
      (∀ k x, k < 512 → x ∈ executing s g → inElement s k x → (r.pred p).getLsbD k = vectorCondition n s.shape.ty (elA s a x.1 x.2) (elB s b x.1 x.2)) ∧
      ∀ k, k < 512 → (∀ x ∈ executing s g, ¬inElement s k x) → (r.pred p).getLsbD k = (s.pred p).getLsbD k

/-- VEXT reads the element that sB names, sign-extended for I types, and by the model's choice whatever a mask of MCOMP holds (log 153), and the whole byte of an L6 element
(log 161); VINS writes it; a position outside the shape raises cause 0x1B. VSHAPE exchanges the shape with sD where
the new one passes R61, and raises cause 0x1B otherwise (R219, R222). -/
def Obligations.ElementMovesAndVshape : Prop :=
  ∀ (s : State) (g : Guard) (d a b : BitVec 5), s.shape.cols * s.shape.esize ≤ 32 →
    let i := bitsAt (s.reg b) 8 5
    let j := bitsAt (s.reg b) 4 0
    let inside := (s.reg b).toNat < 512 ∧ i < s.shape.rows ∧ j < s.shape.cols
    let e := s.shape.esize
    let x := elA s a i j
    (Issues (.vext g d a b) s → s.selected g = true → inside →
      Completes (s.setReg d (if 6 ≤ s.shape.ty ∧ s.shape.ty ≤ 8 ∧ 2 ^ (8 * e - 1) ≤ x then BitVec.ofInt 64 ((x : Int) - 2 ^ (8 * e)) else BitVec.ofNat 64 x)) (exec (.vext g d a b) s)) ∧
    (Issues (.vext g d a b) s → s.selected g = true → ¬inside → exec (.vext g d a b) s = raise0 0x1B s) ∧
    (Issues (.vins g d a b) s → inside → ∃ v, Completes (s.vset d.toNat s.qwD.2 v) (exec (.vins g d a b) s) ∧
      let old := s.vold d.toNat s.qwD.2
      getBytes v (32 * i + j * e) e = (if (i, j) ∈ executing s g then (s.reg a).toNat % 2 ^ (8 * e) else if s.zeroFill then 0 else getBytes old (32 * i + j * e) e) ∧
      ∀ k, k < 512 → k < 32 * i + j * e ∨ 32 * i + j * e + e ≤ k → getBytes v k 1 = getBytes old k 1) ∧
    (Issues (.vins g d a b) s → ¬inside → exec (.vins g d a b) s = raise0 0x1B s) ∧
    (Issues (.vshape g d a) s → s.selected g = true → legalShape (s.reg a) →
      Completes ((s.setReg d s.ctx.vshape).upd (fun k => { k with vshape := s.reg a })) (exec (.vshape g d a) s)) ∧
    (Issues (.vshape g d a) s → s.selected g = true → ¬legalShape (s.reg a) → exec (.vshape g d a) s = raise0 0x1B s)

/-- The arithmetic of the element types: integers wrap and their extremes compare as signed or unsigned; a NaN operand gives the canonical NaN; one NaN gives the other operand of a
minimum or maximum, and two give the canonical NaN; minus zero ranks below plus zero; VABS and VNEG change the sign bit alone; a value that the type holds is its own rounding
in every mode; and a magnitude beyond the largest is ±infinity, the largest, or NaN, as the table of overflow says (R173, R175, R177, R178, R211). -/
def Obligations.ElementArithmeticFollowsItsRules : Prop :=
  (∀ ty x y m u, ty < 6 → valueOf ty x = .nan ∨ valueOf ty y = .nan → sumOfElements ty m u x y = canonNaN ty ∧ productOfElements ty m u x y = canonNaN ty) ∧
  (∀ ty x y b, ty < 6 → valueOf ty x = .nan → minMax b ty x y = (if valueOf ty y = .nan then canonNaN ty else y)) ∧
  (∀ ty x y b, ty < 6 → valueOf ty x ≠ .nan → valueOf ty y = .nan → minMax b ty x y = x) ∧
  (∀ ty, ty < 5 → minMax false ty 0 (2 ^ (elemBits ty - 1)) = 2 ^ (elemBits ty - 1) ∧ minMax true ty (2 ^ (elemBits ty - 1)) 0 = 0) ∧
  (∀ ty x y, 6 ≤ ty → ty < 9 → x < 2 ^ elemBits ty → y < 2 ^ elemBits ty →
    minMax false ty x y = if (BitVec.ofNat (elemBits ty) x).toInt < (BitVec.ofNat (elemBits ty) y).toInt then x else y) ∧
  (∀ ty x y, 9 ≤ ty → ty < 12 → x < 2 ^ elemBits ty → y < 2 ^ elemBits ty → minMax true ty x y = max x y ∧ minMax false ty x y = min x y) ∧
  (∀ ty x, ty < 5 → x < 2 ^ elemBits ty → absElem ty x = x % 2 ^ (elemBits ty - 1) ∧ negElem ty x = x ^^^ 2 ^ (elemBits ty - 1)) ∧
  (∀ ty x m u b, ty < 6 → x < 2 ^ elemBits ty → (ty = 5 → x < 64) → valueOf ty x ≠ .nan → (∀ n, valueOf ty x ≠ .inf n) → toFloat ty m b u (valueOf ty x) = x) ∧
  (∀ m u n k, k ≠ 0 → toFloat 0 m true u (.fin n k 200) = 0x7F7FFFFF + (if n then 0x80000000 else 0)) ∧
  ∀ u n k, k ≠ 0 → toFloat 0 0 false u (.fin n k 200) = 0x7F800000 + (if n then 0x80000000 else 0) ∧ toFloat 0 1 false u (.fin n k 200) = 0x7F7FFFFF + (if n then 0x80000000 else 0)

/-- A register holds what is written to it and no other register changes; s0, p0 and the constants read as the spec says, and a queue window reads and writes its slot (R55 to R57, R96). -/
def Obligations.RegistersReadBack : Prop :=
  Claims.ScalarRegistersReadBack ∧ Claims.VectorRegistersReadBack

/-- Reductions combine the elements of their lines in order, and vector comparisons write a bit for each element. That the maximum or minimum of L6 elements has bits [7:6] equal
to 0 is the model's choice (log 161). -/
def Obligations.VectorPredicatesAndReductions : Prop :=
  Claims.ReductionsCombineTheirLines ∧ Claims.VectorComparisonsWriteTheirPredicate


namespace Sys2Proof.Claims

/-! ### Sparse lists, scans and PMERGE -/

/-- Pair p of a register: its index and value word (R198). -/
def pairAt (v : VReg) (p : Nat) : Nat × Nat := (getBytes v (8 * p) 4, getBytes v (8 * p + 4) 4)

/-- A list of length n: n pairs, none of them the terminator, then the terminator or the end of the register (R198). -/
def sparseList (v : VReg) (l : List (Nat × Nat)) : Prop :=
  l.length ≤ 64 ∧ (∀ p x, l[p]? = some x → pairAt v p = x ∧ x ≠ (0xFFFFFFFF, 0)) ∧ (l.length < 64 → pairAt v l.length = (0xFFFFFFFF, 0))

/-- The indices rise strictly (R198). -/
def strictlyRising (l : List (Nat × Nat)) : Prop := l.Pairwise (fun x y => x.1 < y.1)

/-- The value of a pair: the low bytes of its value word in the element type (R198). -/
def valueIn (s : State) (w : Nat) : Nat := code s.shape.ty (w % 2 ^ (8 * s.shape.esize))

/-- What a merge makes of one index: the value of the list that holds it, or the sum of both; under RSTO the sum uses a draw (R200). -/
def mergedValue (s : State) (l r : List (Nat × Nat)) (i v : Nat) : Prop :=
  match l.find? (fun x => x.1 == i), r.find? (fun x => x.1 == i) with
  | some x, none => v = valueIn s x.2
  | none, some y => v = valueIn s y.2
  | some x, some y => ∃ u, v = sumOfElements s.shape.ty (s.ctx.round.toNat % 8) u (valueIn s x.2) (valueIn s y.2)
  | none, none => False

/-- ±0.0, the L6 zero and the integer 0 (R200). -/
def isZero (ty v : Nat) : Bool := match valueOf ty v with | .fin _ m _ => decide (m = 0) | _ => false

/-- The running sums of a scan from a start: before and after each element; the n-th addition uses the n-th draw where the scan draws (R201). -/
def runningSums (s : State) (draws : Bool) (n x : Nat) (l : List Nat) : List (Nat × Nat) :=
  match l with
  | [] => []
  | y :: ys =>
    let z := sumOfElements s.shape.ty (s.ctx.round.toNat % 8) (drawn s (if draws then n + 1 else 0)) x y
    (x, z) :: runningSums s draws (n + 1) z ys

/-- The keep threshold t of an element against the FP32 value of tau: 2^24 where it is not finite, otherwise the integer part of |a| / tau * 2^24, at most 2^24 (R223). -/
def isThreshold (a : FVal) (tm : Nat) (te : Int) (t : Nat) : Prop :=
  match a with
  | .fin _ m e =>
    let k := (min e te).natAbs + 24
    -- both sides in units of 2^-k
    let x := m * 2 ^ (e + k).toNat * 2 ^ 24
    let y := tm * 2 ^ (te + k).toNat
    t = min (2 ^ 24) (x / y)
  | _ => t = 2 ^ 24

/-- The participants of a PMERGE of span n from a thread: the same slot of the same core in the clusters of its aligned run along x (R226). -/
def participants (th n : Nat) : List Nat := (List.range n).map (fun k => th - th / 64 % 16 % n * 64 + k * 64)

/-- The tree of R228: pairs of neighbours combined level by level, the left operand from the lower x. -/
def combineTree (f : Nat → Nat → Nat) (levels : Nat) (l : List Nat) : Nat :=
  match levels with
  | 0 => l.headD 0
  | k + 1 => combineTree f k ((List.range (l.length / 2)).map (fun m => f (l.getD (2 * m) 0) (l.getD (2 * m + 1) 0)))

end Sys2Proof.Claims

/-- SMCOUNT writes the number of distinct indices of two rising lists. SMERGE and SMERGEZ take both lists from the positions that MCONS gives, and produce up to 64 pairs with
rising indices: one for each index consumed, SMERGEZ without those whose value is zero; MCONS holds the pairs produced and the positions reached, and terminators follow the pairs.
A list that does not rise raises cause 0x1B (R198 to R200). -/
def Sys2Proof.Claims.SparseListsMerge : Prop :=
  ∀ (s : State) (g : Guard) (d a b : BitVec 5) (l r : List (Nat × Nat)), s.selected g = true →
    sparseList (s.vsrc a.toNat s.qwA.2) l → sparseList (s.vsrc b.toNat s.qwB.2) r →
    (∀ i, i = .smcount g d a b ∨ i = .smerge g d a b ∨ i = .smergez g d a b → Issues i s → ¬(strictlyRising l ∧ strictlyRising r) → exec i s = raise0 0x1B s) ∧
    (strictlyRising l → strictlyRising r →
      (Issues (.smcount g d a b) s → Completes (s.setReg d (BitVec.ofNat 64 ((l.map Prod.fst ++ r.map Prod.fst).eraseDups.length))) (exec (.smcount g d a b) s)) ∧
      ∀ i z, (i = .smerge g d a b ∧ z = false) ∨ (i = .smergez g d a b ∧ z = true) → Issues i s →
        let a0 := min (bitsAt s.ctx.mcons 9 0) l.length
        let b0 := min (bitsAt s.ctx.mcons 19 10) r.length
        ∃ v out a1 b1 seed,
          Completes ((s.upd (fun k => { k with mcons := BitVec.ofNat 64 (out.length * 2 ^ 20 + b1 * 2 ^ 10 + a1), seed := seed })).vset d.toNat s.qwD.2 v) (exec i s) ∧
          out.length ≤ 64 ∧ (∀ p, p < 64 → pairAt v p = out.getD p (0xFFFFFFFF, 0)) ∧ strictlyRising out ∧ a0 ≤ a1 ∧ a1 ≤ l.length ∧ b0 ≤ b1 ∧ b1 ≤ r.length ∧ (out.length = 64 ∨ (a1 = l.length ∧ b1 = r.length)) ∧
          (∀ x ∈ out, mergedValue s ((l.take a1).drop a0) ((r.take b1).drop b0) x.1 x.2 ∧ (z = true → isZero s.shape.ty x.2 = false)) ∧
          (z = false → ∀ i, (i ∈ ((l.take a1).drop a0).map Prod.fst ∨ i ∈ ((r.take b1).drop b0).map Prod.fst) → ∃ x ∈ out, x.1 = i) ∧
          (roundingCode s ≠ 5 → s.ctx.round.toNat % 8 ≠ 5 → seed = s.ctx.seed))

/-- SCAN and SCANX write each executing element with the running sum from sB, with it or before it, and the total to SCANOUT, sign-extended for I types; VPRUNE and VPRUNES keep an
element when its draw lies below its threshold, of L6 without bits [7:6] by the model's choice (log 161); VRNG fills the executing elements with draws; VCOMPACT packs the elements that its predicate marks, and counts them in MCONS (R201,
R223 to R225). -/
def Sys2Proof.Claims.ScansPruningAndPacking : Prop :=
  ∀ (s : State) (g : Guard) (d a b : BitVec 5) (p : BitVec 4), s.shape.cols * s.shape.esize ≤ 32 →
    let e := s.shape.esize
    let ty := s.shape.ty
    let old := s.vold d.toNat s.qwD.2
    let xs := executing s g
    let kept := fun (v : VReg) => (∀ i j, i < s.shape.rows → j < s.shape.cols → (i, j) ∉ xs → getBytes v (32 * i + j * e) e = getBytes old (32 * i + j * e) e) ∧
      ∀ k, k < 512 → s.shape.rows ≤ k / 32 ∨ s.shape.cols * e ≤ k % 32 → getBytes v k 1 = getBytes old k 1
    (∀ i before, (i = .scan g d a b ∧ before = false) ∨ (i = .scanx g d a b ∧ before = true) → Issues i s →
      let draws := decide (s.ctx.round.toNat % 8 = 5) && onFloats ty
      let start := elS s b 0 0
      let sums := runningSums s draws 0 start (xs.map (fun x => elA s a x.1 x.2))
      let total := (sums.getLast?.map Prod.snd).getD start
      ∃ v, Completes ((s.upd (fun k => { k with
            scanout := if 6 ≤ ty ∧ ty ≤ 8 then BitVec.ofInt 64 ((BitVec.ofNat (8 * e) total).toInt) else BitVec.ofNat 64 total,
            seed := seedAfter s (if draws then xs.length else 0) })).vset d.toNat s.qwD.2 v) (exec i s) ∧
        (∀ (k : Nat) (x y : Nat × Nat), xs[k]? = some x → sums[k]? = some y → getBytes v (32 * x.1 + x.2 * e) e = (if before then y.1 else y.2) % 2 ^ (8 * e)) ∧ kept v) ∧
    (Issues (.vrng g d) s → ∃ v, Completes ((s.upd (fun k => { k with seed := seedAfter s xs.length })).vset d.toNat s.qwD.2 v) (exec (.vrng g d) s) ∧ kept v ∧
      ∀ (k : Nat) (x : Nat × Nat), xs[k]? = some x → getBytes v (32 * x.1 + x.2 * e) e =
        (if 6 ≤ ty then (seedAfter s (k + 1)).toNat % 2 ^ (8 * e) else toFloat ty 1 false 0 (.fin false (drawn s (k + 1)) (-24)))) ∧
    (∀ i scaled, (i = .vprune g d a b ∧ scaled = false) ∨ (i = .vprunes g d a b ∧ scaled = true) → Issues i s →
      ((∀ m n, valueOf 0 ((s.reg b).toNat % 2 ^ 32) = .fin false m n → m = 0) ∨ 6 ≤ ty → exec i s = raise0 0x1B s) ∧
      (∀ m n, valueOf 0 ((s.reg b).toNat % 2 ^ 32) = .fin false m n → m ≠ 0 → ty < 6 → (scaled = false ∨ s.ctx.round.toNat % 8 ≠ 5) →
        ∃ v, Completes ((s.upd (fun k => { k with seed := seedAfter s xs.length })).vset d.toNat s.qwD.2 v) (exec i s) ∧ kept v ∧
          ∀ (k : Nat) (x : Nat × Nat), xs[k]? = some x → ∀ t, isThreshold (valueOf ty (elA s a x.1 x.2)) m n t →
            (t ≤ drawn s (k + 1) → getBytes v (32 * x.1 + x.2 * e) e = 0) ∧
            (drawn s (k + 1) < t → scaled = false ∨ t = 2 ^ 24 → getBytes v (32 * x.1 + x.2 * e) e = code ty (elA s a x.1 x.2)) ∧
            (drawn s (k + 1) < t → scaled = true → t < 2 ^ 24 → ∃ u, getBytes v (32 * x.1 + x.2 * e) e =
              toFloat ty (s.ctx.round.toNat % 8) false u (.fin (negOf (valueOf ty (elA s a x.1 x.2))) m n) % 2 ^ (8 * e)))) ∧
    (Issues (.vcompact g d a p) s → s.selected g = true →
      let all := (List.range s.shape.rows).flatMap (fun i => (List.range s.shape.cols).map (fun j => (i, j)))
      let marked := (all.filter (fun x => (s.pred p).getLsbD (32 * x.1 + x.2 * e))).map (fun x => elA s a x.1 x.2)
      ∃ v, Completes ((s.upd (fun k => { k with mcons := BitVec.ofNat 64 (marked.length * 2 ^ 20 + s.shape.rows * s.shape.cols) })).vset d.toNat s.qwD.2 v)
          (exec (.vcompact g d a p) s) ∧
        (∀ i j, i < s.shape.rows → j < s.shape.cols → getBytes v (32 * i + j * e) e = marked.getD (i * s.shape.cols + j) 0) ∧
        ∀ k, k < 512 → s.shape.rows ≤ k / 32 ∨ s.shape.cols * e ≤ k % 32 → getBytes v k 1 = getBytes old k 1)

/-- PMERGE joins its group and waits; an operation above 2 raises cause 0x1B, by the model's choice also in a task before commit (log 164), which otherwise raises cause
0x1A. When every participant waits with one span, operation and
shape, each receives the same register, combined by the tree of R228 with sums rounded to nearest even; and a PMERGE that has its result writes the executing elements of vD (R226 to
R229). -/
def Obligations.PmergeCombinesItsGroup : Prop :=
  (∀ (s : State) (g : Guard) (d a b n : BitVec 5) (th : Nat), s.cur = .task th .c → Issues (.pmerge g d a b n) s → (s.thread th).pmergeRes = none →
    (3 ≤ (s.reg b).toNat → exec (.pmerge g d a b n) s = raise0 0x1B s) ∧
    ((s.reg b).toNat ≤ 2 → (s.thread th).post = false → exec (.pmerge g d a b n) s = raise0 0x1A s) ∧
    ((s.reg b).toNat ≤ 2 → (s.thread th).post = true → (∀ t ∈ participants th n.toNat, (s.thread t).pmerge = none) →
      Waits .pmerge ((s.mapThread th (fun t => { t with pmerge := some (n.toNat, (s.reg b).toNat, s.ctx.vshape, s.vsrc a.toNat 0) })).upd (fun k => { k with stage := 1 }))
        (exec (.pmerge g d a b n) s))) ∧
  (∀ (s : State) (g : Guard) (d a b n : BitVec 5) (th : Nat) (x : VReg), s.cur = .task th .c → Issues (.pmerge g d a b n) s → (s.thread th).pmergeRes = some x →
    s.shape.cols * s.shape.esize ≤ 32 → d.toNat < 24 →
    ∃ v, Completes ((s.mapThread th (fun t => { t with pmergeRes := none, pmerge := none })).vset d.toNat 0 v) (exec (.pmerge g d a b n) s) ∧
      (∀ y ∈ executing s g, elementOf s v y.1 y.2 = elementOf s x y.1 y.2) ∧
      (∀ i j, i < s.shape.rows → j < s.shape.cols → (i, j) ∉ executing s g → elementOf s v i j = elementOf s (s.vold d.toNat 0) i j) ∧
      ∀ k, k < 512 → s.shape.rows ≤ k / 32 ∨ s.shape.cols * s.shape.esize ≤ k % 32 → getBytes v k 1 = getBytes (s.vold d.toNat 0) k 1) ∧
  ∀ (s : State) (th lg op : Nat) (shape : Word) (x : VReg), 1 ≤ lg → lg ≤ 4 → legalShape shape → op ≤ 2 → (s.thread th).pmerge = some (2 ^ lg, op, shape, x) →
    (∀ t ∈ participants th (2 ^ lg), (s.thread t).pmergeRes = none ∧ ∃ y, (s.thread t).pmerge = some (2 ^ lg, op, shape, y)) →
    let ty := shape.toNat % 16
    let e := elemSize ty
    let el := fun (v : VReg) (i j : Nat) => getBytes v (32 * i + j * e) e
    let two := fun (x y : Nat) => if op = 0 then sumOfElements ty 0 0 x y % 2 ^ (8 * e) else code ty (minMax (decide (op = 1)) ty x y)
    ∃ t v, exec (.pmergeResult th) s = .next t ∧ t = { s with threads := t.threads } ∧
      (∀ k ∈ participants th (2 ^ lg), t.thread k = { s.thread k with pmergeRes := some v }) ∧ (∀ k, k ∉ participants th (2 ^ lg) → t.thread k = s.thread k) ∧
      ∀ i j, i < shape.toNat / 16 % 16 + 1 → j < shape.toNat / 256 % 32 + 1 →
        el v i j = combineTree two lg ((participants th (2 ^ lg)).map (fun k => match (s.thread k).pmerge with | some q => el q.2.2.2 i j | none => 0))

/-- Sparse merges and counts, scans, pruning and packing compute what their rules say. That a kept L6 element loses bits [7:6] is the model's choice (log 161). -/
def Obligations.SparseScansAndPackingFollowTheirRules : Prop :=
  Claims.SparseListsMerge ∧ Claims.ScansPruningAndPacking


namespace Sys2Proof.Claims

/-! ### Queues, streams and ports -/

/-- The number of a side in a queue configuration (R230). -/
def sideNumber (x : Side) : Nat := match x with | .a => 0 | .c => 1

/-- No write or atomic is in flight and no L1d entry of the core is dirty: a release has nothing to wait for. -/
def settledHere (s : State) : Prop := s.net = [] ∧ ∀ e ∈ (s.core s.coreId).l1, e.dirty = 0

/-- A stream descriptor of 32 bytes that obeys R194 (mode 1), R237 (mode 0) or R238 (mode 2), field by field. -/
def legalStream (bs : List Byte) : Prop :=
  let f := leAt bs
  let count := f 0x10 4
  let size := f 0x14 2
  match f 0x16 1 with
  | 0 => size ∈ [1, 2, 4, 8] ∧ f 0 8 % size = 0 ∧ f 8 8 % size = 0 ∧ 1 ≤ count ∧ count ≤ 2 ^ 24 ∧ f 0x17 1 = 0 ∧ 1 ≤ f 0x18 2 ∧ f 0x18 2 ≤ 32 ∧ f 0x18 2 % size = 0 ∧
      f 0x1A 6 = 0
  | 1 => size = 8 ∧ f 0 8 % 8 = 0 ∧ f 8 8 % 4 = 0 ∧ 1 ≤ count ∧ count ≤ 65535 ∧ f 0x17 1 ≤ 1 ∧ f 0x18 8 = 0
  | 2 => (∃ k, k ≤ 9 ∧ size = 2 ^ k) ∧ f 0 8 % min size 64 = 0 ∧ f 8 8 % 4 = 0 ∧ 1 ≤ count ∧ count ≤ 2 ^ 24 ∧ f 0x17 1 ≤ 1 ∧ 1 ≤ f 0x18 4 ∧ f 0x1C 4 = 0
  | _ => False

/-- The bytes of a slot from what its reads returned: each run of bytes at its offset, and 0 elsewhere (R237). -/
def slotHolds (v : VReg) (l : List (Nat × List Byte)) : Prop :=
  ∀ k, k < 512 → getBytes v k 1 = ((l.find? (fun x => decide (x.1 ≤ k ∧ k < x.1 + x.2.length))).map (fun x => (x.2.getD (k - x.1) 0).toNat)).getD 0

/-- A port address (R243) to which a task may send: this module, a sheet of its launch's rectangle, and no reserved bit set. -/
def portAddress (s : State) (th : Nat) (a : Word) : Prop :=
  a.toNat < 2 ^ 22 ∧ a.toNat / 16 % 4 = 0 ∧ (s.launch (s.thread th).launch).covers (a.toNat / 2 ^ 17) = true

/-- The flit entries that the items of a port take: 1 for a scalar item, 16 for a vector item (R244). -/
def entriesOf (l : List (Bool × VReg × Nat)) : Nat := (l.map (fun i => if i.1 then 16 else 1)).sum

end Sys2Proof.Claims

/-- QPUB fills the producer's slot, advances PP and sets the wake bit; QADV frees the slot at CP and advances CP; each waits while its queue is full, or empty. QCFG reads the
queue's state; QFILL waits for a count and returns the one that it found, and a count above DEPTH raises cause 0x0A (R197, R234 to R236). -/
def Sys2Proof.Claims.QueueInstructionsMoveTheirPointers : Prop :=
  ∀ (s : State) (g : Guard) (d b : BitVec 5) (q : BitVec 3) (th : Nat) (side : Side), s.cur = .task th side → s.selected g = true →
    let x := (s.thread th).queues.getD q.toNat Queue.init
    (Issues (.qpub g q) s → x.filled < x.depth →
      Completes (s.mapThread th (fun t => { t with wake := true, queues := t.queues.modify q.toNat (fun x => { x with filled := x.filled + 1, pp := (x.pp + 1) % x.depth }) }))
        (exec (.qpub g q) s)) ∧
    (Issues (.qpub g q) s → x.depth ≤ x.filled → Waits (.room q.toNat 1) s (exec (.qpub g q) s)) ∧
    (Issues (.qadv g q) s → 0 < x.filled →
      Completes (s.mapThread th (fun t => { t with queues := t.queues.modify q.toNat (fun x => { x with filled := x.filled - 1, cp := (x.cp + 1) % x.depth }) }))
        (exec (.qadv g q) s)) ∧
    (Issues (.qadv g q) s → x.filled = 0 → Waits (.filled q.toNat 1) s (exec (.qadv g q) s)) ∧
    (Issues (.qcfg g d q) s → x.streams.length ≤ 4 → x.cp < 16 → x.pp < 16 → x.filled ≤ 16 → x.depth ≤ 16 → x.prod < 3 → x.cons < 2 →
      ∃ v : Word, Completes (s.setReg d v) (exec (.qcfg g d q) s) ∧ bitsAt v 4 0 = x.depth ∧ v.getLsbD 5 = x.stream ∧ bitsAt v 7 6 = x.prod ∧ bitsAt v 8 8 = x.cons ∧
        bitsAt v 15 9 = 0 ∧ bitsAt v 20 16 = x.filled ∧ bitsAt v 23 21 = 0 ∧ bitsAt v 27 24 = x.pp ∧ bitsAt v 31 28 = x.cp ∧ bitsAt v 35 32 = 0 ∧
        bitsAt v 39 36 = x.streams.length ∧ bitsAt v 63 40 = 0) ∧
    (Issues (.qfill g d q b) s → x.depth < (s.reg b).toNat → exec (.qfill g d q b) s = raise0 0x0A s) ∧
    (Issues (.qfill g d q b) s → (s.reg b).toNat ≤ x.depth → x.filled ≤ x.depth →
      (x.cons = sideNumber side → (s.reg b).toNat ≤ x.filled → Completes (s.setReg d (BitVec.ofNat 64 x.filled)) (exec (.qfill g d q b) s)) ∧
      (x.cons = sideNumber side → x.filled < (s.reg b).toNat → Waits (.filled q.toNat (s.reg b).toNat) s (exec (.qfill g d q b) s)) ∧
      (x.cons ≠ sideNumber side → x.filled + (s.reg b).toNat ≤ x.depth → Completes (s.setReg d (BitVec.ofNat 64 (x.depth - x.filled))) (exec (.qfill g d q b) s)) ∧
      (x.cons ≠ sideNumber side → x.depth < x.filled + (s.reg b).toNat → Waits (.room q.toNat (s.reg b).toNat) s (exec (.qfill g d q b) s)))

/-- SSTR and ISTR take a legal descriptor of their modes from the core's own local memory, release at cluster scope, and append the stream to the queue, waiting while it holds
four; a descriptor that breaks its rules raises cause 0x1B, an offset out of range cause 0x08 and a misaligned one cause 0x05. SCLOSE ends the queue's streams with WHY 4, and
SSTAT reports the running stream or the one that ended last (R194, R195, R237 to R242). -/
def Sys2Proof.Claims.StreamsStartAndClose : Prop :=
  ∀ (s : State) (g : Guard) (d a : BitVec 5) (q : BitVec 3) (th : Nat) (side : Side), s.cur = .task th side → s.selected g = true →
    let k := (s.thread th).queues.getD q.toNat Queue.init
    let off := (s.reg a).toNat
    let bs := (s.core s.coreId).mem.readList off 32
    (∀ i, i = .sstr g q a ∨ i = .istr g q a → Issues i s → s.ctx.stage = 0 →
      (2 ^ 17 ≤ off ∨ 0x18000 < off + 32 → exec i s = raise 0x08 (s.reg a) s) ∧
      (off + 32 ≤ 0x18000 → off % 32 ≠ 0 → exec i s = raise 0x05 (s.reg a) s) ∧
      (off + 32 ≤ 0x18000 → off % 32 = 0 → unpoisoned (s.core s.coreId) off 32 → settledHere s →
        (¬legalStream bs ∨ (i = .sstr g q a ∧ leAt bs 0x16 1 = 2) ∨ (i = .istr g q a ∧ leAt bs 0x16 1 ≠ 2) → ∃ r, exec i s = raise0 0x1B r ∧ r.ctx.held = s.ctx.held ∧
          r = { s with ctxs := r.ctxs }) ∧
        (legalStream bs → (i = .sstr g q a ∧ leAt bs 0x16 1 ≠ 2) ∨ (i = .istr g q a ∧ leAt bs 0x16 1 = 2) →
          (k.streams.length < 4 → ∃ x : Stream, x.mode = leAt bs 0x16 1 ∧ x.base.toNat = leAt bs 0 8 ∧ (x.mode = 0 → x.stride.toNat = leAt bs 8 8 ∧ x.width = leAt bs 0x18 2) ∧
            (x.mode ≠ 0 → x.aux.toNat = leAt bs 8 8 ∧ x.flags = leAt bs 0x17 1) ∧ x.count = leAt bs 0x10 4 ∧ x.esize = leAt bs 0x14 2 ∧
            (x.mode = 2 → x.limit = leAt bs 0x18 4) ∧ x.started = false ∧ x.seg = 0 ∧ x.sub = 0 ∧ x.suspVa = none ∧
            Completes (s.mapThread th (fun t => { t with queues := t.queues.modify q.toNat (fun y => { y with streams := y.streams ++ [x] }) })) (exec i s)) ∧
          (4 ≤ k.streams.length → ∃ t, exec i s = .next t ∧ t.ctx.held = s.ctx.held ∧ t.ctx.wait.map Wait.cond = some (.streamRoom q.toNat) ∧ t.ctx.kept = bs ∧
            t = { s with ctxs := t.ctxs })))) ∧
    (Issues (.sclose g q) s → k.streams = [] → Completes s (exec (.sclose g q) s)) ∧
    (∀ x rest, Issues (.sclose g q) s → k.streams = x :: rest →
      Completes (s.mapThread th (fun t => { t with queues := t.queues.modify q.toNat (fun y => { y with streams := [], why := 4, pos := x.pos }) })) (exec (.sclose g q) s)) ∧
    (Issues (.sstat g d q) s → k.streams.length ≤ 4 → k.why < 5 → k.pos < 2 ^ 32 → (∀ x ∈ k.streams, x.count < 2 ^ 32 ∧ x.seg < 2 ^ 32) →
      ∃ v : Word, Completes (s.setReg d v) (exec (.sstat g d q) s) ∧ bitsAt v 55 32 = 0 ∧
        (k.streams = [] → bitsAt v 63 61 = k.why ∧ bitsAt v 60 56 = 0 ∧ bitsAt v 31 0 = k.pos) ∧
        ∀ x rest, k.streams = x :: rest → bitsAt v 63 61 = 0 ∧ v.getLsbD 60 = x.suspVa.isSome ∧ v.getLsbD 59 = true ∧ bitsAt v 58 56 = rest.length ∧
          (x.suspVa = none → (x.mode = 0 → bitsAt v 31 0 = min x.count (16 * x.seg)) ∧ (x.mode = 1 → bitsAt v 31 0 = x.seg) ∧
            (x.mode = 2 → bitsAt v 31 0 = min x.count (512 / x.esize * x.seg))) ∧ (x.suspVa ≠ none → bitsAt v 31 0 = x.suspPos % 2 ^ 32))

/-- A stream engine starts the stream at the head of its queue, and fills a free slot whole from what its reads return, publishes it and sets the wake bit; the last slot ends the
stream with POS its total. A strided stream places row 16t + r at bytes 32r, and an indirect stream record P*t + j at its record size; a falling bound (WHY 1) and an index at or
beyond the limit (WHY 2) end the queue's streams with no slot published; and a page that is not mapped suspends the stream, which keeps its position (R194, R196, R237, R238, R240). -/
def Obligations.StreamEnginesFillTheirQueues : Prop :=
  ∀ (s : State) (th q : Nat) (x : Stream) (rest : List Stream), (s.queueAt th q).streams = x :: rest →
    let k := s.queueAt th q
    let cl := clusterOfThread th
    let asid := (s.launch (s.thread th).launch).asid
    let dl := if (s.thread th).deadline = 0 then none else some (bitsAt (s.thread th).deadline 33 18)
    let reads := s.engineReads cl asid (s.coreSecure (coreOfThread th)) dl
    let published := fun (t u : State) (v : VReg) (x' : Stream) (last : Bool) =>
      t = u.mapThread th (fun y => { y with wake := true, queues := y.queues.modify q (fun z =>
        { z with filled := z.filled + 1, pp := (z.pp + 1) % z.depth, slots := z.slots.set (z.pp % z.depth) v, streams := if last then rest else x' :: rest,
                 why := if last then 0 else z.why, pos := if last then x.count else z.pos }) })
    let ended := fun (t u : State) (why pos : Nat) =>
      t = u.mapThread th (fun y => { y with queues := y.queues.modify q (fun z => { z with streams := [], why := why, pos := pos }) })
    (x.started = false →
      exec (.streamStart th q) s = .next (s.mapThread th (fun y => { y with queues := y.queues.modify q (fun z => { z with streams := { x with started := true } :: rest }) }))) ∧
    (x.started = true → x.suspVa = none → k.filled < k.depth →
      (x.mode = 0 → x.esize ∈ [1, 2, 4, 8] → x.width ≤ 32 →
        let rows := min 16 (x.count - 16 * x.seg)
        let parts := (List.range rows).flatMap (fun r => (List.range (x.width / x.esize)).map (fun j => (r, j)))
        let va := fun (p : Nat × Nat) => (x.base + BitVec.ofNat 64 (16 * x.seg + p.1) * x.stride + BitVec.ofNat 64 (p.2 * x.esize)).toNat
        ∀ u bs, reads (parts.map (fun p => (va p, x.esize))) = (.ok bs, u) →
          ∃ v t, slotHolds v ((parts.map (fun p => 32 * p.1 + p.2 * x.esize)).zip bs) ∧ exec (.streamSlotPublish th q) s = .next t ∧
            published t u v { x with seg := x.seg + 1 } (decide (x.count ≤ 16 * (x.seg + 1)))) ∧
      (x.mode = 1 →
        let at4 := (x.aux + BitVec.ofNat 64 (4 * x.seg)).toNat
        ∀ u b0 b1, reads [(at4, 4), ((at4 + 4) % 2 ^ 64, 4)] = (.ok [b0, b1], u) →
          (leNat b1 < leNat b0 → ∃ t, exec (.streamSlotPublish th q) s = .next t ∧ ended t u 1 x.seg) ∧
          (leNat b0 ≤ leNat b1 →
            let len := leNat b1 - leNat b0
            let n := min 64 (len - 64 * x.sub)
            ∀ u' bs, u.engineReads cl asid (s.coreSecure (coreOfThread th)) dl
                ((List.range n).map (fun k => ((x.base + BitVec.ofNat 64 (8 * (leNat b0 + 64 * x.sub + k))).toNat, 8))) = (.ok bs, u') →
              ∃ v t, slotHolds v (((List.range 64).map (fun k => 8 * k)).zip (bs ++ List.replicate (64 - n) (leBytes 8 (if x.flags % 2 = 1 then 0xFFFFFFFF else 0)))) ∧
                exec (.streamSlotPublish th q) s = .next t ∧
                published t u' v (if x.sub < len / 64 then { x with sub := x.sub + 1 } else { x with seg := x.seg + 1, sub := 0 })
                  (decide (len / 64 ≤ x.sub ∧ x.count ≤ x.seg + 1) || decide (x.sub < len / 64 ∧ x.count ≤ x.seg)))) ∧
      (x.mode = 2 → x.esize ∈ [1, 2, 4, 8] →
        let p := 512 / x.esize
        let n := min p (x.count - p * x.seg)
        ∀ u bs, reads ((List.range n).map (fun j => ((x.aux + BitVec.ofNat 64 (4 * (p * x.seg + j))).toNat, 4))) = (.ok bs, u) →
          let idx := bs.map leNat
          (∀ j, j < n → idx.getD j 0 < x.limit) →
            ∀ u' rs, u.engineReads cl asid (s.coreSecure (coreOfThread th)) dl
                (idx.map (fun i => ((x.base + BitVec.ofNat 64 (i * x.esize)).toNat, x.esize))) = (.ok rs, u') → (x.flags % 2 = 1 → ∀ i ∈ idx, i ≠ 0xFFFFFFFF) →
              ∃ v t, slotHolds v (((List.range n).map (fun j => j * x.esize)).zip rs) ∧ exec (.streamSlotPublish th q) s = .next t ∧
                published t u' v { x with seg := x.seg + 1 } (decide (x.count ≤ p * (x.seg + 1)))) ∧
      (x.mode = 2 → x.esize ∈ [1, 2, 4, 8] → ∀ u b bs,
        reads ((List.range (min (512 / x.esize) (x.count - 512 / x.esize * x.seg))).map (fun j => ((x.aux + BitVec.ofNat 64 (4 * (512 / x.esize * x.seg + j))).toNat, 4))) =
          (.ok (b :: bs), u) → x.limit ≤ leNat b → ¬(x.flags % 2 = 1 ∧ leNat b = 0xFFFFFFFF) →
        ∃ t, exec (.streamSlotPublish th q) s = .next t ∧ ended t u 2 (512 / x.esize * x.seg)) ∧
      (x.mode = 1 → ∀ u va, reads [((x.aux + BitVec.ofNat 64 (4 * x.seg)).toNat, 4), (((x.aux + BitVec.ofNat 64 (4 * x.seg)).toNat + 4) % 2 ^ 64, 4)] = (.error (va, some 6), u) →
        ∃ t, exec (.streamSuspend th q) s = .next t ∧ (t.thread th).queues = (u.thread th).queues.modify q (fun z => { z with streams := { x with suspVa := some va, suspPos := x.seg } :: z.streams.drop 1 }) ∧
          t.ctxs = u.ctxs))

/-- A send commits first, and raises cause 0x13 for an address that R243 refuses, a broken route or an open route to another port. With no route it asks for one and waits; on
its open route it waits for entries at the destination, takes 1 or 16 of them, and puts its item into the route. SPCLOSE sends the closing flit of an open route, and clears a
broken one (R243 to R248). -/
def Sys2Proof.Claims.SendsFollowTheirRoute : Prop :=
  ∀ (s : State) (g : Guard) (d a b : BitVec 5) (th : Nat) (side : Side) (i : Instr) (n : Nat) (item : Bool × VReg),
    let c := s.commit
    (i = .spsend g a b ∧ n = 1 ∧ item = (false, BitVec.ofNat 4096 (c.reg b).toNat)) ∨ (i = .spsendv g d a ∧ n = 16 ∧ item = (true, c.vsrc d.toNat c.qwD.2)) →
    s.cur = .task th side → s.selected g = true →
    let set := fun (f : Route → Route) (s : State) => s.upd (fun k => { k with route := f k.route })
    let r := c.ctx.route
    (Issues i s → (¬portAddress c th (c.reg a)) ∨ r.broken = true ∨ (r.opn = true ∧ r.closing = false ∧ r.dest ≠ c.reg a) → exec i s = raise0 0x13 c) ∧
    (Issues i s → portAddress c th (c.reg a) → r.broken = false → settledHere c → c.ctx.stage = 0 →
      (r.opn = false → Waits .route (set (fun r => { r with opening := true, dest := c.reg a }) (c.upd (fun k => { k with stage := 3 }))) (exec i s)) ∧
      (r.opn = true → r.closing = false → r.dest = c.reg a → r.free < n → Waits (.destFree n) (c.upd (fun k => { k with stage := 3 })) (exec i s)) ∧
      (r.opn = true → r.closing = false → r.dest = c.reg a → n ≤ r.free →
        Completes (set (fun r => { r with free := r.free - n, flight := r.flight ++ [item] }) c) (exec i s))) ∧
    (Issues (.spclose g) s →
      Completes (if s.ctx.route.broken then set (fun _ => Route.init) s else if s.ctx.route.opn then set (fun r => { r with closing := true }) s else s) (exec (.spclose g) s))

/-- SPRECV and SPRECVV take the oldest item of their port: the predicate is set, the value written, the entries freed toward the sender, whose route gains them while it leads to this port, and the scope of its send acquired. A close
marker unbinds the port and clears the predicate; with neither, they wait; before commit, for a port above 1, or for an item of the other kind they raise cause 0x13. SPSTAT reads a
port or the side's route (R249, R250). -/
def Sys2Proof.Claims.ReceivesTakeTheOldestItem : Prop :=
  ∀ (s : State) (g : Guard) (d a : BitVec 5) (p : BitVec 4) (th : Nat) (side : Side) (i : Instr) (vec : Bool) (put : VReg → State → State) (close : State → State),
    (i = .sprecv g d a p ∧ vec = false ∧ put = (fun v s => s.setReg d (BitVec.ofNat 64 (getBytes v 0 8))) ∧ close = (fun s => s.setReg d 0)) ∨
      (i = .sprecvv g d a p ∧ vec = true ∧ put = (fun v s => s.vset d.toNat s.qwD.2 v) ∧ close = id) →
    s.cur = .task th side → s.selected g = true →
    let n := (s.reg a).toNat
    let q := (s.thread th).ports.getD n Port.init
    let setPort := fun (f : Port → Port) (s : State) => s.mapThread th (fun t => { t with ports := t.ports.modify n f })
    let freed := fun (s : State) => match q.bound with
      | some (th', x) => s.mapCtx (.task th' x) (fun k => if k.route.opn = true ∧ k.route.dest = portAddr th n
          then { k with route := { k.route with free := k.route.free + (if vec then 16 else 1) } } else k)
      | none => s
    (Issues i s → 1 < n ∨ (s.thread th).post = false → exec i s = raise0 0x13 s) ∧
    (Issues i s → n ≤ 1 → (s.thread th).post = true → (s.thread th).ports.length = 2 →
      (q.items = [] → q.mark = false → Waits (.portItem n) s (exec i s)) ∧
      (q.items = [] → q.mark = true → Completes ((close (setPort (fun q => { q with bound := none, mark := false }) s)).setPred p 0) (exec i s)) ∧
      (∀ x rest, q.items = x :: rest → x.1 ≠ vec → exec i s = raise0 0x13 s) ∧
      (∀ x rest, q.items = x :: rest → x.1 = vec →
        Completes (((put x.2.1 (freed (setPort (fun q => { q with items := rest }) s))).setPred p (BitVec.allOnes 512)).acquire x.2.2) (exec i s))) ∧
    (Issues (.spstat g d a) s → 2 < n → exec (.spstat g d a) s = raise0 0x13 s) ∧
    (Issues (.spstat g d a) s → n ≤ 1 → entriesOf q.items ≤ 32 → (∀ x ∈ q.bound, x.1 < 2 ^ 19) → ∃ v : Word, Completes (s.setReg d v) (exec (.spstat g d a) s) ∧ v.getLsbD 63 = q.bound.isSome ∧
      v.getLsbD 62 = q.mark ∧ bitsAt v 61 54 = 0 ∧ bitsAt v 53 48 = q.items.length ∧ bitsAt v 47 38 = 0 ∧ bitsAt v 37 32 = 32 - entriesOf q.items) ∧
    (Issues (.spstat g d a) s → n = 2 → s.ctx.route.free ≤ 32 → ∃ v : Word, Completes (s.setReg d v) (exec (.spstat g d a) s) ∧ v.getLsbD 63 = s.ctx.route.opn ∧
      v.getLsbD 62 = s.ctx.route.broken ∧ v.getLsbD 61 = s.ctx.route.opening ∧ bitsAt v 60 38 = 0 ∧ bitsAt v 37 32 = s.ctx.route.free ∧
      (s.ctx.route.opn = true → bitsAt v 31 0 = s.ctx.route.dest.toNat % 2 ^ 32))

/-- A waiting route opens when its destination slot holds a task of the launch, the port is unbound and every hop has one of its four places free, if no route of an earlier class could
open; it then holds the port's free entries. Which outputs hold a route's places is the model's choice (log 39). Items arrive whole and in order, with the scope of their send. The closing flit behind the last item frees the route and leaves a close
marker. Flits of a task whose deadline class has passed count as late in every router of their way, by the model's choice at once in the step in which they move (log 149). A router sends on the packet of the earliest class toward its home, first along x, and counts it when it is late (R245, R246, R371, R409). -/
def Obligations.RoutesAndRoutersMoveTraffic : Prop :=
  (∀ (s : State) (th : Nat) (side : Side),
    let r := (s.ctxOf (.task th side)).route
    let dst := threadOfAddr r.dest
    let n := r.dest.toNat / 8 % 2
    let q := (s.thread dst).ports.getD n Port.init
    let bindPort := fun (f : Port → Port) (s : State) => s.mapThread dst (fun t => { t with ports := t.ports.modify n f })
    let set := fun (f : Route → Route) (s : State) => s.mapCtx (.task th side) (fun k => { k with route := f k.route })
    (r.opening = true → (s.thread dst).st ≠ .empty → (s.thread dst).launch = (s.thread th).launch → q.bound = none → s.placesFree (clusterOfThread th) (dst / 64) = true →
      (∀ x ∈ s.openable, s.opensFirst x (th, side) = false) →
      exec (.routeOpen th side) s = .next ((bindPort (fun q => { q with bound := some (th, side) })
        (set (fun r => { r with opn := true, opening := false, closing := false, free := 32 - entriesOf q.items, flight := [] }) s)).flitPass th r.dest)) ∧
    (∀ x rest, r.opn = true → r.flight = x :: rest →
      exec (.portItemArrive th side) s = .next ((bindPort (fun q => { q with items := q.items ++ [(x.1, x.2, narrowest (th / 8) (dst / 8))] }) (set (fun r => { r with flight := rest }) s)).flitPass
        th r.dest)) ∧
    (r.opn = true → r.closing = true → r.flight = [] →
      exec (.routeCloseFlit th side) s = .next ((bindPort (fun q => { q with mark := true }) (set (fun _ => Route.init) s)).flitPass th r.dest)) ∧
    (∀ dest, let late := s.isLate (if (s.thread th).deadline = 0 then none else some (bitsAt (s.thread th).deadline 33 18))
      (late = false → s.flitPass th dest = s) ∧
      (late = true → s.flitPass th dest = { s with clusters := (s.flitPass th dest).clusters } ∧ ∀ cl, ((s.flitPass th dest).cluster cl).late = (s.cluster cl).late +
        BitVec.ofNat _ (((outputs (th / 64) (threadOfAddr dest / 64) maxHops).map Prod.fst ++ [threadOfAddr dest / 64]).count cl)))) ∧
  (∀ (s : State) (cl d : Nat) (p : Nat × Option Nat × Nat) (k : Packet), cl < 8192 → p ∈ (s.cluster cl).packets →
    (∀ x ∈ (s.cluster cl).packets, x ≠ p → goesFirst p x = true ∧ goesFirst x p = false) → s.net.get? p.1 = some k → direction cl (homeCluster k.pa) = some d →
    ∃ t, exec (.packetForward cl) s = .next t ∧ (t.cluster cl).packets = (s.cluster cl).packets.filter (fun x => decide (x ≠ p)) ∧
      (t.cluster (neighbour cl d)).packets = (s.cluster (neighbour cl d)).packets ++ [(p.1, p.2.1, (d + 2) % 4)] ∧
      (t.cluster cl).late = (if s.isLate p.2.1 then (s.cluster cl).late + 1 else (s.cluster cl).late) ∧ t = { s with clusters := t.clusters }) ∧
  ∀ (s : State) (cl : Nat) (n : BitVec 32) (rest : List (BitVec 32)), (s.cluster cl).lateDue = n :: rest →
    exec (.latePacketRecord cl) s = .next ((s.mapCluster cl (fun c => { c with lateDue := rest })).recordOf (cl / 256) 0x0F 0 (BitVec.ofNat 64 (cl % 65536)) (BitVec.ofNat 64 n.toNat))

/-- Queue instructions move the pointers of their queue, and stream instructions start and close streams. -/
def Obligations.QueuesAndStreamsAreIssued : Prop :=
  Claims.QueueInstructionsMoveTheirPointers ∧ Claims.StreamsStartAndClose

/-- Sends put items on the side's route, and receives take the oldest item of a port. -/
def Obligations.SendsAndReceivesMoveItems : Prop :=
  Claims.SendsFollowTheirRoute ∧ Claims.ReceivesTakeTheOldestItem


namespace Sys2Proof.Claims

/-! ### Walks and jobs -/

/-- A walk descriptor of 64 bytes that obeys R141 to R143, field by field; with row format 0x0F an element counts as one byte. -/
def legalWalk (bs : List Byte) : Prop :=
  let f := leAt bs
  let fmt := f 0x1D 1
  let e := if fmt = 0x0F then 1 else elemSize fmt
  fmt ∈ [1, 2, 3, 4, 5, 6, 9, 0x0F] ∧ f 0x1E 1 = (if fmt = 6 ∨ fmt = 9 then 8 else 0) ∧ f 0x1F 1 ≤ 1 ∧ f 0 8 % e = 0 ∧ f 8 4 % e = 0 ∧ f 0xE 2 * e ≤ f 8 4 ∧
  1 ≤ f 0xC 2 ∧ f 0xC 2 ≤ 256 ∧ 1 ≤ f 0xE 2 ∧ f 0xE 2 ≤ 512 ∧ f 0x10 8 % 64 = 0 ∧ 1 ≤ f 0x18 4 ∧ f 0x18 4 < 2 ^ 24 ∧ f 0x1C 1 ≤ 15 ∧ f 0x20 8 ≠ 0 ∧ f 0x20 8 % 4 = 0 ∧
  f 0x28 4 % 4 = 0 ∧ f 0x28 4 + 4 * f 0xC 2 ≤ 0x18000 ∧ f 0x2C 4 % 64 = 0 ∧ f 0x2C 4 < 0x17FC1 ∧ (f 0x30 8 ≠ 0 → fmt ∈ [3, 4, 5])

/-- The descriptor that an engine command works with: when it first issues, n bytes of the core's own local memory at an aligned offset, with nothing of the side left to
release; when it issues again after a wait, the bytes that it has kept (R143, R291). -/
def takesDescriptor (s : State) (a : BitVec 5) (n : Nat) (bs : List Byte) : Prop :=
  (s.ctx.stage = 0 ∧ (s.reg a).toNat + n ≤ 0x18000 ∧ (s.reg a).toNat % n = 0 ∧ unpoisoned (s.core s.coreId) (s.reg a).toNat n ∧ settledHere s ∧
    bs = (s.core s.coreId).mem.readList (s.reg a).toNat n) ∨ ((s.ctx.stage = 2 ∨ s.ctx.stage = 3) ∧ s.ctx.kept = bs)

/-- An outcome is a next state that differs from a state outside the contexts in nothing, with the issuing context's registers as they are and a wait for a condition. -/
def waitsFor (c : WaitCond) (r : State) (o : Out) : Prop :=
  ∃ t, o = .next t ∧ t = { r with ctxs := t.ctxs } ∧ t.ctx.held = r.ctx.held ∧ t.ctx.wait.map Wait.cond = some c ∧ ∀ x, x ≠ r.cur → t.ctxOf x = r.ctxOf x

/-- The entry that the thread's job table holds for an id. -/
def jobOf (s : State) (th id : Nat) : Option JobEntry := (s.thread th).jobs.find? (fun e => e.id == id)

/-- A job table has room: fewer than 16 entries, or a completed one that gives way (R151). -/
def jobRoomy (l : List JobEntry) : Prop := l.length < 16 ∨ ∃ e ∈ l, e.complete = true

/-- A job table after a new job has entered it: a full table has given up its oldest completed job (R151). -/
def jobEnters (l : List JobEntry) (id : Nat) (l' : List JobEntry) : Prop :=
  let new : JobEntry := { id := id, complete := false, status := 0, faultVa := 0 }
  (l.length < 16 ∧ l' = l ++ [new]) ∨
  (16 ≤ l.length ∧ ∃ pre e post, l = pre ++ e :: post ∧ e.complete = true ∧ (∀ x ∈ pre, x.complete = false) ∧ l' = pre ++ post ++ [new])

/-- Rows of a walk in a state (R146). -/
def rowsIn (j : WalkJob) (st : Nat) : Nat := (j.rows.filter (fun r => decide (r.st = st))).length

/-- Two walk jobs have no core in common (R150). -/
def disjointJobs (j k : WalkJob) : Prop := ∀ t ∈ j.threads, ∀ u ∈ k.threads, t / 8 ≠ u / 8

end Sys2Proof.Claims

/-- MWALK and MWALKG: an offset out of range raises cause 0x08, a misaligned one cause 0x05, and a descriptor that breaks R141 to R143 cause 0x1B. After commit, MWALK waits for an
entry of its job table and of the cluster's queue, and then queues its job and writes its id. MWALKG waits until all eight cores have issued theirs; the eighth forms the one job from
core 0's descriptor and each core's own handler, progress array and user word, and every thread writes its id (R17, R143, R149, R151, R152, R163). -/
def Obligations.WalksAreQueued : Prop :=
  ∀ (s : State) (g : Guard) (d a : BitVec 5) (th : Nat), s.cur = .task th .c → s.selected g = true →
    let core := th / 8
    let cl := th / 64
    let off := (s.reg a).toNat
    let c := s.cluster cl
    (∀ i, i = .mwalk g d a ∨ i = .mwalkg g d a → Issues i s → s.ctx.stage = 0 →
      (2 ^ 17 ≤ off ∨ 0x18000 < off + 64 → exec i s = raise 0x08 (s.reg a) s) ∧
      (off + 64 ≤ 0x18000 → off % 64 ≠ 0 → exec i s = raise 0x05 (s.reg a) s) ∧
      (off + 64 ≤ 0x18000 → off % 64 = 0 → unpoisoned (s.core core) off 64 → ¬legalWalk ((s.core core).mem.readList off 64) →
        ∃ r, exec i s = raise0 0x1B r ∧ r.ctx.held = s.ctx.held ∧ r = { s with ctxs := r.ctxs })) ∧
    ∀ bs, takesDescriptor s a 64 bs → legalWalk bs → (s.launch (s.thread th).launch).secure = c.worldArr → (s.thread th).post = true →
      (Issues (.mwalk g d a) s → ¬jobRoomy (s.thread th).jobs → waitsFor .jobEntry s (exec (.mwalk g d a) s)) ∧
      (Issues (.mwalk g d a) s → jobRoomy (s.thread th).jobs → 32 ≤ c.walkQ.length → (∀ k ∈ c.walkQ, k < 65536) →
        waitsFor .walkGrant (s.mapCluster cl (fun c => { c with walkWait := if th ∈ c.walkWait then c.walkWait else c.walkWait ++ [th] })) (exec (.mwalk g d a) s)) ∧
      (Issues (.mwalk g d a) s → jobRoomy (s.thread th).jobs → c.walkQ.length < 32 → c.walkWait = [] → (∀ k ∈ c.walkQ, k < 65536) →
        ∃ (r : State) (j : WalkJob) (b : Bool), Completes (r.setReg d (BitVec.ofNat 64 c.seqSolo)) (exec (.mwalk g d a) s) ∧
          (r.cluster cl).walks.get? c.seqSolo = some j ∧ j.st = .queued ∧ j.gang = false ∧ j.threads = [th] ∧ j.descs = [{ walkDescOf bs with serial := b }] ∧
          j.asid = s.asidOf s.cur ∧ j.rows.length = leAt bs 0xC 2 ∧ (∀ x ∈ j.rows, x = WalkRow.fresh) ∧ j.canc = false ∧ j.susp = false ∧ j.sat = false ∧
          (r.cluster cl).walkQ = c.walkQ ++ [c.seqSolo] ∧ (r.cluster cl).seqSolo = (if c.seqSolo = 0x3FFF then 1 else c.seqSolo + 1) ∧ (r.cluster cl).seqGang = c.seqGang ∧
          jobEnters (s.thread th).jobs c.seqSolo (r.thread th).jobs ∧
          r = { s with threads := r.threads, clusters := r.clusters }) ∧
      (Issues (.mwalkg g d a) s → (s.thread th).mwalkgId = none → (s.thread th).mwalkg = none → (∃ k, k < 8 ∧ k ≠ core % 8 ∧ (s.thread ((cl * 8 + k) * 8 + th % 8)).mwalkg = none) →
        waitsFor .mwalkg (s.mapThread th (fun t => { t with mwalkg := some (walkDescOf bs) })) (exec (.mwalkg g d a) s)) ∧
      (∀ id, Issues (.mwalkg g d a) s → (s.thread th).mwalkgId = some id →
        Completes ((s.mapThread th (fun t => { t with mwalkgId := none, mwalkg := none })).setReg d (BitVec.ofNat 64 id)) (exec (.mwalkg g d a) s)) ∧
      (∀ ds : List WalkDesc, Issues (.mwalkg g d a) s → (s.thread th).mwalkgId = none → (s.thread th).mwalkg = none → ds.length = 8 → ds[core % 8]? = some (walkDescOf bs) →
        (∀ k, k < 8 → k ≠ core % 8 → (s.thread ((cl * 8 + k) * 8 + th % 8)).mwalkg = ds[k]?) →
        (∀ k, k < 8 → jobRoomy (s.thread ((cl * 8 + k) * 8 + th % 8)).jobs) → c.walkQ.length < 32 → c.walkWait = [] → (∀ k ∈ c.walkQ, k < 65536) → c.seqGang < 0x4000 →
        let id := 0x4000 + c.seqGang
        ∃ (r : State) (j : WalkJob), Completes (r.setReg d (BitVec.ofNat 64 id)) (exec (.mwalkg g d a) s) ∧ (r.cluster cl).walks.get? id = some j ∧ j.st = .queued ∧
          j.gang = true ∧ j.threads = (List.range 8).map (fun k => (cl * 8 + k) * 8 + th % 8) ∧ j.descs.length = 8 ∧
          (∀ (k : Nat) (x y z : WalkDesc), j.descs[k]? = some x → ds[k]? = some y → ds[0]? = some z → x.handler = y.handler ∧ x.progress = y.progress ∧ x.user = y.user ∧ x.rows = z.rows ∧
            x.stride = z.stride ∧ x.rowsN = z.rowsN ∧ x.k = z.k ∧ x.chart = z.chart ∧ x.chartLen = z.chartLen ∧ x.maxDepth = z.maxDepth ∧ x.rowFmt = z.rowFmt ∧
            x.accFmt = z.accFmt ∧ x.segTable = z.segTable ∧ x.scales = z.scales) ∧
          (∀ k, k < 8 → k ≠ core % 8 → (r.thread ((cl * 8 + k) * 8 + th % 8)).mwalkgId = some id) ∧ (r.thread th).mwalkgId = none ∧
          (r.cluster cl).walkQ = c.walkQ ++ [id] ∧ r = { s with threads := r.threads, clusters := r.clusters })

/-- MPROG reads a row's entry, or the summary, of a job that is not complete. MCANCEL cancels a job that is not yet draining: rows without a started handler are masked, but for those that a step in progress has
still to process, which its end masks; the step itself goes on. MNODE returns the
lowest code of the findings about a node, which is the model's choice (log 162), and checks the range of sB before the alignment of sA (log 46). GANG raises cause 0x1A for a mask without its own core or against a waiting GANG's mask, and lets all go on when the last core of the mask arrives. JWAIT waits
for its job and JPOLL does not; both report its status, free the entry and acquire at cluster scope, and a walk with faulted rows traps with cause 0x0B, and waits with its entry kept
while that trap goes to an event ring that cannot take it (R165 to R169). -/
def Obligations.JobsAreObserved : Prop :=
  ∀ (s : State) (g : Guard) (d a b : BitVec 5) (th : Nat), s.selected g = true →
    let cl := s.clusterId
    let id := (s.reg a).toNat
    (∀ side, s.cur = .task th side → Issues (.mprog g d a b) s →
      (∀ e j, jobOf s th (id % 65536) = some e → e.complete = false → s.walk? cl (id % 65536) = some j → j.rows.length ≤ 256 →
        (∀ r, j.rows[(s.reg b).toNat]? = some r → r.st < 4 → r.depth < 16 → r.unit < 2 ^ 24 → ∃ v : Word, Completes (s.setReg d v) (exec (.mprog g d a b) s) ∧
          bitsAt v 63 32 = 0 ∧ bitsAt v 31 30 = r.st ∧ bitsAt v 29 26 = r.depth ∧ bitsAt v 25 24 = 0 ∧ bitsAt v 23 0 = r.unit) ∧
        (s.reg b = BitVec.allOnes 64 → ∃ v : Word, Completes (s.setReg d v) (exec (.mprog g d a b) s) ∧ bitsAt v 63 52 = 0 ∧ bitsAt v 47 41 = 0 ∧ bitsAt v 31 25 = 0 ∧
          bitsAt v 15 9 = 0 ∧ bitsAt v 40 32 = rowsIn j 0 ∧ bitsAt v 24 16 = rowsIn j 2 ∧ bitsAt v 8 0 = rowsIn j 1 ∧
          (j.st = .queued → bitsAt v 51 48 = 0) ∧ (j.st = .loading → bitsAt v 51 48 = 1) ∧ (j.st = .stepping → bitsAt v 51 48 = 2) ∧ (j.st = .suspended → bitsAt v 51 48 = 3) ∧
          (j.st = .draining → bitsAt v 51 48 = 4)) ∧
        (s.reg b ≠ BitVec.allOnes 64 → j.rows.length ≤ (s.reg b).toNat → Completes (s.setReg d (BitVec.allOnes 64)) (exec (.mprog g d a b) s))) ∧
      (jobOf s th (id % 65536) = none ∨ (∃ e, jobOf s th (id % 65536) = some e ∧ e.complete = true) → Completes (s.setReg d (BitVec.allOnes 64)) (exec (.mprog g d a b) s))) ∧
    (∀ side, s.cur = .task th side → Issues (.mcancel g d a) s →
      (∀ e j, jobOf s th (id % 65536) = some e → e.complete = false → s.walk? cl (id % 65536) = some j →
        (j.st = .loading ∨ j.st = .stepping ∨ j.st = .suspended → j.canc = false → ∃ (r : State) (k : WalkJob), Completes (r.setReg d 1) (exec (.mcancel g d a) s) ∧
          r.walk? cl (id % 65536) = some k ∧ k.st = .draining ∧ k.canc = true ∧
          (∀ n x, j.rows[n]? = some x →
            let inStep := j.st = .stepping ∧ ∃ u rows left, j.step = some (u, rows, left) ∧ n ∈ left
            (x.st = 0 → x.hstart = [] → ¬inStep → k.rows[n]? = some { x with st := 3, leaf := false }) ∧
            (x.st ≠ 0 ∨ x.hstart ≠ [] ∨ inStep → k.rows[n]? = some x)) ∧
          (j.st = .stepping → k.step = j.step) ∧
          r = { s with clusters := r.clusters, cores := r.cores }) ∧
        (j.st = .queued → j.canc = false → th ∈ j.threads → j.rows.length ≤ 256 → ∃ r : State, Completes (r.setReg d 1) (exec (.mcancel g d a) s) ∧ r.walk? cl (id % 65536) = none ∧
          ∃ e', jobOf r th (id % 65536) = some e' ∧ e'.complete = true ∧ e'.status.getLsbD 33 = true) ∧
        (j.st = .draining → Completes (s.setReg d 0) (exec (.mcancel g d a) s))) ∧
      (jobOf s th (id % 65536) = none ∨ (∃ e, jobOf s th (id % 65536) = some e ∧ e.complete = true) → Completes (s.setReg d 0) (exec (.mcancel g d a) s))) ∧
    (Issues (.mnode g d a b) s → (2 ^ 24 ≤ (s.reg b).toNat → Completes (s.setReg d 15) (exec (.mnode g d a b) s)) ∧
      ((s.reg b).toNat < 2 ^ 24 → id % 64 ≠ 0 → exec (.mnode g d a b) s = raise 0x05 (s.reg a) s) ∧
      (∀ bs t, (s.reg b).toNat < 2 ^ 24 → id % 64 = 0 → s.loadPieces (s.reg a + BitVec.ofNat 64 (64 * (s.reg b).toNat)) 8 4 = .ok bs t →
        (1 < leAt bs 0 1 → Completes (t.setReg d 1) (exec (.mnode g d a b) s)) ∧
        ((nodeHead bs).code false ≠ 0 ∨ leAt bs 0 1 = 1 → Completes (t.setReg d (BitVec.ofNat 64 ((nodeHead bs).code false))) (exec (.mnode g d a b) s)) ∧
        (∀ ks u, (nodeHead bs).code false = 0 → leAt bs 0 1 = 0 →
          t.loadPieces (s.reg a + BitVec.ofNat 64 (64 * (s.reg b).toNat) + BitVec.ofNat 64 (leAt bs 0x18 4)) 4 (leAt bs 8 1) = .ok ks u →
          ((∀ k, k < leAt bs 8 1 → 0 < leAt ks (4 * k) 4 ∧ leAt ks (4 * k) 4 < 2 ^ 24) → Completes (u.setReg d 0) (exec (.mnode g d a b) s)) ∧
          ∀ k, k < leAt bs 8 1 → (leAt ks (4 * k) 4 = 0 ∨ 2 ^ 24 ≤ leAt ks (4 * k) 4) → (∀ m, m < k → 0 < leAt ks (4 * m) 4 ∧ leAt ks (4 * m) 4 < 2 ^ 24) →
            Completes (u.setReg d (BitVec.ofNat 64 (256 * k + 13))) (exec (.mnode g d a b) s)))) ∧
    (s.cur = .task th .c → Issues (.gang g a) s →
      let m := if id % 256 = 0 then 255 else id % 256
      let others := ((List.range 8).filter (fun k => m.testBit k)).map (fun k => (cl * 8 + k) * 8 + th % 8) |>.filter (fun t => decide (t ≠ th))
      ((s.thread th).gangGo = true → Completes ((s.mapThread th (fun t => { t with gangGo := false, gangMask := none })).acquire 2) (exec (.gang g a) s)) ∧
      ((s.thread th).gangGo = false → m.testBit (th / 8 % 8) = false → exec (.gang g a) s = raise0 0x1A s) ∧
      ((s.thread th).gangGo = false → (∃ k x, k < 8 ∧ (cl * 8 + k) * 8 + th % 8 ≠ th ∧ (s.thread ((cl * 8 + k) * 8 + th % 8)).gangMask = some x ∧ x ≠ m ∧
        (s.thread ((cl * 8 + k) * 8 + th % 8)).gangGo = false) → exec (.gang g a) s = raise0 0x1A s) ∧
      ((s.thread th).gangGo = false → m.testBit (th / 8 % 8) = true → settledHere s → s.ctx.stage = 0 →
        (∀ k, k < 8 → (s.thread ((cl * 8 + k) * 8 + th % 8)).gangGo = false ∧ ∀ x ∈ (s.thread ((cl * 8 + k) * 8 + th % 8)).gangMask, x = m) →
        ((∀ t ∈ others, (s.thread t).gangMask = some m) → ∃ r : State, Completes (r.acquire 2) (exec (.gang g a) s) ∧ r = { s with threads := r.threads, ctxs := r.ctxs } ∧
          r.ctx.held = s.ctx.held ∧ (∀ t ∈ others, r.thread t = { s.thread t with gangGo := true }) ∧ ∀ t, t ∉ others → r.thread t = s.thread t) ∧
        ((∃ t ∈ others, (s.thread t).gangMask = none) → waitsFor .gang (s.mapThread th (fun t => { t with gangMask := some m })) (exec (.gang g a) s)))) ∧
    (∀ i side, s.cur = .task th side → i = .jwait g d a ∨ i = .jpoll g d a → Issues i s →
      (2 ^ 16 ≤ id ∨ jobOf s th id = none → Completes (s.setReg d 0) (exec i s)) ∧
      (∀ e, id < 2 ^ 16 → jobOf s th id = some e →
        let freed := ((s.mapThread th (fun t => { t with jobs := t.jobs.filter (fun x => decide (x.id ≠ e.id)) })).setReg d e.status).acquire 2
        (e.complete = true → bitsAt (BitVec.ofNat 64 id) 15 14 = 2 ∨ bitsAt e.status 31 16 = 0 → Completes freed (exec i s)) ∧
        let own : Prop := (s.thread th).utvec ≠ 0 ∧ (s.thread th).follow = none
        (e.complete = true → bitsAt (BitVec.ofNat 64 id) 15 14 ≠ 2 → bitsAt e.status 31 16 ≠ 0 → ¬own → s.ringBlocked (sheetOfThread th) = true → Waits .ring s (exec i s)) ∧
        (e.complete = true → bitsAt (BitVec.ofNat 64 id) 15 14 ≠ 2 → bitsAt e.status 31 16 ≠ 0 → own ∨ s.ringBlocked (sheetOfThread th) = false → exec i s = trapAfter 0x0B (some e.faultVa) freed.retire) ∧
        (e.complete = false → i = .jwait g d a → Waits (.jobDone id) s (exec i s)) ∧
        (e.complete = false → i = .jpoll g d a → Completes (s.setReg d (BitVec.allOnes 64)) (exec i s))))

/-- A walk job goes through its states: a freed queue entry goes to the waiting core that is next round robin, and there to the thread that
has waited longest; a job starts when its slices are idle and no earlier job of its cores is queued, with
its progress entries 0; it loads its rows, and steps at the pending node of the lowest unit, or drains where no row is pending, which is
the model's choice (log 144); a row at an interior node goes to the child that the rule chooses from its product; a step's
end writes the mirror; a fault suspends the job; a handler starts with its row's result; and the last one's end completes the job (R12, R13, R16, R144 to R150, R157, R161). -/
def Obligations.WalkJobsRunThroughTheirStates : Prop :=
  (∀ (s : State) (cl th : Nat) (pre post : List Nat), (s.cluster cl).walkWait = pre ++ th :: post → (s.cluster cl).walkLast < 8 → (s.cluster cl).walkQ.length < 32 →
    let turn := fun (x : Nat) => (x / 8 % 8 + 7 - (s.cluster cl).walkLast) % 8
    (∀ x ∈ pre, turn th < turn x) → (∀ x ∈ post, turn th ≤ turn x) →
    exec (.jobQueueGrant cl) s = .next (s.mapCluster cl (fun c =>
      { c with walkQ := c.walkQ ++ [65536 + th], walkWait := c.walkWait.filter (fun x => decide (x ≠ th)), walkLast := th / 8 % 8 }))) ∧
  ∀ (s : State) (cl job th : Nat) (j : WalkJob) (d : WalkDesc), s.walk? cl job = some j → j.threads = [th] → j.descs = [d] → 1 ∉ (s.cluster cl).engineHeld →
    (j.st = .queued → (s.core (th / 8)).mem.wf = true → (∀ w ∈ (s.cluster cl).walks, w.2.st ≠ .queued → w.2.st ≠ .complete → disjointJobs w.2 j) →
      (∀ x ∈ (s.cluster cl).walkQ.takeWhile (fun k => decide (k ≠ job)), ∀ k, s.walk? cl x = some k → k.st = .queued → disjointJobs k j) →
      ∃ t, exec (.walkJobAccept cl job) s = .next t ∧ t.walk? cl job = some { j with st := .loading, cache := [], rows := j.rows.map (fun _ => WalkRow.fresh) } ∧
        (∀ x, d.progress ≤ x → x < d.progress + 4 * j.rows.length → (t.core (th / 8)).mem.read x = 0) ∧
        (∀ x, x < d.progress ∨ d.progress + 4 * j.rows.length ≤ x → (t.core (th / 8)).mem.read x = (s.core (th / 8)).mem.read x) ∧ t.mem = s.mem ∧ t.ctxs = s.ctxs) ∧
    (∀ k u, j.st = .loading → s.loadJob cl j = (.ok k, u) → ∃ t, exec (.walkLoadDone cl job) s = .next t ∧
      t.walk? cl job = some { k with retry := false, st := if k.rows.any (fun r => decide (r.st = 0 ∧ r.leaf = false)) then .stepping else .draining } ∧ t.mem = u.mem) ∧
    (∀ bs u, d.rowFmt ≠ 0x0F → d.scales = 0 → d.segTable = 0 → d.rowsN = 1 → s.engineSpan cl j.asid d.rows.toNat (d.k * elemSize d.rowFmt) (s.arraySecure cl)
        (if (j.items.headD Member.none).deadline = 0 then none else some (bitsAt (j.items.headD Member.none).deadline 33 18)) = (.ok bs, u) →
      s.loadJob cl j = (.ok { j with fmt := d.rowFmt, rows := [{ WalkRow.fresh with elems := (List.range d.k).map (fun k => leAt bs (k * elemSize d.rowFmt) (elemSize d.rowFmt)) }] }, u)) ∧
    (∀ unit rows bs u, j.st = .stepping → j.step = none → rows ≠ [] →
      rows = (List.range j.rows.length).filter (fun k => (j.rows[k]?).any (fun r => decide (r.st = 0 ∧ r.leaf = false ∧ r.unit = unit))) →
      (∀ r ∈ j.rows, r.st = 0 → r.leaf = false → unit ≤ r.unit) → s.readNode cl j d unit = (.ok bs, u) →
      (nodeValid j d unit bs = false → ∃ t k, exec (.walkStep cl job) s = .next t ∧ t.walk? cl job = some k ∧ k.step = some (unit, rows, []) ∧
        ∀ n r, j.rows[n]? = some r → k.rows[n]? = some (if n ∈ rows then { r with st := 2 } else r)) ∧
      (nodeValid j d unit bs = true → leAt bs 0 1 = 0 → ∃ t k, exec (.walkStep cl job) s = .next t ∧ t.walk? cl job = some k ∧ k.step = some (unit, rows, []) ∧
        ∀ n r, j.rows[n]? = some r → k.rows[n]? = some (if n ∈ rows then (stepRow j d bs r).1 else r))) ∧
    (∀ bs r sel, j.gang = false → j.fmt ∈ [6, 9] → nodeValid j d r.unit bs = true → leAt bs 0 1 = 0 → leAt bs 1 1 = 0 → leAt bs 2 1 = 0 → r.elems.length = leAt bs 4 2 → (∀ x ∈ r.elems, x < 256) →
      sel = leAt bs 0xA 2 →
      let sum : Int := ((List.range r.elems.length).map (fun k => intOf j.fmt (r.elems.getD k 0) * intOf (leAt bs 3 1) (leAt bs (leAt bs 0x14 4 + 16 * k + sel) 1))).sum
      let child := leAt bs (leAt bs 0x18 4 + (if 0 < sum then 4 else 0)) 4
      (stepRow j d bs r).1 = if child = 0 ∨ d.chartLen ≤ child ∨ d.maxDepth < r.depth + 1 then { r with st := 2 } else { r with depth := r.depth + 1, unit := child }) ∧
    (∀ unit rows, j.st = .stepping → j.step = some (unit, rows, []) → (s.core (th / 8)).mem.wf = true →
      ∃ t, exec (.walkStepEnd cl job) s = .next t ∧
        t.walk? cl job = some { j with step := none, st := if j.canc = false ∧ j.rows.any (fun r => decide (r.st = 0 ∧ r.leaf = false)) then .stepping else .draining } ∧
        (∀ k r, k ∈ rows → j.rows[k]? = some r → leNat ((t.core (th / 8)).mem.readList (d.progress + 4 * k) 4) = r.st % 4 * 2 ^ 30 + r.depth % 16 * 2 ^ 26 + r.unit % 2 ^ 24) ∧
        t.mem = s.mem) ∧
    (∀ va c u, j.st = .loading → c ≠ 9 → s.loadJob cl j = (.error (va, some c), u) → ∃ t, exec (.walkSuspend cl job) s = .next t ∧
      t.walk? cl job = some { j with st := .suspended, back := .loading, retry := false, faultVa := va, susp := true } ∧ t.ctxs = u.ctxs ∧ t.cores = u.cores) ∧
    (∀ row r, s.handlers.get? (th / 8, 0) = none → s.nextResult (th / 8) = some (job, row, 0) → j.rows[row]? = some r → cl = th / 64 →
      ∃ t, exec (.handlerStart (th / 8)) s = .next t ∧ t.mem = s.mem ∧ (∀ x, x ≠ .handler (th / 8) 0 → t.ctxOf x = s.ctxOf x) ∧
        let k := t.ctxOf (.handler (th / 8) 0)
        k.run = .running ∧ k.pc = d.handler ∧ k.buf = [] ∧ k.reg 1 = BitVec.ofNat 64 row ∧ k.reg 2 = BitVec.ofNat 64 r.leafId ∧ k.reg 3 = d.user ∧
        k.reg 4 = BitVec.ofNat 64 r.seg ∧ k.v.get 0 0 = r.results.getD 0 0 ∧ k.round = j.rounds.getD 0 0 ∧ k.p = Ctx.init.p ∧
        (t.handlers.get? (th / 8, 0)).map Handler.row = some row ∧ ((t.walk? cl job).bind (fun j => j.rows[row]?)).map WalkRow.hstart = some (0 :: r.hstart)) ∧
    (j.st = .draining → j.drain = [] → j.step = none → j.rows.length ≤ 256 → (∀ r ∈ j.rows, r.st ≠ 0) → j.released = [th / 8] → s.net = [] → (∀ x ∈ (s.cluster cl).tracers, x.2.walk ≠ some (cl, job)) →
      ∃ t, exec (.walkJobComplete cl job) s = .next t ∧ t.walk? cl job = none ∧ (t.cluster cl).walkQ = (s.cluster cl).walkQ.filter (fun k => decide (k ≠ job)) ∧ t.mem = s.mem ∧
        ∀ e, jobOf s th job = some e → (t.thread th).wake = true ∧ ∃ e' : JobEntry, jobOf t th job = some e' ∧ e'.complete = true ∧ bitsAt e'.status 15 0 = rowsIn j 1 ∧
          bitsAt e'.status 31 16 = rowsIn j 2 ∧ e'.status.getLsbD 32 = j.sat ∧ e'.status.getLsbD 33 = j.canc ∧ e'.status.getLsbD 34 = j.susp)


namespace Sys2Proof.Claims

/-! ### The tracer and phasers -/

/-- The five commands and their function numbers (R290). -/
def tracerCommand (i : Instr) (g : Guard) (p : BitVec 4) (a : BitVec 5) (fn : Nat) : Prop :=
  (i = .tcopy g p a ∧ fn = 0) ∨ (i = .tgather g p a ∧ fn = 1) ∨ (i = .tscatter g p a ∧ fn = 2) ∨ (i = .tscadd g p a ∧ fn = 3) ∨ (i = .tfill g p a ∧ fn = 4)

/-- The unit of alignment of a descriptor: the smaller of its record size and 8 (R291). -/
def tracerUnit (d : TracerDesc) : Nat := max 1 (min d.size 8)

/-- Every record of a local operand lies in the range of R125 (R291). -/
def recordsInRange (a : Word) (size n : Nat) (step : Int) : Prop :=
  a.toNat < 2 ^ 20 ∧ a.toNat % 2 ^ 17 < 0x18000 ∧
    ∀ r : Nat, r < n → 0 ≤ ((a.toNat % 2 ^ 17 : Nat) : Int) + r * step ∧ ((a.toNat % 2 ^ 17 : Nat) : Int) + r * step + size ≤ 0x18000

/-- The local operands of a descriptor: records 0 to count - 1 of a strided one, and every index below limit of an indexed one (R291). -/
def tracerLocals (d : TracerDesc) : Prop :=
  (d.slocal = true → recordsInRange d.src d.size d.count d.sstride) ∧
  (d.dlocal = true → if d.fn ∈ [0, 1, 4] then recordsInRange d.dst d.size d.count d.dstride else recordsInRange d.dst d.size d.limit d.size)

/-- Addresses and strides keep their multiples (R291). -/
def tracerMultiples (d : TracerDesc) : Prop :=
  (d.fn ≠ 4 → d.src.toNat % tracerUnit d = 0) ∧ d.dst.toNat % tracerUnit d = 0 ∧ (d.fn ∈ [1, 2, 3] → d.index.toNat % 4 = 0) ∧
  (d.fn ∈ [0, 2, 3] → d.sstride % tracerUnit d = 0) ∧ (d.fn ∈ [0, 1, 4] → d.dstride % tracerUnit d = 0) ∧ (d.append = true → d.tail.toNat % 16 = 0)

/-- The other limits of R291, with the flags byte and the reserved doubleword of the descriptor's bytes. -/
def tracerLimits (d : TracerDesc) (bs : List Byte) : Prop :=
  (d.fn ∈ [1, 2, 3] ↔ d.index ≠ 0) ∧ 1 ≤ d.count ∧ d.count ≤ 2 ^ 24 ∧ (∃ k, k ≤ 12 ∧ d.size = 2 ^ k) ∧ (d.fn = 3 → 4 ≤ d.size) ∧
  (d.fn = 3 → d.etype = 0 ∨ d.etype = 8) ∧ (d.fn ≠ 3 → d.etype = 0) ∧ leAt bs 0x1F 1 < 64 ∧ (d.fn ∉ [0, 2, 3] → d.sstride = 0) ∧ (d.fn ∉ [0, 1, 4] → d.dstride = 0) ∧
  (d.fn ∉ [1, 2, 3] → d.append = false → d.limit = 0) ∧ (d.sig = false → d.phaser = 0) ∧ (d.append = false → d.tail = 0) ∧ leAt bs 0x38 8 = 0 ∧
  (d.slocal = true → d.fn = 0 ∨ d.fn = 2) ∧ (d.dlocal = true → d.fn ≠ 3) ∧
  (d.append = true → (d.fn = 0 ∨ d.fn = 1) ∧ d.dstride = d.size ∧ d.dlocal = false) ∧ (d.sig = true → d.dlocal = false) ∧ (d.skip = true → d.fn ∈ [1, 2, 3])

/-- The parts of a promise (R295). -/
def promisedParts (d : TracerDesc) : Nat :=
  let lines := (d.size + 255) / 256
  (if d.fn = 4 then 0 else d.count * lines) + d.count * lines * (if d.fn = 3 then 2 else 1) + (if d.fn ∈ [1, 2, 3] then (4 * d.count + 255) / 256 + 1 else 0) +
    (if d.append then 8 else 0)

/-- The pair of registers that a TRC instruction writes: s(2p) and s(2p + 1); with p = 0 both values are discarded (R290). -/
def setPairOf (p : BitVec 4) (x y : Word) (s : State) : State :=
  if p = 0 then s else (s.setReg (BitVec.ofNat 5 (2 * p.toNat)) x).setReg (BitVec.ofNat 5 (2 * p.toNat + 1)) y

/-- The phaser that a word names for a task: an id of R351 without reserved bits, of its launch, generation and class, and not broken. -/
def namesPhaser (s : State) (th : Nat) (x : Word) (p : Phaser) : Prop :=
  x.toNat < 2 ^ 31 ∧ x.toNat / 2 ^ 12 % 16 = 0 ∧ p.live = true ∧ p.launch = (s.thread th).launch ∧ p.gen = x.toNat / 2 ^ 16 % 512 ∧ p.broken = false ∧
  (x.toNat < 2 ^ 30 → (s.sheet (x.toNat / 2 ^ 25)).phasers.get? (x.toNat % 4096) = some p) ∧
  (2 ^ 30 ≤ x.toNat → x.toNat % 4096 < 256 ∧ x.toNat / 2 ^ 25 % 32 = (s.launch (s.thread th).launch).origin ∧ s.treePhasers.get? (x.toNat % 4096) = some p)

/-- The phase that a member's signal is for: the present one, or the first one in which it is expected (R329). -/
def phaseOf (p : Phaser) (m : Nat) : BitVec 32 :=
  match p.members.get? m with | some (_, first) => if (p.phase - first).toNat < 2 ^ 31 then p.phase else first | none => p.phase

/-- The members whose signal is expected in the present phase (R352). -/
def expectedNow (p : Phaser) (m : Nat) : Prop := ∃ e ∈ p.members, e.1 = m ∧ e.2.1 % 2 = 1 ∧ (p.phase - e.2.2).toNat < 2 ^ 31

/-- Every member whose signal is expected has signalled. -/
def allSignalled (p : Phaser) : Prop := ∀ m, expectedNow p m → (m, p.phase) ∈ p.signalled

/-- A phaser at its next phase: nothing of the phase before is left, and a member expected there is expected in the next one. -/
def nextPhase (p : Phaser) : Phaser :=
  { p with phase := p.phase + 1, members := p.members.map (fun m => (m.1, (m.2.1, if (p.phase - m.2.2).toNat < 2 ^ 31 then p.phase + 1 else m.2.2))),
           signalled := p.signalled.filter (fun x => decide (x.2 ≠ p.phase)), sums := p.sums.del p.phase, deliveries := p.deliveries.del p.phase }

/-- What becomes of a phaser after a signal, a delivery or a drop, in fewer than n advances (R352): the phase advances when every expected member has signalled and the
deliveries of a counting phaser equal the expected sum; when they exceed it, the phaser is broken; a phase in which no signal is expected stands. -/
def settlesIn : Nat → Phaser → Phaser → Prop
  | 0, _, _ => False
  | n + 1, p, q =>
    let sum := p.sums.get 0 p.phase
    let got := p.deliveries.get 0 p.phase
    (allSignalled p ∧ (p.counting = true → got = sum) → ((∀ m, ¬expectedNow (nextPhase p) m) → q = nextPhase p) ∧ ((∃ m, expectedNow (nextPhase p) m) → settlesIn n (nextPhase p) q)) ∧
    (allSignalled p ∧ p.counting = true ∧ sum < got → q = { p with broken := true }) ∧
    (¬(allSignalled p ∧ (p.counting = true → sum ≤ got)) → q = p)

/-- The state with a phaser of an id below 2^31 in its place. -/
def putPhaser (id : Nat) (q : Phaser) (s : State) : State :=
  if id < 2 ^ 30 then s.mapSheet (id / 2 ^ 25) (fun h => { h with phasers := h.phasers.set (id % 4096) q }) else { s with treePhasers := s.treePhasers.set (id % 4096) q }

/-- The state after an event that takes the phaser of an id from p to q: a new phase wakes the tasks whose members are registered, and a phaser that breaks is recorded at its home
(R118, R352). -/
def phaserEvent (s t : State) (id : Nat) (p q : Phaser) : Prop :=
  ∃ r, r = { putPhaser id q s with threads := r.threads } ∧
    (∀ x, r.thread x = if q.phase ≠ p.phase ∧ (s.thread x).st ≠ .empty ∧ (s.thread x).launch = p.launch ∧ (q.members.get? (s.thread x).member).isSome = true
      then { s.thread x with wake := true } else s.thread x) ∧
    t = if q.broken = true then r.recordOf (id / 2 ^ 25 % 32) 0x1A 0 (BitVec.ofNat 64 (id / 2 ^ 25 % 32 * 2 ^ 17)) (BitVec.ofNat 64 id) else r

/-- A phaser that an id names, whatever its launch: live, of the id's generation, and not broken (R351). -/
def liveAt (s : State) (id : Nat) (p : Phaser) : Prop :=
  p.live = true ∧ p.broken = false ∧ p.gen = id / 2 ^ 16 % 512 ∧
    (if id / 2 ^ 30 % 4 = 0 then (s.sheet (id / 2 ^ 25 % 32)).phasers.get? (id % 4096) else s.treePhasers.get? (id % 4096)) = some p

/-- A phaser after a member's signal for a phase with a count, before it settles (R329). -/
def signalled (p : Phaser) (m : Nat) (t : BitVec 32) (n : Nat) : Phaser := { p with signalled := (m, t) :: p.signalled, sums := p.sums.set t (p.sums.get 0 t + n) }

/-- PHSIG or PHNEXT is about to signal for phase t: at its first issue with nothing left to release, its member registered to signal and not yet heard in t; or after its release,
with t kept (R329). -/
def signalStart (s : State) (p : Phaser) (m y : Nat) (t : BitVec 32) : Prop :=
  (s.ctx.stage = 0 ∧ s.ctx.kept = [] ∧ settledHere s ∧ (∃ e, p.members.get? m = some e ∧ e.1 % 2 = 1) ∧ (y = 0 ∨ p.counting = true) ∧ (m, phaseOf p m) ∉ p.signalled ∧ t = phaseOf p m) ∨
  ((s.ctx.stage = 2 ∨ s.ctx.stage = 3) ∧ s.ctx.kept = leBytes 4 t.toNat)

/-- Whether a side's TRC with SIG is admitted: a counting phaser, its member registered to signal and not yet heard, and no other SIG job of that member for that phaser, be it queued or
still waiting for its entry (R352). -/
def tracerSignals (s : State) (th : Nat) (d : TracerDesc) : Prop :=
  d.sig = true → ∃ p, namesPhaser s th (BitVec.ofNat 64 d.phaser) p ∧ p.counting = true ∧ (∃ e, p.members.get? (s.thread th).member = some e ∧ e.1 % 2 = 1) ∧
    ((s.thread th).member, phaseOf p (s.thread th).member) ∉ p.signalled ∧
    (∀ c ∈ s.clusters, ∀ t ∈ c.2.tracers, t.2.d.sig = true → t.2.d.phaser = d.phaser → t.2.who.member ≠ (s.thread th).member) ∧
    ∀ c ∈ s.ctxs, c.1 ≠ s.cur → c.2.kept.length = 65 → (tracerDescOf 0 c.2.kept).sig = true → (tracerDescOf 0 c.2.kept).phaser = d.phaser →
      (s.memberOf c.1).member ≠ (s.thread th).member

/-- What a part of a tracer job reads for its n bytes at an offset of its record: the pattern, zeros for a skipped index, local memory of a core of the cluster that is neither frozen nor
retired, or global memory through the homes (R293, R294). -/
def partReads (s : State) (cl : Nat) (j : TracerJob) (i off n : Nat) (bs : List Byte) (u : State) : Prop :=
  let d := j.d
  let step : Int := if d.fn = 1 then (i * d.size : Nat) else j.rec0 * d.sstride
  let loc := (d.src.toNat + step).toNat + off
  let k := s.core (cl * 8 + loc / 2 ^ 17 % 8)
  if d.fn = 4 then u = s ∧ bs = (List.range n).map (fun b => BitVec.ofNat 8 (d.src.toNat / 2 ^ (8 * ((off + b) % 8)) % 256))
  else if d.fn = 1 ∧ d.skip = true ∧ i = 0xFFFFFFFF then u = s ∧ bs = List.replicate n 0
  else if d.slocal = true then u = s ∧ k.retired = false ∧ k.frozen = false ∧ unpoisoned k (loc % 2 ^ 17) n ∧ bs = k.mem.readList (loc % 2 ^ 17) n
  else s.engineSpan cl j.asid (((d.src + BitVec.ofInt 64 step).toNat + off) % 2 ^ 64) n (s.cluster cl).worldTrc
    (if j.who.deadline = 0 then none else some (bitsAt j.who.deadline 33 18)) = (.ok bs, u)

end Sys2Proof.Claims

/-- A TRC instruction checks its descriptor: the offset and local operands (cause 0x08), multiples (cause 0x05), the other limits (cause 0x1B), and a SIG that its member may not give (cause
0x1A; for an id or member that the phaser does not admit this is the model's reading, log 42). After commit, with its release done, it takes one of the 64 queue entries, makes its job, and writes the job's id and its promise; with no entry it waits, and completes when it is
granted one. SLEEPU looks its job up, waits for its cycle, writes CYCLE, and acquires when that job is complete; otherwise it waits for the job, or traps with cause 0x0D (R290 to R292, R294,
R295, R301). -/
def Obligations.TracerCommandsAreQueued : Prop :=
  ∀ (s : State) (g : Guard) (p : BitVec 4) (x a b : BitVec 5) (th : Nat) (side : Side), s.cur = .task th side → s.selected g = true →
    let cl := th / 64
    let c := s.cluster cl
    let off := (s.reg a).toNat
    let own := (s.core (th / 8)).mem.readList off 64
    (∀ i fn, tracerCommand i g p a fn → Issues i s →
      let d := tracerDescOf fn own
      let id := 0x8000 + c.seqTracer
      (s.ctx.stage = 0 → 2 ^ 17 ≤ off ∨ 0x18000 < off + 64 → exec i s = raise 0x08 (s.reg a) s) ∧
      (s.ctx.stage = 0 → off + 64 ≤ 0x18000 → off % 64 ≠ 0 → exec i s = raise 0x05 (s.reg a) s) ∧
      (s.ctx.stage = 0 → off + 64 ≤ 0x18000 → off % 64 = 0 → unpoisoned (s.core (th / 8)) off 64 →
        (¬tracerLocals d → ∃ r, exec i s = raise0 0x08 r ∧ r.ctx.held = s.ctx.held ∧ r = { s with ctxs := r.ctxs }) ∧
        (tracerLocals d → ¬tracerMultiples d → ∃ r, exec i s = raise0 0x05 r ∧ r.ctx.held = s.ctx.held ∧ r = { s with ctxs := r.ctxs }) ∧
        (tracerLocals d → tracerMultiples d → ¬tracerLimits d own → ∃ r, exec i s = raise0 0x1B r ∧ r.ctx.held = s.ctx.held ∧ r = { s with ctxs := r.ctxs }) ∧
        (tracerLocals d → tracerMultiples d → tracerLimits d own → (s.thread th).post = true → ¬tracerSignals s th d →
          ∃ r, exec i s = raise0 0x1A r ∧ r.ctx.held = s.ctx.held ∧ r = { s with ctxs := r.ctxs })) ∧
      (∀ bs, takesDescriptor s a 64 bs → 64 ≤ bs.length → let d := tracerDescOf fn bs
        let promise := max s.cycle.toNat c.horizon + 96 + 4 * promisedParts d
        tracerLocals d → tracerMultiples d → tracerLimits d bs → (s.ctx.stage = 0 → tracerSignals s th d ∧ (s.launch (s.thread th).launch).secure = c.worldTrc) → (s.thread th).post = true →
          (c.tracers.length < 64 → c.tracerWait = [] → jobRoomy (s.thread th).jobs → ∃ (r : State) (j : TracerJob),
            Completes (setPairOf p (BitVec.ofNat 64 (id % 65536)) (BitVec.ofNat 64 promise) r) (exec i s) ∧ (r.cluster cl).tracers.get? id = some j ∧ j.d = d ∧ j.st = .queued ∧ j.th = th ∧
            j.rec0 = 0 ∧ j.part = 0 ∧ j.promise = BitVec.ofNat 64 promise ∧ (r.cluster cl).tracerQ = c.tracerQ ++ [id] ∧ (r.cluster cl).horizon = promise ∧
            (r.cluster cl).seqTracer = (if c.seqTracer = 0x3FFF then 1 else c.seqTracer + 1) ∧ (r.thread th).lastTrc = id ∧
            jobEnters (s.thread th).jobs id (r.thread th).jobs ∧ r = { s with threads := r.threads, clusters := r.clusters }) ∧
          (64 ≤ c.tracers.length ∨ c.tracerWait ≠ [] ∨ ¬jobRoomy (s.thread th).jobs →
            waitsFor .tracerGrant (s.mapCluster cl (fun c => { c with tracerWait := if s.cur ∈ c.tracerWait then c.tracerWait else c.tracerWait ++ [s.cur] })) (exec i s))) ∧
      (s.ctx.stage = 5 → Completes (setPairOf p (BitVec.ofNat 64 (leNat s.ctx.kept)) s.ctx.keep s) (exec i s))) ∧
    (Issues (.sleepu g x a b) s → s.ctx.stage ≠ 1 →
      let id := (s.reg b).toNat
      let woke := s.setReg x s.cycle
      let named : Prop := 0 < id ∧ id < 2 ^ 16 ∧ (jobOf s th id).isSome = true
      let found : Prop := s.ctx.kept = [1] ∨ (s.ctx.kept = [] ∧ named)
      (s.cycle.toNat < (s.reg a).toNat → waitsFor (.cycle (s.reg a).toNat) s (exec (.sleepu g x a b) s)) ∧
      ((s.reg a).toNat ≤ s.cycle.toNat → s.ctx.kept = [0] ∨ (s.ctx.kept = [] ∧ ¬named) → Completes woke (exec (.sleepu g x a b) s)) ∧
      ((s.reg a).toNat ≤ s.cycle.toNat → found →
        ((∀ e, jobOf s th id = some e → e.complete = true) → Completes (woke.acquire 2) (exec (.sleepu g x a b) s)) ∧
        (∀ e, jobOf s th id = some e → e.complete = false →
          ((s.thread th).utvec = 0 → waitsFor (.jobDone id) woke (exec (.sleepu g x a b) s)) ∧
          ((s.thread th).utvec ≠ 0 → (s.thread th).follow = none ∨ s.ringBlocked (sheetOfThread th) = false →
            exec (.sleepu g x a b) s = trapAfter 0x0D (some (BitVec.ofNat 64 (id % 65536))) woke.retire) ∧
          ((s.thread th).utvec ≠ 0 → (s.thread th).follow ≠ none → s.ringBlocked (sheetOfThread th) = true → waitsFor .ring s (exec (.sleepu g x a b) s))))) ∧
    (Issues (.sleepu g x a b) s → s.ctx.stage = 1 → Completes (s.acquire 2) (exec (.sleepu g x a b) s)) ∧
    (∀ w, s.ctx.wait = some w → w.cond = .cycle (s.reg a).toNat → s.ready s.cur = true → decode (s.ctx.buf.headD 0) = .ok (.sleepu g x a b) →
      (s.ctx.kept = [0] → ∃ o, Completes (s.setReg x s.cycle) o ∧ exec (.sleepuWake th side) s = counted s.cur (s.rankOf s.cur) s.ctx.begun (engraved (.sleepu g x a b) s o)) ∧
      (s.ctx.kept = [1] → (∀ e, jobOf s th (s.reg b).toNat = some e → e.complete = true) →
        ∃ o, Completes ((s.setReg x s.cycle).acquire 2) o ∧ exec (.sleepuWake th side) s = counted s.cur (s.rankOf s.cur) s.ctx.begun (engraved (.sleepu g x a b) s o)))

/-- A freed entry is granted to the waiting core that is next round robin. A queued job starts when fewer than four run, an APPEND with its reservation of count * size bytes at the tail, or
WHY 3 where they do not fit. A part reads the bytes of one line of its record and performs them at the destination, local or at its home: copied, gathered, scattered, added, or the pattern;
under SIG its packet counts as a delivery where its home performs it. An index at or above the limit ends the job with WHY 1, and under SKIP the index 0xFFFFFFFF reads nothing. An unmapped
page suspends the job. Behind its last record it signals, adds to the ready count, and is complete with its status (R293 to R299). -/
def Obligations.TracerJobsMoveTheirRecords : Prop :=
  (∀ (s : State) (cl th : Nat) (side : Side) (pre post : List CtxId), (s.cluster cl).tracerWait = pre ++ .task th side :: post → th / 64 = cl → jobRoomy (s.thread th).jobs →
    (s.cluster cl).tracers.length < 64 → (s.ctxOf (.task th side)).kept.length = 65 →
    let turn := fun (c : CtxId) => (s.threadOf c / 8 % 8 + 7 - (s.cluster cl).tracerLast) % 8
    let due := fun (c : CtxId) => c.isHandler = true ∨ jobRoomy (s.thread (s.threadOf c)).jobs
    (∀ c ∈ pre, due c → turn (.task th side) < turn c) → (∀ c ∈ post, due c → turn (.task th side) ≤ turn c) →
    ∃ t j, exec (.tracerGrant cl) s = .next t ∧ (t.cluster cl).tracerWait = (s.cluster cl).tracerWait.filter (fun c => decide (c ≠ .task th side)) ∧ (t.cluster cl).tracerLast = th / 8 % 8 ∧
      t.tracer? cl (0x8000 + (s.cluster cl).seqTracer) = some j ∧ j.st = .queued ∧ j.th = th ∧
      j.d = tracerDescOf ((s.ctxOf (.task th side)).kept.getD 64 0).toNat (s.ctxOf (.task th side)).kept ∧
      j.promise = BitVec.ofNat 64 (max s.cycle.toNat (s.cluster cl).horizon + 96 + 4 * promisedParts j.d) ∧
      t.ctxOf (.task th side) = { s.ctxOf (.task th side) with stage := 5, keep := j.promise, kept := leBytes 2 (0x8000 + (s.cluster cl).seqTracer) } ∧ t.mem = s.mem) ∧
  ∀ (s : State) (cl job : Nat) (j : TracerJob), s.tracer? cl job = some j → 2 ∉ (s.cluster cl).engineHeld →
    let d := j.d
    let world := (s.cluster cl).worldTrc
    let put := fun (k : TracerJob) (s : State) => s.mapCluster cl (fun c => { c with tracers := c.tracers.set job k })
    let ready : Prop := j.st = .running ∧ j.err = false ∧ j.rec0 < d.count ∧ (d.append = true → j.reserved = true)
    (∀ rest, j.st = .queued → (s.cluster cl).tracerQ = job :: rest → job ∉ rest → d.after = false ∨ s.tracer? cl j.prev = none →
      ((s.cluster cl).tracers.filter (fun x => decide (x.2.st ≠ .queued))).length < 4 →
      let started := (put { j with st := .running } s).mapCluster cl (fun c => { c with tracerQ := rest })
      (d.append = false → exec (.tracerJobStart cl job) s = .next started) ∧
      (∀ l pa u, d.append = true → started.translate cl j.asid d.tail.toNat .store world = (.page l pa, u) → u.moving pa = false → u.poisoned pa 8 = false →
        let t0 := u.homeNat pa 8
        let sent := u.tracerPass cl j pa
        (d.limit < t0 + d.count * d.size → exec (.tracerJobStart cl job) s =
          .next (put { j with st := .running, err := true, why := 3 } (sent.performBytes pa (leBytes 8 t0)))) ∧
        (t0 + d.count * d.size ≤ d.limit → exec (.tracerJobStart cl job) s =
          .next (put { j with st := .running, base := t0, reserved := true } (sent.performBytes pa (leBytes 8 (t0 + d.count * d.size))))))) ∧
    (∀ (i : Nat) (u : State) (bs : List Byte), ready → d.fn ≤ 4 → d.size ≤ 4096 → (d.fn ∈ [1, 2, 3] → j.idx = some i ∧ (d.fn ≠ 1 → d.skip = true → i ≠ 0xFFFFFFFF)) →
      let step : Int := if d.fn ∈ [2, 3] then (i * d.size : Nat) else j.rec0 * d.dstride + j.base
      let dst : Nat := if d.dlocal = true then ((d.dst.toNat : Int) + step).toNat else (d.dst + BitVec.ofInt 64 step).toNat
      let off := if j.part = 0 then 0 else 256 * j.part - dst % 256
      let n := min (d.size - off) (256 - (dst + off) % 256)
      let next : TracerJob := if off + n = d.size then { j with rec0 := j.rec0 + 1, part := 0, idx := none } else { j with part := j.part + 1 }
      off < d.size → partReads s cl j i off n bs u →
      (d.dlocal = true → (u.core (cl * 8 + dst / 2 ^ 17 % 8)).retired = false → (u.core (cl * 8 + dst / 2 ^ 17 % 8)).frozen = false →
        exec (.tracerPart cl job) s = .next (put next (u.putLocal (cl * 8 + dst / 2 ^ 17 % 8) (dst % 2 ^ 17 + off) bs))) ∧
      (∀ (l : Leaf) (pa : Nat) (v : State), d.dlocal = false → u.translate cl j.asid ((dst + off) % 2 ^ 64) .store (u.cluster cl).worldTrc = (.page l pa, v) → v.moving pa = false →
        (d.fn = 3 → v.poisoned pa n = false) →
        let bytes := if d.fn = 3 then (List.range (n / 4)).flatMap (fun k =>
          let x := leAt (v.homeBytes pa n) (4 * k) 4
          let y := leAt bs (4 * k) 4
          leBytes 4 (if d.etype = 8 then (x + y) % 2 ^ 32 else fadd32 x y)) else bs
        let w := (v.tracerPass cl j pa).performBytes pa bytes
        exec (.tracerPart cl job) s = .next (put { next with sent := j.sent + 1 } (if d.sig = true ∧ v.backed (pa / 256 * 256) = true then w.deliver d.phaser j.phPhase else w)))) ∧
    (∀ u i bs, ready → d.fn ∈ [1, 2, 3] → j.idx = none →
      s.engineSpan cl j.asid (d.index + BitVec.ofNat 64 (4 * j.rec0)).toNat 4 world (if j.who.deadline = 0 then none else some (bitsAt j.who.deadline 33 18)) = (.ok bs, u) →
      i = leNat bs →
      (d.limit ≤ i → ¬(d.skip = true ∧ i = 0xFFFFFFFF) → exec (.tracerPart cl job) s = .next (put { j with err := true, why := 1 } u)) ∧
      (d.skip = true → i = 0xFFFFFFFF → d.fn ≠ 1 → exec (.tracerPart cl job) s = .next (put { j with rec0 := j.rec0 + 1, part := 0, idx := none } u))) ∧
    (∀ va c u, ready → d.fn = 0 → d.slocal = false → j.part = 0 → 1 ≤ d.size → d.dlocal = false → c ∈ [6, 7, 0x17] →
      (d.dst + BitVec.ofInt 64 (j.rec0 * d.dstride + j.base)).toNat % 256 + d.size ≤ 256 →
      s.engineSpan cl j.asid (d.src + BitVec.ofInt 64 (j.rec0 * d.sstride)).toNat d.size world
        (if j.who.deadline = 0 then none else some (bitsAt j.who.deadline 33 18)) = (.error (va, some c), u) →
      ∃ t, exec (.tracerSuspend cl job) s = .next t ∧ t.tracer? cl job = some { j with st := .suspended, suspVa := va, susp := true } ∧ t.ctxs = u.ctxs) ∧
    (j.st = .running → j.err = true ∨ d.count ≤ j.rec0 →
      (d.sig = true → j.sigDone = false →
        (∀ q, liveAt s d.phaser q → exec (.tracerSig cl job) s = .next ((put { j with sigDone := true } s).signal d.phaser j.who.member (phaseOf q j.who.member) j.sent)) ∧
        ((∀ q, ¬liveAt s d.phaser q) → exec (.tracerSig cl job) s = .next (put { j with sigDone := true } s))) ∧
      (∀ l pa u, d.append = true → j.readyDone = false → j.err = false → s.translate cl j.asid (d.tail.toNat + 8) .store world = (.page l pa, u) → u.moving pa = false → u.poisoned pa 8 = false →
        exec (.appendReadyAdd cl job) s =
          .next (put { j with readyDone := true } ((u.tracerPass cl j pa).performBytes pa (leBytes 8 ((u.homeNat pa 8 + d.count * d.size) % 2 ^ 64))))) ∧
      ((d.sig = true → j.sigDone = true) → (d.append = true → j.err = false → j.readyDone = true) → j.why < 4 → j.rec0 < 2 ^ 32 →
        ∃ t, exec (.tracerJobComplete cl job) s = .next t ∧ t.tracer? cl job = none ∧ t.mem = s.mem ∧ t.ctxs = s.ctxs ∧ (j.walk ≠ none → t.threads = s.threads) ∧
          (j.walk = none → ∀ e, jobOf s j.th job = some e → (t.thread j.th).wake = true ∧ ∃ e' : JobEntry, jobOf t j.th job = some e' ∧ e'.complete = true ∧
            bitsAt e'.status 31 0 = j.rec0 ∧ e'.status.getLsbD 34 = j.err ∧ e'.status.getLsbD 35 = j.susp ∧ e'.status.getLsbD 36 = decide (j.promise.toNat < s.cycle.toNat) ∧
            bitsAt e'.status 39 37 = j.why)))

/-- PHWAIT waits until the phase is reached, and acquires. After commit, with their release done, PHSIG signals and PHNEXT signals and then waits for the next phase, PHDROP removes a member,
and the phase may advance; PHREG registers, PHREAD reads, PHNEW makes a phaser at the lowest free index of its class, and PHFREE frees one on which nothing waits. A signal, a delivery or a
drop advances the phase when every expected member has signalled and a counting phaser's deliveries equal its sum. An id or a member that is not admitted, and PHREG, PHNEW or PHFREE before
commit, raise cause 0x1A (R118, R328, R329, R351, R352, R356 to R358). -/
def Obligations.PhasersAdvanceAndSynchronise : Prop :=
  (∀ (s : State) (id : Nat) (p q : Phaser), id < 2 ^ 31 → liveAt s id p →
    (∀ m t n, settlesIn 4 (signalled p m t n) q → phaserEvent s (s.signal id m t n) id p q) ∧
    (∀ t, settlesIn 4 { p with deliveries := p.deliveries.set t (p.deliveries.get 0 t + 1) } q → phaserEvent s (s.deliver id t) id p q) ∧
    (∀ m, settlesIn 4 { p with members := p.members.del m } q → phaserEvent s (s.settlePhaser id { p with members := p.members.del m }) id p q)) ∧
  ∀ (s : State) (g : Guard) (d a b : BitVec 5) (th : Nat) (side : Side), s.cur = .task th side → s.selected g = true →
    let id := (s.reg a).toNat
    let y := (s.reg b).toNat
    let m := (s.thread th).member
    let ops : List Instr := [.phwait g d a b, .phsig g d a b, .phnext g d a b, .phreg g d a b, .phdrop g d a b, .phread g d a b]
    (∀ i ∈ ops, Issues i s → (∀ p, ¬namesPhaser s th (s.reg a) p) → exec i s = raise0 0x1A s) ∧
    (∀ p, namesPhaser s th (s.reg a) p →
      (Issues (.phwait g d a b) s →
        (s.ctx.kept = [] → (∀ e, p.members.get? m = some e → e.1 / 2 % 2 = 0) → exec (.phwait g d a b) s = raise0 0x1A s) ∧
        (s.ctx.kept ≠ [] ∨ (∃ e, p.members.get? m = some e ∧ e.1 / 2 % 2 = 1) →
          ((p.phase - BitVec.ofNat 32 y).toNat < 2 ^ 31 → Completes ((s.setReg d (BitVec.ofNat 64 p.phase.toNat)).acquire p.scope) (exec (.phwait g d a b) s)) ∧
          (2 ^ 31 ≤ (p.phase - BitVec.ofNat 32 y).toNat → waitsFor (.phase id (y % 2 ^ 32)) s (exec (.phwait g d a b) s)))) ∧
      (∀ i, i = .phsig g d a b ∨ i = .phnext g d a b → Issues i s → s.ctx.stage = 0 → s.ctx.kept = [] →
        (∀ e, p.members.get? m = some e → e.1 % 2 = 0) ∨ (y ≠ 0 ∧ p.counting = false) ∨ (m, phaseOf p m) ∈ p.signalled → exec i s = raise0 0x1A s) ∧
      (∀ t, signalStart s p m y t → (s.thread th).post = true →
        (Issues (.phsig g d a b) s → Completes ((s.signal id m t y).setReg d (BitVec.ofNat 64 t.toNat)) (exec (.phsig g d a b) s)) ∧
        (∀ q, Issues (.phnext g d a b) s → settlesIn 4 (signalled p m t y) q →
          (q.broken = true ∨ (∀ e, p.members.get? m = some e → e.1 / 2 % 2 = 0) →
            ∃ r, exec (.phnext g d a b) s = raise0 0x1A r ∧ r = { s.signal id m t y with ctxs := r.ctxs } ∧ r.ctx.held = (s.signal id m t y).ctx.held) ∧
          (q.broken = false → (∃ e, p.members.get? m = some e ∧ e.1 / 2 % 2 = 1) →
            ((q.phase - (t + 1)).toNat < 2 ^ 31 → Completes (((s.signal id m t y).setReg d (BitVec.ofNat 64 q.phase.toNat)).acquire p.scope) (exec (.phnext g d a b) s)) ∧
            (2 ^ 31 ≤ (q.phase - (t + 1)).toNat → waitsFor (.phase id (t + 1).toNat) (s.signal id m t y) (exec (.phnext g d a b) s) ∧
              ∀ u, exec (.phnext g d a b) s = .next u → u.ctx.stage = 4 ∧ u.ctx.keep = BitVec.ofNat 64 (t + 1).toNat)))) ∧
      (Issues (.phnext g d a b) s → s.ctx.stage = 4 → (p.phase - BitVec.ofNat 32 s.ctx.keep.toNat).toNat < 2 ^ 31 →
        Completes ((s.setReg d (BitVec.ofNat 64 p.phase.toNat)).acquire p.scope) (exec (.phnext g d a b) s)) ∧
      (Issues (.phreg g d a b) s →
        ((s.thread th).post = false ∨ 2 ^ 18 ≤ y ∨ y / 2 ^ 16 % 4 = 0 ∨ (p.members.get? (y % 2 ^ 16)).isSome = true → exec (.phreg g d a b) s = raise0 0x1A s) ∧
        ((s.thread th).post = true → y < 2 ^ 18 → y / 2 ^ 16 ≠ 0 → p.members.get? (y % 2 ^ 16) = none →
          ∀ first : BitVec 32, ((∃ k, expectedNow p k) → first = p.phase + 1) → ((∀ k, ¬expectedNow p k) → first = p.phase) →
            Completes ((putPhaser id { p with members := p.members.set (y % 2 ^ 16) (y / 2 ^ 16, first) } s).setReg d
              (if y / 2 ^ 16 = 2 then BitVec.allOnes 64 else BitVec.ofNat 64 first.toNat)) (exec (.phreg g d a b) s))) ∧
      (Issues (.phdrop g d a b) s →
        (p.members.get? (y % 2 ^ 16) = none → exec (.phdrop g d a b) s = raise0 0x1A s) ∧
        ((p.members.get? (y % 2 ^ 16)).isSome = true → (s.thread th).post = true → (s.ctx.stage = 0 ∧ settledHere s) ∨ s.ctx.stage = 2 ∨ s.ctx.stage = 3 →
          (¬expectedNow p (y % 2 ^ 16) ∨ (y % 2 ^ 16, p.phase) ∈ p.signalled →
            Completes ((putPhaser id { p with members := p.members.del (y % 2 ^ 16) } s).setReg d (BitVec.ofNat 64 p.phase.toNat)) (exec (.phdrop g d a b) s)) ∧
          (∀ q, expectedNow p (y % 2 ^ 16) → (y % 2 ^ 16, p.phase) ∉ p.signalled → settlesIn 4 { p with members := p.members.del (y % 2 ^ 16) } q →
            Completes ((s.settlePhaser id { p with members := p.members.del (y % 2 ^ 16) }).setReg d (BitVec.ofNat 64 q.phase.toNat)) (exec (.phdrop g d a b) s)))) ∧
      (Issues (.phread g d a b) s →
        (y = 0 → p.members.length < 2 ^ 16 → ∃ v : Word, Completes (s.setReg d v) (exec (.phread g d a b) s) ∧ bitsAt v 63 32 = p.phase.toNat ∧
          bitsAt v 15 0 = (p.members.filter (fun x => decide (x.2.1 % 2 = 1))).length ∧
          bitsAt v 31 16 = (p.members.filter (fun x => decide (x.2.1 % 2 = 1 ∧ (p.phase - x.2.2).toNat < 2 ^ 31 ∧ (x.1, p.phase) ∉ p.signalled))).length) ∧
        (y = 1 → p.counting = true → ∃ v : Word, Completes (s.setReg d v) (exec (.phread g d a b) s) ∧ bitsAt v 63 32 = min 0xFFFFFFFF (p.sums.get 0 p.phase) ∧
          bitsAt v 31 0 = min 0xFFFFFFFF (p.deliveries.get 0 p.phase)) ∧
        (2 ≤ y ∨ (y = 1 ∧ p.counting = false) → exec (.phread g d a b) s = raise0 0x1A s)) ∧
      (Issues (.phfree g d a) s → (s.thread th).post = true →
        let busy : Prop := (∃ c ∈ s.ctxs, ∃ w ph, c.2.wait = some w ∧ w.cond = .phase id ph) ∨ ∃ c ∈ s.clusters, ∃ t ∈ c.2.tracers, t.2.d.sig = true ∧ t.2.d.phaser = id
        (busy → Completes (s.setReg d 0) (exec (.phfree g d a) s)) ∧
        (¬busy → Completes ((putPhaser id { p with live := false, gen := (p.gen + 1) % 512 } s).setReg d 1) (exec (.phfree g d a) s)))) ∧
    (Issues (.phfree g d a) s → (∀ p, ¬namesPhaser s th (s.reg a) p) → exec (.phfree g d a) s = raise0 0x1A s) ∧
    (∀ i, i = .phnew g d a ∨ i = .phfree g d a → Issues i s → (s.thread th).post = false → exec i s = raise0 0x1A s) ∧
    (Issues (.phnew g d a) s → (s.thread th).post = true →
      (2 ^ 32 ≤ id ∨ id / 64 % 1024 ≠ 0 ∨ id % 8 = 7 ∨ (id / 16 % 4 = 0 ∧ 2 ^ 16 ≤ id) → exec (.phnew g d a) s = raise0 0x1A s) ∧
      (id < 2 ^ 32 → id / 64 % 1024 = 0 → id % 8 ≠ 7 → id / 16 % 4 ≠ 0 ∨ id < 2 ^ 16 →
        let tree : Prop := 4 ≤ id % 8
        let home := if tree then (s.launch (s.thread th).launch).origin else th / 64 / 256
        let table := if tree then s.treePhasers else (s.sheet home).phasers
        let size := if tree then 256 else 4096
        let taken := fun (n : Nat) => ∃ q, table.get? n = some q ∧ q.live = true
        ((∀ n, n < size → taken n) → Completes (s.setReg d 0) (exec (.phnew g d a) s)) ∧
        (∀ k, k < size → (∀ n, n < k → taken n) → ¬taken k →
          let gen := ((table.get? k).map Phaser.gen).getD 0
          home < 32 → gen < 512 →
          ∃ (r : State) (q : Phaser), Completes (r.setReg d (BitVec.ofNat 64 ((if tree then 2 ^ 30 else 0) + home * 2 ^ 25 + gen * 2 ^ 16 + k))) (exec (.phnew g d a) s) ∧
            r = (if tree then { s with treePhasers := s.treePhasers.set k q } else s.mapSheet home (fun h => { h with phasers := h.phasers.set k q })) ∧ q.live = true ∧ q.gen = gen ∧
            q.phase = 0 ∧ q.scope = id % 8 ∧ q.counting = decide (id / 8 % 2 = 1) ∧ q.launch = (s.thread th).launch ∧ q.broken = false ∧ q.signalled = [] ∧
            ∀ n, q.members.get? n = if n < id / 2 ^ 16 then some (id / 16 % 4, 0) else none)))


namespace Sys2Proof.Claims

/-! ### Tasks, plates, the dispatcher and links -/

/-- A counter after an addition (R354): below 0 it stays at 0, above 2^31 - 1 at 2^31 - 1, and both set UNDER. -/
def counterAfter (c : Nat × Bool) (d : Int) : Nat × Bool :=
  if (c.1 : Int) + d < 0 then (0, true) else if 2 ^ 31 - 1 < (c.1 : Int) + d then (2 ^ 31 - 1, true) else (((c.1 : Int) + d).toNat, c.2)

/-- The value of a counter read as a word (R354). -/
def counterWord (c : Nat × Bool) : Word := BitVec.ofNat 64 ((if c.2 then 2 ^ 63 else 0) + c.1)

/-- The low 32 bits of a word as a signed number. -/
def signed32 (x : Word) : Int := if x.toNat % 2 ^ 32 < 2 ^ 31 then (x.toNat % 2 ^ 32 : Nat) else ((x.toNat % 2 ^ 32 : Nat) : Int) - 2 ^ 32

/-- The edges of R404: an id of 7 bits, sheet * 4 + direction, named also from the sheet at its other end. The canonical id, and the sheets that it joins. -/
def edgeNamed (x : Word) : Option (Nat × Nat × Nat) :=
  let n := x.toNat / 4
  if 128 ≤ x.toNat then none
  else match x.toNat % 4 with
    | 0 => if n % 8 = 7 then none else some (4 * n, n, n + 1)
    | 1 => if n / 8 = 3 then none else some (4 * n + 1, n, n + 8)
    | 2 => if n % 8 = 0 then none else some (4 * (n - 1), n - 1, n)
    | _ => if n / 8 = 0 then none else some (4 * (n - 8) + 1, n - 8, n)

/-- The launch of a task covers both sheets of an edge (R407). -/
def coversEdge (s : State) (th : Nat) (x : Nat × Nat × Nat) : Bool := let l := s.launch (s.thread th).launch; l.covers x.2.1 && l.covers x.2.2

end Sys2Proof.Claims

/-- TARG, TSHAPE, TSELF and TLATE read the task's item, its shape, its place in the team and the time to its deadline. TDEP adds to a counter with its clamps, and a counter at 0 makes the
items held on it ready; TCTR reads one; an index of 0 or above 16,383 raises cause 0x1A. TSPAWN snapshots an item, gives it to intake, and waits while the pool is full. PGLD loads; PSTAT reads the
plate of a task type; PDROP and PNOREC end it (R326, R327, R354, R355, R399 to R403). -/
def Obligations.TaskAndPlateInstructions : Prop :=
  ∀ (s : State) (g : Guard) (d a b : BitVec 5) (n : BitVec 3) (th : Nat) (side : Side), s.cur = .task th side → s.selected g = true →
    let t := s.thread th
    let it := s.item t.itemSheet t.item
    let sh := th / 8 / 2048
    let x := (s.reg a).toNat
    let y := (s.reg b).toNat
    let field := it.shape.toNat / 2 ^ (16 * y) % 2 ^ 16
    (Issues (.targ g d n) s → Completes (s.setReg d (it.words.getD (8 + n.toNat) 0)) (exec (.targ g d n) s)) ∧
    (Issues (.tself g d) s → t.segment < 2 ^ 16 → t.rank < 2 ^ 16 → 1 ≤ it.members.length → it.members.length ≤ 2 ^ 16 →
      Completes (s.setReg d (BitVec.ofNat 64 (t.segment * 2 ^ 32 + (it.members.length - 1) * 2 ^ 16 + t.rank))) (exec (.tself g d) s)) ∧
    (Issues (.tlate g d) s → Completes (s.setReg d (if t.deadline = 0 then 0x7FFFFFFFFFFFFFFF else t.deadline - s.cycle)) (exec (.tlate g d) s)) ∧
    (Issues (.tshape g d a b) s →
      (32 ≤ y → exec (.tshape g d a b) s = raise0 0x1B s) ∧ (y < 32 → a = 0 → Completes (s.setReg d (BitVec.ofNat 64 field)) (exec (.tshape g d a b) s)) ∧
      (y < 32 → a ≠ 0 → 0x18000 < x + 64 → exec (.tshape g d a b) s = raise 0x08 (s.reg a) s) ∧
      (y < 32 → a ≠ 0 → x + 64 ≤ 0x18000 → x % 64 ≠ 0 → exec (.tshape g d a b) s = raise 0x05 (s.reg a) s) ∧
      (y < 32 → a ≠ 0 → x + 64 ≤ 0x18000 → x % 64 = 0 → t.post = true ∨ x + 64 ≤ it.linputOff ∨ it.linputOff + it.linputLen ≤ x →
        Completes ((s.putLocal (th / 8) x ((List.range 64).map (fun k => BitVec.ofNat 8 (it.shape.toNat / 2 ^ (8 * k) % 256)))).setReg d (BitVec.ofNat 64 field))
          (exec (.tshape g d a b) s))) ∧
    (∀ i, i = .tdep g d a b ∨ i = .tctr g d a → Issues i s → x = 0 ∨ 2 ^ 14 ≤ x → exec i s = raise0 0x1A s) ∧
    (0 < x → x < 2 ^ 14 →
      let c := (s.sheet sh).counters.get (0, false) (t.launch, x)
      (Issues (.tdep g d a b) s → t.post = true → settledHere s → s.ctx.stage = 0 → ∃ r : State,
        Completes (r.setReg d (counterWord (counterAfter c (signed32 (s.reg b))))) (exec (.tdep g d a b) s) ∧ r = { s with sheets := r.sheets } ∧
        (r.sheet sh).counters.get (0, false) (t.launch, x) = counterAfter c (signed32 (s.reg b)) ∧
        (∀ k, k ≠ (t.launch, x) → (r.sheet sh).counters.get (0, false) k = (s.sheet sh).counters.get (0, false) k) ∧
        (r.sheet sh).items = (s.sheet sh).items.map (fun p =>
          if (counterAfter c (signed32 (s.reg b))).1 = 0 ∧ p.2.launch = t.launch ∧ p.2.gate = x ∧ p.2.st = .held then (p.1, { p.2 with st := .ready }) else p) ∧
        ∀ h, h ≠ sh → r.sheet h = s.sheet h) ∧
      (Issues (.tctr g d a) s → c.1 < 2 ^ 31 → ∃ v : Word, Completes (s.setReg d v) (exec (.tctr g d a) s) ∧ bitsAt v 31 0 = c.1 ∧ v.getLsbD 63 = c.2 ∧
        bitsAt v 62 32 = min (2 ^ 31 - 1) ((s.sheet sh).items.filter (fun p => decide (p.2.launch = t.launch ∧ p.2.gate = x ∧ p.2.st = .held))).length)) ∧
    (Issues (.tspawn g d a b) s → x % 128 ≠ 0 → exec (.tspawn g d a b) s = raise 0x05 (s.reg a) s) ∧
    (let sub := fun (bs : List Byte) => { Submission.ofVa 0 t.launch with
        words := (List.range 16).map (fun k => BitVec.ofNat 64 (leAt bs (8 * k) 8)), a0 := some (s.reg b), fromTask := true }
      let taken := fun (bs : List Byte) (v : State) =>
        (∀ c r, v.intake sh (sub bs) = (.ok c, r) → Completes (r.setReg d (BitVec.ofNat 64 c)) (exec (.tspawn g d a b) s)) ∧
        (∀ h r, v.intake sh (sub bs) = (.error (.pool h), r) → waitsFor (.pool h) r (exec (.tspawn g d a b) s)) ∧
        (∀ r, v.intake sh (sub bs) = (.error .retry, r) → waitsFor (.cycle (r.cycle.toNat + 64)) r (exec (.tspawn g d a b) s))
      Issues (.tspawn g d a b) s → x % 128 = 0 → t.post = true →
        (∀ l pa u, (s.ctx.stage = 0 ∧ settledHere s) ∨ s.ctx.stage = 2 ∨ s.ctx.stage = 3 →
          s.translate s.clusterId (s.asidOf s.cur) x .load (s.coreSecure s.coreId) = (.page l pa, u) → u.moving pa = false → u.poisoned pa 128 = false → u.ctxs = s.ctxs →
          u.threads = s.threads → u.launches = s.launches → u.cur = s.cur →
          taken (u.homeBytes pa 128) ((u.countUnbacked pa).readPass s.clusterId pa (if t.deadline = 0 then none else some (bitsAt t.deadline 33 18)))) ∧
        (s.ctx.stage = 4 → taken s.ctx.kept s)) ∧
    (∀ (b : Submission), Config.poolSize ≤ (s.sheet sh).pool → s.intake sh b = (.error (.pool sh), s)) ∧
    (∀ (b : Submission) (v : State), (∀ h, (v.sheet h).pool < Config.poolSize) → (∀ h ∈ v.sheets, h.2.moves = []) → ∃ c r, v.intake sh b = (.ok c, r)) ∧
    (∀ bs u, Issues (.pgld g d a b) s → s.load (s.reg a + s.reg b).toNat 8 0 0 0 = .ok bs u → Completes (u.setReg d (BitVec.ofNat 64 (leNat bs.1))) (exec (.pgld g d a b) s)) ∧
    (s.reg a = 0 → t.recd = none →
      let entry := (it.word 1, it.word 0, bitsAt (it.word 4) 15 0)
      let h := s.sheet sh
      let plates := h.plates.filter (fun p => decide (p.entryC = entry.1 ∧ p.entryA = entry.2.1 ∧ p.legend = entry.2.2 ∧ p.st ≠ 3))
      let ty := h.plateTypes.get { reason := 0, norec := false } entry
      let setType := fun (v : Bool) (s : State) => s.mapSheet sh (fun h => { h with plateTypes := h.plateTypes.set entry { ty with norec := v } })
      (Issues (.pstat g d a) s → ty.reason < 256 → (plates = [] ∨ ty.norec = true →
          Completes (s.setReg d (BitVec.ofNat 64 (ty.reason * 2 ^ 56 + if ty.norec then 3 * 2 ^ 48 else 0))) (exec (.pstat g d a) s)) ∧
        (∀ p, plates = [p] → ty.norec = false → p.st = 2 → p.entries.length ≤ 1024 → p.guards.length ≤ 64 → p.fallbacks < 4096 → p.prints < 4096 →
          ∃ v : Word, Completes (s.setReg d v) (exec (.pstat g d a) s) ∧ bitsAt v 63 56 = ty.reason ∧ bitsAt v 49 48 = 2 ∧ bitsAt v 47 32 = p.entries.length ∧
            bitsAt v 31 24 = p.guards.length ∧ bitsAt v 23 12 = p.fallbacks ∧ bitsAt v 11 0 = p.prints)) ∧
      (plates = [] → (Issues (.pdrop g d a) s → Completes ((setType false s).setReg d 0) (exec (.pdrop g d a) s)) ∧
        (Issues (.pnorec g d a) s → Completes ((setType true s).setReg d 0) (exec (.pnorec g d a) s))) ∧
      (∀ p, plates = [p] → p.st = 2 →
        let spoiled := s.mapSheet sh (fun h => { h with plates := (h.plates.map (fun q => if q.serial = p.serial then { q with st := 3 } else q)).filter (fun q => decide (q.st ≠ 3 ∨ q.pinned ≠ 0)) })
        (Issues (.pdrop g d a) s → Completes ((setType false spoiled).setReg d 1) (exec (.pdrop g d a) s)) ∧
        (Issues (.pnorec g d a) s → Completes ((setType true spoiled).setReg d 0) (exec (.pnorec g d a) s))))

/-- Intake takes the oldest submission while the pool has room: an item without a finding is ready, or held while its gate counter is not 0. A dispatch cycle discards a late ready item with
status 256. A placed member starts with the state of R53 once its input is copied, or returns its item to READY with a record where the copy fails. A task that has ended leaves its slot,
and its item is final when every member has ended. The governor acts once in 1,024 cycles, a sweep once in 2^16, and the watchdog at 65,536 words (R331, R340 to R348, R353, R362). -/
def Obligations.TheDispatcherRunsItems : Prop :=
  (∀ (s : State) (h : Nat) (b : Submission) (rest : List Submission) (lg : List Byte), (s.sheet h).lost = false → (s.sheet h).intakeQ = b :: rest → (s.sheet h).pool < Config.poolSize → b.words.length = 16 →
    b.a0 = none → b.a1 = none → b.svitem = false → b.combine = none → b.tile = none →
    let it := b.item b.words (s.sheet h).nextItem
    let n := (s.sheet h).nextItem
    (it.entryC = 0 → ∃ t, exec (.itemIntake h) s = .next t ∧ (t.item h n).st = .final ∧ (t.item h n).status = 0x31B ∧ (t.sheet h).intakeQ = rest) ∧
    (s.itemFinding it = none → it.shapeVa = 0 → s.legendOf it = lg → legendCovers lg h = true →
      (it.team lg ≠ [] ∧ it.member + (it.team lg).length ≤ 2 ^ 16 ∧ (it.pin = none ∨ (it.team lg).length = 1)) → ∃ t, exec (.itemIntake h) s = .next t ∧ (t.sheet h).intakeQ = rest ∧
        t.item h n = { it with members := it.team lg, st := if it.gate ≠ 0 ∧ ((s.sheet h).counters.get (0, false) (b.launch, it.gate)).1 ≠ 0 then .held else .ready } ∧ (t.sheet h).nextItem = n + 1 ∧ t.mem = s.mem)) ∧
  (∀ (s : State) (h : Nat), (∀ p ∈ (s.sheet h).items, p.2.st ≠ .ready) → exec (.dispatchCycle h) s = .next s) ∧
  (∀ (s : State) (h i : Nat) (it : Item), (s.sheet h).items = [(i, it)] → it.st = .ready → h ∉ (s.launch it.launch).drained →
    (∃ k, k < 32 ∧ legendCovers (s.legendOf it) k = true ∧ k ∉ (s.launch it.launch).drained) → it.members ≠ [] → (∀ m ∈ it.members, m.2.2 = 0) → it.late = 0 →
    it.deadline ≠ 0 → it.deadline.toNat < s.cycle.toNat → it.ended = [] →
    ∃ t, exec (.dispatchCycle h) s = .next t ∧ (t.item h i).st = .final ∧ (t.item h i).status = 256) ∧
  (∀ (s : State) (th : Nat), (s.thread th).st = .placing →
    let t := s.thread th
    let it := s.item t.itemSheet t.item
    let l := s.launch t.launch
    let input := s.readVa (sheetOfThread th) l.asid it.linputAddr.toNat it.linputLen l.secure
    s.drained (.task th .c) = false →
    (∀ bs v, input = (.ok bs, v) → (v.core (th / 8)).mem.wf = true →
      ∃ u, exec (.inputCopyDone th) s = .next u ∧ (u.thread th).st = .pre ∧ (u.thread th).post = false ∧ (u.thread th).queues = l.queuesOf t.qcfg ∧ (u.thread th).prio = it.prio ∧
        (u.thread th).wake = false ∧ (u.ctxOf (.task th .c)).run = .running ∧ (u.ctxOf (.task th .c)).pc = it.entryC ∧ (∀ r, (u.ctxOf (.task th .c)).reg r = 0) ∧
        (u.ctxOf (.task th .c)).v = [] ∧ (u.ctxOf (.task th .c)).seed = 1 ∧ (u.ctxOf (.task th .c)).vshape = 0x7F0 ∧ (u.ctxOf (.task th .a)).run = .idle ∧
        (u.core (th / 8)).mem.readList it.linputOff it.linputLen = bs ∧ u.mem = v.mem) ∧
    (∀ x v c va, input = (.error (some x), v) → s.copyFault th = some (c, va) → s.ringBlocked (sheetOfThread th) = false → it.gang = false → s.follows it = false → it.st ≠ .final →
      it.holds = [] → (∃ m ∈ it.members, m.2.2 = th + 1 ∧ m.1 ∉ it.ended) → ∃ u, exec (.inputCopyFault th) s = .next u ∧ (u.thread th).st = .empty ∧ (u.item t.itemSheet t.item).st = .ready ∧
        u.mem = (s.recordOf (sheetOfThread th) c (if t.post then 5 else 1) (addrOf (.task th .c)) (BitVec.ofNat 64 va)).mem)) ∧
  (∀ (s : State) (th : Nat), (s.thread th).st = .ending → s.aIdle th = true → s.jobsDone th = true →
    let t := s.thread th
    let it := s.item t.itemSheet t.item
    ((∀ e ∈ (s.core (th / 8)).l1, e.dirty = 0) → s.net = [] → it.st ≠ .final → it.tile = none →
      ∃ u, exec (.taskEndComplete th) s = .next u ∧ (u.thread th).st = .empty ∧ (u.item t.itemSheet t.item).ended = it.ended ++ [t.rank] ∧ u.mem = s.mem ∧
        (it.ended.length + 1 = it.members.length → (u.item t.itemSheet t.item).st = .final ∧ (u.item t.itemSheet t.item).status = 0))) ∧
  (∀ (s : State) (h : Nat), (s.sheet h).gov < s.cycle.toNat / 1024 → ∃ t, exec (.governorTick h) s = .next t ∧ (t.sheet h).gov = s.cycle.toNat / 1024 ∧ t = { s with sheets := t.sheets } ∧
    ((∀ st, st < 16 → s.stageReady h st ≤ bitsAt ((s.sheet h).stqcfg.get 0 st) 57 44) → (t.sheet h).quota = (s.sheet h).quota)) ∧
  (∀ (s : State) (h : Nat), (s.sheet h).swept < s.cycle.toNat / 2 ^ 16 → s.moving (s.sheet h).deadlockArea = false →
    ∃ t, exec (.deadlockSweep h) s = .next t ∧ (t.sheet h).swept = s.cycle.toNat / 2 ^ 16 ∧ t.ctxs = s.ctxs ∧
    ((∀ l ∈ s.launches, l.2.live = true → l.2.origin = h → l.2.drained ≠ []) → (t.sheet h).quiet = 0 ∧ t.mem = s.mem) ∧
    (∀ l k, s.launches.find? (fun p => decide (p.2.live = true ∧ p.2.origin = h ∧ p.2.drained = [])) = some (l, k) →
      (s.atRest l = false → (t.sheet h).quiet = 0 ∧ t.mem = s.mem) ∧ (s.atRest l = true → (s.sheet h).quiet = 0 → (t.sheet h).quiet = 1 ∧ t.mem = s.mem))) ∧
  (∀ (s : State) (th : Nat) (side : Side), s.ready (.task th side) = true → (s.thread th).post = true → 65536 ≤ (s.ctxOf (.task th side)).words →
    exec (.watchdogExpire th side) s = raise0 0x1C { s with cur := .task th side }) ∧
  (∀ (s : State) (th : Nat) (p : Printing), (s.thread th).print = some p → (s.thread th).st = .post → (s.core (th / 8)).frozen = false → (s.core (th / 8)).retired = false →
    (s.ctxOf (.task th .c)).wait = none → s.drained (.task th .c) = false → (∀ q ∈ (s.sheet (sheetOfThread th)).plates, q.bad = false) →
    (p.entries.length ≤ p.next → ∃ t, exec (.printEntryIssue th) s = .next t ∧ (t.thread th).st = .ending ∧ (t.thread th).print = none ∧ (t.ctxOf (.task th .c)).run = .ended) ∧
    (∀ e, p.entries[p.next]? = some e → e.typ = 3 → p.jobs.getD e.arg 0 = 0 → ∃ t, exec (.printEntryIssue th) s = .next t ∧ (t.thread th).print = some { p with next := p.next + 1 } ∧ t.mem = s.mem))

/-- LTURN takes an edge and a number of groups from 2 to 30; an edge outside the launch's rectangle, or a number that leaves a direction fewer than 2 usable groups, is denied; otherwise the
command is queued, at most 8 of them, and its ticket written; one that waits for room has passed these checks. A command to an edge of the other world raises cause 0x09. LSTAT reads the edge and the ticket's state, LQUIET waits for the last command. A group that turns leaves its direction, is
dark for 34 cycles, and then points the other way, or is retired with a record; a sheet is lost when every edge to it has fewer than 2 groups, of which the model counts those toward the sheet (log 59); and link training changes
the trained bit alone, which is the model's reading (log 124) (R404 to R407, R411 to R415, R423). -/
def Obligations.LaneGroupsTurn : Prop :=
  (∀ (s : State) (g : Guard) (d a b : BitVec 5) (th : Nat) (side : Side), s.cur = .task th side → s.selected g = true →
    let n := (s.reg b).toNat
    (∀ i, i = .lturn g d a b ∨ i = .lstat g d a b ∨ i = .lquiet g d a → Issues i s → edgeNamed (s.reg a) = none → exec i s = raise0 0x1B s) ∧
    (∀ x, edgeNamed (s.reg a) = some x →
      let e := s.edge x.1
      let secure := (s.launch (s.thread th).launch).secure
      (Issues (.lturn g d a b) s → s.ctx.stage ≠ 1 → n < 2 ∨ 30 < n → exec (.lturn g d a b) s = raise0 0x1B s) ∧
      (Issues (.lturn g d a b) s → s.ctx.stage ≠ 1 → 2 ≤ n → n ≤ 30 → secure ≠ e.world → exec (.lturn g d a b) s = raise0 0x09 s) ∧
      (Issues (.lturn g d a b) s → s.ctx.stage ≠ 1 → (s.thread th).post = true → 2 ≤ n → n ≤ 30 → secure = e.world →
        (coversEdge s th x = false → Completes (s.setReg d (BitVec.ofNat 64 (2 ^ 63 + 2 ^ 61 + x.1 * 2 ^ 16))) (exec (.lturn g d a b) s)) ∧
        (coversEdge s th x = true → e.retired ≤ 30 → 32 < n + e.retired + 2 →
          Completes (s.setReg d (BitVec.ofNat 64 (2 ^ 63 + 2 * 2 ^ 61 + x.1 * 2 ^ 16))) (exec (.lturn g d a b) s))) ∧
      (Issues (.lturn g d a b) s → (s.thread th).post = true →
          (s.ctx.stage = 1 ∨ (2 ≤ n ∧ n ≤ 30 ∧ secure = e.world ∧ coversEdge s th x = true ∧ n + e.retired + 2 ≤ 32)) →
          (8 ≤ e.queue.length → waitsFor (.edgeRoom x.1) s (exec (.lturn g d a b) s) ∧ ∀ u, exec (.lturn g d a b) s = .next u → u.ctx.stage = 1) ∧
          (e.queue.length < 8 → ∃ r : State, Completes (r.setReg d (BitVec.ofNat 64 (x.1 * 2 ^ 16 + e.seq))) (exec (.lturn g d a b) s) ∧
            r = { s with edges := r.edges } ∧ (r.edge x.1).seq = (if e.seq = 0xFFFF then 1 else e.seq + 1) ∧ (r.edge x.1).pos = e.pos ∧ (r.edge x.1).neg = e.neg ∧
            (∀ k, k ≠ x.1 → r.edge k = s.edge k) ∧ (e.queue ≠ [] → (r.edge x.1).queue = e.queue ++ [(n, e.seq)] ∧ (r.edge x.1).left = e.left) ∧
            (e.queue = [] → n ≠ e.pos → 3 ≤ e.pos → 3 ≤ e.neg → (r.edge x.1).queue = [(n, e.seq)] ∧ (r.edge x.1).leftPos = decide (e.pos < n) ∧
              (r.edge x.1).left = if e.pos < n then min (n - e.pos) (e.neg - 2) else min (e.pos - n) (e.pos - 2)))) ∧
      (Issues (.lstat g d a b) s → e.pos < 32 → e.queue.length ≤ 8 → e.dark.length ≤ 4 → (∀ c ∈ e.queue, c.1 < 32) → (e.starts.filter (fun t => decide (s.cycle.toNat < t + 7000))).length ≤ 16 →
        e.retired < 32 → e.done < 2 ^ 16 → s.reg b = 0 → ∃ v : Word, Completes (s.setReg d v) (exec (.lstat g d a b) s) ∧ bitsAt v 4 0 = e.pos ∧
          bitsAt v 9 5 = ((e.queue.getLast?).map Prod.fst).getD e.pos ∧ bitsAt v 15 12 = e.queue.length ∧ bitsAt v 18 16 = e.dark.length ∧
          bitsAt v 34 19 = (e.starts.filter (fun t => decide (s.cycle.toNat < t + 7000))).length ∧ bitsAt v 39 35 = e.retired ∧ bitsAt v 55 40 = e.done ∧ v.getLsbD 61 = false ∧
          v.getLsbD 62 = decide (e.retired ≠ 0) ∧ v.getLsbD 63 = coversEdge s th x) ∧
      (Issues (.lstat g d a b) s → n ≠ 0 → n / 2 ^ 16 % 128 ≠ x.1 → exec (.lstat g d a b) s = raise0 0x1B s) ∧
      (Issues (.lquiet g d a) s → s.ctx.stage = 0 →
        (e.queue = [] → ∃ v : Word, Completes (s.setReg d v) (exec (.lquiet g d a) s)) ∧
        ∀ c, e.queue.getLast? = some c → waitsFor (.edgeDone x.1 c.2) s (exec (.lquiet g d a) s)))) ∧
  (∀ (s : State) (x : Nat),
    let e := s.edge x
    (0 < e.left → e.dark.length < 4 → (e.starts.filter (fun t => decide (s.cycle.toNat < t + 7000))).length < 16 → 3 ≤ (if e.leftPos then e.neg else e.pos) →
      ∃ t, exec (.turnGroupStart x) s = .next t ∧ t = { s with edges := t.edges } ∧ (t.edge x).dark = e.dark ++ [(s.cycle.toNat + 34, e.leftPos)] ∧ (t.edge x).left = e.left - 1 ∧
        (t.edge x).pos = (if e.leftPos then e.pos else e.pos - 1) ∧ (t.edge x).neg = (if e.leftPos then e.neg - 1 else e.neg)) ∧
    (∀ n up rest, e.dark = (n, up) :: rest → n ≤ s.cycle.toNat → e.left ≠ 0 ∨ rest ≠ [] →
      (∃ t, exec (.turnGroupRetrain x true) s = .next t ∧ t = { s with edges := t.edges } ∧ (t.edge x).dark = rest ∧ (t.edge x).retired = e.retired ∧
        (t.edge x).pos = (if up then e.pos + 1 else e.pos) ∧ (t.edge x).neg = (if up then e.neg else e.neg + 1)) ∧
      ∃ t, exec (.turnGroupRetrain x false) s = .next t ∧ (t.edge x).dark = rest ∧ (t.edge x).retired = e.retired + 1 ∧ (t.edge x).pos = e.pos ∧ (t.edge x).neg = e.neg ∧
        (s.ringBlocked (x / 4) = false → (t.sheet (x / 4)).evhead = (s.sheet (x / 4)).evhead + 1))) ∧
  (∀ (s : State) (p : Nat), p < 32 →
    (p ∉ s.meridian → exec (.meridianLinkTraining p true) s = .next { s with meridian := p :: s.meridian }) ∧
    (p ∈ s.meridian → exec (.meridianLinkTraining p false) s = .next { s with meridian := s.meridian.filter (fun q => decide (q ≠ p)) })) ∧
  ∀ (s : State) (h : Nat), h < 32 → (s.sheet h).lost = false →
    (∀ k x, k < 4 → edgeNamed (BitVec.ofNat 64 (4 * h + k)) = some x → (if k < 2 then (s.edge x.1).neg else (s.edge x.1).pos) < 2) →
    ∃ t, exec (.sheetLost h) s = .next t ∧ (t.sheet h).lost = true


namespace Sys2Proof.Claims

/-! ### The Compass and layer transactions -/

/-- The transaction that an id names for a launch: class 00, bits [15:8] zero, the home in [29:25], its GEN in [24:16], and its INDEX in [7:0] (R351, R424). -/
def namesTransaction (s : State) (l id : Nat) (t : Lx) : Prop :=
  id < 2 ^ 30 ∧ id / 2 ^ 8 % 2 ^ 8 = 0 ∧ t = (s.sheet (id / 2 ^ 25 % 32)).lxs.get Lx.none (id % 2 ^ 8) ∧ t.live = true ∧ t.gen = id / 2 ^ 16 % 2 ^ 9 ∧ t.launch = l

/-- A sheet participates in a transaction with a rank: its launch's rectangle holds the sheet, and the participants' word has the bit of the sheet's rank (R421). -/
def participates (s : State) (t : Lx) (sh r : Nat) : Prop :=
  (s.launch t.launch).covers sh = true ∧ (s.launch t.launch).rankOf sh = r ∧ r < 64 ∧ (leAt t.desc 0 8).testBit r = true

/-- A transaction descriptor that obeys the limits of R421, field by field. -/
def legalTransaction (bs : List Byte) : Prop :=
  let f := leAt bs
  f 0 8 ≠ 0 ∧ f 0x10 8 % 128 = 0 ∧ f 0x18 8 % 256 = 0 ∧ f 0x20 8 % 128 = 0 ∧ f 0x28 8 % 128 = 0 ∧ 1 ≤ f 0x30 4 ∧ f 0x30 4 ≤ 2 ^ 24 ∧ 1 ≤ f 0x34 2 ∧
  f 0x34 2 ≤ 4096 ∧ 1 ≤ f 0x36 1 ∧ f 0x36 1 ≤ 8 ∧ f 0x37 1 < 4 ∧ f 0x3A 6 = 0

/-- The next inbox entry of a sheet's Compass holds a header, field by field, and a tile; INHEAD counts it, and the rest of the scratchpad is as before (R417, R418). -/
def inboxTakes (k k' : Compass) (id bases ty rows cols rank last : Nat) (tile : List Byte) : Prop :=
  let e := 0x30000 + 1024 * (k.inhead.toNat % 64)
  let f := fun o n => leNat (k'.pad.readList (e + o) n)
  k' = { k with pad := k'.pad, inhead := k.inhead + 1 } ∧ f 0 4 = id ∧ f 4 4 = bases ∧ f 8 1 = ty ∧ f 9 1 = rows ∧ f 10 1 = cols ∧ f 11 1 = rank ∧ f 12 1 = last ∧
  f 13 3 = 0 ∧ k'.pad.readList (e + 0x200) tile.length = tile ∧
  ∀ x, (x < e ∨ e + 16 ≤ x) → (x < e + 0x200 ∨ e + 0x200 + tile.length ≤ x) → k'.pad.read x = k.pad.read x

end Sys2Proof.Claims

/-- GPUSH, RPOP, LXBEGIN and LXEND are not issued before commit. GPUSH copies 512 bytes and a header into the next inbox entry of its sheet's Compass, waits while 64 stand there, and denies
other element types, transactions that are not OPEN, and sheets that do not participate. RPOP takes the next record of the pop queue into a pair, waits for it, or reads all ones (R424 to R426). The model's readings are that sD is
INHEAD before the entry is written (log 63), and that RPOP with D = 0 writes s1 (log 65). -/
def Obligations.TilesGoToTheCompassAndRecordsComeBack : Prop :=
  ∀ (s : State) (g : Guard) (d a b : BitVec 5) (p : BitVec 4), s.selected g = true →
    let sh := s.sheetId
    let k := (s.sheet sh).compass
    let x := (s.reg b).toNat
    let id := x % 2 ^ 32
    let l := s.launchOf s.cur
    (∀ i, i = .gpush g d a b ∨ i = .rpop g p b ∨ i = .lxbegin g d a ∨ i = .lxend g d a → Issues i s → s.isPost s.cur = false → exec i s = raise0 0x1A s) ∧
    (Issues (.gpush g d a b) s → s.isPost s.cur = true →
      (s.shape.ty ∉ [0, 1, 2] → exec (.gpush g d a b) s = raise0 0x1B s) ∧
      (s.shape.ty ∈ [0, 1, 2] → (∀ t r, namesTransaction s l id t → participates s t sh r → t.st ≠ 1) → exec (.gpush g d a b) s = raise0 0x1A s) ∧
      ∀ t r, s.shape.ty ∈ [0, 1, 2] → namesTransaction s l id t → participates s t sh r → t.st = 1 →
        (64 ≤ (k.inhead - k.intail).toNat → waitsFor .inboxRoom s (exec (.gpush g d a b) s)) ∧
        ((k.inhead - k.intail).toNat < 64 → settledHere s → s.ctx.stage = 0 → k.pad.wf = true → ∃ u : State,
          Completes (u.setReg d (BitVec.ofNat 64 k.inhead.toNat)) (exec (.gpush g d a b) s) ∧ u = { s with sheets := u.sheets } ∧ (∀ h, h ≠ sh → u.sheet h = s.sheet h) ∧
          u.sheet sh = { s.sheet sh with compass := (u.sheet sh).compass } ∧
          inboxTakes k (u.sheet sh).compass id (x / 2 ^ 32) s.shape.ty s.shape.rows s.shape.cols r 0
            ((List.range 512).map (fun n => BitVec.ofNat 8 (getBytes (s.vsrc a.toNat s.qwA.2) n 1))))) ∧
    (Issues (.rpop g p b) s → s.isPost s.cur = true →
      let lo : BitVec 5 := BitVec.ofNat 5 (2 * p.toNat)
      (1 < x → exec (.rpop g p b) s = raise0 0x1B s) ∧
      (x = 0 → k.popq = [] → waitsFor .popRecord s (exec (.rpop g p b) s)) ∧
      (x = 1 → k.popq = [] → Completes ((s.setReg lo (BitVec.allOnes 64)).setReg (lo + 1) (BitVec.allOnes 64)) (exec (.rpop g p b) s)) ∧
      (x ≤ 1 → ∀ v w rest, k.popq = (v, w) :: rest → ∃ u : State,
        Completes ((u.setReg lo v).setReg (lo + 1) w) (exec (.rpop g p b) s) ∧ u = { s with sheets := u.sheets, cores := u.cores } ∧ (∀ h, h ≠ sh → u.sheet h = s.sheet h) ∧
        (∀ c, (u.core c).mem = (s.core c).mem) ∧ u.sheet sh = { s.sheet sh with compass := { k with popq := rest } }))

/-- LXBEGIN denies a misaligned or illegal descriptor, claims the lowest free INDEX of its sheet, opens the transaction there, and writes its id, or 0 where none is free. LXACK counts once for
the item that is the transaction's tile: 0 counted, 1 no tile of it or acked before, 2 no longer OPEN. LXEND marks its sheet's end behind the pushes, waits for a final state, and writes the
state word that LXSTAT reads (R351, R424, R427 to R429). That an INDEX is free again in a final state is the model's
reading (log 147), and that LXACK answers 1 before 2 where both hold (log 64). A transaction that aborts is ABORTED with its WHY; next it is CLOSED with its replay item
submitted at its home, or FAILED with a record of cause 0x19 (R422). -/
def Obligations.TransactionInstructions : Prop :=
  ∀ (s : State) (g : Guard) (d a b : BitVec 5), s.selected g = true →
    let sh := s.sheetId
    let id := (s.reg a).toNat
    let l := s.launchOf s.cur
    (Issues (.lxbegin g d a) s → s.isPost s.cur = true →
      (id % 64 ≠ 0 → exec (.lxbegin g d a) s = raise 0x05 (s.reg a) s) ∧
      ∀ bs u, id % 64 = 0 → s.spawnBytes (s.reg a) 64 = .ok bs u →
        (¬legalTransaction bs → exec (.lxbegin g d a) s = raise0 0x1B u) ∧
        (legalTransaction bs → (∀ n, n < 256 → (u.lx sh n).live = true ∧ (u.lx sh n).st < 5) → u.sheetId = sh → Completes (u.setReg d 0) (exec (.lxbegin g d a) s)) ∧
        (∀ n, legalTransaction bs → u.sheetId = sh → u.cur = s.cur → u.launches = s.launches → u.threads = s.threads → u.reg a = s.reg a → n < 256 → (u.lx sh n).live = false →
          (∀ m, m < n → (u.lx sh m).live = true ∧ (u.lx sh m).st < 5) →
          ∃ r : State, Completes (r.setReg d (BitVec.ofNat 64 (sh * 2 ^ 25 + (u.lx sh n).gen * 2 ^ 16 + n))) (exec (.lxbegin g d a) s) ∧ r = { u with sheets := r.sheets } ∧
            (r.lx sh n).live = true ∧ (r.lx sh n).st = 1 ∧ (r.lx sh n).why = 0 ∧ (r.lx sh n).desc = bs ∧ (r.lx sh n).descVa = s.reg a ∧ (r.lx sh n).tiles = 0 ∧ (r.lx sh n).acks = 0 ∧
            (r.lx sh n).ends = [] ∧ (r.lx sh n).launch = l ∧ (∀ m, m ≠ n → r.lx sh m = u.lx sh m) ∧ (∀ h, h ≠ sh → r.sheet h = u.sheet h))) ∧
    (∀ i, i = .lxack g d a b ∨ i = .lxstat g d a → Issues i s → s.ctx.stage = 0 → (∀ t, ¬namesTransaction s l id t) → exec i s = raise0 0x1A s) ∧
    (∀ t, namesTransaction s l id t →
      let me := s.thread s.threadId
      let it := s.item me.itemSheet me.item
      (Issues (.lxack g d a b) s → settledHere s → s.ctx.stage = 0 → s.isPost s.cur = true →
        (it.tile ≠ some id ∨ it.acked = true → Completes (s.setReg d 1) (exec (.lxack g d a b) s)) ∧
        (it.tile = some id → it.acked = false → t.st ≠ 1 → Completes (s.setReg d 2) (exec (.lxack g d a b) s)) ∧
        (it.tile = some id → it.acked = false → t.st = 1 → s.reg b = 0 → ∃ r : State, Completes (r.setReg d 0) (exec (.lxack g d a b) s) ∧ r = { s with sheets := r.sheets } ∧
          (r.item me.itemSheet me.item) = { it with acked := true } ∧ r.lx (lxHome id) (id % 256) = { t with acks := t.acks + 1, st := if (Lx.ready { t with acks := t.acks + 1 }) then 2 else 1 }) ∧
        (it.tile = some id → it.acked = false → t.st = 1 → s.reg b ≠ 0 → ∃ r : State, Completes (r.setReg d 0) (exec (.lxack g d a b) s) ∧ r = { s with sheets := r.sheets } ∧
          (r.item me.itemSheet me.item) = { it with acked := true } ∧ (r.lx (lxHome id) (id % 256)).why = 1 ∧ (r.lx (lxHome id) (id % 256)).st = 4)) ∧
      (Issues (.lxstat g d a) s → t.st < 8 → t.why < 8 → t.tiles < 2 ^ 24 → t.acks < 2 ^ 24 → t.ends.length < 2 ^ 8 → ∃ v : Word, Completes (s.setReg d v) (exec (.lxstat g d a) s) ∧
        bitsAt v 63 61 = t.st ∧ bitsAt v 60 58 = t.why ∧ bitsAt v 57 56 = leAt t.desc 0x37 1 % 4 ∧ bitsAt v 55 32 = t.tiles ∧ bitsAt v 31 8 = t.acks ∧ bitsAt v 7 0 = t.ends.length)) ∧
    (Issues (.lxend g d a) s → s.isPost s.cur = true → s.ctx.stage = 0 →
      ((∀ t r, namesTransaction s l id t → participates s t sh r → r ∈ t.ends) → exec (.lxend g d a) s = raise0 0x1A s) ∧
      ∀ t r, namesTransaction s l id t → participates s t sh r → r ∉ t.ends →
        let k := (s.sheet sh).compass
        (64 ≤ (k.inhead - k.intail).toNat → waitsFor .inboxRoom s (exec (.lxend g d a) s)) ∧
        ((k.inhead - k.intail).toNat < 64 → k.pad.wf = true → ∃ u : State, u = { s with sheets := u.sheets } ∧ inboxTakes k (u.sheet sh).compass id 0 0 0 0 r 1 [] ∧
          (t.st < 5 → waitsFor (.lxFinal (lxHome id) (id % 256)) u (exec (.lxend g d a) s) ∧ (u.lx (lxHome id) (id % 256)).ends = t.ends ++ [r]) ∧
          (5 ≤ t.st → t.st < 8 → t.why < 8 → ∃ (w : State) (v : Word), Completes (w.setReg d v) (exec (.lxend g d a) s) ∧ w = { u with cores := w.cores } ∧
            (∀ c, (w.core c).mem = (s.core c).mem) ∧ bitsAt v 63 61 = t.st ∧ bitsAt v 60 58 = t.why))) ∧
    ∀ home n t, home < 32 → t = s.lx home n → t.live = true → t.st = 4 →
      let replays := leAt t.desc 0x37 1 < 3 ∧ leAt t.desc 0x28 8 ≠ 0
      (replays → ∃ (u : State) (q : Submission), s.lxResolve home n = .next u ∧ u = { s with sheets := u.sheets } ∧ u.lx home n = { t with st := 6 } ∧
        (u.sheet home).intakeQ = (s.sheet home).intakeQ ++ [q] ∧ q.itemVa = BitVec.ofNat 64 (leAt t.desc 0x28 8) ∧ q.launch = t.launch ∧ q.tile = none ∧ q.combine = none ∧
        q.a0 = some (BitVec.ofNat 64 (home * 2 ^ 25 + t.gen * 2 ^ 16 + n))) ∧
      (¬replays → s.ringBlocked home = false → ∃ u, s.lxResolve home n = .next u ∧ u.lx home n = { t with st := 7 } ∧ (u.sheet home).evhead = (s.sheet home).evhead + 1 ∧
        (u.sheet home).intakeQ = (s.sheet home).intakeQ)

/-- A SPAWN of an OPEN transaction whose tile is under its limit submits the expert template to the sheet that the placement table gives, with a0 = expert << 32 | tile and a1 = record area +
256 × tile, and counts a tile; SPRES says the result. A SEAL notes the sheet's count. A write with a reserved bit set is ignored. The second POPQ write enqueues the pair of halves. A transaction
that is COMMITTING becomes COMMITTED, and its combine item is submitted at its home with a0 = id (R417, R419, R420, R422). A Compass that runs executes the word at its pc: ADD and SUB write
rd and move on, and x0 reads 0; the encodings are those of RISC-V, which the spec names and does not print (log 150). A Compass that is halted has no instruction to
execute: when it runs, and that its step answers the fault notEnabled while it does not, are the model's choices (logs 66, 99 and 151). -/
def Obligations.TheCompassServesItsLaunch : Prop :=
  (∀ (s : State) (sh : Nat) (v : BitVec 64), sh < 32 → s.launchHolding sh ≠ none →
    let x := v.toNat
    let k := (s.sheet sh).compass
    let others := fun (t : State) => ∀ h, h ≠ sh → t.sheet h = s.sheet h
    (2 ^ 48 ≤ x → exec (.compassSpawn sh v) s = .next s) ∧ (2 ^ 32 ≤ x → exec (.compassSeal sh v) s = .next s) ∧
    (x < 2 ^ 48 → s.lxNamed sh (x % 2 ^ 8) = none → ∃ t, exec (.compassSpawn sh v) s = .next t ∧ t = { s with sheets := t.sheets } ∧ others t ∧
      t.sheet sh = { s.sheet sh with compass := { k with spres := 1 } }) ∧
    (∀ id lx r target u, s.lxNamed sh (x % 2 ^ 8) = some (id, lx) → lx = s.lx (lxHome id) (id % 4096) → participates s lx sh r →
      (x < 2 ^ 48 → lx.st ≠ 1 → ∃ t, exec (.compassSpawn sh v) s = .next t ∧ (t.sheet sh).compass.spres = 1 ∧ t.lx (lxHome id) (id % 4096) = lx) ∧
      (x < 2 ^ 48 → lx.st = 1 → lx.live = true → leAt lx.desc 0x30 4 ≤ bitsAt v 43 20 → ∃ t, exec (.compassSpawn sh v) s = .next t ∧ (t.sheet sh).compass.spres = 2 ∧
        (t.lx (lxHome id) (id % 4096)).why = 4 ∧ (t.lx (lxHome id) (id % 4096)).st = 4) ∧
      (x < 2 ^ 48 → lx.st = 1 → bitsAt v 43 20 < leAt lx.desc 0x30 4 → s.expertSheet sh lx (bitsAt v 19 8) = (.ok (some target), u) → ∃ t, exec (.compassSpawn sh v) s = .next t ∧
        (t.sheet sh).compass.spres = 0 ∧ t.lx (lxHome id) (id % 4096) = { lx with tiles := lx.tiles + 1, st := if (Lx.ready { lx with tiles := lx.tiles + 1 }) then 2 else 1 } ∧ t.mem = u.mem ∧
        ∃ b : Submission, (t.sheet target).intakeQ = (u.sheet target).intakeQ ++ [b] ∧ b.itemVa = BitVec.ofNat 64 (leAt lx.desc 0x10 8) ∧ b.tile = some id ∧ b.combine = none ∧ b.launch = lx.launch ∧
          b.a0 = some (BitVec.ofNat 64 (bitsAt v 19 8 * 2 ^ 32 + bitsAt v 43 20)) ∧ b.a1 = some (BitVec.ofNat 64 (leAt lx.desc 0x18 8 + 256 * bitsAt v 43 20))) ∧
      (x < 2 ^ 32 → lx.st = 1 → ∃ t, exec (.compassSeal sh v) s = .next t ∧ t = { s with sheets := t.sheets } ∧
        (t.lx (lxHome id) (id % 4096)).seals.get? r = some (x / 2 ^ 8) ∧ (t.lx (lxHome id) (id % 4096)).tiles = lx.tiles)) ∧
    (∃ t, exec (.compassPopq sh false v) s = .next t ∧ t = { s with sheets := t.sheets } ∧ others t ∧ t.sheet sh = { s.sheet sh with compass := { k with pop0 := some v } }) ∧
    (∀ w, k.pop0 = some w → k.popq.length < 256 → ∃ t, exec (.compassPopq sh true v) s = .next t ∧ t = { s with sheets := t.sheets } ∧ others t ∧
      t.sheet sh = { s.sheet sh with compass := { k with pop0 := none, popq := k.popq ++ [(w, v)] } }) ∧
    (x < 2 ^ 8 → ∃ t, exec (.compassIndexWrite sh v) s = .next t ∧ t = { s with sheets := t.sheets } ∧ t.sheet sh = { s.sheet sh with compass := { k with index := x } }) ∧
    (x < 2 ^ 32 → ∃ t, exec (.compassIntailWrite sh v) s = .next t ∧ t = { s with sheets := t.sheets } ∧ t.sheet sh = { s.sheet sh with compass := { k with intail := BitVec.ofNat 32 x } })) ∧
  (∀ (s : State) (sh n rd a b : Nat) (sub : Bool), sh < 32 → rd < 32 → a < 32 → b < 32 →
    let k := (s.sheet sh).compass
    (k.halted = true → s.compassTurn sh = .fault .notEnabled) ∧
    (k.halted = false → s.cpFetch sh = .ok ((if sub then 0x40000000 else 0) + b * 2 ^ 20 + a * 2 ^ 15 + rd * 2 ^ 7 + 0x33, n) s → ∃ t, s.compassTurn sh = .next t ∧ t = { s with sheets := t.sheets } ∧
      (∀ h, h ≠ sh → t.sheet h = s.sheet h) ∧ t.sheet sh = { s.sheet sh with compass := { k with x := (t.sheet sh).compass.x, pc := k.pc + BitVec.ofNat 64 n } } ∧
      ∀ r, r < 32 → (t.sheet sh).compass.reg r = (if r = rd ∧ r ≠ 0 then (if sub then k.reg a - k.reg b else k.reg a + k.reg b) else k.reg r))) ∧
  ∀ (s : State) (sh n : Nat), sh < 32 → n < 256 → (s.lx sh n).live = true → (s.lx sh n).st = 2 → ∃ t, exec (.lxCommit sh n) s = .next t ∧ t = { s with sheets := t.sheets } ∧
    (t.lx sh n).st = 3 ∧ (∀ m, m ≠ n → t.lx sh m = s.lx sh m) ∧ (∀ h, h ≠ sh → t.sheet h = s.sheet h) ∧ ∃ b : Submission, (t.sheet sh).intakeQ = (s.sheet sh).intakeQ ++ [b] ∧
      b.itemVa = BitVec.ofNat 64 (leAt (s.lx sh n).desc 0x20 8) ∧ b.launch = (s.lx sh n).launch ∧ b.combine = some (sh * 2 ^ 25 + (s.lx sh n).gen * 2 ^ 16 + n) ∧
      b.a0 = some (BitVec.ofNat 64 (sh * 2 ^ 25 + (s.lx sh n).gen * 2 ^ 16 + n))


namespace Sys2Proof.Claims

/-! ### The surveyor's instructions and registers -/

/-- The operands of a TLBINV obey R280. -/
def legalInvalidation (x y : Nat) : Prop :=
  x < 2 ^ 56 ∧ y < 2 ^ 28 ∧ 2 ≤ y / 2 ^ 16 % 8 ∧ y / 2 ^ 16 % 8 ≤ 5 ∧ (y / 2 ^ 16 % 8 ≠ 2 → y / 2 ^ 20 = 0)

/-- The bytes of a SIZE code, with 11 as 64 KiB (R280, R444). -/
def regionBytes (y : Nat) : Nat := if y / 2 ^ 12 % 4 = 1 then 2 ^ 21 else if y / 2 ^ 12 % 4 = 2 then 2 ^ 30 else 2 ^ 16

/-- A TLBINV with a selector covers an address of an ASID, apart from its scope (R444). -/
def coversAddress (x y asid va : Nat) : Prop :=
  ((y / 2 ^ 14 % 2 = 1) ∨ asid = y % 2 ^ 12) ∧ ((y / 2 ^ 15 % 2 = 1) ∨ va / regionBytes y = x / regionBytes y)

/-- A TLB entry matches: its ASID, and a page of the size that SIZE names, or of any size, which holds sA (R280). -/
def matchesEntry (x y : Nat) (e : TlbEntry) : Bool :=
  decide ((y / 2 ^ 14 % 2 = 1 ∨ e.asid = y % 2 ^ 12) ∧
    (y / 2 ^ 15 % 2 = 1 ∨ (e.va ≤ x ∧ x < e.va + e.leaf.size ∧ (y / 2 ^ 12 % 4 = 3 ∨ e.leaf.size = regionBytes y))))

/-- The clusters of a TLBINV from a surveyor core of a sheet, where the scope is not the launch rectangle: the cluster that CLUSTER names, the sheet, or the module (R280). -/
def inScope (sh y cl : Nat) : Prop :=
  (y / 2 ^ 16 % 8 = 2 ∧ cl = sh * 256 + y / 2 ^ 20) ∨ (y / 2 ^ 16 % 8 = 3 ∧ cl / 256 = sh) ∨ (y / 2 ^ 16 % 8 = 5 ∧ cl / 256 < 32)

/-- The thread and side that a context address names: SLOT at [2:0], SIDE at [4], the core at [21:6] (R243, R373). -/
def contextNamed (x : Nat) : Option (Nat × Side) :=
  if x < 2 ^ 22 ∧ x / 2 ^ 3 % 2 = 0 ∧ x / 2 ^ 5 % 2 = 0 then some (x / 64 * 8 + x % 8, if x / 2 ^ 4 % 2 = 1 then .c else .a) else none

/-- The world bit of a block, by kind and index (R370, R373). -/
def worldOf (s : State) (kind i : Nat) : Bool :=
  match kind with
  | 0 => (s.cluster i).worldCl
  | 1 => (s.cluster i).worldArr
  | 2 => (s.cluster i).worldTrc
  | 3 => (s.edge i).world
  | _ => (s.port i).secure

/-- Everything that is read in the state is as before, but for the sheets. -/
def onlySheets (s t : State) : Prop := t = { s with sheets := t.sheets }

/-- The reset and reserved bits of the surveyor control registers that hold a written value as it stands (R270, R353, R363, R371, R423). -/
def storedRegister (n : Nat) (h : Sheet) : Option (Word × Word) :=
  match n with
  | 0x203 => some (h.evbase, 0xFFF0000000000FF0)
  | 0x207 => some (h.svsub, 0x7000FFFFFFC00038)
  | 0x210 => some (h.asidtab, 0xFFF0000000007FFE)
  | 0x211 => some (h.shadow, 0xFFF0000007FFFFFE)
  | 0x218 => some (h.dlbase, 0xFFF0000000000FFE)
  | 0x240 => some (h.latectl, 0x7FFFFFFF00000000)
  | _ => none

end Sys2Proof.Claims

/-- TLBINV with an operand outside its table writes all ones and does nothing else. It waits for the side's own writes, drops the matching entries of every cluster TLB in its scope, counts them
up to 0xFFFFFFFF, and with FLUSH invalidates the matching lines of the L1ds; then every context that waits for an address that it covers goes on, every suspended walk and every refused write that is held retries, and sD receives the count.
PGMOVE answers the statuses of R281; a move of status 0 makes the destination page hold the source's bytes and every other byte stay, and the source moving; a release ends that (R278, R280,
R281, R444). -/
def Obligations.TranslationsAreInvalidatedAndPagesMove : Prop :=
  ∀ (s : State) (g : Guard) (d a b : BitVec 5) (sh k : Nat), s.cur = .surveyor sh k → s.selected g = true →
    let x := (s.reg a).toNat
    let y := (s.reg b).toNat
    let answer := fun (i : Instr) (n : Nat) => Completes (s.setReg d (BitVec.ofNat 64 n)) (exec i s)
    (Issues (.tlbinv g d a b) s →
      (¬legalInvalidation x y → Completes (s.setReg d (BitVec.allOnes 64)) (exec (.tlbinv g d a b) s)) ∧
      (legalInvalidation x y → s.ctx.stage = 0 → (∃ p ∈ s.net, p.2.origin = .side s.cur) → waitsFor .acked s (exec (.tlbinv g d a b) s)) ∧
      (legalInvalidation x y → y / 2 ^ 16 % 8 ≠ 4 → s.ctx.stage = 0 → s.net = [] → (s.clusters.map Prod.fst).Nodup →
        (y / 2 ^ 19 % 2 = 1 → ∀ c ∈ s.cores, c.2.spec = [] ∧ ∀ e ∈ c.2.l1, e.dirty = 0) → ∃ t, exec (.tlbinv g d a b) s = .next t ∧ t.ctx.stage = 1 ∧
        (∀ cl, inScope sh y cl → (t.cluster cl).tlb = (s.cluster cl).tlb.filter (fun e => !matchesEntry x y e)) ∧
        (∀ cl, ¬inScope sh y cl → (t.cluster cl).tlb = (s.cluster cl).tlb) ∧ (y / 2 ^ 19 % 2 = 0 → t.cores = s.cores) ∧
        (∀ cl, inScope sh y cl → (∀ c, c ∈ s.clusters → c.1 = cl ∨ c.2.tlb = []) → (s.cluster cl).tlb.length < 2 ^ 32 →
          t.ctx.keep = BitVec.ofNat 64 ((s.cluster cl).tlb.filter (matchesEntry x y)).length) ∧
        (∀ core, y / 2 ^ 19 % 2 = 1 → core / 8 ∈ s.clusters.map Prod.fst → inScope sh y (core / 8) →
          ∀ e ∈ (t.core core).l1, e ∈ (s.core core).l1 ∧ ¬coversAddress x y e.asid (e.line * 256))) ∧
      (legalInvalidation x y → y / 2 ^ 16 % 8 ≠ 4 → s.ctx.stage = 1 → ∃ r : State, Completes (r.setReg d s.ctx.keep) (exec (.tlbinv g d a b) s) ∧ r.mem = s.mem ∧ r.cores = s.cores ∧
        ((∀ p ∈ s.net, p.2.held = false) → r.net = s.net) ∧
        (∀ n p, (n, p) ∈ s.net → p.held = true → inScope sh y (s.entryOf p.origin).1 → coversAddress x y p.asid (p.va * 256) →
          (n, { p with held := false, nacked := some s.cycle.toNat }) ∈ r.net) ∧
        (∀ c va core, c.core? = some core → inScope sh y (core / 8) → (s.ctxOf c).wait.map Wait.cond = some (.page va) → coversAddress x y (s.asidOf c) va →
          r.ctxOf c = { s.ctxOf c with wait := none }) ∧
        (∀ cl, inScope sh y cl → ∀ n j, (n, j) ∈ (s.cluster cl).walks → j.st = .suspended → coversAddress x y j.asid j.faultVa → (n, { j with retry := true }) ∈ (r.cluster cl).walks) ∧
        (∀ cl, ¬inScope sh y cl → (r.cluster cl).walks = (s.cluster cl).walks))) ∧
    (Issues (.pgmove g d a b) s →
      let op := y % 2 ^ 16
      let dst := y / 2 ^ 16 * 2 ^ 16
      let hbm := fun (p : Nat) => p % 2 ^ 16 = 0 ∧ p < 2 ^ 41 ∧ p % 2 ^ 36 < 0xC00000000
      let moves := s.sheets.flatMap (fun h => h.2.moves)
      let home := x / 2 ^ 36
      (2 ≤ op → answer (.pgmove g d a b) 8) ∧
      (op = 0 → ¬hbm x → answer (.pgmove g d a b) 1) ∧ (op = 0 → hbm x → ¬hbm dst ∨ dst = x → answer (.pgmove g d a b) 2) ∧
      (op = 0 → hbm x → hbm dst → dst ≠ x → (∀ h ∈ s.sheets, h.2.windows = []) →
        (x ∈ moves.map Prod.fst → answer (.pgmove g d a b) 4) ∧
        (x ∉ moves.map Prod.fst → (dst ∈ moves.map Prod.fst ∨ dst ∈ moves.map Prod.snd) → answer (.pgmove g d a b) 5) ∧
        (x ∉ moves.map Prod.fst → dst ∉ moves.map Prod.fst → dst ∉ moves.map Prod.snd → 8 ≤ (s.sheet home).moves.length → answer (.pgmove g d a b) 7) ∧
        (x ∉ moves.map Prod.fst → dst ∉ moves.map Prod.fst → dst ∉ moves.map Prod.snd → (s.sheet home).moves.length < 8 → s.mem.wf = true → ∃ r : State,
          Completes (r.setReg d 0) (exec (.pgmove g d a b) s) ∧ (∀ n, n < 65536 → r.mem.read (dst + n) = s.mem.read (x + n)) ∧
          (∀ n, n < dst ∨ dst + 65536 ≤ n → r.mem.read n = s.mem.read n) ∧ (r.sheet home).moves = (s.sheet home).moves ++ [(x, dst)] ∧
          (r.page x).repl = false ∧ r.moving x = true ∧ r.cores = s.cores ∧ r.clusters = s.clusters)) ∧
      (op = 1 → ¬hbm x → answer (.pgmove g d a b) 1) ∧ (op = 1 → hbm x → x ∉ moves.map Prod.fst → answer (.pgmove g d a b) 4) ∧
      (op = 1 → hbm x → x ∈ moves.map Prod.fst → (∀ h ∈ s.sheets, h.2.evWait = []) → ∃ r : State, Completes (r.setReg d 0) (exec (.pgmove g d a b) s) ∧ onlySheets s r ∧
        (r.sheet home).moves = (s.sheet home).moves.filter (fun m => decide (m.1 ≠ x)) ∧ ∀ h, h ≠ home → r.sheet h = s.sheet h))

/-- FREEZE stops a side or a core's contexts at the boundaries of their groups, or a launch's placement on the sheet; THAW lets the target go on at its EPC, at EPC + 4, or failed; CSPARE moves a frozen core's state to
the cluster's spare, or retires the core when the spare is in service; WORLD sets the world bit of an idle block and returns the old one. An operand outside the tables writes all ones and does
nothing else (R362, R366, R368, R370, R373). The model's choices are: where a side stands that waits (log 71), the answers of FREEZE and THAW of kind 2 (log 72), and the
index of a block over the whole module and what makes a block busy (log 73). -/
def Obligations.FreezeThawSpareAndWorld : Prop :=
  ∀ (s : State) (g : Guard) (d a b : BitVec 5) (sh k : Nat), s.cur = .surveyor sh k → s.selected g = true →
    let x := (s.reg a).toNat
    let y := (s.reg b).toNat
    let core := x / 64
    let isCore := x < 2 ^ 22 ∧ x % 64 = 0
    let answer := fun (i : Instr) (n : Nat) => Completes (s.setReg d (BitVec.ofNat 64 n)) (exec i s)
    let nothing := fun (i : Instr) => Completes (s.setReg d (BitVec.allOnes 64)) (exec i s)
    (Issues (.freeze g d a b) s →
      (2 < y ∨ (y = 0 ∧ contextNamed x = none) ∨ (y = 1 ∧ ¬isCore) ∨ (y = 2 ∧ 4096 ≤ x) → nothing (.freeze g d a b)) ∧
      (∀ th side, y = 0 → contextNamed x = some (th, side) →
        let c : CtxId := .task th side
        let f := s.ctxOf c
        (f.run = .frozen → answer (.freeze g d a b) 1) ∧ (f.run ≠ .frozen → f.run ≠ .running → answer (.freeze g d a b) 2) ∧
        (f.run = .running → ∃ r : State, Completes (r.setReg d 0) (exec (.freeze g d a b) s) ∧ r = { s with ctxs := r.ctxs, threads := r.threads } ∧ (r.ctxOf c).run = .frozen ∧
          (r.ctxOf c).x = f.x ∧ (r.ctxOf c).p = f.p ∧ (r.ctxOf c).v = f.v ∧ (f.stage = 0 → f.keep = 0 → (r.ctxOf c).pc = f.grp) ∧
          (f.hints.rep = none → (r.ctxOf c).repcnt = f.repcnt) ∧ (∀ h, f.hints.rep = some h → (r.ctxOf c).repcnt = if h.count = 0 then 0 else BitVec.ofNat 64 (256 + f.repDone % 256)) ∧
          (∀ o, o ≠ c → r.ctxOf o = s.ctxOf o) ∧ (match side with | .a => (r.thread th).epca | .c => (r.thread th).epcc) = f.grp &&& ~~~3)) ∧
      (y = 1 → isCore → ((s.core core).retired = true → answer (.freeze g d a b) 2) ∧ ((s.core core).retired = false → (s.core core).frozen = true → answer (.freeze g d a b) 1) ∧
        ((s.core core).retired = false → (s.core core).frozen = false → ∃ r : State, Completes (r.setReg d 0) (exec (.freeze g d a b) s) ∧ (r.core core).frozen = true ∧
          r = { s with ctxs := r.ctxs, threads := r.threads, handlers := r.handlers, cores := r.cores, lifetime := r.lifetime } ∧ (∀ c, c ≠ core → r.core c = s.core c) ∧
          (∀ c, c.core? ≠ some core → r.ctxOf c = s.ctxOf c) ∧
          ∀ c, c.core? = some core → (r.ctxOf c).run = (s.ctxOf c).run ∧ (r.ctxOf c).x = (s.ctxOf c).x ∧
            ((s.ctxOf c).run = .running → (s.ctxOf c).stage = 0 → (s.ctxOf c).keep = 0 → (r.ctxOf c).pc = (s.ctxOf c).grp ∧ (r.ctxOf c).buf = []))) ∧
      (y = 2 → x < 4096 → (∀ l ∈ s.launches, l.2.live = true → l.2.asid ≠ x ∨ l.2.covers sh = false) → answer (.freeze g d a b) 2) ∧
      (∀ l lk, y = 2 → x < 4096 → s.launches = [(l, lk)] → lk.live = true → lk.asid = x → lk.covers sh = true →
        (s.threads.map Prod.fst).Nodup →
        let resident := ((s.threads.map Prod.fst).filter (fun th =>
          decide ((s.thread th).launch = l ∧ th / 16384 = sh ∧ ((s.thread th).st = .post ∨ (s.thread th).st = .ending)))).length
        (sh ∈ lk.drained → answer (.freeze g d a b) (1 + resident * 2 ^ 32)) ∧
        (sh ∉ lk.drained → (∀ t ∈ s.threads, t.2.launch = l → t.2.st ≠ .pre ∧ t.2.st ≠ .placing) →
          Completes (({ s with launches := [(l, { lk with drained := lk.drained ++ [sh] })] } : State).setReg d (BitVec.ofNat 64 (resident * 2 ^ 32))) (exec (.freeze g d a b) s)))) ∧
    (Issues (.thaw g d a b) s →
      (1024 ≤ y ∨ y / 256 = 3 ∨ y / 4 % 64 ≠ 0 → nothing (.thaw g d a b)) ∧
      (∀ th side, (y = 0 ∨ y = 256 ∨ y = 512) → contextNamed x = some (th, side) →
        let c : CtxId := .task th side
        let f := s.ctxOf c
        let epc := match side with | .a => (s.thread th).epca | .c => (s.thread th).epcc
        (f.run ≠ .frozen → answer (.thaw g d a b) 2) ∧
        (f.run = .frozen → f.stage = 0 → f.keep = 0 → f.wait = none → y < 512 → ∃ r : State, Completes (r.setReg d 0) (exec (.thaw g d a b) s) ∧ r = { s with ctxs := r.ctxs } ∧ (r.ctxOf c).run = .running ∧
          (r.ctxOf c).pc = (if y = 0 then epc else epc + 4) ∧ (r.ctxOf c).words = 0 ∧ (r.ctxOf c).x = f.x ∧ (r.ctxOf c).p = f.p ∧ (r.ctxOf c).v = f.v ∧ ∀ o, o ≠ c → r.ctxOf o = s.ctxOf o) ∧
        (f.run = .frozen → y = 512 → let t := s.thread th; Completes ((s.failItem t.itemSheet t.item f.frozenCause).setReg d 0) (exec (.thaw g d a b) s))) ∧
      (∀ i, y = 0 → x = 4 * 2 ^ 32 + i → i < 4 → ((s.port i).stopped = false → answer (.thaw g d a b) 2) ∧
        ((s.port i).stopped = true → Completes ((s.mapPort i (fun p => { p with stopped := false })).setReg d 0) (exec (.thaw g d a b) s))) ∧
      (∀ kind i, y = 0 → kind = 1 ∨ kind = 2 → x = kind * 2 ^ 32 + i → i < 8192 → (kind ∉ (s.cluster i).engineHeld → answer (.thaw g d a b) 2) ∧
        (kind ∈ (s.cluster i).engineHeld → Completes ((s.mapCluster i (fun c => { c with engineHeld := c.engineHeld.filter (fun n => decide (n ≠ kind)) })).setReg d 0)
          (exec (.thaw g d a b) s))) ∧
      (y % 4 = 1 → y ∈ [1, 257, 513] → isCore → (y ≠ 1 → answer (.thaw g d a b) 3) ∧ (y = 1 → (s.core core).frozen = false → answer (.thaw g d a b) 2) ∧
        (y = 1 → (s.core core).frozen = true → Completes ((s.mapCore core (fun c => { c with frozen := false })).setReg d 0) (exec (.thaw g d a b) s))) ∧
      (∀ l lk, y = 2 → x < 4096 → s.launches = [(l, lk)] → lk.live = true → lk.asid = x → sh ∈ lk.drained →
        Completes (({ s with launches := [(l, { lk with drained := lk.drained.filter (fun h => decide (h ≠ sh)) })] } : State).setReg d 0) (exec (.thaw g d a b) s)) ∧
      (∀ h i it hold, (y = 3 ∨ y = 515) → x < 2 ^ 32 → (s.sheet h).items.get? i = some it → (∀ k ∈ s.sheets, ∀ j ∈ k.2.items, j.2.holds ≠ [] → k.1 = h ∧ j = (i, it)) → h ∈ s.sheets.map Prod.fst →
        it.holds = [hold] → hold.no = x → hold.sheet = sh → it.st ≠ .final →
        (y = 3 → (∀ m ∈ it.members, m.2.2 = 0 ∧ m.1 = hold.rank) → it.members ≠ [] → hold.rank ∉ it.ended →
          Completes ((s.mapItem h i (fun j => { j with holds := [], st := .ready })).setReg d 0) (exec (.thaw g d a b) s)) ∧
        (y = 515 → Completes ((s.failItem h i hold.cause).setReg d 0) (exec (.thaw g d a b) s))) ∧
      (y = 3 → x < 2 ^ 32 → (∀ k ∈ s.sheets, ∀ j ∈ k.2.items, ∀ hold ∈ j.2.holds, hold.sheet ≠ sh ∨ hold.no ≠ x) → answer (.thaw g d a b) 2) ∧ (y = 259 → x < 2 ^ 32 → answer (.thaw g d a b) 3)) ∧
    (Issues (.cspare g d (a, b)) s →
      (y ≠ 0 ∨ ¬isCore → nothing (.cspare g d (a, b))) ∧ (y = 0 → isCore → (s.core core).frozen = false → answer (.cspare g d (a, b)) 1) ∧
      (y = 0 → isCore → (s.core core).frozen = true → (s.core core).unreadable = [] → (s.cluster (core / 8)).spare = none → ∃ r : State, Completes (r.setReg d 0) (exec (.cspare g d (a, b)) s) ∧
        r = { s with cores := r.cores, clusters := r.clusters, lifetime := r.lifetime } ∧ (r.cluster (core / 8)).spare = some core ∧ (r.core core).frozen = false ∧
        (r.core core).mem = (s.core core).mem ∧ (∀ e, e ∈ (r.core core).l1 ↔ e ∈ (s.core core).l1 ∧ e.dirty ≠ 0) ∧ (r.core core).spec = (s.core core).spec) ∧
      (y = 0 → isCore → (s.core core).frozen = true → (s.cluster (core / 8)).spare ≠ none → (∀ n, n < 8 → (s.thread (core * 8 + n)).st = .empty) → s.handlers = [] → ∃ r : State,
        Completes (r.setReg d 2) (exec (.cspare g d (a, b)) s) ∧ r = { s with cores := r.cores } ∧ (r.core core).retired = true ∧ (r.core core).frozen = false)) ∧
    (Issues (.world g d a b) s →
      (2 ^ 36 ≤ x ∨ 2 ^ 16 ≤ x % 2 ^ 32 ∨ 4 < x / 2 ^ 32 ∨ 1 < y → nothing (.world g d a b)) ∧
      (∀ kind i, x = kind * 2 ^ 32 + i → y < 2 → (kind < 3 ∧ i < 8192 ∨ kind = 4 ∧ i < 4 ∨ kind = 3 ∧ (edgeNamed (BitVec.ofNat 64 i)).map Prod.fst = some i) →
        (s.blockBusy kind i = true → nothing (.world g d a b)) ∧
        (s.blockBusy kind i = false → ∃ r : State, Completes (r.setReg d (if worldOf s kind i then 1 else 0)) (exec (.world g d a b) s) ∧ worldOf r kind i = decide (y = 1) ∧
          r = { s with clusters := r.clusters, edges := r.edges, ports := r.ports } ∧
          ∀ kd j, (kd < 5 ∧ (kd ≠ kind ∨ j ≠ i)) → worldOf r kd j = worldOf s kd j)))

/-- CRD and CWR of the surveyor's registers: a number that is not assigned and a reserved bit raise cause 0x01, and a read-only register cause 0x08; a legal value is what CRD then reads,
and a write of EVHEAD, whose fields are read-only, changes nothing.
EVHEAD, PLGEN, LXREMAP and LXLOST read the module's counts and words. A device write of such a register has the same effect, and changes nothing where it is refused. STQCFG sets QUOTA to MIN,
PLCTL raises KGEN, the sheet's trap saves its pc and its IE, and while the ring is not empty the lowest-numbered accepting core takes it at its group boundary
(R63, R269, R270, R277, R346, R363, R364, R367, R396, R397, R423). That a refused device write changes nothing is the model's choice (log 69). -/
def Obligations.SurveyorRegistersAndTraps : Prop :=
  (∀ (s : State) (g : Guard) (d a : BitVec 5) (c : BitVec 10) (sh k : Nat), s.cur = .surveyor sh k → s.selected g = true → 0x200 ≤ c.toNat →
    let n := c.toNat
    let v := s.reg a
    let h := s.sheet sh
    (Issues (.crd g d c) s →
      (n ∈ [0x208, 0x214, 0x219, 0x23E, 0x241, 0x24A, 0x252, 0x3FF] → exec (.crd g d c) s = raise0 0x01 s) ∧
      (∀ w, storedRegister n h = some w → Completes (s.setReg d w.1) (exec (.crd g d c) s)) ∧
      (n = 0x204 → ∃ w : Word, Completes (s.setReg d w) (exec (.crd g d c) s) ∧ bitsAt w 31 0 = h.evhead.toNat ∧ bitsAt w 63 32 = h.drops.toNat) ∧
      (n = 0x249 → ∃ w : Word, Completes (s.setReg d w) (exec (.crd g d c) s) ∧ bitsAt w 15 0 = s.wgen.toNat ∧ bitsAt w 63 16 = s.kgen.toNat) ∧
      (n = 0x248 → Completes (s.setReg d 0) (exec (.crd g d c) s)) ∧ (n = 0x250 → Completes (s.setReg d s.lxremap) (exec (.crd g d c) s)) ∧
      (n = 0x251 → Completes (s.setReg d s.lxlost) (exec (.crd g d c) s)) ∧ (n = 0x206 → Completes (s.setReg d h.svitem) (exec (.crd g d c) s))) ∧
    (Issues (.cwr g a c) s →
      (n ∈ [0x221, 0x23D, 0x249] → exec (.cwr g a c) s = raise0 0x08 s) ∧
      (n = 0x204 → (2 ^ 48 ≤ v.toNat → exec (.cwr g a c) s = raise0 0x01 s) ∧ (v.toNat < 2 ^ 48 → Completes s (exec (.cwr g a c) s))) ∧
      (n ∈ [0x208, 0x214, 0x219, 0x23E, 0x241, 0x24A, 0x252, 0x3FF] → exec (.cwr g a c) s = raise0 0x01 s) ∧
      (∀ w, storedRegister n h = some w → v &&& w.2 ≠ 0 → exec (.cwr g a c) s = raise0 0x01 s) ∧
      (n = 0x203 → 6 ≤ v.toNat % 16 → exec (.cwr g a c) s = raise0 0x01 s) ∧ (n = 0x212 → 9 ≤ v.toNat → exec (.cwr g a c) s = raise0 0x01 s) ∧
      (n = 0x213 → v.toNat / 2 ^ 8 % 32 < 16 → exec (.cwr g a c) s = raise0 0x01 s) ∧
      (n = 0x207 → v.toNat / 2 ^ 63 = 1 → v.toNat / 2 ^ 17 % 32 ≠ sh → exec (.cwr g a c) s = raise0 0x01 s) ∧
      (∀ w, storedRegister n h = some w → v &&& w.2 = 0 → (n = 0x203 → v.toNat % 16 < 6) → (n = 0x207 → v.toNat / 2 ^ 63 = 0 ∨ v.toNat / 2 ^ 17 % 32 = sh) →
        ∃ r : State, Completes r (exec (.cwr g a c) s) ∧ onlySheets s r ∧ (∃ u, storedRegister n (r.sheet sh) = some (v, u)) ∧
          (∀ m w', m ≠ n → storedRegister m h = some w' → storedRegister m (r.sheet sh) = some w') ∧ ∀ o, o ≠ sh → r.sheet o = s.sheet o) ∧
      (n = 0x200 ∨ n = 0x201 → ∃ r : State, Completes r (exec (.cwr g a c) s) ∧ onlySheets s r ∧ r.svRead sh k n = some (BitVec.ofNat 64 (v.toNat / 4 * 4))) ∧
      (n = 0x202 → v.toNat < 4 → ∃ r : State, Completes r (exec (.cwr g a c) s) ∧ onlySheets s r ∧ r.svRead sh k n = some v))) ∧
  (∀ (s : State) (sh k n : Nat) (v : BitVec 64), sh < 32 → k < 4 →
    (∀ t, s.svWrite sh k n v = .ok t → 0x200 ≤ n → n < 0x400 → n ∉ [0x206, 0x212, 0x213, 0x248, 0x251] → ¬(0x220 ≤ n ∧ n ≤ 0x23D ∧ n % 2 = 0) → exec (.surveyorRegWrite sh k n v) s = .next t) ∧
    (∀ c, s.svWrite sh k n v = .error c → 0x200 ≤ n → n < 0x400 → n ∉ [0x206, 0x212, 0x213, 0x248, 0x251] → ¬(0x220 ≤ n ∧ n ≤ 0x23D ∧ n % 2 = 0) → exec (.surveyorRegWrite sh k n v) s = .next s) ∧
    (∀ st, 1 ≤ st → st < 16 → v.toNat < 2 ^ 58 → bitsAt v 14 0 ≤ bitsAt v 29 15 → bitsAt v 29 15 ≤ 16384 → ∃ t, exec (.stqcfgWrite sh st v) s = .next t ∧ onlySheets s t ∧
      (t.sheet sh).stqcfg.get 0 st = v ∧ (t.sheet sh).quota.get 0 st = bitsAt v 14 0) ∧
    (∀ st, 1 ≤ st → st < 16 → 2 ^ 58 ≤ v.toNat ∨ bitsAt v 29 15 < bitsAt v 14 0 → exec (.stqcfgWrite sh st v) s = .next s) ∧
    (v.toNat < 2 ^ 13 → 16 ≤ v.toNat / 2 ^ 8 → ∃ t, exec (.repctlWrite sh v) s = .next t ∧ onlySheets s t ∧ (t.sheet sh).repctl = v) ∧
    (v.toNat < 9 → (s.sheet sh).atlas.toNat < 9 → s.mem.wf = true → ∃ t, exec (.atlasWrite sh v) s = .next t ∧ (t.sheet sh).atlas = v ∧
      (∀ x, sh * 2 ^ 36 + 0xE00000000 + (s.sheet sh).atlas.toNat * 2 ^ 26 ≤ x → x < sh * 2 ^ 36 + 0xE00000000 + v.toNat * 2 ^ 26 → t.mem.read x = 0) ∧
      (∀ x, x < sh * 2 ^ 36 + 0xE00000000 ∨ sh * 2 ^ 36 + 0xE00000000 + 2 ^ 29 ≤ x → t.mem.read x = s.mem.read x)) ∧
    ((∀ h ∈ s.sheets, h.2.plates = []) →
      (∃ t, exec (.plctlKind sh) s = .next t ∧ t.kgen = s.kgen + 1 ∧ t.wgen = s.wgen ∧ t.mem = s.mem) ∧ ∃ t, exec (.plctlFlush sh) s = .next t ∧ t.kgen = s.kgen ∧ t.mem = s.mem ∧ (t.sheet sh).plates = []) ∧
    ((∀ l ∈ s.launches, l.2.live = true → l.2.asid ≠ bitsAt (s.sheet sh).svsub 59 48 ∨ l.2.covers sh = false) → ∃ t, exec (.svitemWrite sh v) s = .next t ∧ onlySheets s t ∧
      (t.sheet sh).svitem = 0x1B ∧ (t.sheet sh).intakeQ = (s.sheet sh).intakeQ) ∧
    (∀ l lk, s.launches = [(l, lk)] → lk.live = true → lk.asid = bitsAt (s.sheet sh).svsub 59 48 → lk.covers sh = true → ∃ (t : State) (b : Submission), exec (.svitemWrite sh v) s = .next t ∧
      (t.sheet sh).svitem = 0xFF ∧ (t.sheet sh).intakeQ = (s.sheet sh).intakeQ ++ [b] ∧ b.itemVa = v ∧ b.launch = l ∧ b.system = true ∧
      (b.pin = none ↔ (s.sheet sh).svsub.toNat < 2 ^ 63)) ∧
    (v.toNat < 2 ^ 32 → (∀ l ∈ s.launches, l.2.live = false) → exec (.lxlostWrite v) s = .next { s with lxlost := v })) ∧
  ∀ (s : State) (sh k : Nat), k < 4 → (∀ m, m < k → (s.sheet sh).sstat.get 0 m % 2 = 0) → (s.sheet sh).sstat.get 0 k % 2 = 1 →
    let c := s.ctxOf (.surveyor sh k)
    (s.sheet sh).evhead ≠ (s.sheet sh).evtail → c.run ≠ .stopped → c.pc = c.grp → c.repDone = 0 → c.stage = 0 → c.keep = 0 →
    ∃ t, exec (.surveyorTrap sh) s = .next t ∧ (t.sheet sh).sepc.get 0 k = c.grp ∧ (t.sheet sh).sstat.get 0 k = 2 ∧
      (t.ctxOf (.surveyor sh k)).pc = (s.sheet sh).svec.get 0 k ∧ (t.ctxOf (.surveyor sh k)).x = c.x ∧ t = { s with ctxs := t.ctxs, sheets := t.sheets }

/-- A write of WCFG while EN is 0 stores the fields; one that sets EN checks the configuration and either sets ERR with the reason or starts the change, which raises WGEN and ends, with EN at its
new value and no LLC tag of the range, once no write into the range is in flight. A write while EN is 1 is dropped with reason 6, but for EN itself. A security region takes a word only from secure
service code (R185 to R187, R396, R439). -/
def Obligations.WindowsAndRegionsAreWritten : Prop :=
  (∀ (s : State) (sh w : Nat) (v : BitVec 64), sh < 32 → w < 16 →
    let k := s.window sh w
    let low := v &&& 0x7FFFFFFFFFFFFFFF
    let on := k.cfg.getLsbD 63 = true ∨ (k.changing = true ∧ k.target = true)
    (¬on → v.getLsbD 63 = false → ∃ t, exec (.wcfgWrite sh w v) s = .next t ∧ onlySheets s t ∧ t.window sh w = { k with cfg := low } ∧ ∀ m, m ≠ w → t.window sh m = s.window sh m) ∧
    (¬on → v.getLsbD 63 = true → bitsAt v 23 20 ∉ [3, 4, 5] → ∃ t, exec (.wcfgWrite sh w v) s = .next t ∧ onlySheets s t ∧ t.wgen = s.wgen ∧
      t.window sh w = { k with cfg := low, stat := BitVec.ofNat 64 (2 ^ 63 + 1) }) ∧
    (¬on → v.getLsbD 63 = true → s.windowWhy sh w { k with cfg := low } = 0 → ∃ t, exec (.wcfgWrite sh w v) s = .next t ∧ t.wgen = s.wgen + 1 ∧
      t.window sh w = { k with cfg := low, stat := 0, changing := true, target := true }) ∧
    (on → low ≠ k.cfg &&& 0x7FFFFFFFFFFFFFFF → ∃ t, exec (.wcfgWrite sh w v) s = .next t ∧ onlySheets s t ∧ t.window sh w = { k with stat := BitVec.ofNat 64 (2 ^ 63 + 6) }) ∧
    (on → low = k.cfg &&& 0x7FFFFFFFFFFFFFFF → v.getLsbD 63 = true → exec (.wcfgWrite sh w v) s = .next s) ∧
    (on → low = k.cfg &&& 0x7FFFFFFFFFFFFFFF → v.getLsbD 63 = false → ∃ t, exec (.wcfgWrite sh w v) s = .next t ∧ t.wgen = s.wgen + 1 ∧ t.window sh w = { k with changing := true, target := false }) ∧
    (k.changing = true → (∀ p ∈ s.net, p.2.performed = true) → ∃ t, exec (.windowEnChangeDone sh w) s = .next t ∧ onlySheets s t ∧ (t.window sh w).cfg.getLsbD 63 = k.target ∧
      (t.window sh w).changing = false ∧ ∀ e ∈ (t.sheet sh).llcTags, e ∈ (s.sheet sh).llcTags ∧ ¬(k.lo ≤ e.1 ∧ e.1 < k.lo + k.bytes))) ∧
  ∀ (s : State) (sh n reg : Nat) (v : BitVec 64), sh < 32 → n < 16 → reg < 3 →
    exec (.securityRegionWrite sh n reg v false) s = .next s ∧
    ∃ t, exec (.securityRegionWrite sh n reg v true) s = .next t ∧ onlySheets s t ∧ t.regionRead sh n reg = (if reg = 2 then v &&& 3 else v) ∧
      ∀ m q, m ≠ n ∨ q ≠ reg → t.regionRead sh m q = s.regionRead sh m q


namespace Sys2Proof.Claims

/-! ### The host, bring-up and soft errors -/

/-- The port has no write of a window's EN that is not yet done (R187). -/
def portFree (s : State) (port : Nat) : Prop := ∀ h w, (s.port port).cfgWait = some (h, w) → (s.window h w).changing = false

/-- The command of an operation stands at the head of a port's ring, and none behind it is done: the module runs, CMDBASE is valid, CMDTAIL exceeds CMDHEAD, and the reserved bytes are 0 outside the body's ranges (R433, R434). -/
def commandAt (s : State) (port op : Nat) (body : List (Nat × Nat)) : Prop :=
  let p := s.port port
  let bs := s.hostMem.readList (p.cmdbase.toNat / 2 ^ 12 * 2 ^ 12 + 64 * (p.cmdhead.toNat % (64 * 2 ^ (p.cmdbase.toNat % 16)))) 64
  port < 4 ∧ s.bootStage = 2 ∧ p.stopped = false ∧ p.finished = [] ∧ portFree s port ∧ p.cmdbase.toNat / 2 ^ 4 % 2 ^ 8 = 0 ∧ p.cmdbase.toNat % 16 ≤ 8 ∧ p.cmdhead.toNat < p.cmdtail.toNat ∧
  p.cmdtail.toNat < p.cmdhead.toNat + 2 ^ 31 ∧ p.cmdtail.toNat < 2 ^ 32 ∧ leAt bs 0 1 = op ∧
  ∀ k, 1 ≤ k → k < 63 → (k < 4 ∨ 8 ≤ k) → (∀ r ∈ body, k < r.1 ∨ r.1 + r.2 ≤ k) → bs.getD k 0 = 0

/-- A field of the command at the head of a port's ring. -/
def commandField (s : State) (port o n : Nat) : Nat :=
  let p := s.port port
  leNat (s.hostMem.readList (p.cmdbase.toNat / 2 ^ 12 * 2 ^ 12 + 64 * (p.cmdhead.toNat % (64 * 2 ^ (p.cmdbase.toNat % 16))) + o) n)

/-- The command completes on a state with a status: its byte at +0x3F, CMDHEAD one higher, and MSI-X vector 0; nothing else differs from that state (R432, R433). -/
def completedWith (port status : Nat) (s r : State) (o : Out) : Prop :=
  let p := s.port port
  let at1 := p.cmdbase.toNat / 2 ^ 12 * 2 ^ 12 + 64 * (p.cmdhead.toNat % (64 * 2 ^ (p.cmdbase.toNat % 16))) + 0x3F
  ∃ t, o = .next t ∧ t = { r with hostMem := r.hostMem.write at1 (BitVec.ofNat 8 status), ports := t.ports } ∧
    t.port port = { r.port port with cmdhead := BitVec.ofNat 64 ((p.cmdhead.toNat + 1) % 2 ^ 32), msix := (r.port port).msix ++ [0] } ∧ ∀ q, q ≠ port → t.port q = r.port q

/-- The body fields of each operation: offset and size (R434). -/
def bodyOf (op : Nat) : List (Nat × Nat) :=
  match op with
  | 1 => [(8, 8), (0x10, 8), (0x18, 4)]
  | 2 => [(8, 8), (0x10, 8), (0x18, 4)]
  | 3 => [(8, 8), (0x10, 8), (0x18, 8), (0x20, 1), (0x21, 1), (0x22, 2), (0x24, 2), (0x26, 2), (0x28, 2), (0x2A, 2), (0x2C, 2), (0x2E, 2)]
  | 4 => [(8, 8), (0x10, 8), (0x18, 2), (0x1A, 1), (0x1B, 1)]
  | 5 => [(0x18, 2), (0x20, 8)]
  | 6 => [(0x18, 2), (0x1B, 1)]
  | _ => [(8, 8), (0x10, 8)]

/-- No host read fails, and no memory of the module is secure, moving, poisoned, decoded through a window, or engraved from. -/
def plainModule (s : State) : Prop :=
  s.hostErr = [] ∧ (∀ h ∈ s.sheets, h.2.regions = [] ∧ h.2.windows = [] ∧ h.2.moves = [] ∧ h.2.plates = []) ∧ s.memPoison = []

end Sys2Proof.Claims

/-- Commands complete in ring order with a status byte, CMDHEAD and MSI-X vector 0. Write and read move bytes between host memory and memory at its homes; a length outside 1 to 2^20, a misaligned
access of configuration space, or one from a non-secure function fails. Create launch refuses fields outside their limits, enters the launch under the lowest free id and ASID, and returns them.
Submit item hands the host's item to the sheet of a rank. Wake task sets a wake bit. End launch completes once the launch has ended, with memory, plates and format windows as they were (R50), and while it waits a command behind it is handled and completes after it. Attest writes its reply (R432 to R434, R440). The
model's choices are the order in which a command's findings are looked for (log 82), reserved flags as 0x1B (log 83), and status 0 for an ended launch and the handling of
commands behind a waiting one (log 90). -/
def Obligations.HostCommandsComplete : Prop :=
  ∀ (s : State) (port : Nat),
    let f := fun (o n : Nat) => commandField s port o n
    let pa := f 8 8
    let len := f 0x18 4
    let id := f 0x18 2
    (∀ op, 1 ≤ op → op ≤ 7 → commandAt s port op [(0, 64)] → (∃ k, 1 ≤ k ∧ k < 63 ∧ (k < 4 ∨ 8 ≤ k) ∧ (∀ r ∈ bodyOf op, k < r.1 ∨ r.1 + r.2 ≤ k) ∧ f k 1 ≠ 0) →
      ∀ i, (op, i) ∈ [(1, Instr.cmdWrite port), (2, .cmdRead port), (3, .cmdCreateLaunch port), (4, .cmdSubmitItem port), (5, .cmdWakeTask port), (6, .cmdEndLaunch port), (7, .cmdAttest port)] →
        completedWith port 0x01 s s (exec i s)) ∧
    (∀ op, op = 0 ∨ 8 ≤ op → commandAt s port op [(0, 64)] → completedWith port 0x01 s s (exec (.cmdInvalidOp port) s)) ∧
    (∀ i, commandAt s port 1 (bodyOf 1) ∧ i = .cmdWrite port ∨ commandAt s port 2 (bodyOf 2) ∧ i = .cmdRead port →
      (2 ^ 52 ≤ pa ∨ len = 0 ∨ 2 ^ 20 < len → completedWith port 0x1B s s (exec i s)) ∧
      (pa < 2 ^ 52 → 0 < len → len ≤ 2 ^ 20 → paCfg pa = true → (pa % 8 = 0 ∧ len % 8 = 0 → (s.port port).secure = false → completedWith port 0x08 s s (exec i s)) ∧
        (pa % 8 ≠ 0 ∨ len % 8 ≠ 0 → completedWith port 0x1B s s (exec i s)))) ∧
    (commandAt s port 1 (bodyOf 1) → plainModule s → paCfg pa = false → pa < 2 ^ 52 → 0 < len → len ≤ 2 ^ 20 → (∀ k, k < len → s.region (pa + k) = .hbm) → s.mem.wf = true → ∃ r : State,
      completedWith port 0 s r (exec (.cmdWrite port) s) ∧ r.hostMem = s.hostMem ∧ r.cores = s.cores ∧ r.threads = s.threads ∧
      (∀ k, k < len → r.mem.read (pa + k) = s.hostMem.read (f 0x10 8 + k)) ∧ (∀ x, x < pa ∨ pa + len ≤ x → r.mem.read x = s.mem.read x) ∧
      (∀ x, pa ≤ x → x < pa + len → r.tagOf (x / 256 * 256) = 0)) ∧
    (commandAt s port 2 (bodyOf 2) → plainModule s → paCfg pa = false → pa < 2 ^ 52 → 0 < len → len ≤ 2 ^ 20 → (∀ k, k < len → s.region (pa + k) = .hbm) → ∃ r : State,
      completedWith port 0 s r (exec (.cmdRead port) s) ∧ r.mem = s.mem ∧ r.hostMem = s.hostMem.writeList (f 0x10 8) ((List.range len).map (fun k => s.mem.read (pa + k)))) ∧
    (commandAt s port 3 (bodyOf 3) → (f 0x10 8 % 2048 ≠ 0 ∨ f 0x20 1 = 0 ∨ 64 < f 0x20 1 ∨ 2 ≤ f 0x21 1 ∨ 1024 < f 0x22 2 → completedWith port 0x1B s s (exec (.cmdCreateLaunch port) s)) ∧
      (f 0x10 8 % 2048 = 0 → f 0x10 8 < 2 ^ 51 → 1 ≤ f 0x20 1 → f 0x20 1 ≤ 64 → f 0x21 1 = 1 → f 0x22 2 = 0 → (s.port port).secure = false →
        completedWith port 0x09 s s (exec (.cmdCreateLaunch port) s)) ∧
      (f 0x10 8 % 2048 = 0 → f 0x10 8 < 2 ^ 51 → f 0x20 1 = 1 → f 0x21 1 < 2 → (f 0x21 1 = 1 → (s.port port).secure = true) → f 0x22 2 = 0 → s.hostErr = [] → s.grid = 0 →
        let lg := s.hostMem.readList pa 128
        let l : Launch := { live := true, x := f 0x24 2, y := f 0x26 2, w := f 0x28 2, h := f 0x2A 2, asid := 0, secure := decide (f 0x21 1 = 1), legends := [lg], qcfgs := [], drained := [], port := port }
        legendOk lg = true → leAt lg 0x0A 1 = 0 → leAt lg 2 2 = l.x → leAt lg 4 2 = l.y → leAt lg 6 2 = l.w → leAt lg 8 2 = l.h → 1 ≤ l.w → 1 ≤ l.h → l.x + l.w ≤ 8 → l.y + l.h ≤ 4 →
        s.routesOk l = true → (∀ o ∈ s.launches, o.2.live = false) → plainModule s → s.lxlost = 0 → s.mem.wf = true →
        let entry := fun (h : Nat) => (s.sheet h).asidtab.toNat / 2 ^ 15 % 2 ^ 37 * 2 ^ 15
        (∀ h, l.covers h = true → s.region (entry h) = .hbm) → ∃ r : State,
          completedWith port 0 s r (exec (.cmdCreateLaunch port) s) ∧ r.launch 0 = l ∧ r.cores = s.cores ∧ r.threads = s.threads ∧ r.ctxs = s.ctxs ∧ r.net = s.net ∧
          (∀ h, h < 32 → l.covers h = true → leNat (r.mem.readList (entry h) 8) = 2 ^ 63 + f 0x10 8 ∧ (r.sheet h).routing.get? 0 = some (l.routing h)) ∧
          (∀ x, (∀ h, l.covers h = true → x < entry h ∨ entry h + 8 ≤ x) → r.mem.read x = s.mem.read x) ∧
          r.hostMem = (s.hostMem.writeList ((s.port port).cmdAt 0 + 0x2C) (leBytes 2 0)).writeList ((s.port port).cmdAt 0 + 0x2E) (leBytes 2 0))) ∧
    (commandAt s port 4 (bodyOf 4) →
      let l := s.launch id
      let col := l.x + f 0x1A 1 % l.w
      let row := l.y + f 0x1A 1 / l.w
      (l.live = false ∨ l.w * l.h ≤ f 0x1A 1 ∨ 8 ≤ col ∨ 4 ≤ row ∨ 2 ≤ f 0x1B 1 → completedWith port 0x1B s s (exec (.cmdSubmitItem port) s)) ∧
      (l.live = true → f 0x1A 1 < l.w * l.h → col < 8 → row < 4 → f 0x1B 1 = 1 → (s.port port).secure = false → completedWith port 0x08 s s (exec (.cmdSubmitItem port) s)) ∧
      (l.live = true → f 0x1A 1 < l.w * l.h → col < 8 → row < 4 → f 0x1B 1 < 2 → (f 0x1B 1 = 1 → (s.port port).secure = true) → s.hostErr = [] →
        let sh := row * 8 + col
        let taken := s.intake sh { Submission.ofVa 0 id with words := (List.range 16).map (fun k => BitVec.ofNat 64 (leNat (s.hostMem.readList (pa + 8 * k) 8))), system := decide (f 0x1B 1 = 1), notify := some (port, f 0x10 8, f 4 4) }
        (∀ c r, taken = (.ok c, r) → completedWith port c s r (exec (.cmdSubmitItem port) s)) ∧
        ((∀ h, (s.sheet h).pool < Config.poolSize) → (∀ h ∈ s.sheets, h.2.moves = []) → ∃ c r, taken = (.ok c, r) ∧ completedWith port c s r (exec (.cmdSubmitItem port) s)))) ∧
    (commandAt s port 5 (bodyOf 5) →
      let a := f 0x20 8
      let th := a / 64 * 8 + a % 8
      (2 ^ 22 ≤ a ∨ a / 8 % 8 ≠ 0 ∨ (s.launch id).live = false ∨ (a < 2 ^ 22 ∧ ((s.thread th).st = .empty ∨ (s.thread th).launch ≠ id)) → completedWith port 0x1B s s (exec (.cmdWakeTask port) s)) ∧
      (a < 2 ^ 22 → a / 8 % 8 = 0 → (s.launch id).live = true → (s.thread th).st ≠ .empty → (s.thread th).launch = id →
        completedWith port 0 s (s.mapThread th (fun t => { t with wake := true })) (exec (.cmdWakeTask port) s))) ∧
    (commandAt s port 6 (bodyOf 6) → (s.launches.get? id).isSome = true → (2 ≤ f 0x1B 1 → completedWith port 0x1B s s (exec (.cmdEndLaunch port) s)) ∧
      (f 0x1B 1 < 2 → (s.launch id).live = false → completedWith port 0 s s (exec (.cmdEndLaunch port) s)) ∧
      (f 0x1B 1 = 1 → (s.launch id).live = true → completedWith port 0 s (s.failLaunch id 0x14) (exec (.cmdEndLaunch port) s) ∧ ((s.failLaunch id 0x14).launch id).live = false) ∧
      (f 0x1B 1 = 0 → (s.launch id).live = true → (∀ h ∈ s.sheets, (∀ j ∈ h.2.items, j.2.launch = id → j.2.st = .final) ∧ (∀ b ∈ h.2.intakeQ, b.launch ≠ id) ∧
          ∀ x ∈ h.2.lxs, x.2.launch = id → x.2.live = true → x.2.st ≠ 4) → ∃ r : State,
        completedWith port 0 s r (exec (.cmdEndLaunch port) s) ∧ (r.launch id).live = false ∧ r.mem = s.mem ∧
          ∀ h, (r.sheet h).plates = (s.sheet h).plates ∧ (r.sheet h).windows = (s.sheet h).windows) ∧
      (let p := s.port port
        let bs := s.cmdBytes port 1
        let a := leAt bs 0x20 8
        let th := a / 64 * 8 + a % 8
        f 0x1B 1 = 0 → (s.launch id).live = true → s.launchBusy id = true → p.cmdhead.toNat + 1 < p.cmdtail.toNat → leAt bs 0 1 = 5 → frameBad 5 bs = false →
          a < 2 ^ 22 → a / 8 % 8 = 0 → leAt bs 0x18 2 = id → (s.thread th).st ≠ .empty → (s.thread th).launch = id →
          exec (.cmdWakeTask port) s = .next ((s.mapThread th (fun t => { t with wake := true })).mapPort port (fun p => { p with finished := [((p.cmdhead.toNat + 1) % 2 ^ 32, 0)] })))) ∧
    (commandAt s port 7 (bodyOf 7) → s.hostErr = [] → ∃ bs : List Byte,
      completedWith port 0 s { s with hostMem := s.hostMem.writeList (f 0x10 8) bs } (exec (.cmdAttest port) s) ∧ bs.take 48 = s.hostMem.readList pa 48 ∧ (s.bootDigest.length = 48 →
        (bs.drop 48).take 48 = s.bootDigest ∧ leNat ((bs.drop 0x60).take 8) = 0x5359 * 2 ^ 48 + 0x9632 * 2 ^ 32 + Config.stepping.toNat * 2 ^ 16 + port % 4))

/-- Bring-up and the ports: a STATUS write with GO in stages 0 and 3 starts verification of its image; the image's header, length, key, signature and reads decide between running and stage 3 with
REASON. Outside stage 2 the registers but IDENT and STATUS drop writes and BAR2 reads all ones. CMDBASE, CMDTAIL and GRID take their values; GRID only before the first launch. A doubleword moves
through BAR2. A reset, or 115 °C, returns the module to stage 0 and keeps host memory; above 105 °C a stack is throttled (R431, R432, R436 to R438, R442). The model's readings are what survives a reset or a thermal stop (log 94), the dropped write of a
read-only port register (log 130), and the bytes of a host read that fails (log 160). -/
def Obligations.BringUpAndPorts : Prop :=
  ∀ (s : State) (port : Nat) (v : BitVec 64), port < 4 → portFree s port →
    (s.bootStage = 0 ∨ s.bootStage = 3 → v.getLsbD 0 = true → ∃ t, exec (.statusWrite port v) s = .next t ∧ t.bootStage = 1 ∧ t.bootReason = 0 ∧ t.bootPort = port ∧
      t.bootImage.toNat = v.toNat / 4096 * 4096 ∧ t.mem = s.mem) ∧
    (s.bootStage = 1 ∨ s.bootStage = 2 ∨ v.getLsbD 0 = false → exec (.statusWrite port v) s = .next s) ∧
    (s.bootStage = 1 →
      let a := s.bootImage.toNat
      let hd := s.hostMem.readList a 64
      let len := leAt hd 8 4
      let header := hd.take 4 = [0x54, 0x58, 0x42, 0x46] ∧ leAt hd 4 4 = 1 ∧ ∀ k, 12 ≤ k → k < 64 → hd.getD k 0 = 0
      let size := len % 64 = 0 ∧ 64 ≤ len ∧ len ≤ 2 ^ 26
      let key := s.hostMem.readList (a + len) 97
      let stands := fun (n : Nat) => exec (.bootVerifyDone n) s = .next { s with bootStage := 3, bootReason := n }
      (¬header → stands 1) ∧ (header → ¬size → stands 2) ∧ (header → size → sha384 key ≠ Config.fusedKeyHash → stands 3) ∧
      (header → size → sha384 key = Config.fusedKeyHash →
        let good := ecdsaOk key (s.hostMem.readList (a + len + 97) 96) (sha384 (s.hostMem.readList a len))
        (good = false → stands 4) ∧
        (good = true → (∃ e ∈ s.hostErr, a < e.1 + e.2 ∧ e.1 < a + len + 193) → stands 5) ∧
        (good = true → s.hostErr = [] → ∃ t, exec (.bootVerifyDone 0) s = .next t ∧ t.bootStage = 2 ∧ t.bootReason = 0 ∧ t.bootDigest = sha384 (s.hostMem.readList a len) ∧ t.mem = s.mem))) ∧
    (s.bootStage ≠ 2 → exec (.cmdbaseWrite port v) s = .next s ∧ exec (.cmdtailWrite port v) s = .next s ∧ exec (.hostRegWrite port 0x28 v) s = .next s ∧
      (∀ pa, pa % 8 = 0 → pa < 2 ^ 52 → exec (.bar2WindowAccess port true pa v) s = .next s ∧
        exec (.bar2WindowAccess port false pa v) s = .next (s.mapPort port (fun p => { p with rdata := BitVec.allOnes 64 })))) ∧
    (s.bootStage = 2 → exec (.cmdbaseWrite port v) s = .next (s.mapPort port (fun p => { p with cmdbase := v })) ∧
      exec (.cmdtailWrite port v) s = .next (s.mapPort port (fun p => { p with cmdtail := BitVec.ofNat 64 (v.toNat % 2 ^ 32) })) ∧
      (s.launches = [] → ∃ t, exec (.hostRegWrite port 0x28 v) s = .next t ∧ t.grid.toNat = v.toNat % 256 ∧ t = { s with grid := t.grid }) ∧
      (s.launches ≠ [] → exec (.hostRegWrite port 0x28 v) s = .next s) ∧
      (∀ off, off ∉ [0x8, 0x10, 0x18, 0x28] → exec (.hostRegWrite port off v) s = .next s) ∧
      (∀ pa, pa % 8 = 0 → pa < 2 ^ 41 → (s.port port).stopped = false → plainModule s → (∀ k, k < 8 → s.region (pa + k) = .hbm) →
        (∃ t, exec (.bar2WindowAccess port false pa v) s = .next t ∧ leBytes 8 (t.port port).rdata.toNat = s.mem.readList pa 8 ∧ t.mem = s.mem) ∧
        (s.mem.wf = true → ∃ t, exec (.bar2WindowAccess port true pa v) s = .next t ∧ t.mem.readList pa 8 = leBytes 8 v.toNat ∧ ∀ x, x < pa ∨ pa + 8 ≤ x → t.mem.read x = s.mem.read x))) ∧
    (∀ i, i = .moduleReset ∨ i = .thermalStop → ∃ t, exec i s = .next t ∧ t.bootStage = 0 ∧ t.launches = [] ∧ t.threads = [] ∧ t.ctxs = [] ∧ t.clusters = [] ∧ t.ports = [] ∧ t.hostMem = s.hostMem ∧
      t.lifetime = s.lifetime) ∧
    ∀ sh, sh < 32 → ((s.sheet sh).throttled = false → exec (.thermalThrottle sh) s = .next (s.mapSheet sh (fun h => { h with throttled := true }))) ∧
      ((s.sheet sh).throttled = true → exec (.junctionTemperatureFall sh) s = .next (s.mapSheet sh (fun h => { h with throttled := false })))

/-- A corrected error leaves what it strikes as it was, but for a TLB entry, a node cache or a replica, which is dropped; it is recorded as cause 0x16 and counted. An uncorrected one freezes the
core of a context, poisons 8 bytes of local memory or memory, invalidates a clean sector of an L1d line, freezes the core of one with dirty bytes, drops a TLB entry or replica, marks a plate, or fails the launch
(R368, R369, R441). That memory is poisoned in units of 8 bytes at its home is the model's reading (log 77), and that a plate is only marked (log 80). -/
def Obligations.SoftErrorsActByStructure : Prop :=
  ∀ (s : State), (∀ h, s.ringBlocked h = false) →
    let counted := fun (l l' : Map Nat (BitVec 32)) (k : Nat) => l'.get 0 k = (if l.get 0 k = 0xFFFFFFFF then 0xFFFFFFFF else l.get 0 k + 1) ∧ ∀ j, j ≠ k → l'.get 0 j = l.get 0 j
    (∀ x k core n, core < 65536 → (x = ErrSite.context core n ∧ n < 10 ∧ k = 0) ∨ (x = .localMem core n ∧ n < 0x18000 ∧ k = 1) → ∃ t, exec (.softErrorCorrected x) s = .next t ∧
      counted s.lifetime.corrected t.lifetime.corrected k ∧ t.lifetime.uncorrected = s.lifetime.uncorrected ∧ t.cores = s.cores ∧ t.ctxs = s.ctxs ∧ t.threads = s.threads ∧ t.clusters = s.clusters) ∧
    (∀ core line sector, sector < 4 → (∃ e ∈ (s.core core).l1, e.line = line) → ∃ t, exec (.softErrorCorrected (.l1d core line sector)) s = .next t ∧ t.cores = s.cores ∧ counted s.lifetime.corrected t.lifetime.corrected 2) ∧
    (∀ cl i, i < (s.cluster cl).tlb.length → ∀ ins, ins = .softErrorCorrected (.tlb cl i) ∨ ins = .softErrorUncorrected (.tlb cl i) → ∃ t, exec ins s = .next t ∧
      (t.cluster cl).tlb = (s.cluster cl).tlb.eraseIdx i ∧ t.cores = s.cores ∧ t.threads = s.threads) ∧
    (∀ sh line, (∃ r ∈ (s.sheet sh).replicas, r.1 = line) → ∀ ins, ins = .softErrorCorrected (.replica sh line) ∨ ins = .softErrorUncorrected (.replica sh line) → ∃ t, exec ins s = .next t ∧
      (t.sheet sh).replicas = (s.sheet sh).replicas.filter (fun r => decide (r.1 ≠ line)) ∧ t.cores = s.cores) ∧
    (∀ core k, core < 65536 → k < 10 → ∃ t, exec (.softErrorUncorrected (.context core k)) s = .next t ∧ (t.core core).frozen = true ∧ k ∈ (t.core core).unreadable ∧ (∀ c, c.core? ≠ some core → t.ctxOf c = s.ctxOf c) ∧
      counted s.lifetime.uncorrected t.lifetime.uncorrected 0 ∧ ∀ c, c ≠ core → t.core c = s.core c) ∧
    (∀ core off, core < 65536 → off < 0x18000 → ∃ t, exec (.softErrorUncorrected (.localMem core off)) s = .next t ∧ off / 8 ∈ (t.core core).poison ∧
      (∀ w, w ∈ (t.core core).poison → w = off / 8 ∨ w ∈ (s.core core).poison) ∧ (t.core core).mem = (s.core core).mem ∧ t.mem = s.mem ∧ counted s.lifetime.uncorrected t.lifetime.uncorrected 1) ∧
    (∀ pa, s.region pa = .hbm → ∃ t, exec (.softErrorUncorrected (.memory pa)) s = .next t ∧ t.mem = s.mem ∧ counted s.lifetime.uncorrected t.lifetime.uncorrected 3 ∧
      ∀ x, x ∈ t.memPoison ↔ x ∈ s.memPoison ∨ x / 8 = pa / 8) ∧
    (∀ core line sector, sector < 4 → core < 65536 → (s.core core).spec = [] → (∃ e ∈ (s.core core).l1, e.line = line) →
      let owns := fun (e : L1Entry) => ∃ b, 64 * sector ≤ b ∧ b < 64 * sector + 64 ∧ e.dirty.getLsbD b = true
      ((∀ e ∈ (s.core core).l1, e.line = line → ¬owns e) → ∃ t, exec (.softErrorUncorrected (.l1d core line sector)) s = .next t ∧ (t.core core).frozen = (s.core core).frozen ∧
        (t.core core).l1 = (s.core core).l1.map (fun e => if e.line = line then { e with valid := e.valid &&& ~~~BitVec.twoPow 4 sector } else e)) ∧
      ((∃ e ∈ (s.core core).l1, e.line = line ∧ owns e) → ∃ t, exec (.softErrorUncorrected (.l1d core line sector)) s = .next t ∧ (t.core core).frozen = true)) ∧
    (∀ sh i p, (s.sheet sh).plates[i]? = some p → ∃ t, exec (.softErrorUncorrected (.plate sh i)) s = .next t ∧ (t.sheet sh).plates[i]? = some { p with bad := true }) ∧
    ∀ l, (s.launch l).live = true → (∀ h ∈ s.sheets, h.2.items = [] ∧ h.2.intakeQ = []) → ∃ t, exec (.softErrorUncorrected (.dispatcher l)) s = .next t ∧ (t.launch l).live = false


namespace Sys2Proof.Claims

/-! ### The whole machine -/

/-- Every memory of the machine has its one canonical form: global memory, host memory, the local memory of each core, and the scratchpad of each Compass. -/
def canonical (s : State) : Prop :=
  s.mem.wf = true ∧ s.hostMem.wf = true ∧ (∀ c ∈ s.cores, c.2.mem.wf = true) ∧ ∀ h ∈ s.sheets, h.2.compass.pad.wf = true

end Sys2Proof.Claims

/-- Every step from a state whose memories have their canonical form answers a state whose memories have it (R125, R253, R260, R417, R433). -/
def Obligations.EveryStepKeepsTheMemoriesCanonical : Prop := ∀ (s t : State), canonical s → step s = .next t → canonical t

/-- The memories have their canonical form after reset, and the state into which a first word is placed keeps it. -/
def Obligations.ResetMemoriesAreCanonical : Prop := canonical State.reset ∧ ∀ nbits w, canonical (State.reset.withFetchWord nbits w)

/-- Module reset: STAGE and REASON are 0, no launch exists, every line's tag and both generations are 0, the ports' registers and GRID are 0, the surveyor control registers hold their
reset values with REPCTL 0x1420, every edge has 16 groups in each direction, and every block is secure (R253, R270, R363, R396, R405, R432, R436, R439). -/
def Obligations.ResetLeavesTheValuesOfTheSpec : Prop :=
  let s := State.reset
  s.bootStage = 0 ∧ s.bootReason = 0 ∧ (∀ l, (s.launch l).live = false) ∧ (∀ line, s.tagOf line = 0) ∧ s.wgen = 0 ∧ s.kgen = 0 ∧ s.grid = 0 ∧ s.cycle = 0 ∧
  (∀ p, (s.port p).cmdbase = 0 ∧ (s.port p).cmdtail = 0 ∧ (s.port p).cmdhead = 0 ∧ (s.port p).evport = 0 ∧ (s.port p).secure = true) ∧
  (∀ h k n, n ∈ [0x200, 0x201, 0x202, 0x203, 0x204, 0x205, 0x207, 0x210, 0x211, 0x212, 0x218, 0x220, 0x221, 0x23C, 0x23D, 0x240, 0x248, 0x249] → s.svRead h k n = some 0) ∧
  (∀ h k, s.svRead h k 0x213 = some 0x1420) ∧ (∀ e, (s.edge e).pos = 16 ∧ (s.edge e).neg = 16 ∧ (s.edge e).world = true) ∧
  (∀ c, (s.cluster c).worldCl = true ∧ (s.cluster c).worldArr = true ∧ (s.cluster c).worldTrc = true) ∧ ∀ h w r, s.windowRead h w r = 0

/-- A task's start leaves every scalar and predicate register 0, every vector register 0, SEED 1, VSHAPE FP32 in 16 rows and 8 columns, the other control registers that a side holds 0 (ROUND, MCONS, SCANOUT, REPCNT, CAUSE, FAULTVA), the C side
at entry_c and the A side idle (R53, R61, R62). -/
def Obligations.TaskStartLeavesTheValuesOfTheSpec : Prop :=
  ∀ (s u : State) (th : Nat) (side : Side), exec (.inputCopyDone th) s = .next u →
    let v : State := { u with cur := .task th side }
    (∀ r, v.reg r = 0) ∧ (∀ p, v.pred p = 0) ∧ (∀ n, n < 24 → v.vsrc n 0 = 0) ∧ v.controlRead 0x001 = 1 ∧ v.controlRead 0x003 = 0x7F0 ∧
    (∀ n, n ∈ [0x002, 0x005, 0x006, 0x007, 0x009, 0x00D] → v.controlRead n = 0) ∧ v.ctx.hints = Hints.none ∧ v.ctx.buf = [] ∧
    (u.ctxOf (.task th .c)).run = .running ∧ (u.ctxOf (.task th .c)).pc = (let t := s.thread th; (s.item t.itemSheet t.item).entryC) ∧ (u.ctxOf (.task th .a)).run = .idle ∧
    (side = .c → v.shape.ty = 0 ∧ v.shape.rows = 16 ∧ v.shape.cols = 8)


/-- A group with a hint is checked when it has been fetched, before any word of it issues. Four hint words, two hints of a kind, a reserved hint, an illegal instruction
word, or a hint that the instruction does not accept raise cause 0x02 at the first hint, with HINT set, and no word of the group takes effect; any other group enters
issue at its first word (R81 to R84, R88, R95). -/
def Obligations.GroupsThatBreakTheHintRulesRaise : Prop :=
  ∀ (s u : State) (hs : List (BitVec 32)), s.ctx.buf = [] → s.isFollower = false → hs ≠ [] → (∀ h ∈ hs, isHintWord h = true) →
    let s0 := s.upd (fun k => k.begin k.pc [])
    (s0.fetchGroup s.ctx.pc.toNat 4 = .ok hs u → s.fill = .inl (.next (u.raiseAt 0x02 none true))) ∧
    (∀ w, isHintWord w = false → s0.fetchGroup s.ctx.pc.toNat 4 = .ok (hs ++ [w]) u →
      (¬legalGroup u.cur.isA hs w → s.fill = .inl (.next (u.raiseAt 0x02 none true))) ∧
      (legalGroup u.cur.isA hs w → s.fill = .inr (u.upd (fun k => k.begin s.ctx.pc (hs ++ [w]))))) ∧
    (∀ (v : State) (o : Out), s = v.upd (fun k => { k with wait := none }) → s.fill = .inl o → v.prepare = .inl o)

/-- JR jumps to sA; JALR takes sA as its target, then writes the address of the next word to s31, and jumps, so that JALR through s31 jumps to the old link. A word of
either with a non-zero D or B is illegal. A target that is not a multiple of 4 raises cause 0x05 at the word: after commit EPCA or EPCC holds its address and FAULTVA
the target, the side stops there, and no link is written. A follower writes the link and goes on with what its leader sends (R73, R112). -/
def Obligations.JumpsThroughRegistersGoToTheirTarget : Prop :=
  (∀ w : BitVec 32, w.toNat / 2 ^ 26 = 0x12 → w.toNat % 32 < 2 → (w.toNat / 2 ^ 15 % 32 ≠ 0 ∨ w.toNat / 2 ^ 5 % 32 ≠ 0) → ∃ e, decode w = .error e) ∧
  (∀ (a : BitVec 5) (g : Guard) (w : BitVec 32), w.toNat / 2 ^ 26 = 0x12 → (decode w = .ok (.jumpReg g a) → w.toNat % 32 = 0 ∧ w.toNat / 2 ^ 10 % 32 = a.toNat) ∧
    (decode w = .ok (.jumpLinkReg g a) → w.toNat % 32 = 1 ∧ w.toNat / 2 ^ 10 % 32 = a.toNat)) ∧
  ∀ (s : State) (g : Guard) (a : BitVec 5) (link : Bool),
    let i : Instr := if link then .jumpLinkReg g a else .jumpReg g a
    let r := if link then s.setReg 31 (s.ctx.pc + 4) else s
    Issues i s → s.selected g = true →
    (s.isFollower = false → (s.reg a).toNat % 4 = 0 → CompletesAt (s.reg a) r (exec i s)) ∧
    (s.isFollower = true → Completes r (exec i s)) ∧
    (s.isFollower = false → (s.reg a).toNat % 4 ≠ 0 → exec i s = raise 0x05 (s.reg a) s ∧
      ∀ th side, s.cur = .task th side → (s.thread th).post = true → s.ringBlocked (sheetOfCore (coreOfThread th)) = false → s.ctx.grp = s.ctx.pc →
        ∃ u, exec i s = .next u ∧ u.ctx.faultva = s.reg a ∧ u.ctx.x = s.ctx.x ∧ u.ctx.pc = s.ctx.pc ∧ u.ctx.run = .frozen ∧
          (side = .a → (u.thread th).epca = s.ctx.pc &&& ~~~3) ∧ (side = .c → (u.thread th).epcc = s.ctx.pc &&& ~~~3))
end

