-- ==== Sys2Proof/Laws/Dispatch.lean ====
section
/-! SUPPORT. What `exec` of each instruction and event is: one lemma for each arm of the dispatch, so that no proof unfolds the whole of it. -/

namespace Sys2Proof.Machine

@[simp] theorem exec_add (g : Guard) (d : BitVec 5) (a : BitVec 5) (b : BitVec 5) (s : State) : exec (.add g d a b) s = execAdd g d a b s := rfl
@[simp] theorem exec_sub (g : Guard) (d : BitVec 5) (a : BitVec 5) (b : BitVec 5) (s : State) : exec (.sub g d a b) s = execSub g d a b s := rfl
@[simp] theorem exec_and (g : Guard) (d : BitVec 5) (a : BitVec 5) (b : BitVec 5) (s : State) : exec (.and g d a b) s = execAnd g d a b s := rfl
@[simp] theorem exec_or (g : Guard) (d : BitVec 5) (a : BitVec 5) (b : BitVec 5) (s : State) : exec (.or g d a b) s = execOr g d a b s := rfl
@[simp] theorem exec_xor (g : Guard) (d : BitVec 5) (a : BitVec 5) (b : BitVec 5) (s : State) : exec (.xor g d a b) s = execXor g d a b s := rfl
@[simp] theorem exec_andn (g : Guard) (d : BitVec 5) (a : BitVec 5) (b : BitVec 5) (s : State) : exec (.andn g d a b) s = execAndn g d a b s := rfl
@[simp] theorem exec_shl (g : Guard) (d : BitVec 5) (a : BitVec 5) (b : BitVec 5) (s : State) : exec (.shl g d a b) s = execShl g d a b s := rfl
@[simp] theorem exec_shr (g : Guard) (d : BitVec 5) (a : BitVec 5) (b : BitVec 5) (s : State) : exec (.shr g d a b) s = execShr g d a b s := rfl
@[simp] theorem exec_sar (g : Guard) (d : BitVec 5) (a : BitVec 5) (b : BitVec 5) (s : State) : exec (.sar g d a b) s = execSar g d a b s := rfl
@[simp] theorem exec_min (g : Guard) (d : BitVec 5) (a : BitVec 5) (b : BitVec 5) (s : State) : exec (.min g d a b) s = execMin g d a b s := rfl
@[simp] theorem exec_max (g : Guard) (d : BitVec 5) (a : BitVec 5) (b : BitVec 5) (s : State) : exec (.max g d a b) s = execMax g d a b s := rfl
@[simp] theorem exec_minn (g : Guard) (d : BitVec 5) (a : BitVec 5) (b : BitVec 5) (s : State) : exec (.minn g d a b) s = execMinn g d a b s := rfl
@[simp] theorem exec_maxn (g : Guard) (d : BitVec 5) (a : BitVec 5) (b : BitVec 5) (s : State) : exec (.maxn g d a b) s = execMaxn g d a b s := rfl
@[simp] theorem exec_addw (g : Guard) (d : BitVec 5) (a : BitVec 5) (b : BitVec 5) (s : State) : exec (.addw g d a b) s = execAddw g d a b s := rfl
@[simp] theorem exec_subw (g : Guard) (d : BitVec 5) (a : BitVec 5) (b : BitVec 5) (s : State) : exec (.subw g d a b) s = execSubw g d a b s := rfl
@[simp] theorem exec_clz (g : Guard) (d : BitVec 5) (a : BitVec 5) (s : State) : exec (.clz g d a) s = execClz g d a s := rfl
@[simp] theorem exec_ctz (g : Guard) (d : BitVec 5) (a : BitVec 5) (s : State) : exec (.ctz g d a) s = execCtz g d a s := rfl
@[simp] theorem exec_popc (g : Guard) (d : BitVec 5) (a : BitVec 5) (s : State) : exec (.popc g d a) s = execPopc g d a s := rfl
@[simp] theorem exec_sext8 (g : Guard) (d : BitVec 5) (a : BitVec 5) (s : State) : exec (.sext8 g d a) s = execSext8 g d a s := rfl
@[simp] theorem exec_sext16 (g : Guard) (d : BitVec 5) (a : BitVec 5) (s : State) : exec (.sext16 g d a) s = execSext16 g d a s := rfl
@[simp] theorem exec_sext32 (g : Guard) (d : BitVec 5) (a : BitVec 5) (s : State) : exec (.sext32 g d a) s = execSext32 g d a s := rfl
@[simp] theorem exec_zext32 (g : Guard) (d : BitVec 5) (a : BitVec 5) (s : State) : exec (.zext32 g d a) s = execZext32 g d a s := rfl
@[simp] theorem exec_mul (g : Guard) (d : BitVec 5) (a : BitVec 5) (b : BitVec 5) (s : State) : exec (.mul g d a b) s = execMul g d a b s := rfl
@[simp] theorem exec_mulh (g : Guard) (d : BitVec 5) (a : BitVec 5) (b : BitVec 5) (s : State) : exec (.mulh g d a b) s = execMulh g d a b s := rfl
@[simp] theorem exec_mulhn (g : Guard) (d : BitVec 5) (a : BitVec 5) (b : BitVec 5) (s : State) : exec (.mulhn g d a b) s = execMulhn g d a b s := rfl
@[simp] theorem exec_mulw (g : Guard) (d : BitVec 5) (a : BitVec 5) (b : BitVec 5) (s : State) : exec (.mulw g d a b) s = execMulw g d a b s := rfl
@[simp] theorem exec_div (g : Guard) (d : BitVec 5) (a : BitVec 5) (b : BitVec 5) (s : State) : exec (.div g d a b) s = execDiv g d a b s := rfl
@[simp] theorem exec_divn (g : Guard) (d : BitVec 5) (a : BitVec 5) (b : BitVec 5) (s : State) : exec (.divn g d a b) s = execDivn g d a b s := rfl
@[simp] theorem exec_rem (g : Guard) (d : BitVec 5) (a : BitVec 5) (b : BitVec 5) (s : State) : exec (.rem g d a b) s = execRem g d a b s := rfl
@[simp] theorem exec_remn (g : Guard) (d : BitVec 5) (a : BitVec 5) (b : BitVec 5) (s : State) : exec (.remn g d a b) s = execRemn g d a b s := rfl
@[simp] theorem exec_addi (g : Guard) (d : BitVec 5) (a : BitVec 5) (im : BitVec 10) (s : State) : exec (.addi g d a im) s = execAddi g d a im s := rfl
@[simp] theorem exec_andi (g : Guard) (d : BitVec 5) (a : BitVec 5) (im : BitVec 10) (s : State) : exec (.andi g d a im) s = execAndi g d a im s := rfl
@[simp] theorem exec_ori (g : Guard) (d : BitVec 5) (a : BitVec 5) (im : BitVec 10) (s : State) : exec (.ori g d a im) s = execOri g d a im s := rfl
@[simp] theorem exec_xori (g : Guard) (d : BitVec 5) (a : BitVec 5) (im : BitVec 10) (s : State) : exec (.xori g d a im) s = execXori g d a im s := rfl
@[simp] theorem exec_shli (g : Guard) (d : BitVec 5) (a : BitVec 5) (st : BitVec 6) (s : State) : exec (.shli g d a st) s = execShli g d a st s := rfl
@[simp] theorem exec_shri (g : Guard) (d : BitVec 5) (a : BitVec 5) (st : BitVec 6) (s : State) : exec (.shri g d a st) s = execShri g d a st s := rfl
@[simp] theorem exec_sari (g : Guard) (d : BitVec 5) (a : BitVec 5) (st : BitVec 6) (s : State) : exec (.sari g d a st) s = execSari g d a st s := rfl
@[simp] theorem exec_cmpiEq (g : Guard) (p : BitVec 4) (a : BitVec 5) (im : BitVec 8) (s : State) : exec (.cmpiEq g p a im) s = execCmpiEq g p a im s := rfl
@[simp] theorem exec_cmpiNe (g : Guard) (p : BitVec 4) (a : BitVec 5) (im : BitVec 8) (s : State) : exec (.cmpiNe g p a im) s = execCmpiNe g p a im s := rfl
@[simp] theorem exec_cmpiLt (g : Guard) (p : BitVec 4) (a : BitVec 5) (im : BitVec 8) (s : State) : exec (.cmpiLt g p a im) s = execCmpiLt g p a im s := rfl
@[simp] theorem exec_cmpiLtn (g : Guard) (p : BitVec 4) (a : BitVec 5) (im : BitVec 8) (s : State) : exec (.cmpiLtn g p a im) s = execCmpiLtn g p a im s := rfl
@[simp] theorem exec_cmpiGe (g : Guard) (p : BitVec 4) (a : BitVec 5) (im : BitVec 8) (s : State) : exec (.cmpiGe g p a im) s = execCmpiGe g p a im s := rfl
@[simp] theorem exec_cmpiGen (g : Guard) (p : BitVec 4) (a : BitVec 5) (im : BitVec 8) (s : State) : exec (.cmpiGen g p a im) s = execCmpiGen g p a im s := rfl
@[simp] theorem exec_cmpEq (g : Guard) (p : BitVec 4) (a : BitVec 5) (b : BitVec 5) (s : State) : exec (.cmpEq g p a b) s = execCmpEq g p a b s := rfl
@[simp] theorem exec_cmpNe (g : Guard) (p : BitVec 4) (a : BitVec 5) (b : BitVec 5) (s : State) : exec (.cmpNe g p a b) s = execCmpNe g p a b s := rfl
@[simp] theorem exec_cmpLt (g : Guard) (p : BitVec 4) (a : BitVec 5) (b : BitVec 5) (s : State) : exec (.cmpLt g p a b) s = execCmpLt g p a b s := rfl
@[simp] theorem exec_cmpLtn (g : Guard) (p : BitVec 4) (a : BitVec 5) (b : BitVec 5) (s : State) : exec (.cmpLtn g p a b) s = execCmpLtn g p a b s := rfl
@[simp] theorem exec_cmpGe (g : Guard) (p : BitVec 4) (a : BitVec 5) (b : BitVec 5) (s : State) : exec (.cmpGe g p a b) s = execCmpGe g p a b s := rfl
@[simp] theorem exec_cmpGen (g : Guard) (p : BitVec 4) (a : BitVec 5) (b : BitVec 5) (s : State) : exec (.cmpGen g p a b) s = execCmpGen g p a b s := rfl
@[simp] theorem exec_lea (g : Guard) (d : BitVec 5) (a : BitVec 5) (b : BitVec 5) (st : BitVec 2) (s : State) : exec (.lea g d a b st) s = execLea g d a b st s := rfl
@[simp] theorem exec_pand (g : Guard) (d : BitVec 4) (a : BitVec 4) (b : BitVec 4) (s : State) : exec (.pand g d a b) s = execPand g d a b s := rfl
@[simp] theorem exec_por (g : Guard) (d : BitVec 4) (a : BitVec 4) (b : BitVec 4) (s : State) : exec (.por g d a b) s = execPor g d a b s := rfl
@[simp] theorem exec_pxor (g : Guard) (d : BitVec 4) (a : BitVec 4) (b : BitVec 4) (s : State) : exec (.pxor g d a b) s = execPxor g d a b s := rfl
@[simp] theorem exec_pandn (g : Guard) (d : BitVec 4) (a : BitVec 4) (b : BitVec 4) (s : State) : exec (.pandn g d a b) s = execPandn g d a b s := rfl
@[simp] theorem exec_pnot (g : Guard) (d : BitVec 4) (a : BitVec 4) (s : State) : exec (.pnot g d a) s = execPnot g d a s := rfl
@[simp] theorem exec_pset (g : Guard) (d : BitVec 4) (s : State) : exec (.pset g d) s = execPset g d s := rfl
@[simp] theorem exec_pclr (g : Guard) (d : BitVec 4) (s : State) : exec (.pclr g d) s = execPclr g d s := rfl
@[simp] theorem exec_pmovs (g : Guard) (d : BitVec 4) (a : BitVec 5) (s : State) : exec (.pmovs g d a) s = execPmovs g d a s := rfl
@[simp] theorem exec_pany (g : Guard) (d : BitVec 5) (a : BitVec 4) (s : State) : exec (.pany g d a) s = execPany g d a s := rfl
@[simp] theorem exec_pall (g : Guard) (d : BitVec 5) (a : BitVec 4) (s : State) : exec (.pall g d a) s = execPall g d a s := rfl
@[simp] theorem exec_pcnt (g : Guard) (d : BitVec 5) (a : BitVec 4) (s : State) : exec (.pcnt g d a) s = execPcnt g d a s := rfl
@[simp] theorem exec_pfirst (g : Guard) (d : BitVec 5) (a : BitVec 4) (s : State) : exec (.pfirst g d a) s = execPfirst g d a s := rfl
@[simp] theorem exec_sel (g : Guard) (d : BitVec 5) (a : BitVec 5) (b : BitVec 5) (p : BitVec 4) (s : State) : exec (.sel g d a b p) s = execSel g d a b p s := rfl
@[simp] theorem exec_jump (g : Guard) (o : BitVec 20) (s : State) : exec (.jump g o) s = execJump g o s := rfl
@[simp] theorem exec_jumpLink (g : Guard) (o : BitVec 20) (s : State) : exec (.jumpLink g o) s = execJumpLink g o s := rfl
@[simp] theorem exec_jumpReg (g : Guard) (a : BitVec 5) (s : State) : exec (.jumpReg g a) s = execJumpReg g a s := rfl
@[simp] theorem exec_jumpLinkReg (g : Guard) (a : BitVec 5) (s : State) : exec (.jumpLinkReg g a) s = execJumpLinkReg g a s := rfl
@[simp] theorem exec_nop (g : Guard) (s : State) : exec (.nop g) s = execNop g s := rfl
@[simp] theorem exec_endTask (g : Guard) (s : State) : exec (.endTask g) s = execEndTask g s := rfl
@[simp] theorem exec_commit (g : Guard) (s : State) : exec (.commit g) s = execCommit g s := rfl
@[simp] theorem exec_yield (g : Guard) (s : State) : exec (.yield g) s = execYield g s := rfl
@[simp] theorem exec_park (g : Guard) (s : State) : exec (.park g) s = execPark g s := rfl
@[simp] theorem exec_trap (g : Guard) (c : BitVec 5) (s : State) : exec (.trap g c) s = execTrap g c s := rfl
@[simp] theorem exec_eret (g : Guard) (s : State) : exec (.eret g) s = execEret g s := rfl
@[simp] theorem exec_brk (g : Guard) (s : State) : exec (.brk g) s = execBrk g s := rfl
@[simp] theorem exec_hret (g : Guard) (s : State) : exec (.hret g) s = execHret g s := rfl
@[simp] theorem exec_astart (g : Guard) (a : BitVec 5) (s : State) : exec (.astart g a) s = execAstart g a s := rfl
@[simp] theorem exec_await (g : Guard) (s : State) : exec (.await g) s = execAwait g s := rfl
@[simp] theorem exec_iflush (g : Guard) (s : State) : exec (.iflush g) s = execIflush g s := rfl
@[simp] theorem exec_crd (g : Guard) (d : BitVec 5) (c : BitVec 10) (s : State) : exec (.crd g d c) s = execCrd g d c s := rfl
@[simp] theorem exec_cwr (g : Guard) (a : BitVec 5) (c : BitVec 10) (s : State) : exec (.cwr g a c) s = execCwr g a c s := rfl
@[simp] theorem exec_ld (g : Guard) (d : BitVec 5) (b : BitVec 5) (z : BitVec 3) (st : BitVec 1) (o : BitVec 6) (s : State) : exec (.ld g d b z st o) s = execLd g d b z st o s := rfl
@[simp] theorem exec_st (g : Guard) (d : BitVec 5) (b : BitVec 5) (z : BitVec 3) (st : BitVec 1) (o : BitVec 6) (s : State) : exec (.st g d b z st o) s = execSt g d b z st o s := rfl
@[simp] theorem exec_ldv (g : Guard) (d : BitVec 5) (b : BitVec 5) (p : BitVec 5) (st : BitVec 1) (t : BitVec 1) (s : State) : exec (.ldv g d b p st t) s = execLdv g d b p st t s := rfl
@[simp] theorem exec_stv (g : Guard) (d : BitVec 5) (b : BitVec 5) (p : BitVec 5) (st : BitVec 1) (s : State) : exec (.stv g d b p st) s = execStv g d b p st s := rfl
@[simp] theorem exec_amoadd (g : Guard) (d : BitVec 5) (a : BitVec 5) (b : BitVec 5) (w : BitVec 1) (s : State) : exec (.amoadd g d a b w) s = execAmoadd g d a b w s := rfl
@[simp] theorem exec_amoand (g : Guard) (d : BitVec 5) (a : BitVec 5) (b : BitVec 5) (w : BitVec 1) (s : State) : exec (.amoand g d a b w) s = execAmoand g d a b w s := rfl
@[simp] theorem exec_amoor (g : Guard) (d : BitVec 5) (a : BitVec 5) (b : BitVec 5) (w : BitVec 1) (s : State) : exec (.amoor g d a b w) s = execAmoor g d a b w s := rfl
@[simp] theorem exec_amoxor (g : Guard) (d : BitVec 5) (a : BitVec 5) (b : BitVec 5) (w : BitVec 1) (s : State) : exec (.amoxor g d a b w) s = execAmoxor g d a b w s := rfl
@[simp] theorem exec_amomin (g : Guard) (d : BitVec 5) (a : BitVec 5) (b : BitVec 5) (w : BitVec 1) (s : State) : exec (.amomin g d a b w) s = execAmomin g d a b w s := rfl
@[simp] theorem exec_amomax (g : Guard) (d : BitVec 5) (a : BitVec 5) (b : BitVec 5) (w : BitVec 1) (s : State) : exec (.amomax g d a b w) s = execAmomax g d a b w s := rfl
@[simp] theorem exec_amominn (g : Guard) (d : BitVec 5) (a : BitVec 5) (b : BitVec 5) (w : BitVec 1) (s : State) : exec (.amominn g d a b w) s = execAmominn g d a b w s := rfl
@[simp] theorem exec_amomaxn (g : Guard) (d : BitVec 5) (a : BitVec 5) (b : BitVec 5) (w : BitVec 1) (s : State) : exec (.amomaxn g d a b w) s = execAmomaxn g d a b w s := rfl
@[simp] theorem exec_amoswap (g : Guard) (d : BitVec 5) (a : BitVec 5) (b : BitVec 5) (w : BitVec 1) (s : State) : exec (.amoswap g d a b w) s = execAmoswap g d a b w s := rfl
@[simp] theorem exec_amocas (g : Guard) (d : BitVec 5) (a : BitVec 5) (b : BitVec 5) (w : BitVec 1) (s : State) : exec (.amocas g d a b w) s = execAmocas g d a b w s := rfl
@[simp] theorem exec_amofadd (g : Guard) (d : BitVec 5) (a : BitVec 5) (b : BitVec 5) (s : State) : exec (.amofadd g d a b) s = execAmofadd g d a b s := rfl
@[simp] theorem exec_amostag (g : Guard) (d : BitVec 5) (a : BitVec 5) (b : BitVec 5) (s : State) : exec (.amostag g d a b) s = execAmostag g d a b s := rfl
@[simp] theorem exec_fence (g : Guard) (k : BitVec 5) (st : BitVec 5) (s : State) : exec (.fence g k st) s = execFence g k st s := rfl
@[simp] theorem exec_waitack (g : Guard) (d : BitVec 5) (a : BitVec 5) (st : BitVec 5) (s : State) : exec (.waitack g d a st) s = execWaitack g d a st s := rfl
@[simp] theorem exec_pfetch (g : Guard) (a : BitVec 5) (b : BitVec 5) (s : State) : exec (.pfetch g a b) s = execPfetch g a b s := rfl
@[simp] theorem exec_cclean (g : Guard) (d : BitVec 5) (a : BitVec 5) (b : BitVec 5) (s : State) : exec (.cclean g d a b) s = execCclean g d a b s := rfl
@[simp] theorem exec_cinval (g : Guard) (d : BitVec 5) (a : BitVec 5) (b : BitVec 5) (s : State) : exec (.cinval g d a b) s = execCinval g d a b s := rfl
@[simp] theorem exec_cflush (g : Guard) (d : BitVec 5) (a : BitVec 5) (b : BitVec 5) (s : State) : exec (.cflush g d a b) s = execCflush g d a b s := rfl
@[simp] theorem exec_acqinv (g : Guard) (b : BitVec 5) (s : State) : exec (.acqinv g b) s = execAcqinv g b s := rfl
@[simp] theorem exec_vadd (g : Guard) (d : BitVec 5) (a : BitVec 5) (b : BitVec 5) (s : State) : exec (.vadd g d a b) s = execVadd g d a b s := rfl
@[simp] theorem exec_vsub (g : Guard) (d : BitVec 5) (a : BitVec 5) (b : BitVec 5) (s : State) : exec (.vsub g d a b) s = execVsub g d a b s := rfl
@[simp] theorem exec_vmul (g : Guard) (d : BitVec 5) (a : BitVec 5) (b : BitVec 5) (s : State) : exec (.vmul g d a b) s = execVmul g d a b s := rfl
@[simp] theorem exec_vmin (g : Guard) (d : BitVec 5) (a : BitVec 5) (b : BitVec 5) (s : State) : exec (.vmin g d a b) s = execVmin g d a b s := rfl
@[simp] theorem exec_vmax (g : Guard) (d : BitVec 5) (a : BitVec 5) (b : BitVec 5) (s : State) : exec (.vmax g d a b) s = execVmax g d a b s := rfl
@[simp] theorem exec_vabs (g : Guard) (d : BitVec 5) (a : BitVec 5) (s : State) : exec (.vabs g d a) s = execVabs g d a s := rfl
@[simp] theorem exec_vneg (g : Guard) (d : BitVec 5) (a : BitVec 5) (s : State) : exec (.vneg g d a) s = execVneg g d a s := rfl
@[simp] theorem exec_vand (g : Guard) (d : BitVec 5) (a : BitVec 5) (b : BitVec 5) (s : State) : exec (.vand g d a b) s = execVand g d a b s := rfl
@[simp] theorem exec_vor (g : Guard) (d : BitVec 5) (a : BitVec 5) (b : BitVec 5) (s : State) : exec (.vor g d a b) s = execVor g d a b s := rfl
@[simp] theorem exec_vxor (g : Guard) (d : BitVec 5) (a : BitVec 5) (b : BitVec 5) (s : State) : exec (.vxor g d a b) s = execVxor g d a b s := rfl
@[simp] theorem exec_vshl (g : Guard) (d : BitVec 5) (a : BitVec 5) (b : BitVec 5) (s : State) : exec (.vshl g d a b) s = execVshl g d a b s := rfl
@[simp] theorem exec_vshr (g : Guard) (d : BitVec 5) (a : BitVec 5) (b : BitVec 5) (s : State) : exec (.vshr g d a b) s = execVshr g d a b s := rfl
@[simp] theorem exec_vsar (g : Guard) (d : BitVec 5) (a : BitVec 5) (b : BitVec 5) (s : State) : exec (.vsar g d a b) s = execVsar g d a b s := rfl
@[simp] theorem exec_vfma (g : Guard) (d : BitVec 5) (a : BitVec 5) (b : BitVec 5) (s : State) : exec (.vfma g d a b) s = execVfma g d a b s := rfl
@[simp] theorem exec_vfms (g : Guard) (d : BitVec 5) (a : BitVec 5) (b : BitVec 5) (s : State) : exec (.vfms g d a b) s = execVfms g d a b s := rfl
@[simp] theorem exec_vadds (g : Guard) (d : BitVec 5) (a : BitVec 5) (b : BitVec 5) (s : State) : exec (.vadds g d a b) s = execVadds g d a b s := rfl
@[simp] theorem exec_vsubs (g : Guard) (d : BitVec 5) (a : BitVec 5) (b : BitVec 5) (s : State) : exec (.vsubs g d a b) s = execVsubs g d a b s := rfl
@[simp] theorem exec_vmuls (g : Guard) (d : BitVec 5) (a : BitVec 5) (b : BitVec 5) (s : State) : exec (.vmuls g d a b) s = execVmuls g d a b s := rfl
@[simp] theorem exec_vmins (g : Guard) (d : BitVec 5) (a : BitVec 5) (b : BitVec 5) (s : State) : exec (.vmins g d a b) s = execVmins g d a b s := rfl
@[simp] theorem exec_vmaxs (g : Guard) (d : BitVec 5) (a : BitVec 5) (b : BitVec 5) (s : State) : exec (.vmaxs g d a b) s = execVmaxs g d a b s := rfl
@[simp] theorem exec_vfmas (g : Guard) (d : BitVec 5) (a : BitVec 5) (b : BitVec 5) (s : State) : exec (.vfmas g d a b) s = execVfmas g d a b s := rfl
@[simp] theorem exec_vexp2 (g : Guard) (d : BitVec 5) (a : BitVec 5) (s : State) : exec (.vexp2 g d a) s = execVexp2 g d a s := rfl
@[simp] theorem exec_vlog2 (g : Guard) (d : BitVec 5) (a : BitVec 5) (s : State) : exec (.vlog2 g d a) s = execVlog2 g d a s := rfl
@[simp] theorem exec_vrcp (g : Guard) (d : BitVec 5) (a : BitVec 5) (s : State) : exec (.vrcp g d a) s = execVrcp g d a s := rfl
@[simp] theorem exec_vrsq (g : Guard) (d : BitVec 5) (a : BitVec 5) (s : State) : exec (.vrsq g d a) s = execVrsq g d a s := rfl
@[simp] theorem exec_vsqrt (g : Guard) (d : BitVec 5) (a : BitVec 5) (s : State) : exec (.vsqrt g d a) s = execVsqrt g d a s := rfl
@[simp] theorem exec_vtanh (g : Guard) (d : BitVec 5) (a : BitVec 5) (s : State) : exec (.vtanh g d a) s = execVtanh g d a s := rfl
@[simp] theorem exec_vrsum (g : Guard) (d : BitVec 5) (a : BitVec 5) (s : State) : exec (.vrsum g d a) s = execVrsum g d a s := rfl
@[simp] theorem exec_vrmax (g : Guard) (d : BitVec 5) (a : BitVec 5) (s : State) : exec (.vrmax g d a) s = execVrmax g d a s := rfl
@[simp] theorem exec_vrmin (g : Guard) (d : BitVec 5) (a : BitVec 5) (s : State) : exec (.vrmin g d a) s = execVrmin g d a s := rfl
@[simp] theorem exec_vcsum (g : Guard) (d : BitVec 5) (a : BitVec 5) (s : State) : exec (.vcsum g d a) s = execVcsum g d a s := rfl
@[simp] theorem exec_vcmax (g : Guard) (d : BitVec 5) (a : BitVec 5) (s : State) : exec (.vcmax g d a) s = execVcmax g d a s := rfl
@[simp] theorem exec_vramax (g : Guard) (d : BitVec 5) (a : BitVec 5) (s : State) : exec (.vramax g d a) s = execVramax g d a s := rfl
@[simp] theorem exec_vcmpEq (g : Guard) (p : BitVec 4) (a : BitVec 5) (b : BitVec 5) (s : State) : exec (.vcmpEq g p a b) s = execVcmpEq g p a b s := rfl
@[simp] theorem exec_vcmpNe (g : Guard) (p : BitVec 4) (a : BitVec 5) (b : BitVec 5) (s : State) : exec (.vcmpNe g p a b) s = execVcmpNe g p a b s := rfl
@[simp] theorem exec_vcmpLt (g : Guard) (p : BitVec 4) (a : BitVec 5) (b : BitVec 5) (s : State) : exec (.vcmpLt g p a b) s = execVcmpLt g p a b s := rfl
@[simp] theorem exec_vcmpLe (g : Guard) (p : BitVec 4) (a : BitVec 5) (b : BitVec 5) (s : State) : exec (.vcmpLe g p a b) s = execVcmpLe g p a b s := rfl
@[simp] theorem exec_vcmpGt (g : Guard) (p : BitVec 4) (a : BitVec 5) (b : BitVec 5) (s : State) : exec (.vcmpGt g p a b) s = execVcmpGt g p a b s := rfl
@[simp] theorem exec_vcmpGe (g : Guard) (p : BitVec 4) (a : BitVec 5) (b : BitVec 5) (s : State) : exec (.vcmpGe g p a b) s = execVcmpGe g p a b s := rfl
@[simp] theorem exec_vcmpUn (g : Guard) (p : BitVec 4) (a : BitVec 5) (b : BitVec 5) (s : State) : exec (.vcmpUn g p a b) s = execVcmpUn g p a b s := rfl
@[simp] theorem exec_vcvt (g : Guard) (d : BitVec 5) (a : BitVec 5) (st : BitVec 1) (t : BitVec 4) (s : State) : exec (.vcvt g d a st t) s = execVcvt g d a st t s := rfl
@[simp] theorem exec_vmov (g : Guard) (d : BitVec 5) (a : BitVec 5) (s : State) : exec (.vmov g d a) s = execVmov g d a s := rfl
@[simp] theorem exec_vsplat (g : Guard) (d : BitVec 5) (a : BitVec 5) (s : State) : exec (.vsplat g d a) s = execVsplat g d a s := rfl
@[simp] theorem exec_vext (g : Guard) (d : BitVec 5) (a : BitVec 5) (b : BitVec 5) (s : State) : exec (.vext g d a b) s = execVext g d a b s := rfl
@[simp] theorem exec_vins (g : Guard) (d : BitVec 5) (a : BitVec 5) (b : BitVec 5) (s : State) : exec (.vins g d a b) s = execVins g d a b s := rfl
@[simp] theorem exec_vbrow (g : Guard) (d : BitVec 5) (a : BitVec 5) (b : BitVec 5) (s : State) : exec (.vbrow g d a b) s = execVbrow g d a b s := rfl
@[simp] theorem exec_vbcol (g : Guard) (d : BitVec 5) (a : BitVec 5) (b : BitVec 5) (s : State) : exec (.vbcol g d a b) s = execVbcol g d a b s := rfl
@[simp] theorem exec_vshape (g : Guard) (d : BitVec 5) (a : BitVec 5) (s : State) : exec (.vshape g d a) s = execVshape g d a s := rfl
@[simp] theorem exec_vzero (g : Guard) (d : BitVec 5) (s : State) : exec (.vzero g d) s = execVzero g d s := rfl
@[simp] theorem exec_viota (g : Guard) (d : BitVec 5) (a : BitVec 5) (s : State) : exec (.viota g d a) s = execViota g d a s := rfl
@[simp] theorem exec_vshuf (g : Guard) (d : BitVec 5) (a : BitVec 5) (b : BitVec 5) (s : State) : exec (.vshuf g d a b) s = execVshuf g d a b s := rfl
@[simp] theorem exec_vscale (g : Guard) (d : BitVec 5) (a : BitVec 5) (b : BitVec 5) (s : State) : exec (.vscale g d a b) s = execVscale g d a b s := rfl
@[simp] theorem exec_smerge (g : Guard) (d : BitVec 5) (a : BitVec 5) (b : BitVec 5) (s : State) : exec (.smerge g d a b) s = execSmerge g d a b s := rfl
@[simp] theorem exec_smergez (g : Guard) (d : BitVec 5) (a : BitVec 5) (b : BitVec 5) (s : State) : exec (.smergez g d a b) s = execSmergez g d a b s := rfl
@[simp] theorem exec_smcount (g : Guard) (d : BitVec 5) (a : BitVec 5) (b : BitVec 5) (s : State) : exec (.smcount g d a b) s = execSmcount g d a b s := rfl
@[simp] theorem exec_scan (g : Guard) (d : BitVec 5) (a : BitVec 5) (b : BitVec 5) (s : State) : exec (.scan g d a b) s = execScan g d a b s := rfl
@[simp] theorem exec_scanx (g : Guard) (d : BitVec 5) (a : BitVec 5) (b : BitVec 5) (s : State) : exec (.scanx g d a b) s = execScanx g d a b s := rfl
@[simp] theorem exec_vprune (g : Guard) (d : BitVec 5) (a : BitVec 5) (b : BitVec 5) (s : State) : exec (.vprune g d a b) s = execVprune g d a b s := rfl
@[simp] theorem exec_vprunes (g : Guard) (d : BitVec 5) (a : BitVec 5) (b : BitVec 5) (s : State) : exec (.vprunes g d a b) s = execVprunes g d a b s := rfl
@[simp] theorem exec_vrng (g : Guard) (d : BitVec 5) (s : State) : exec (.vrng g d) s = execVrng g d s := rfl
@[simp] theorem exec_vcompact (g : Guard) (d : BitVec 5) (a : BitVec 5) (p : BitVec 4) (s : State) : exec (.vcompact g d a p) s = execVcompact g d a p s := rfl
@[simp] theorem exec_pmerge (g : Guard) (d : BitVec 5) (a : BitVec 5) (b : BitVec 5) (f : BitVec 5) (s : State) : exec (.pmerge g d a b f) s = execPmerge g d a b f s := rfl
@[simp] theorem exec_qcfg (g : Guard) (d : BitVec 5) (q : BitVec 3) (s : State) : exec (.qcfg g d q) s = execQcfg g d q s := rfl
@[simp] theorem exec_qpub (g : Guard) (q : BitVec 3) (s : State) : exec (.qpub g q) s = execQpub g q s := rfl
@[simp] theorem exec_qadv (g : Guard) (q : BitVec 3) (s : State) : exec (.qadv g q) s = execQadv g q s := rfl
@[simp] theorem exec_qfill (g : Guard) (d : BitVec 5) (q : BitVec 3) (b : BitVec 5) (s : State) : exec (.qfill g d q b) s = execQfill g d q b s := rfl
@[simp] theorem exec_sstr (g : Guard) (q : BitVec 3) (a : BitVec 5) (s : State) : exec (.sstr g q a) s = execSstr g q a s := rfl
@[simp] theorem exec_istr (g : Guard) (q : BitVec 3) (a : BitVec 5) (s : State) : exec (.istr g q a) s = execIstr g q a s := rfl
@[simp] theorem exec_sclose (g : Guard) (q : BitVec 3) (s : State) : exec (.sclose g q) s = execSclose g q s := rfl
@[simp] theorem exec_sstat (g : Guard) (d : BitVec 5) (q : BitVec 3) (s : State) : exec (.sstat g d q) s = execSstat g d q s := rfl
@[simp] theorem exec_spsend (g : Guard) (a : BitVec 5) (b : BitVec 5) (s : State) : exec (.spsend g a b) s = execSpsend g a b s := rfl
@[simp] theorem exec_spsendv (g : Guard) (d : BitVec 5) (a : BitVec 5) (s : State) : exec (.spsendv g d a) s = execSpsendv g d a s := rfl
@[simp] theorem exec_spclose (g : Guard) (s : State) : exec (.spclose g) s = execSpclose g s := rfl
@[simp] theorem exec_sprecv (g : Guard) (d : BitVec 5) (a : BitVec 5) (p : BitVec 4) (s : State) : exec (.sprecv g d a p) s = execSprecv g d a p s := rfl
@[simp] theorem exec_sprecvv (g : Guard) (d : BitVec 5) (a : BitVec 5) (p : BitVec 4) (s : State) : exec (.sprecvv g d a p) s = execSprecvv g d a p s := rfl
@[simp] theorem exec_spstat (g : Guard) (d : BitVec 5) (a : BitVec 5) (s : State) : exec (.spstat g d a) s = execSpstat g d a s := rfl
@[simp] theorem exec_mwalk (g : Guard) (d : BitVec 5) (a : BitVec 5) (s : State) : exec (.mwalk g d a) s = execMwalk g d a s := rfl
@[simp] theorem exec_mwalkg (g : Guard) (d : BitVec 5) (a : BitVec 5) (s : State) : exec (.mwalkg g d a) s = execMwalkg g d a s := rfl
@[simp] theorem exec_mprog (g : Guard) (d : BitVec 5) (a : BitVec 5) (b : BitVec 5) (s : State) : exec (.mprog g d a b) s = execMprog g d a b s := rfl
@[simp] theorem exec_mcancel (g : Guard) (d : BitVec 5) (a : BitVec 5) (s : State) : exec (.mcancel g d a) s = execMcancel g d a s := rfl
@[simp] theorem exec_mnode (g : Guard) (d : BitVec 5) (a : BitVec 5) (b : BitVec 5) (s : State) : exec (.mnode g d a b) s = execMnode g d a b s := rfl
@[simp] theorem exec_gang (g : Guard) (a : BitVec 5) (s : State) : exec (.gang g a) s = execGang g a s := rfl
@[simp] theorem exec_jwait (g : Guard) (d : BitVec 5) (a : BitVec 5) (s : State) : exec (.jwait g d a) s = execJwait g d a s := rfl
@[simp] theorem exec_jpoll (g : Guard) (d : BitVec 5) (a : BitVec 5) (s : State) : exec (.jpoll g d a) s = execJpoll g d a s := rfl
@[simp] theorem exec_tcopy (g : Guard) (d : BitVec 4) (a : BitVec 5) (s : State) : exec (.tcopy g d a) s = execTcopy g d a s := rfl
@[simp] theorem exec_tgather (g : Guard) (d : BitVec 4) (a : BitVec 5) (s : State) : exec (.tgather g d a) s = execTgather g d a s := rfl
@[simp] theorem exec_tscatter (g : Guard) (d : BitVec 4) (a : BitVec 5) (s : State) : exec (.tscatter g d a) s = execTscatter g d a s := rfl
@[simp] theorem exec_tscadd (g : Guard) (d : BitVec 4) (a : BitVec 5) (s : State) : exec (.tscadd g d a) s = execTscadd g d a s := rfl
@[simp] theorem exec_tfill (g : Guard) (d : BitVec 4) (a : BitVec 5) (s : State) : exec (.tfill g d a) s = execTfill g d a s := rfl
@[simp] theorem exec_sleepu (g : Guard) (d : BitVec 5) (a : BitVec 5) (b : BitVec 5) (s : State) : exec (.sleepu g d a b) s = execSleepu g d a b s := rfl
@[simp] theorem exec_phreg (g : Guard) (d : BitVec 5) (a : BitVec 5) (b : BitVec 5) (s : State) : exec (.phreg g d a b) s = execPhreg g d a b s := rfl
@[simp] theorem exec_phdrop (g : Guard) (d : BitVec 5) (a : BitVec 5) (b : BitVec 5) (s : State) : exec (.phdrop g d a b) s = execPhdrop g d a b s := rfl
@[simp] theorem exec_phsig (g : Guard) (d : BitVec 5) (a : BitVec 5) (b : BitVec 5) (s : State) : exec (.phsig g d a b) s = execPhsig g d a b s := rfl
@[simp] theorem exec_phwait (g : Guard) (d : BitVec 5) (a : BitVec 5) (b : BitVec 5) (s : State) : exec (.phwait g d a b) s = execPhwait g d a b s := rfl
@[simp] theorem exec_phnext (g : Guard) (d : BitVec 5) (a : BitVec 5) (b : BitVec 5) (s : State) : exec (.phnext g d a b) s = execPhnext g d a b s := rfl
@[simp] theorem exec_phread (g : Guard) (d : BitVec 5) (a : BitVec 5) (b : BitVec 5) (s : State) : exec (.phread g d a b) s = execPhread g d a b s := rfl
@[simp] theorem exec_phnew (g : Guard) (d : BitVec 5) (a : BitVec 5) (s : State) : exec (.phnew g d a) s = execPhnew g d a s := rfl
@[simp] theorem exec_phfree (g : Guard) (d : BitVec 5) (a : BitVec 5) (s : State) : exec (.phfree g d a) s = execPhfree g d a s := rfl
@[simp] theorem exec_tspawn (g : Guard) (d : BitVec 5) (a : BitVec 5) (b : BitVec 5) (s : State) : exec (.tspawn g d a b) s = execTspawn g d a b s := rfl
@[simp] theorem exec_tdep (g : Guard) (d : BitVec 5) (a : BitVec 5) (b : BitVec 5) (s : State) : exec (.tdep g d a b) s = execTdep g d a b s := rfl
@[simp] theorem exec_tctr (g : Guard) (d : BitVec 5) (a : BitVec 5) (s : State) : exec (.tctr g d a) s = execTctr g d a s := rfl
@[simp] theorem exec_tshape (g : Guard) (d : BitVec 5) (a : BitVec 5) (b : BitVec 5) (s : State) : exec (.tshape g d a b) s = execTshape g d a b s := rfl
@[simp] theorem exec_targ (g : Guard) (d : BitVec 5) (b : BitVec 3) (s : State) : exec (.targ g d b) s = execTarg g d b s := rfl
@[simp] theorem exec_tself (g : Guard) (d : BitVec 5) (s : State) : exec (.tself g d) s = execTself g d s := rfl
@[simp] theorem exec_tlate (g : Guard) (d : BitVec 5) (s : State) : exec (.tlate g d) s = execTlate g d s := rfl
@[simp] theorem exec_pgld (g : Guard) (d : BitVec 5) (a : BitVec 5) (b : BitVec 5) (s : State) : exec (.pgld g d a b) s = execPgld g d a b s := rfl
@[simp] theorem exec_pdrop (g : Guard) (d : BitVec 5) (a : BitVec 5) (s : State) : exec (.pdrop g d a) s = execPdrop g d a s := rfl
@[simp] theorem exec_pstat (g : Guard) (d : BitVec 5) (a : BitVec 5) (s : State) : exec (.pstat g d a) s = execPstat g d a s := rfl
@[simp] theorem exec_pnorec (g : Guard) (d : BitVec 5) (a : BitVec 5) (s : State) : exec (.pnorec g d a) s = execPnorec g d a s := rfl
@[simp] theorem exec_lturn (g : Guard) (d : BitVec 5) (a : BitVec 5) (b : BitVec 5) (s : State) : exec (.lturn g d a b) s = execLturn g d a b s := rfl
@[simp] theorem exec_lstat (g : Guard) (d : BitVec 5) (a : BitVec 5) (b : BitVec 5) (s : State) : exec (.lstat g d a b) s = execLstat g d a b s := rfl
@[simp] theorem exec_lquiet (g : Guard) (d : BitVec 5) (a : BitVec 5) (s : State) : exec (.lquiet g d a) s = execLquiet g d a s := rfl
@[simp] theorem exec_gpush (g : Guard) (d : BitVec 5) (a : BitVec 5) (b : BitVec 5) (s : State) : exec (.gpush g d a b) s = execGpush g d a b s := rfl
@[simp] theorem exec_rpop (g : Guard) (d : BitVec 4) (b : BitVec 5) (s : State) : exec (.rpop g d b) s = execRpop g d b s := rfl
@[simp] theorem exec_lxbegin (g : Guard) (d : BitVec 5) (a : BitVec 5) (s : State) : exec (.lxbegin g d a) s = execLxbegin g d a s := rfl
@[simp] theorem exec_lxack (g : Guard) (d : BitVec 5) (a : BitVec 5) (b : BitVec 5) (s : State) : exec (.lxack g d a b) s = execLxack g d a b s := rfl
@[simp] theorem exec_lxend (g : Guard) (d : BitVec 5) (a : BitVec 5) (s : State) : exec (.lxend g d a) s = execLxend g d a s := rfl
@[simp] theorem exec_lxstat (g : Guard) (d : BitVec 5) (a : BitVec 5) (s : State) : exec (.lxstat g d a) s = execLxstat g d a s := rfl
@[simp] theorem exec_tlbinv (g : Guard) (d : BitVec 5) (a : BitVec 5) (b : BitVec 5) (s : State) : exec (.tlbinv g d a b) s = execTlbinv g d a b s := rfl
@[simp] theorem exec_freeze (g : Guard) (d : BitVec 5) (a : BitVec 5) (b : BitVec 5) (s : State) : exec (.freeze g d a b) s = execFreeze g d a b s := rfl
@[simp] theorem exec_thaw (g : Guard) (d : BitVec 5) (a : BitVec 5) (b : BitVec 5) (s : State) : exec (.thaw g d a b) s = execThaw g d a b s := rfl
@[simp] theorem exec_pgmove (g : Guard) (d : BitVec 5) (a : BitVec 5) (b : BitVec 5) (s : State) : exec (.pgmove g d a b) s = execPgmove g d a b s := rfl
@[simp] theorem exec_cspare (g : Guard) (d : BitVec 5) (ab : BitVec 5 × BitVec 5) (s : State) : exec (.cspare g d ab) s = execCspare g d ab s := rfl
@[simp] theorem exec_world (g : Guard) (d : BitVec 5) (a : BitVec 5) (b : BitVec 5) (s : State) : exec (.world g d a b) s = execWorld g d a b s := rfl
@[simp] theorem exec_immxHint (x : BitVec 22) (s : State) : exec (.immxHint x) s = execImmxHint x s := rfl
@[simp] theorem exec_repHint (b : BitVec 3) (a : BitVec 3) (d : BitVec 3) (c : BitVec 8) (s : State) : exec (.repHint b a d c) s = execRepHint b a d c s := rfl
@[simp] theorem exec_ordHint (k : BitVec 3) (st : BitVec 3) (s : State) : exec (.ordHint k st) s = execOrdHint k st s := rfl
@[simp] theorem exec_locHint (m : BitVec 2) (l : BitVec 2) (s : State) : exec (.locHint m l) s = execLocHint m l s := rfl
@[simp] theorem exec_mcompHint (p : BitVec 1) (m : BitVec 5) (s : State) : exec (.mcompHint p m) s = execMcompHint p m s := rfl
@[simp] theorem exec_qwHint (o : BitVec 3) (c : BitVec 3) (k : BitVec 3) (j : BitVec 3) (f : BitVec 3) (h : BitVec 3) (s : State) : exec (.qwHint o c k j f h) s = execQwHint o c k j f h s := rfl
@[simp] theorem exec_rndHint (r : BitVec 3) (s : State) : exec (.rndHint r) s = execRndHint r s := rfl
@[simp] theorem exec_illegalInstruction (w : BitVec 32) (s : State) : exec (.illegalInstruction w) s = execIllegalInstruction w s := rfl
@[simp] theorem exec_jobQueueGrant (cl : Nat) (s : State) : exec (.jobQueueGrant cl) s = execJobQueueGrant cl s := rfl
@[simp] theorem exec_walkJobAccept (cl : Nat) (job : Nat) (s : State) : exec (.walkJobAccept cl job) s = execWalkJobAccept cl job s := rfl
@[simp] theorem exec_walkLoadDone (cl : Nat) (job : Nat) (s : State) : exec (.walkLoadDone cl job) s = execWalkLoadDone cl job s := rfl
@[simp] theorem exec_walkStep (cl : Nat) (job : Nat) (s : State) : exec (.walkStep cl job) s = execWalkStep cl job s := rfl
@[simp] theorem exec_walkStepEnd (cl : Nat) (job : Nat) (s : State) : exec (.walkStepEnd cl job) s = execWalkStepEnd cl job s := rfl
@[simp] theorem exec_walkSuspend (cl : Nat) (job : Nat) (s : State) : exec (.walkSuspend cl job) s = execWalkSuspend cl job s := rfl
@[simp] theorem exec_handlerStart (core : Nat) (s : State) : exec (.handlerStart core) s = execHandlerStart core s := rfl
@[simp] theorem exec_walkJobComplete (cl : Nat) (job : Nat) (s : State) : exec (.walkJobComplete cl job) s = execWalkJobComplete cl job s := rfl
@[simp] theorem exec_tracerGrant (cl : Nat) (s : State) : exec (.tracerGrant cl) s = execTracerGrant cl s := rfl
@[simp] theorem exec_tracerJobStart (cl : Nat) (job : Nat) (s : State) : exec (.tracerJobStart cl job) s = execTracerJobStart cl job s := rfl
@[simp] theorem exec_tracerPart (cl : Nat) (job : Nat) (s : State) : exec (.tracerPart cl job) s = execTracerPart cl job s := rfl
@[simp] theorem exec_tracerSig (cl : Nat) (job : Nat) (s : State) : exec (.tracerSig cl job) s = execTracerSig cl job s := rfl
@[simp] theorem exec_tracerSuspend (cl : Nat) (job : Nat) (s : State) : exec (.tracerSuspend cl job) s = execTracerSuspend cl job s := rfl
@[simp] theorem exec_appendReadyAdd (cl : Nat) (job : Nat) (s : State) : exec (.appendReadyAdd cl job) s = execAppendReadyAdd cl job s := rfl
@[simp] theorem exec_tracerJobComplete (cl : Nat) (job : Nat) (s : State) : exec (.tracerJobComplete cl job) s = execTracerJobComplete cl job s := rfl
@[simp] theorem exec_streamStart (th : Nat) (q : Nat) (s : State) : exec (.streamStart th q) s = execStreamStart th q s := rfl
@[simp] theorem exec_streamSlotPublish (th : Nat) (q : Nat) (s : State) : exec (.streamSlotPublish th q) s = execStreamSlotPublish th q s := rfl
@[simp] theorem exec_streamSuspend (th : Nat) (q : Nat) (s : State) : exec (.streamSuspend th q) s = execStreamSuspend th q s := rfl
@[simp] theorem exec_pmergeResult (th : Nat) (s : State) : exec (.pmergeResult th) s = execPmergeResult th s := rfl
@[simp] theorem exec_homeWrite (pkt : Nat) (s : State) : exec (.homeWrite pkt) s = execHomeWrite pkt s := rfl
@[simp] theorem exec_homeAtomic (pkt : Nat) (s : State) : exec (.homeAtomic pkt) s = execHomeAtomic pkt s := rfl
@[simp] theorem exec_ackReceive (pkt : Nat) (s : State) : exec (.ackReceive pkt) s = execAckReceive pkt s := rfl
@[simp] theorem exec_nackRetry (pkt : Nat) (s : State) : exec (.nackRetry pkt) s = execNackRetry pkt s := rfl
@[simp] theorem exec_tlbMissWalk (cl : Nat) (asid : Nat) (va : Nat) (s : State) : exec (.tlbMissWalk cl asid va) s = execTlbMissWalk cl asid va s := rfl
@[simp] theorem exec_tlbHcSpill (cl : Nat) (idx : Nat) (s : State) : exec (.tlbHcSpill cl idx) s = execTlbHcSpill cl idx s := rfl
@[simp] theorem exec_llcFill (sheet : Nat) (line : Nat) (s : State) : exec (.llcFill sheet line) s = execLlcFill sheet line s := rfl
@[simp] theorem exec_pageEpochBoundary (sheet : Nat) (s : State) : exec (.pageEpochBoundary sheet) s = execPageEpochBoundary sheet s := rfl
@[simp] theorem exec_wcfgWrite (sheet : Nat) (w : Nat) (v : BitVec 64) (s : State) : exec (.wcfgWrite sheet w v) s = execWcfgWrite sheet w v s := rfl
@[simp] theorem exec_windowEnChangeDone (sheet : Nat) (w : Nat) (s : State) : exec (.windowEnChangeDone sheet w) s = execWindowEnChangeDone sheet w s := rfl
@[simp] theorem exec_atlasWrite (sheet : Nat) (v : BitVec 64) (s : State) : exec (.atlasWrite sheet v) s = execAtlasWrite sheet v s := rfl
@[simp] theorem exec_repctlWrite (sheet : Nat) (v : BitVec 64) (s : State) : exec (.repctlWrite sheet v) s = execRepctlWrite sheet v s := rfl
@[simp] theorem exec_stqcfgWrite (sheet : Nat) (stage : Nat) (v : BitVec 64) (s : State) : exec (.stqcfgWrite sheet stage v) s = execStqcfgWrite sheet stage v s := rfl
@[simp] theorem exec_svitemWrite (sheet : Nat) (v : BitVec 64) (s : State) : exec (.svitemWrite sheet v) s = execSvitemWrite sheet v s := rfl
@[simp] theorem exec_plctlFlush (sheet : Nat) (s : State) : exec (.plctlFlush sheet) s = execPlctlFlush sheet s := rfl
@[simp] theorem exec_plctlKind (sheet : Nat) (s : State) : exec (.plctlKind sheet) s = execPlctlKind sheet s := rfl
@[simp] theorem exec_lxlostWrite (v : BitVec 64) (s : State) : exec (.lxlostWrite v) s = execLxlostWrite v s := rfl
@[simp] theorem exec_securityRegionWrite (sheet : Nat) (region : Nat) (reg : Nat) (v : BitVec 64) (secure : Bool) (s : State) : exec (.securityRegionWrite sheet region reg v secure) s = execSecurityRegionWrite sheet region reg v secure s := rfl
@[simp] theorem exec_surveyorRegWrite (sheet : Nat) (k : Nat) (n : Nat) (v : BitVec 64) (s : State) : exec (.surveyorRegWrite sheet k n v) s = execSurveyorRegWrite sheet k n v s := rfl
@[simp] theorem exec_itemIntake (sheet : Nat) (s : State) : exec (.itemIntake sheet) s = execItemIntake sheet s := rfl
@[simp] theorem exec_dispatchCycle (sheet : Nat) (s : State) : exec (.dispatchCycle sheet) s = execDispatchCycle sheet s := rfl
@[simp] theorem exec_printEntryIssue (th : Nat) (s : State) : exec (.printEntryIssue th) s = execPrintEntryIssue th s := rfl
@[simp] theorem exec_inputCopyDone (th : Nat) (s : State) : exec (.inputCopyDone th) s = execInputCopyDone th s := rfl
@[simp] theorem exec_inputCopyFault (th : Nat) (s : State) : exec (.inputCopyFault th) s = execInputCopyFault th s := rfl
@[simp] theorem exec_taskEndComplete (th : Nat) (s : State) : exec (.taskEndComplete th) s = execTaskEndComplete th s := rfl
@[simp] theorem exec_governorTick (sheet : Nat) (s : State) : exec (.governorTick sheet) s = execGovernorTick sheet s := rfl
@[simp] theorem exec_deadlockSweep (sheet : Nat) (s : State) : exec (.deadlockSweep sheet) s = execDeadlockSweep sheet s := rfl
@[simp] theorem exec_surveyorTrap (sheet : Nat) (s : State) : exec (.surveyorTrap sheet) s = execSurveyorTrap sheet s := rfl
@[simp] theorem exec_watchdogExpire (th : Nat) (side : Side) (s : State) : exec (.watchdogExpire th side) s = execWatchdogExpire th side s := rfl
@[simp] theorem exec_softErrorCorrected (site : ErrSite) (s : State) : exec (.softErrorCorrected site) s = execSoftErrorCorrected site s := rfl
@[simp] theorem exec_softErrorUncorrected (site : ErrSite) (s : State) : exec (.softErrorUncorrected site) s = execSoftErrorUncorrected site s := rfl
@[simp] theorem exec_latePacketRecord (cl : Nat) (s : State) : exec (.latePacketRecord cl) s = execLatePacketRecord cl s := rfl
@[simp] theorem exec_packetForward (cl : Nat) (s : State) : exec (.packetForward cl) s = execPacketForward cl s := rfl
@[simp] theorem exec_routeOpen (th : Nat) (side : Side) (s : State) : exec (.routeOpen th side) s = execRouteOpen th side s := rfl
@[simp] theorem exec_portItemArrive (th : Nat) (side : Side) (s : State) : exec (.portItemArrive th side) s = execPortItemArrive th side s := rfl
@[simp] theorem exec_routeCloseFlit (th : Nat) (side : Side) (s : State) : exec (.routeCloseFlit th side) s = execRouteCloseFlit th side s := rfl
@[simp] theorem exec_turnGroupStart (edge : Nat) (s : State) : exec (.turnGroupStart edge) s = execTurnGroupStart edge s := rfl
@[simp] theorem exec_turnGroupRetrain (edge : Nat) (ok : Bool) (s : State) : exec (.turnGroupRetrain edge ok) s = execTurnGroupRetrain edge ok s := rfl
@[simp] theorem exec_compassSpawn (sheet : Nat) (v : BitVec 64) (s : State) : exec (.compassSpawn sheet v) s = execCompassSpawn sheet v s := rfl
@[simp] theorem exec_compassSeal (sheet : Nat) (v : BitVec 64) (s : State) : exec (.compassSeal sheet v) s = execCompassSeal sheet v s := rfl
@[simp] theorem exec_compassPopq (sheet : Nat) (second : Bool) (v : BitVec 64) (s : State) : exec (.compassPopq sheet second v) s = execCompassPopq sheet second v s := rfl
@[simp] theorem exec_compassIndexWrite (sheet : Nat) (v : BitVec 64) (s : State) : exec (.compassIndexWrite sheet v) s = execCompassIndexWrite sheet v s := rfl
@[simp] theorem exec_compassIntailWrite (sheet : Nat) (v : BitVec 64) (s : State) : exec (.compassIntailWrite sheet v) s = execCompassIntailWrite sheet v s := rfl
@[simp] theorem exec_lxCommit (sheet : Nat) (idx : Nat) (s : State) : exec (.lxCommit sheet idx) s = execLxCommit sheet idx s := rfl
@[simp] theorem exec_sheetLost (sheet : Nat) (s : State) : exec (.sheetLost sheet) s = execSheetLost sheet s := rfl
@[simp] theorem exec_cmdbaseWrite (port : Nat) (v : BitVec 64) (s : State) : exec (.cmdbaseWrite port v) s = execCmdbaseWrite port v s := rfl
@[simp] theorem exec_cmdtailWrite (port : Nat) (v : BitVec 64) (s : State) : exec (.cmdtailWrite port v) s = execCmdtailWrite port v s := rfl
@[simp] theorem exec_hostRegWrite (port : Nat) (off : Nat) (v : BitVec 64) (s : State) : exec (.hostRegWrite port off v) s = execHostRegWrite port off v s := rfl
@[simp] theorem exec_cmdWrite (port : Nat) (s : State) : exec (.cmdWrite port) s = execCmdWrite port s := rfl
@[simp] theorem exec_cmdRead (port : Nat) (s : State) : exec (.cmdRead port) s = execCmdRead port s := rfl
@[simp] theorem exec_cmdCreateLaunch (port : Nat) (s : State) : exec (.cmdCreateLaunch port) s = execCmdCreateLaunch port s := rfl
@[simp] theorem exec_cmdSubmitItem (port : Nat) (s : State) : exec (.cmdSubmitItem port) s = execCmdSubmitItem port s := rfl
@[simp] theorem exec_cmdWakeTask (port : Nat) (s : State) : exec (.cmdWakeTask port) s = execCmdWakeTask port s := rfl
@[simp] theorem exec_cmdEndLaunch (port : Nat) (s : State) : exec (.cmdEndLaunch port) s = execCmdEndLaunch port s := rfl
@[simp] theorem exec_cmdAttest (port : Nat) (s : State) : exec (.cmdAttest port) s = execCmdAttest port s := rfl
@[simp] theorem exec_cmdInvalidOp (port : Nat) (s : State) : exec (.cmdInvalidOp port) s = execCmdInvalidOp port s := rfl
@[simp] theorem exec_statusWrite (port : Nat) (v : BitVec 64) (s : State) : exec (.statusWrite port v) s = execStatusWrite port v s := rfl
@[simp] theorem exec_bootVerifyDone (reason : Nat) (s : State) : exec (.bootVerifyDone reason) s = execBootVerifyDone reason s := rfl
@[simp] theorem exec_moduleReset (s : State) : exec (.moduleReset) s = execModuleReset s := rfl
@[simp] theorem exec_thermalThrottle (sheet : Nat) (s : State) : exec (.thermalThrottle sheet) s = execThermalThrottle sheet s := rfl
@[simp] theorem exec_thermalStop (s : State) : exec (.thermalStop) s = execThermalStop s := rfl
@[simp] theorem exec_sleepuWake (th : Nat) (side : Side) (s : State) : exec (.sleepuWake th side) s = execSleepuWake th side s := rfl
@[simp] theorem exec_bar2WindowAccess (port : Nat) (write : Bool) (pa : Nat) (v : BitVec 64) (s : State) : exec (.bar2WindowAccess port write pa v) s = execBar2WindowAccess port write pa v s := rfl
@[simp] theorem exec_meridianLinkTraining (port : Nat) (trained : Bool) (s : State) : exec (.meridianLinkTraining port trained) s = execMeridianLinkTraining port trained s := rfl
@[simp] theorem exec_junctionTemperatureFall (sheet : Nat) (s : State) : exec (.junctionTemperatureFall sheet) s = execJunctionTemperatureFall sheet s := rfl

end Sys2Proof.Machine
end

