-- ==== Sys2Proof/Laws/Maps.lean ====
section
/-! SUPPORT. The laws of association lists, and of memories: read after write, and the canonical form that every write keeps. -/

namespace Sys2Proof.Machine

section maps
variable {K V : Type} [DecidableEq K]

@[simp] theorem Map.get_set_same (d : V) (m : Map K V) (k : K) (v : V) : (m.set k v).get d k = v := by
  induction m with
  | nil => simp [Map.set, Map.get]
  | cons p rest ih =>
    simp only [Map.set]
    split
    · simp [Map.get]
    · rename_i h; simp [Map.get, h, ih]

theorem Map.get_set_other (d : V) (m : Map K V) {k k' : K} (v : V) (h : k' ≠ k) : (m.set k v).get d k' = m.get d k' := by
  induction m with
  | nil => simp [Map.set, Map.get, h.symm]
  | cons p rest ih =>
    simp only [Map.set]
    split
    · rename_i hp; simp only [Map.get, hp, if_neg h.symm]
    · simp only [Map.get, ih]

theorem Map.get_set (d : V) (m : Map K V) (k k' : K) (v : V) : (m.set k v).get d k' = if k' = k then v else m.get d k' := by
  by_cases h : k' = k
  · subst h; simp
  · simp [h, Map.get_set_other]

@[simp] theorem Map.get?_set_same (m : Map K V) (k : K) (v : V) : (m.set k v).get? k = some v := by
  induction m with
  | nil => simp [Map.set, Map.get?]
  | cons p rest ih =>
    simp only [Map.set]
    split
    · simp [Map.get?]
    · rename_i h; simp [Map.get?, h, ih]

theorem Map.get?_set_other (m : Map K V) {k k' : K} (v : V) (h : k' ≠ k) : (m.set k v).get? k' = m.get? k' := by
  induction m with
  | nil => simp [Map.set, Map.get?, h.symm]
  | cons p rest ih =>
    simp only [Map.set]
    split
    · rename_i hp; simp only [Map.get?, hp, if_neg h.symm]
    · simp only [Map.get?, ih]

@[simp] theorem Map.get?_del_same (m : Map K V) (k : K) : (m.del k).get? k = none := by
  induction m with
  | nil => rfl
  | cons p rest ih =>
    simp only [Map.del]
    split
    · exact ih
    · rename_i h; simp [Map.get?, h, ih]

theorem Map.get?_del_other (m : Map K V) {k k' : K} (h : k' ≠ k) : (m.del k).get? k' = m.get? k' := by
  induction m with
  | nil => rfl
  | cons p rest ih =>
    simp only [Map.del]
    split
    · rename_i hp; simp only [Map.get?, hp, if_neg h.symm, ih]
    · simp only [Map.get?, ih]

theorem Map.get_eq_get? (d : V) (m : Map K V) (k : K) : m.get d k = (m.get? k).getD d := by
  induction m with
  | nil => rfl
  | cons p rest ih => simp only [Map.get, Map.get?]; split <;> simp [ih]

end maps

/-! ## Memories -/

/-- The addresses of a memory all lie at or above a bound. -/
def Memory.above (m : Memory) (n : Nat) : Prop := ∀ c ∈ m, n ≤ c.1

theorem Memory.wf_tail {c : Host.Cell} {m : Memory} (h : Memory.wf (c :: m) = true) : m.wf = true := by
  simp only [Memory.wf, Bool.and_eq_true] at h; exact h.2

theorem Memory.wf_value {c : Host.Cell} {m : Memory} (h : Memory.wf (c :: m) = true) : c.2 ≠ 0 := by
  simp only [Memory.wf, Bool.and_eq_true, decide_eq_true_eq] at h; exact h.1.1

theorem Memory.wf_above {c : Host.Cell} {m : Memory} (h : Memory.wf (c :: m) = true) : Memory.above m (c.1 + 1) := by
  induction m generalizing c with
  | nil => intro x hx; cases hx
  | cons c' rest ih =>
    have h1 : c.1 < c'.1 := by simp only [Memory.wf, Bool.and_eq_true, decide_eq_true_eq] at h; exact h.1.2
    intro x hx
    rcases List.mem_cons.mp hx with rfl | hx
    · exact h1
    · have := ih (Memory.wf_tail h) x hx; omega

theorem Memory.wf_cons {a : Nat} {b : Byte} {m : Memory} (hb : b ≠ 0) (hm : m.wf = true) (ha : Memory.above m (a + 1)) : Memory.wf ((a, b) :: m) = true := by
  cases m with
  | nil => simpa [Memory.wf] using hb
  | cons c rest =>
    have := ha c (by simp)
    simp only [Memory.wf, Bool.and_eq_true, decide_eq_true_eq]
    exact ⟨⟨hb, by omega⟩, by simpa only [Memory.wf, Bool.and_eq_true, decide_eq_true_eq] using hm⟩

theorem Memory.wf_cons_op {a : Nat} (b : Byte) {m : Memory} (hm : m.wf = true) (ha : Memory.above m (a + 1)) : (Memory.cons a b m).wf = true := by
  unfold Memory.cons; split
  · exact hm
  · rename_i h; exact Memory.wf_cons h hm ha

theorem Memory.above_cons {a n : Nat} (b : Byte) {m : Memory} (hm : Memory.above m n) (ha : n ≤ a) : Memory.above (Memory.cons a b m) n := by
  unfold Memory.cons; split
  · exact hm
  · intro x hx; rcases List.mem_cons.mp hx with rfl | hx
    · exact ha
    · exact hm x hx

theorem Memory.above_mono {m : Memory} {n k : Nat} (h : Memory.above m n) (hk : k ≤ n) : Memory.above m k := fun x hx => Nat.le_trans hk (h x hx)

theorem Memory.above_write {m : Memory} {n a : Nat} (b : Byte) (hm : Memory.above m n) (ha : n ≤ a) : Memory.above (m.write a b) n := by
  induction m with
  | nil => exact Memory.above_cons b hm ha
  | cons c rest ih =>
    have hr : Memory.above rest n := fun x hx => hm x (List.mem_cons_of_mem _ hx)
    simp only [Memory.write]
    split
    · exact Memory.above_cons b hr ha
    · split
      · exact Memory.above_cons b hm ha
      · intro x hx; rcases List.mem_cons.mp hx with rfl | hx
        · exact hm _ (by simp)
        · exact ih hr x hx

/-- A write keeps the canonical form. -/
theorem Memory.wf_write {m : Memory} (h : m.wf = true) (a : Nat) (b : Byte) : (m.write a b).wf = true := by
  induction m with
  | nil => exact Memory.wf_cons_op b h (fun x hx => nomatch hx)
  | cons c rest ih =>
    have ht := Memory.wf_tail h
    have hab := Memory.wf_above h
    simp only [Memory.write]
    split
    · rename_i hac; exact Memory.wf_cons_op b ht (hac ▸ hab)
    · split
      · rename_i hlt
        refine Memory.wf_cons_op b h (fun x hx => ?_)
        rcases List.mem_cons.mp hx with rfl | hx
        · exact hlt
        · have := hab x hx; omega
      · exact Memory.wf_cons (Memory.wf_value h) (ih ht) (Memory.above_write b hab (by omega))

theorem Memory.wf_writeList {m : Memory} (h : m.wf = true) (a : Nat) (bs : List Byte) : (m.writeList a bs).wf = true := by
  induction bs generalizing m a with
  | nil => exact h
  | cons b rest ih => exact ih (Memory.wf_write h a b) (a + 1)

/-- A part of a memory is canonical. -/
theorem Memory.wf_filter {m : Memory} (h : m.wf = true) (f : Host.Cell → Bool) : Memory.wf (m.filter f) = true := by
  induction m with
  | nil => rfl
  | cons c rest ih =>
    simp only [List.filter]
    split
    · exact Memory.wf_cons (Memory.wf_value h) (ih (Memory.wf_tail h)) (fun x hx => Memory.wf_above h x (List.mem_of_mem_filter hx))
    · exact ih (Memory.wf_tail h)

/-- Two canonical memories of which the second lies above the first make one. -/
theorem Memory.wf_append {m k : Memory} {n : Nat} (hm : m.wf = true) (hk : k.wf = true) (h1 : ∀ c ∈ m, c.1 < n) (h2 : Memory.above k n) :
    Memory.wf (m ++ k) = true := by
  induction m with
  | nil => exact hk
  | cons c rest ih =>
    refine Memory.wf_cons (Memory.wf_value hm) (ih (Memory.wf_tail hm) (fun x hx => h1 x (List.mem_cons_of_mem _ hx))) (fun x hx => ?_)
    rcases List.mem_append.mp hx with hx | hx
    · exact Memory.wf_above hm x hx
    · have := h1 c (by simp); have := h2 x hx; omega

/-- Addresses moved together keep the canonical form. -/
theorem Memory.wf_shift {m : Memory} (h : m.wf = true) (src dst : Nat) (hs : Memory.above m src) :
    Memory.wf (m.map (fun (c : Host.Cell) => (dst + (c.1 - src), c.2))) = true := by
  induction m with
  | nil => rfl
  | cons c rest ih =>
    have hr : Memory.above rest src := fun x hx => hs x (List.mem_cons_of_mem _ hx)
    refine Memory.wf_cons (Memory.wf_value h) (ih (Memory.wf_tail h) hr) (fun x hx => ?_)
    obtain ⟨y, hy, rfl⟩ := List.mem_map.mp hx
    have := Memory.wf_above h y hy
    have := hs c (by simp)
    show dst + (c.1 - src) + 1 ≤ dst + (y.1 - src)
    omega

/-! ### Reading -/

theorem Memory.read_of_above {m : Memory} {n a : Nat} (h : Memory.above m n) (ha : a < n) : m.read a = 0 := by
  cases m with
  | nil => rfl
  | cons c rest =>
    have := h c (by simp)
    simp only [Memory.read]
    rw [if_neg (by omega), if_pos (by omega)]

theorem Memory.read_cons_op {a : Nat} (b : Byte) {m : Memory} (ha : Memory.above m (a + 1)) (x : Nat) :
    (Memory.cons a b m).read x = if x = a then b else m.read x := by
  unfold Memory.cons
  split
  · rename_i hb
    split
    · rename_i hx; subst hx; rw [hb]; exact Memory.read_of_above ha (by omega)
    · rfl
  · simp only [Memory.read]
    by_cases hx : x = a
    · simp [hx]
    · rw [if_neg (Ne.symm hx), if_neg hx]
      split
      · exact (Memory.read_of_above ha (by omega)).symm
      · rfl

/-- A read after a write gives the value written at the address, and what was there before at any other. -/
theorem Memory.read_write {m : Memory} (h : m.wf = true) (a : Nat) (b : Byte) (x : Nat) : (m.write a b).read x = if x = a then b else m.read x := by
  induction m with
  | nil => exact Memory.read_cons_op b (by intro y hy; cases hy) x
  | cons c rest ih =>
    have hab := Memory.wf_above h
    simp only [Memory.write]
    split
    · rename_i hac
      rw [Memory.read_cons_op b (hac ▸ hab) x]
      by_cases hx : x = a
      · simp [hx]
      · simp only [if_neg hx, Memory.read]
        rw [if_neg (by omega)]
        split
        · exact Memory.read_of_above hab (by omega)
        · rfl
    · rename_i hac
      split
      · rename_i hlt
        refine Memory.read_cons_op b (fun y hy => ?_) x
        rcases List.mem_cons.mp hy with rfl | hy
        · exact hlt
        · have := hab y hy; omega
      · have := ih (Memory.wf_tail h)
        simp only [Memory.read]
        by_cases hx : x = a
        · subst hx; simp only [if_true] at this ⊢
          rw [if_neg (by omega), if_neg (by omega), this]
        · simp only [if_neg hx] at this ⊢; rw [this]

theorem Memory.read_writeList {m : Memory} (h : m.wf = true) (a : Nat) (bs : List Byte) (x : Nat) :
    (m.writeList a bs).read x = if a ≤ x ∧ x < a + bs.length then bs.getD (x - a) 0 else m.read x := by
  induction bs generalizing m a with
  | nil => simp only [Memory.writeList, List.length_nil]; rw [if_neg (by omega)]
  | cons b rest ih =>
    simp only [Memory.writeList]
    rw [ih (Memory.wf_write h a b), Memory.read_write h]
    simp only [List.length_cons]
    by_cases hx : x = a
    · subst hx; rw [if_neg (by omega), if_pos rfl, if_pos (by omega)]; simp
    · rw [if_neg hx]
      by_cases h2 : a + 1 ≤ x ∧ x < a + 1 + rest.length
      · rw [if_pos h2, if_pos (by omega)]
        obtain ⟨k, rfl⟩ : ∃ k, x = a + 1 + k := ⟨x - (a + 1), by omega⟩
        rw [show a + 1 + k - (a + 1) = k by omega, show a + 1 + k - a = k + 1 by omega]
        simp
      · rw [if_neg h2, if_neg (by omega)]

theorem Memory.length_readList (m : Memory) (a n : Nat) : (m.readList a n).length = n := by simp [Memory.readList]

end Sys2Proof.Machine
end

