-- ==== Sys2Proof/Laws/State.lean ====
section
/-! SUPPORT. One lemma per field per update of the state: an update of one part leaves every other part as it is. -/

namespace Sys2Proof.Machine

variable (s : State)

section setCtx
variable (c : CtxId) (k : Ctx)
@[simp] theorem State.setCtx_cur : (s.setCtx c k).cur = s.cur := rfl
@[simp] theorem State.setCtx_agenda : (s.setCtx c k).agenda = s.agenda := rfl
@[simp] theorem State.setCtx_freeCtr : (s.setCtx c k).freeCtr = s.freeCtr := rfl
@[simp] theorem State.setCtx_cycle : (s.setCtx c k).cycle = s.cycle := rfl
@[simp] theorem State.setCtx_threads : (s.setCtx c k).threads = s.threads := rfl
@[simp] theorem State.setCtx_handlers : (s.setCtx c k).handlers = s.handlers := rfl
@[simp] theorem State.setCtx_cores : (s.setCtx c k).cores = s.cores := rfl
@[simp] theorem State.setCtx_clusters : (s.setCtx c k).clusters = s.clusters := rfl
@[simp] theorem State.setCtx_sheets : (s.setCtx c k).sheets = s.sheets := rfl
@[simp] theorem State.setCtx_mem : (s.setCtx c k).mem = s.mem := rfl
@[simp] theorem State.setCtx_memPoison : (s.setCtx c k).memPoison = s.memPoison := rfl
@[simp] theorem State.setCtx_tags : (s.setCtx c k).tags = s.tags := rfl
@[simp] theorem State.setCtx_net : (s.setCtx c k).net = s.net := rfl
@[simp] theorem State.setCtx_nextPkt : (s.setCtx c k).nextPkt = s.nextPkt := rfl
@[simp] theorem State.setCtx_treePhasers : (s.setCtx c k).treePhasers = s.treePhasers := rfl
@[simp] theorem State.setCtx_launches : (s.setCtx c k).launches = s.launches := rfl
@[simp] theorem State.setCtx_edges : (s.setCtx c k).edges = s.edges := rfl
@[simp] theorem State.setCtx_meridian : (s.setCtx c k).meridian = s.meridian := rfl
@[simp] theorem State.setCtx_wgen : (s.setCtx c k).wgen = s.wgen := rfl
@[simp] theorem State.setCtx_kgen : (s.setCtx c k).kgen = s.kgen := rfl
@[simp] theorem State.setCtx_lxremap : (s.setCtx c k).lxremap = s.lxremap := rfl
@[simp] theorem State.setCtx_lxlost : (s.setCtx c k).lxlost = s.lxlost := rfl
@[simp] theorem State.setCtx_grid : (s.setCtx c k).grid = s.grid := rfl
@[simp] theorem State.setCtx_ports : (s.setCtx c k).ports = s.ports := rfl
@[simp] theorem State.setCtx_hostMem : (s.setCtx c k).hostMem = s.hostMem := rfl
@[simp] theorem State.setCtx_hostErr : (s.setCtx c k).hostErr = s.hostErr := rfl
@[simp] theorem State.setCtx_bootStage : (s.setCtx c k).bootStage = s.bootStage := rfl
@[simp] theorem State.setCtx_bootReason : (s.setCtx c k).bootReason = s.bootReason := rfl
@[simp] theorem State.setCtx_bootPort : (s.setCtx c k).bootPort = s.bootPort := rfl
@[simp] theorem State.setCtx_bootImage : (s.setCtx c k).bootImage = s.bootImage := rfl
@[simp] theorem State.setCtx_bootDigest : (s.setCtx c k).bootDigest = s.bootDigest := rfl
@[simp] theorem State.setCtx_lifetime : (s.setCtx c k).lifetime = s.lifetime := rfl
end setCtx

section mapCtx
variable (c : CtxId) (f : Ctx → Ctx)
@[simp] theorem State.mapCtx_cur : (s.mapCtx c f).cur = s.cur := rfl
@[simp] theorem State.mapCtx_agenda : (s.mapCtx c f).agenda = s.agenda := rfl
@[simp] theorem State.mapCtx_freeCtr : (s.mapCtx c f).freeCtr = s.freeCtr := rfl
@[simp] theorem State.mapCtx_cycle : (s.mapCtx c f).cycle = s.cycle := rfl
@[simp] theorem State.mapCtx_threads : (s.mapCtx c f).threads = s.threads := rfl
@[simp] theorem State.mapCtx_handlers : (s.mapCtx c f).handlers = s.handlers := rfl
@[simp] theorem State.mapCtx_cores : (s.mapCtx c f).cores = s.cores := rfl
@[simp] theorem State.mapCtx_clusters : (s.mapCtx c f).clusters = s.clusters := rfl
@[simp] theorem State.mapCtx_sheets : (s.mapCtx c f).sheets = s.sheets := rfl
@[simp] theorem State.mapCtx_mem : (s.mapCtx c f).mem = s.mem := rfl
@[simp] theorem State.mapCtx_memPoison : (s.mapCtx c f).memPoison = s.memPoison := rfl
@[simp] theorem State.mapCtx_tags : (s.mapCtx c f).tags = s.tags := rfl
@[simp] theorem State.mapCtx_net : (s.mapCtx c f).net = s.net := rfl
@[simp] theorem State.mapCtx_nextPkt : (s.mapCtx c f).nextPkt = s.nextPkt := rfl
@[simp] theorem State.mapCtx_treePhasers : (s.mapCtx c f).treePhasers = s.treePhasers := rfl
@[simp] theorem State.mapCtx_launches : (s.mapCtx c f).launches = s.launches := rfl
@[simp] theorem State.mapCtx_edges : (s.mapCtx c f).edges = s.edges := rfl
@[simp] theorem State.mapCtx_meridian : (s.mapCtx c f).meridian = s.meridian := rfl
@[simp] theorem State.mapCtx_wgen : (s.mapCtx c f).wgen = s.wgen := rfl
@[simp] theorem State.mapCtx_kgen : (s.mapCtx c f).kgen = s.kgen := rfl
@[simp] theorem State.mapCtx_lxremap : (s.mapCtx c f).lxremap = s.lxremap := rfl
@[simp] theorem State.mapCtx_lxlost : (s.mapCtx c f).lxlost = s.lxlost := rfl
@[simp] theorem State.mapCtx_grid : (s.mapCtx c f).grid = s.grid := rfl
@[simp] theorem State.mapCtx_ports : (s.mapCtx c f).ports = s.ports := rfl
@[simp] theorem State.mapCtx_hostMem : (s.mapCtx c f).hostMem = s.hostMem := rfl
@[simp] theorem State.mapCtx_hostErr : (s.mapCtx c f).hostErr = s.hostErr := rfl
@[simp] theorem State.mapCtx_bootStage : (s.mapCtx c f).bootStage = s.bootStage := rfl
@[simp] theorem State.mapCtx_bootReason : (s.mapCtx c f).bootReason = s.bootReason := rfl
@[simp] theorem State.mapCtx_bootPort : (s.mapCtx c f).bootPort = s.bootPort := rfl
@[simp] theorem State.mapCtx_bootImage : (s.mapCtx c f).bootImage = s.bootImage := rfl
@[simp] theorem State.mapCtx_bootDigest : (s.mapCtx c f).bootDigest = s.bootDigest := rfl
@[simp] theorem State.mapCtx_lifetime : (s.mapCtx c f).lifetime = s.lifetime := rfl
end mapCtx

section upd
variable (f : Ctx → Ctx)
@[simp] theorem State.upd_cur : (s.upd f).cur = s.cur := rfl
@[simp] theorem State.upd_agenda : (s.upd f).agenda = s.agenda := rfl
@[simp] theorem State.upd_freeCtr : (s.upd f).freeCtr = s.freeCtr := rfl
@[simp] theorem State.upd_cycle : (s.upd f).cycle = s.cycle := rfl
@[simp] theorem State.upd_threads : (s.upd f).threads = s.threads := rfl
@[simp] theorem State.upd_handlers : (s.upd f).handlers = s.handlers := rfl
@[simp] theorem State.upd_cores : (s.upd f).cores = s.cores := rfl
@[simp] theorem State.upd_clusters : (s.upd f).clusters = s.clusters := rfl
@[simp] theorem State.upd_sheets : (s.upd f).sheets = s.sheets := rfl
@[simp] theorem State.upd_mem : (s.upd f).mem = s.mem := rfl
@[simp] theorem State.upd_memPoison : (s.upd f).memPoison = s.memPoison := rfl
@[simp] theorem State.upd_tags : (s.upd f).tags = s.tags := rfl
@[simp] theorem State.upd_net : (s.upd f).net = s.net := rfl
@[simp] theorem State.upd_nextPkt : (s.upd f).nextPkt = s.nextPkt := rfl
@[simp] theorem State.upd_treePhasers : (s.upd f).treePhasers = s.treePhasers := rfl
@[simp] theorem State.upd_launches : (s.upd f).launches = s.launches := rfl
@[simp] theorem State.upd_edges : (s.upd f).edges = s.edges := rfl
@[simp] theorem State.upd_meridian : (s.upd f).meridian = s.meridian := rfl
@[simp] theorem State.upd_wgen : (s.upd f).wgen = s.wgen := rfl
@[simp] theorem State.upd_kgen : (s.upd f).kgen = s.kgen := rfl
@[simp] theorem State.upd_lxremap : (s.upd f).lxremap = s.lxremap := rfl
@[simp] theorem State.upd_lxlost : (s.upd f).lxlost = s.lxlost := rfl
@[simp] theorem State.upd_grid : (s.upd f).grid = s.grid := rfl
@[simp] theorem State.upd_ports : (s.upd f).ports = s.ports := rfl
@[simp] theorem State.upd_hostMem : (s.upd f).hostMem = s.hostMem := rfl
@[simp] theorem State.upd_hostErr : (s.upd f).hostErr = s.hostErr := rfl
@[simp] theorem State.upd_bootStage : (s.upd f).bootStage = s.bootStage := rfl
@[simp] theorem State.upd_bootReason : (s.upd f).bootReason = s.bootReason := rfl
@[simp] theorem State.upd_bootPort : (s.upd f).bootPort = s.bootPort := rfl
@[simp] theorem State.upd_bootImage : (s.upd f).bootImage = s.bootImage := rfl
@[simp] theorem State.upd_bootDigest : (s.upd f).bootDigest = s.bootDigest := rfl
@[simp] theorem State.upd_lifetime : (s.upd f).lifetime = s.lifetime := rfl
end upd

section setThread
variable (n : Nat) (k : Thread)
@[simp] theorem State.setThread_cur : (s.setThread n k).cur = s.cur := rfl
@[simp] theorem State.setThread_agenda : (s.setThread n k).agenda = s.agenda := rfl
@[simp] theorem State.setThread_freeCtr : (s.setThread n k).freeCtr = s.freeCtr := rfl
@[simp] theorem State.setThread_cycle : (s.setThread n k).cycle = s.cycle := rfl
@[simp] theorem State.setThread_ctxs : (s.setThread n k).ctxs = s.ctxs := rfl
@[simp] theorem State.setThread_handlers : (s.setThread n k).handlers = s.handlers := rfl
@[simp] theorem State.setThread_cores : (s.setThread n k).cores = s.cores := rfl
@[simp] theorem State.setThread_clusters : (s.setThread n k).clusters = s.clusters := rfl
@[simp] theorem State.setThread_sheets : (s.setThread n k).sheets = s.sheets := rfl
@[simp] theorem State.setThread_mem : (s.setThread n k).mem = s.mem := rfl
@[simp] theorem State.setThread_memPoison : (s.setThread n k).memPoison = s.memPoison := rfl
@[simp] theorem State.setThread_tags : (s.setThread n k).tags = s.tags := rfl
@[simp] theorem State.setThread_net : (s.setThread n k).net = s.net := rfl
@[simp] theorem State.setThread_nextPkt : (s.setThread n k).nextPkt = s.nextPkt := rfl
@[simp] theorem State.setThread_treePhasers : (s.setThread n k).treePhasers = s.treePhasers := rfl
@[simp] theorem State.setThread_launches : (s.setThread n k).launches = s.launches := rfl
@[simp] theorem State.setThread_edges : (s.setThread n k).edges = s.edges := rfl
@[simp] theorem State.setThread_meridian : (s.setThread n k).meridian = s.meridian := rfl
@[simp] theorem State.setThread_wgen : (s.setThread n k).wgen = s.wgen := rfl
@[simp] theorem State.setThread_kgen : (s.setThread n k).kgen = s.kgen := rfl
@[simp] theorem State.setThread_lxremap : (s.setThread n k).lxremap = s.lxremap := rfl
@[simp] theorem State.setThread_lxlost : (s.setThread n k).lxlost = s.lxlost := rfl
@[simp] theorem State.setThread_grid : (s.setThread n k).grid = s.grid := rfl
@[simp] theorem State.setThread_ports : (s.setThread n k).ports = s.ports := rfl
@[simp] theorem State.setThread_hostMem : (s.setThread n k).hostMem = s.hostMem := rfl
@[simp] theorem State.setThread_hostErr : (s.setThread n k).hostErr = s.hostErr := rfl
@[simp] theorem State.setThread_bootStage : (s.setThread n k).bootStage = s.bootStage := rfl
@[simp] theorem State.setThread_bootReason : (s.setThread n k).bootReason = s.bootReason := rfl
@[simp] theorem State.setThread_bootPort : (s.setThread n k).bootPort = s.bootPort := rfl
@[simp] theorem State.setThread_bootImage : (s.setThread n k).bootImage = s.bootImage := rfl
@[simp] theorem State.setThread_bootDigest : (s.setThread n k).bootDigest = s.bootDigest := rfl
@[simp] theorem State.setThread_lifetime : (s.setThread n k).lifetime = s.lifetime := rfl
end setThread

section mapThread
variable (n : Nat) (f : Thread → Thread)
@[simp] theorem State.mapThread_cur : (s.mapThread n f).cur = s.cur := rfl
@[simp] theorem State.mapThread_agenda : (s.mapThread n f).agenda = s.agenda := rfl
@[simp] theorem State.mapThread_freeCtr : (s.mapThread n f).freeCtr = s.freeCtr := rfl
@[simp] theorem State.mapThread_cycle : (s.mapThread n f).cycle = s.cycle := rfl
@[simp] theorem State.mapThread_ctxs : (s.mapThread n f).ctxs = s.ctxs := rfl
@[simp] theorem State.mapThread_handlers : (s.mapThread n f).handlers = s.handlers := rfl
@[simp] theorem State.mapThread_cores : (s.mapThread n f).cores = s.cores := rfl
@[simp] theorem State.mapThread_clusters : (s.mapThread n f).clusters = s.clusters := rfl
@[simp] theorem State.mapThread_sheets : (s.mapThread n f).sheets = s.sheets := rfl
@[simp] theorem State.mapThread_mem : (s.mapThread n f).mem = s.mem := rfl
@[simp] theorem State.mapThread_memPoison : (s.mapThread n f).memPoison = s.memPoison := rfl
@[simp] theorem State.mapThread_tags : (s.mapThread n f).tags = s.tags := rfl
@[simp] theorem State.mapThread_net : (s.mapThread n f).net = s.net := rfl
@[simp] theorem State.mapThread_nextPkt : (s.mapThread n f).nextPkt = s.nextPkt := rfl
@[simp] theorem State.mapThread_treePhasers : (s.mapThread n f).treePhasers = s.treePhasers := rfl
@[simp] theorem State.mapThread_launches : (s.mapThread n f).launches = s.launches := rfl
@[simp] theorem State.mapThread_edges : (s.mapThread n f).edges = s.edges := rfl
@[simp] theorem State.mapThread_meridian : (s.mapThread n f).meridian = s.meridian := rfl
@[simp] theorem State.mapThread_wgen : (s.mapThread n f).wgen = s.wgen := rfl
@[simp] theorem State.mapThread_kgen : (s.mapThread n f).kgen = s.kgen := rfl
@[simp] theorem State.mapThread_lxremap : (s.mapThread n f).lxremap = s.lxremap := rfl
@[simp] theorem State.mapThread_lxlost : (s.mapThread n f).lxlost = s.lxlost := rfl
@[simp] theorem State.mapThread_grid : (s.mapThread n f).grid = s.grid := rfl
@[simp] theorem State.mapThread_ports : (s.mapThread n f).ports = s.ports := rfl
@[simp] theorem State.mapThread_hostMem : (s.mapThread n f).hostMem = s.hostMem := rfl
@[simp] theorem State.mapThread_hostErr : (s.mapThread n f).hostErr = s.hostErr := rfl
@[simp] theorem State.mapThread_bootStage : (s.mapThread n f).bootStage = s.bootStage := rfl
@[simp] theorem State.mapThread_bootReason : (s.mapThread n f).bootReason = s.bootReason := rfl
@[simp] theorem State.mapThread_bootPort : (s.mapThread n f).bootPort = s.bootPort := rfl
@[simp] theorem State.mapThread_bootImage : (s.mapThread n f).bootImage = s.bootImage := rfl
@[simp] theorem State.mapThread_bootDigest : (s.mapThread n f).bootDigest = s.bootDigest := rfl
@[simp] theorem State.mapThread_lifetime : (s.mapThread n f).lifetime = s.lifetime := rfl
end mapThread

section mapCore
variable (n : Nat) (f : Core → Core)
@[simp] theorem State.mapCore_cur : (s.mapCore n f).cur = s.cur := rfl
@[simp] theorem State.mapCore_agenda : (s.mapCore n f).agenda = s.agenda := rfl
@[simp] theorem State.mapCore_freeCtr : (s.mapCore n f).freeCtr = s.freeCtr := rfl
@[simp] theorem State.mapCore_cycle : (s.mapCore n f).cycle = s.cycle := rfl
@[simp] theorem State.mapCore_ctxs : (s.mapCore n f).ctxs = s.ctxs := rfl
@[simp] theorem State.mapCore_threads : (s.mapCore n f).threads = s.threads := rfl
@[simp] theorem State.mapCore_handlers : (s.mapCore n f).handlers = s.handlers := rfl
@[simp] theorem State.mapCore_clusters : (s.mapCore n f).clusters = s.clusters := rfl
@[simp] theorem State.mapCore_sheets : (s.mapCore n f).sheets = s.sheets := rfl
@[simp] theorem State.mapCore_mem : (s.mapCore n f).mem = s.mem := rfl
@[simp] theorem State.mapCore_memPoison : (s.mapCore n f).memPoison = s.memPoison := rfl
@[simp] theorem State.mapCore_tags : (s.mapCore n f).tags = s.tags := rfl
@[simp] theorem State.mapCore_net : (s.mapCore n f).net = s.net := rfl
@[simp] theorem State.mapCore_nextPkt : (s.mapCore n f).nextPkt = s.nextPkt := rfl
@[simp] theorem State.mapCore_treePhasers : (s.mapCore n f).treePhasers = s.treePhasers := rfl
@[simp] theorem State.mapCore_launches : (s.mapCore n f).launches = s.launches := rfl
@[simp] theorem State.mapCore_edges : (s.mapCore n f).edges = s.edges := rfl
@[simp] theorem State.mapCore_meridian : (s.mapCore n f).meridian = s.meridian := rfl
@[simp] theorem State.mapCore_wgen : (s.mapCore n f).wgen = s.wgen := rfl
@[simp] theorem State.mapCore_kgen : (s.mapCore n f).kgen = s.kgen := rfl
@[simp] theorem State.mapCore_lxremap : (s.mapCore n f).lxremap = s.lxremap := rfl
@[simp] theorem State.mapCore_lxlost : (s.mapCore n f).lxlost = s.lxlost := rfl
@[simp] theorem State.mapCore_grid : (s.mapCore n f).grid = s.grid := rfl
@[simp] theorem State.mapCore_ports : (s.mapCore n f).ports = s.ports := rfl
@[simp] theorem State.mapCore_hostMem : (s.mapCore n f).hostMem = s.hostMem := rfl
@[simp] theorem State.mapCore_hostErr : (s.mapCore n f).hostErr = s.hostErr := rfl
@[simp] theorem State.mapCore_bootStage : (s.mapCore n f).bootStage = s.bootStage := rfl
@[simp] theorem State.mapCore_bootReason : (s.mapCore n f).bootReason = s.bootReason := rfl
@[simp] theorem State.mapCore_bootPort : (s.mapCore n f).bootPort = s.bootPort := rfl
@[simp] theorem State.mapCore_bootImage : (s.mapCore n f).bootImage = s.bootImage := rfl
@[simp] theorem State.mapCore_bootDigest : (s.mapCore n f).bootDigest = s.bootDigest := rfl
@[simp] theorem State.mapCore_lifetime : (s.mapCore n f).lifetime = s.lifetime := rfl
end mapCore

section mapCluster
variable (n : Nat) (f : Cluster → Cluster)
@[simp] theorem State.mapCluster_cur : (s.mapCluster n f).cur = s.cur := rfl
@[simp] theorem State.mapCluster_agenda : (s.mapCluster n f).agenda = s.agenda := rfl
@[simp] theorem State.mapCluster_freeCtr : (s.mapCluster n f).freeCtr = s.freeCtr := rfl
@[simp] theorem State.mapCluster_cycle : (s.mapCluster n f).cycle = s.cycle := rfl
@[simp] theorem State.mapCluster_ctxs : (s.mapCluster n f).ctxs = s.ctxs := rfl
@[simp] theorem State.mapCluster_threads : (s.mapCluster n f).threads = s.threads := rfl
@[simp] theorem State.mapCluster_handlers : (s.mapCluster n f).handlers = s.handlers := rfl
@[simp] theorem State.mapCluster_cores : (s.mapCluster n f).cores = s.cores := rfl
@[simp] theorem State.mapCluster_sheets : (s.mapCluster n f).sheets = s.sheets := rfl
@[simp] theorem State.mapCluster_mem : (s.mapCluster n f).mem = s.mem := rfl
@[simp] theorem State.mapCluster_memPoison : (s.mapCluster n f).memPoison = s.memPoison := rfl
@[simp] theorem State.mapCluster_tags : (s.mapCluster n f).tags = s.tags := rfl
@[simp] theorem State.mapCluster_net : (s.mapCluster n f).net = s.net := rfl
@[simp] theorem State.mapCluster_nextPkt : (s.mapCluster n f).nextPkt = s.nextPkt := rfl
@[simp] theorem State.mapCluster_treePhasers : (s.mapCluster n f).treePhasers = s.treePhasers := rfl
@[simp] theorem State.mapCluster_launches : (s.mapCluster n f).launches = s.launches := rfl
@[simp] theorem State.mapCluster_edges : (s.mapCluster n f).edges = s.edges := rfl
@[simp] theorem State.mapCluster_meridian : (s.mapCluster n f).meridian = s.meridian := rfl
@[simp] theorem State.mapCluster_wgen : (s.mapCluster n f).wgen = s.wgen := rfl
@[simp] theorem State.mapCluster_kgen : (s.mapCluster n f).kgen = s.kgen := rfl
@[simp] theorem State.mapCluster_lxremap : (s.mapCluster n f).lxremap = s.lxremap := rfl
@[simp] theorem State.mapCluster_lxlost : (s.mapCluster n f).lxlost = s.lxlost := rfl
@[simp] theorem State.mapCluster_grid : (s.mapCluster n f).grid = s.grid := rfl
@[simp] theorem State.mapCluster_ports : (s.mapCluster n f).ports = s.ports := rfl
@[simp] theorem State.mapCluster_hostMem : (s.mapCluster n f).hostMem = s.hostMem := rfl
@[simp] theorem State.mapCluster_hostErr : (s.mapCluster n f).hostErr = s.hostErr := rfl
@[simp] theorem State.mapCluster_bootStage : (s.mapCluster n f).bootStage = s.bootStage := rfl
@[simp] theorem State.mapCluster_bootReason : (s.mapCluster n f).bootReason = s.bootReason := rfl
@[simp] theorem State.mapCluster_bootPort : (s.mapCluster n f).bootPort = s.bootPort := rfl
@[simp] theorem State.mapCluster_bootImage : (s.mapCluster n f).bootImage = s.bootImage := rfl
@[simp] theorem State.mapCluster_bootDigest : (s.mapCluster n f).bootDigest = s.bootDigest := rfl
@[simp] theorem State.mapCluster_lifetime : (s.mapCluster n f).lifetime = s.lifetime := rfl
end mapCluster

section mapSheet
variable (n : Nat) (f : Sheet → Sheet)
@[simp] theorem State.mapSheet_cur : (s.mapSheet n f).cur = s.cur := rfl
@[simp] theorem State.mapSheet_agenda : (s.mapSheet n f).agenda = s.agenda := rfl
@[simp] theorem State.mapSheet_freeCtr : (s.mapSheet n f).freeCtr = s.freeCtr := rfl
@[simp] theorem State.mapSheet_cycle : (s.mapSheet n f).cycle = s.cycle := rfl
@[simp] theorem State.mapSheet_ctxs : (s.mapSheet n f).ctxs = s.ctxs := rfl
@[simp] theorem State.mapSheet_threads : (s.mapSheet n f).threads = s.threads := rfl
@[simp] theorem State.mapSheet_handlers : (s.mapSheet n f).handlers = s.handlers := rfl
@[simp] theorem State.mapSheet_cores : (s.mapSheet n f).cores = s.cores := rfl
@[simp] theorem State.mapSheet_clusters : (s.mapSheet n f).clusters = s.clusters := rfl
@[simp] theorem State.mapSheet_mem : (s.mapSheet n f).mem = s.mem := rfl
@[simp] theorem State.mapSheet_memPoison : (s.mapSheet n f).memPoison = s.memPoison := rfl
@[simp] theorem State.mapSheet_tags : (s.mapSheet n f).tags = s.tags := rfl
@[simp] theorem State.mapSheet_net : (s.mapSheet n f).net = s.net := rfl
@[simp] theorem State.mapSheet_nextPkt : (s.mapSheet n f).nextPkt = s.nextPkt := rfl
@[simp] theorem State.mapSheet_treePhasers : (s.mapSheet n f).treePhasers = s.treePhasers := rfl
@[simp] theorem State.mapSheet_launches : (s.mapSheet n f).launches = s.launches := rfl
@[simp] theorem State.mapSheet_edges : (s.mapSheet n f).edges = s.edges := rfl
@[simp] theorem State.mapSheet_meridian : (s.mapSheet n f).meridian = s.meridian := rfl
@[simp] theorem State.mapSheet_wgen : (s.mapSheet n f).wgen = s.wgen := rfl
@[simp] theorem State.mapSheet_kgen : (s.mapSheet n f).kgen = s.kgen := rfl
@[simp] theorem State.mapSheet_lxremap : (s.mapSheet n f).lxremap = s.lxremap := rfl
@[simp] theorem State.mapSheet_lxlost : (s.mapSheet n f).lxlost = s.lxlost := rfl
@[simp] theorem State.mapSheet_grid : (s.mapSheet n f).grid = s.grid := rfl
@[simp] theorem State.mapSheet_ports : (s.mapSheet n f).ports = s.ports := rfl
@[simp] theorem State.mapSheet_hostMem : (s.mapSheet n f).hostMem = s.hostMem := rfl
@[simp] theorem State.mapSheet_hostErr : (s.mapSheet n f).hostErr = s.hostErr := rfl
@[simp] theorem State.mapSheet_bootStage : (s.mapSheet n f).bootStage = s.bootStage := rfl
@[simp] theorem State.mapSheet_bootReason : (s.mapSheet n f).bootReason = s.bootReason := rfl
@[simp] theorem State.mapSheet_bootPort : (s.mapSheet n f).bootPort = s.bootPort := rfl
@[simp] theorem State.mapSheet_bootImage : (s.mapSheet n f).bootImage = s.bootImage := rfl
@[simp] theorem State.mapSheet_bootDigest : (s.mapSheet n f).bootDigest = s.bootDigest := rfl
@[simp] theorem State.mapSheet_lifetime : (s.mapSheet n f).lifetime = s.lifetime := rfl
end mapSheet

section mapEdge
variable (n : Nat) (f : Edge → Edge)
@[simp] theorem State.mapEdge_cur : (s.mapEdge n f).cur = s.cur := rfl
@[simp] theorem State.mapEdge_agenda : (s.mapEdge n f).agenda = s.agenda := rfl
@[simp] theorem State.mapEdge_freeCtr : (s.mapEdge n f).freeCtr = s.freeCtr := rfl
@[simp] theorem State.mapEdge_cycle : (s.mapEdge n f).cycle = s.cycle := rfl
@[simp] theorem State.mapEdge_ctxs : (s.mapEdge n f).ctxs = s.ctxs := rfl
@[simp] theorem State.mapEdge_threads : (s.mapEdge n f).threads = s.threads := rfl
@[simp] theorem State.mapEdge_handlers : (s.mapEdge n f).handlers = s.handlers := rfl
@[simp] theorem State.mapEdge_cores : (s.mapEdge n f).cores = s.cores := rfl
@[simp] theorem State.mapEdge_clusters : (s.mapEdge n f).clusters = s.clusters := rfl
@[simp] theorem State.mapEdge_sheets : (s.mapEdge n f).sheets = s.sheets := rfl
@[simp] theorem State.mapEdge_mem : (s.mapEdge n f).mem = s.mem := rfl
@[simp] theorem State.mapEdge_memPoison : (s.mapEdge n f).memPoison = s.memPoison := rfl
@[simp] theorem State.mapEdge_tags : (s.mapEdge n f).tags = s.tags := rfl
@[simp] theorem State.mapEdge_net : (s.mapEdge n f).net = s.net := rfl
@[simp] theorem State.mapEdge_nextPkt : (s.mapEdge n f).nextPkt = s.nextPkt := rfl
@[simp] theorem State.mapEdge_treePhasers : (s.mapEdge n f).treePhasers = s.treePhasers := rfl
@[simp] theorem State.mapEdge_launches : (s.mapEdge n f).launches = s.launches := rfl
@[simp] theorem State.mapEdge_meridian : (s.mapEdge n f).meridian = s.meridian := rfl
@[simp] theorem State.mapEdge_wgen : (s.mapEdge n f).wgen = s.wgen := rfl
@[simp] theorem State.mapEdge_kgen : (s.mapEdge n f).kgen = s.kgen := rfl
@[simp] theorem State.mapEdge_lxremap : (s.mapEdge n f).lxremap = s.lxremap := rfl
@[simp] theorem State.mapEdge_lxlost : (s.mapEdge n f).lxlost = s.lxlost := rfl
@[simp] theorem State.mapEdge_grid : (s.mapEdge n f).grid = s.grid := rfl
@[simp] theorem State.mapEdge_ports : (s.mapEdge n f).ports = s.ports := rfl
@[simp] theorem State.mapEdge_hostMem : (s.mapEdge n f).hostMem = s.hostMem := rfl
@[simp] theorem State.mapEdge_hostErr : (s.mapEdge n f).hostErr = s.hostErr := rfl
@[simp] theorem State.mapEdge_bootStage : (s.mapEdge n f).bootStage = s.bootStage := rfl
@[simp] theorem State.mapEdge_bootReason : (s.mapEdge n f).bootReason = s.bootReason := rfl
@[simp] theorem State.mapEdge_bootPort : (s.mapEdge n f).bootPort = s.bootPort := rfl
@[simp] theorem State.mapEdge_bootImage : (s.mapEdge n f).bootImage = s.bootImage := rfl
@[simp] theorem State.mapEdge_bootDigest : (s.mapEdge n f).bootDigest = s.bootDigest := rfl
@[simp] theorem State.mapEdge_lifetime : (s.mapEdge n f).lifetime = s.lifetime := rfl
end mapEdge

section mapPort
variable (n : Nat) (f : HostPort → HostPort)
@[simp] theorem State.mapPort_cur : (s.mapPort n f).cur = s.cur := rfl
@[simp] theorem State.mapPort_agenda : (s.mapPort n f).agenda = s.agenda := rfl
@[simp] theorem State.mapPort_freeCtr : (s.mapPort n f).freeCtr = s.freeCtr := rfl
@[simp] theorem State.mapPort_cycle : (s.mapPort n f).cycle = s.cycle := rfl
@[simp] theorem State.mapPort_ctxs : (s.mapPort n f).ctxs = s.ctxs := rfl
@[simp] theorem State.mapPort_threads : (s.mapPort n f).threads = s.threads := rfl
@[simp] theorem State.mapPort_handlers : (s.mapPort n f).handlers = s.handlers := rfl
@[simp] theorem State.mapPort_cores : (s.mapPort n f).cores = s.cores := rfl
@[simp] theorem State.mapPort_clusters : (s.mapPort n f).clusters = s.clusters := rfl
@[simp] theorem State.mapPort_sheets : (s.mapPort n f).sheets = s.sheets := rfl
@[simp] theorem State.mapPort_mem : (s.mapPort n f).mem = s.mem := rfl
@[simp] theorem State.mapPort_memPoison : (s.mapPort n f).memPoison = s.memPoison := rfl
@[simp] theorem State.mapPort_tags : (s.mapPort n f).tags = s.tags := rfl
@[simp] theorem State.mapPort_net : (s.mapPort n f).net = s.net := rfl
@[simp] theorem State.mapPort_nextPkt : (s.mapPort n f).nextPkt = s.nextPkt := rfl
@[simp] theorem State.mapPort_treePhasers : (s.mapPort n f).treePhasers = s.treePhasers := rfl
@[simp] theorem State.mapPort_launches : (s.mapPort n f).launches = s.launches := rfl
@[simp] theorem State.mapPort_edges : (s.mapPort n f).edges = s.edges := rfl
@[simp] theorem State.mapPort_meridian : (s.mapPort n f).meridian = s.meridian := rfl
@[simp] theorem State.mapPort_wgen : (s.mapPort n f).wgen = s.wgen := rfl
@[simp] theorem State.mapPort_kgen : (s.mapPort n f).kgen = s.kgen := rfl
@[simp] theorem State.mapPort_lxremap : (s.mapPort n f).lxremap = s.lxremap := rfl
@[simp] theorem State.mapPort_lxlost : (s.mapPort n f).lxlost = s.lxlost := rfl
@[simp] theorem State.mapPort_grid : (s.mapPort n f).grid = s.grid := rfl
@[simp] theorem State.mapPort_hostMem : (s.mapPort n f).hostMem = s.hostMem := rfl
@[simp] theorem State.mapPort_hostErr : (s.mapPort n f).hostErr = s.hostErr := rfl
@[simp] theorem State.mapPort_bootStage : (s.mapPort n f).bootStage = s.bootStage := rfl
@[simp] theorem State.mapPort_bootReason : (s.mapPort n f).bootReason = s.bootReason := rfl
@[simp] theorem State.mapPort_bootPort : (s.mapPort n f).bootPort = s.bootPort := rfl
@[simp] theorem State.mapPort_bootImage : (s.mapPort n f).bootImage = s.bootImage := rfl
@[simp] theorem State.mapPort_bootDigest : (s.mapPort n f).bootDigest = s.bootDigest := rfl
@[simp] theorem State.mapPort_lifetime : (s.mapPort n f).lifetime = s.lifetime := rfl
end mapPort

end Sys2Proof.Machine
end

