-- ==== Sys2Proof/Laws/Issue.lean ====
section
/-! SUPPORT. What the issue of an instruction, its completion and its waits do: the lemmas that statements about instructions are proved from. -/

namespace Sys2Proof.Machine

/-! ## Reading what was written -/

@[simp] theorem State.ctxOf_setCtx_same (s : State) (c : CtxId) (k : Ctx) : (s.setCtx c k).ctxOf c = k := by simp [State.ctxOf, State.setCtx]

theorem State.ctxOf_setCtx_other (s : State) {c x : CtxId} (k : Ctx) (h : x ≠ c) : (s.setCtx c k).ctxOf x = s.ctxOf x := by
  simp [State.ctxOf, State.setCtx, Map.get_set_other _ _ _ h]

@[simp] theorem State.ctxOf_mapCtx_same (s : State) (c : CtxId) (f : Ctx → Ctx) : (s.mapCtx c f).ctxOf c = f (s.ctxOf c) := by simp [State.mapCtx]

theorem State.ctxOf_mapCtx_other (s : State) {c x : CtxId} (f : Ctx → Ctx) (h : x ≠ c) : (s.mapCtx c f).ctxOf x = s.ctxOf x := by
  simp [State.mapCtx, State.ctxOf_setCtx_other s _ h]

@[simp] theorem State.ctx_upd (s : State) (f : Ctx → Ctx) : (s.upd f).ctx = f s.ctx := by simp [State.ctx, State.upd]

theorem State.ctxOf_upd_other (s : State) {x : CtxId} (f : Ctx → Ctx) (h : x ≠ s.cur) : (s.upd f).ctxOf x = s.ctxOf x := by
  simp [State.upd, State.ctxOf_mapCtx_other s _ h]

theorem State.thread_setThread (s : State) (n m : Nat) (t : Thread) : (s.setThread n t).thread m = if m = n then t else s.thread m := by
  simp [State.thread, State.setThread, Map.get_set]

theorem State.thread_mapThread (s : State) (n m : Nat) (f : Thread → Thread) : (s.mapThread n f).thread m = if m = n then f (s.thread n) else s.thread m := by
  simp [State.mapThread, State.thread_setThread]

theorem State.core_mapCore (s : State) (n m : Nat) (f : Core → Core) : (s.mapCore n f).core m = if m = n then f (s.core n) else s.core m := by
  simp [State.core, State.mapCore, Map.get_set]

theorem State.cluster_mapCluster (s : State) (n m : Nat) (f : Cluster → Cluster) : (s.mapCluster n f).cluster m = if m = n then f (s.cluster n) else s.cluster m := by
  simp [State.cluster, State.mapCluster, Map.get_set]

theorem State.sheet_mapSheet (s : State) (n m : Nat) (f : Sheet → Sheet) : (s.mapSheet n f).sheet m = if m = n then f (s.sheet n) else s.sheet m := by
  simp [State.sheet, State.mapSheet, Map.get_set]

theorem State.edge_mapEdge (s : State) (n m : Nat) (f : Edge → Edge) : (s.mapEdge n f).edge m = if m = n then f (s.edge n) else s.edge m := by
  simp [State.edge, State.mapEdge, Map.get_set]

theorem State.port_mapPort (s : State) (n m : Nat) (f : HostPort → HostPort) : (s.mapPort n f).port m = if m = n then f (s.port n) else s.port m := by
  simp [State.port, State.mapPort, Map.get_set]

/-! ## Registers -/

/-- A scalar register after a write of one: s0 stays 0, and a write of s0 is discarded (R55). -/
theorem Ctx.reg_setReg (k : Ctx) (d r : BitVec 5) (v : Word) : (k.setReg d v).reg r = if r = d ∧ d ≠ 0 then v else k.reg r := by
  unfold Ctx.reg Ctx.setReg
  by_cases hd : d = 0
  · rw [if_pos hd, if_neg (c := r = d ∧ d ≠ 0) (fun h => h.2 hd)]
  · rw [if_neg hd]
    by_cases hr : r = 0
    · rw [if_pos hr, if_pos hr, if_neg (c := r = d ∧ d ≠ 0) (fun h => hd (h.1 ▸ hr))]
    · rw [if_neg hr, if_neg hr]
      by_cases h : r = d
      · subst h; rw [if_pos ⟨rfl, hd⟩]; exact Vector.getElem_set_self _
      · have hne : d.toNat ≠ r.toNat := fun he => h (BitVec.eq_of_toNat_eq he.symm)
        rw [if_neg (fun x => h x.1)]; exact Vector.getElem_set_ne d.isLt r.isLt hne

theorem State.reg_setReg (s : State) (d r : BitVec 5) (v : Word) : (s.setReg d v).reg r = if r = d ∧ d ≠ 0 then v else s.reg r := by
  simp [State.reg, State.setReg, Ctx.reg_setReg]

/-! ## Completing -/

theorem State.onlyCtxs_upd (s : State) (f : Ctx → Ctx) : s.upd f = { s with ctxs := (s.upd f).ctxs } := rfl

/-- Two changes of contexts only make one. -/
theorem State.onlyCtxs_trans {r u t : State} (h1 : u = { r with ctxs := u.ctxs }) (h2 : t = { u with ctxs := t.ctxs }) : t = { r with ctxs := t.ctxs } := by
  rw [h1] at h2; exact h2

/-- A fold that gives words to hop buffers changes nothing else. -/
theorem State.foldl_hop (side : Side) (pc : Word) (w : BitVec 32) (fs : List Nat) (s : State) :
    let t := fs.foldl (fun (s : State) f => s.mapCtx (.task f side) (fun k => k.takeHop pc w)) s
    t = { s with ctxs := t.ctxs } ∧ ∀ c, (t.ctxOf c).unhopped = (s.ctxOf c).unhopped := by
  induction fs generalizing s with
  | nil => exact ⟨rfl, fun _ => rfl⟩
  | cons f rest ih =>
    obtain ⟨h1, h2⟩ := ih (s.mapCtx (.task f side) (fun k => k.takeHop pc w))
    refine ⟨?_, fun c => ?_⟩
    · simp only [List.foldl_cons]; rw [h1]; rfl
    · simp only [List.foldl_cons]; rw [h2 c]
      by_cases hc : c = .task f side
      · subst hc; simp [Ctx.unhopped, Ctx.takeHop]
      · rw [State.ctxOf_mapCtx_other s _ hc]

/-- Forwarding a word to followers changes nothing but their hop buffers (R72). -/
theorem State.forward_frame (pc : Word) (w : BitVec 32) (s : State) :
    (s.forward pc w) = { s with ctxs := (s.forward pc w).ctxs } ∧ ∀ c, ((s.forward pc w).ctxOf c).unhopped = (s.ctxOf c).unhopped := by
  unfold State.forward
  split
  · exact State.foldl_hop _ _ _ _ s
  · exact ⟨rfl, fun _ => rfl⟩

theorem Ctx.held_of_unhopped {k k' : Ctx} (h : k.unhopped = k'.unhopped) : k.held = k'.held := by
  have := congrArg Ctx.held h
  exact this

theorem Ctx.unhopped_progress {k k' : Ctx} (h : k.unhopped = k'.unhopped) : k.pc = k'.pc ∧ k.buf = k'.buf ∧ k.hints = k'.hints ∧ k.repDone = k'.repDone := by
  unfold Ctx.unhopped at h
  injection h
  exact ⟨‹_›, ‹_›, ‹_›, ‹_›⟩

theorem Ctx.complete_held (k : Ctx) (pc : Word) (b : Bool) : (k.complete pc b).held = k.held := by
  unfold Ctx.complete Ctx.held
  cases hr : k.hints.rep <;> dsimp only <;> rw [hr] <;> dsimp only <;> (repeat' split) <;> rfl

theorem Ctx.complete_wait (k : Ctx) (pc : Word) (b : Bool) : (k.complete pc b).wait = none ∧ (k.complete pc b).stage = 0 := by
  unfold Ctx.complete
  cases hr : k.hints.rep <;> dsimp only <;> rw [hr] <;> dsimp only <;> (repeat' split) <;> exact ⟨rfl, rfl⟩

theorem Ctx.complete_pc (k : Ctx) (pc : Word) (b : Bool) :
    (k.complete pc b).pc = if !isHintWord (k.buf.headD 0) && (match k.hints.rep with | some r => decide (k.repDone + 1 < r.count) | none => false) then k.pc else pc := by
  unfold Ctx.complete
  cases hr : k.hints.rep <;> dsimp only <;> rw [hr] <;> dsimp only
  · cases isHintWord (k.buf.headD 0) <;> simp
  · cases isHintWord (k.buf.headD 0) <;> simp; split <;> rfl

/-- Completing a word: the one lemma about `retireTo`. -/
theorem completesAt_retireTo (pc : Word) (r : State) : CompletesAt pc r (.next (r.retireTo pc)) := by
  unfold State.retireTo
  dsimp only
  generalize hu : (if (r.ctx.lastRep && !r.ctx.begun) = true then r.forward r.ctx.pc (r.ctx.buf.headD 0) else r) = u
  have hu' : u = { r with ctxs := u.ctxs } ∧ ∀ c, (u.ctxOf c).unhopped = (r.ctxOf c).unhopped := by
    subst hu; clear * -
    generalize (r.ctx.lastRep && !r.ctx.begun) = b
    cases b
    · exact ⟨rfl, fun _ => rfl⟩
    · exact State.forward_frame _ _ _
  obtain ⟨h1, h2⟩ := hu'
  have hc : u.cur = r.cur := by rw [h1]
  have hk : u.ctx.unhopped = r.ctx.unhopped := by simpa only [State.ctx, hc] using h2 r.cur
  have hp : u.ctx.pc = r.ctx.pc ∧ u.ctx.buf = r.ctx.buf ∧ u.ctx.hints = r.ctx.hints ∧ u.ctx.repDone = r.ctx.repDone := Ctx.unhopped_progress hk
  refine ⟨_, rfl, ?_, ?_, ?_, ?_, ?_, ?_⟩
  · exact State.onlyCtxs_trans h1 (State.onlyCtxs_upd u _)
  · rw [State.ctx_upd, Ctx.complete_held, Ctx.held_of_unhopped hk]
  · intro c hcc
    rw [State.ctxOf_upd_other u _ (by rwa [hc]), h2 c]
  · rw [State.ctx_upd]; exact (Ctx.complete_wait _ _ _).1
  · rw [State.ctx_upd]; exact (Ctx.complete_wait _ _ _).2
  · rw [State.ctx_upd, Ctx.complete_pc, hp.1, hp.2.1, hp.2.2.1, hp.2.2.2]; rfl

/-- A context is another one that agrees with it but for the words that its leader has sent it. -/
theorem Ctx.eq_of_unhopped {k k' : Ctx} (h : k.unhopped = k'.unhopped) : k = { k' with hop := k.hop } := by
  unfold Ctx.unhopped at h
  cases k; cases k'
  simp_all

/-- The issuing context after completing a word: `Ctx.complete` of it, with the words that a leader may have sent it. -/
theorem State.retireTo_ctx (pc : Word) (r : State) : ∃ hop, (r.retireTo pc).ctx = ({ r.ctx with hop := hop } : Ctx).complete pc r.counts := by
  unfold State.retireTo
  dsimp only
  generalize hu : (if (r.ctx.lastRep && !r.ctx.begun) = true then r.forward r.ctx.pc (r.ctx.buf.headD 0) else r) = u
  have hu' : u = { r with ctxs := u.ctxs } ∧ ∀ c, (u.ctxOf c).unhopped = (r.ctxOf c).unhopped := by
    subst hu; clear * -
    generalize (r.ctx.lastRep && !r.ctx.begun) = b
    cases b
    · exact ⟨rfl, fun _ => rfl⟩
    · exact State.forward_frame _ _ _
  have hc : u.cur = r.cur := by rw [hu'.1]
  have hk : u.ctx.unhopped = r.ctx.unhopped := by simpa only [State.ctx, hc] using hu'.2 r.cur
  exact ⟨u.ctx.hop, by rw [State.ctx_upd, Ctx.eq_of_unhopped hk]⟩

/-- A word at the head of the buffer that is a hint leaves the hints, the repetition and the group; the next word follows it (R82). -/
theorem State.retire_hint {r : State} (h : isHintWord (r.ctx.buf.headD 0) = true) :
    let k := r.retire.ctx
    k.hints = r.ctx.hints ∧ k.repDone = r.ctx.repDone ∧ k.repcnt = r.ctx.repcnt ∧ k.grp = r.ctx.grp ∧ k.buf = r.ctx.buf.drop 1 ∧ k.pc = r.ctx.pc + 4 := by
  obtain ⟨hop, hk⟩ := State.retireTo_ctx (r.ctx.pc + 4) r
  unfold State.retire
  rw [hk]
  unfold Ctx.complete
  dsimp only
  split <;> rw [if_pos h] <;> exact ⟨rfl, rfl, rfl, rfl, rfl, rfl⟩
theorem completes_done (r : State) : Completes r (done r) := completesAt_retireTo _ r

theorem waits_block (w : Wait) (r : State) : Waits w.cond r (.next (r.block w)) :=
  ⟨_, rfl, rfl, fun _ hx => State.ctxOf_upd_other r _ hx, w, rfl, State.ctx_upd r _⟩

/-! ## Issuing -/

theorem issue_of_issues {i : Instr} {s : State} (h : Issues i s) (body : State → Out) : issue i s body = body s := by
  obtain ⟨h1, h2, h3⟩ := h
  simp [issue, h1, h2, h3]

theorem issueScalar_of_issues {i : Instr} {g : Guard} {s : State} (h : Issues i s) (hg : s.selected g = true) (body : State → Out) :
    issueScalar i g s body = body s := by
  simp [issueScalar, issue_of_issues h, hg]

/-- An instruction whose guard does not select it completes without an effect (R75). -/
theorem issueScalar_unselected {i : Instr} {g : Guard} {s : State} (h : Issues i s) (hg : s.selected g = false) (body : State → Out) :
    issueScalar i g s body = done s := by
  simp [issueScalar, issue_of_issues h, hg]

theorem issue_of_fault {i : Instr} {s : State} {c : Nat} (h : issueFault i s = some c) (body : State → Out) : issue i s body = raise0 c s := by
  simp [issue, h]

end Sys2Proof.Machine
end

