-- ==== Sys2Proof/Laws/Issuing.lean ====
section
/-! SUPPORT. Every instruction word issues through `issue`, with its own effect behind the checks of R69, and every hint through `hintCtx`. -/

namespace Sys2Proof.Machine

/-- The outcome is that of issuing an instruction with some effect. -/
def IssuesAs (i : Instr) (s : State) (o : Out) : Prop := ∃ body : State → Out, o = issue i s body

theorem issuesAs_issue (i : Instr) (s : State) (body : State → Out) : IssuesAs i s (issue i s body) := ⟨_, rfl⟩

theorem issuesAs_issueScalar (i : Instr) (g : Guard) (s : State) (body : State → Out) : IssuesAs i s (issueScalar i g s body) := ⟨_, rfl⟩


/-- Every instruction word but a hint issues. -/
theorem exec_issuesAs (i : Instr) (s : State) (h : groupOf i ≠ .event) (hh : groupOf i ≠ .hint) : IssuesAs i s (exec i s) := by
  cases i
  case add => rw [exec_add]; delta execAdd; delta aluOp; exact issuesAs_issueScalar _ _ _ _
  case sub => rw [exec_sub]; delta execSub; delta aluOp; exact issuesAs_issueScalar _ _ _ _
  case and => rw [exec_and]; delta execAnd; delta aluOp; exact issuesAs_issueScalar _ _ _ _
  case or => rw [exec_or]; delta execOr; delta aluOp; exact issuesAs_issueScalar _ _ _ _
  case xor => rw [exec_xor]; delta execXor; delta aluOp; exact issuesAs_issueScalar _ _ _ _
  case andn => rw [exec_andn]; delta execAndn; delta aluOp; exact issuesAs_issueScalar _ _ _ _
  case shl => rw [exec_shl]; delta execShl; delta aluOp; exact issuesAs_issueScalar _ _ _ _
  case shr => rw [exec_shr]; delta execShr; delta aluOp; exact issuesAs_issueScalar _ _ _ _
  case sar => rw [exec_sar]; delta execSar; delta aluOp; exact issuesAs_issueScalar _ _ _ _
  case min => rw [exec_min]; delta execMin; delta aluOp; exact issuesAs_issueScalar _ _ _ _
  case max => rw [exec_max]; delta execMax; delta aluOp; exact issuesAs_issueScalar _ _ _ _
  case minn => rw [exec_minn]; delta execMinn; delta aluOp; exact issuesAs_issueScalar _ _ _ _
  case maxn => rw [exec_maxn]; delta execMaxn; delta aluOp; exact issuesAs_issueScalar _ _ _ _
  case addw => rw [exec_addw]; delta execAddw; delta aluOp; exact issuesAs_issueScalar _ _ _ _
  case subw => rw [exec_subw]; delta execSubw; delta aluOp; exact issuesAs_issueScalar _ _ _ _
  case clz => rw [exec_clz]; delta execClz; delta aluOp; exact issuesAs_issueScalar _ _ _ _
  case ctz => rw [exec_ctz]; delta execCtz; delta aluOp; exact issuesAs_issueScalar _ _ _ _
  case popc => rw [exec_popc]; delta execPopc; delta aluOp; exact issuesAs_issueScalar _ _ _ _
  case sext8 => rw [exec_sext8]; delta execSext8; delta aluOp; exact issuesAs_issueScalar _ _ _ _
  case sext16 => rw [exec_sext16]; delta execSext16; delta aluOp; exact issuesAs_issueScalar _ _ _ _
  case sext32 => rw [exec_sext32]; delta execSext32; delta aluOp; exact issuesAs_issueScalar _ _ _ _
  case zext32 => rw [exec_zext32]; delta execZext32; delta aluOp; exact issuesAs_issueScalar _ _ _ _
  case mul => rw [exec_mul]; delta execMul; delta aluOp; exact issuesAs_issueScalar _ _ _ _
  case mulh => rw [exec_mulh]; delta execMulh; delta aluOp; exact issuesAs_issueScalar _ _ _ _
  case mulhn => rw [exec_mulhn]; delta execMulhn; delta aluOp; exact issuesAs_issueScalar _ _ _ _
  case mulw => rw [exec_mulw]; delta execMulw; delta aluOp; exact issuesAs_issueScalar _ _ _ _
  case div => rw [exec_div]; delta execDiv; delta aluOp; exact issuesAs_issueScalar _ _ _ _
  case divn => rw [exec_divn]; delta execDivn; delta aluOp; exact issuesAs_issueScalar _ _ _ _
  case rem => rw [exec_rem]; delta execRem; delta aluOp; exact issuesAs_issueScalar _ _ _ _
  case remn => rw [exec_remn]; delta execRemn; delta aluOp; exact issuesAs_issueScalar _ _ _ _
  case addi => rw [exec_addi]; delta execAddi; delta aluOp; exact issuesAs_issueScalar _ _ _ _
  case andi => rw [exec_andi]; delta execAndi; delta aluOp; exact issuesAs_issueScalar _ _ _ _
  case ori => rw [exec_ori]; delta execOri; delta aluOp; exact issuesAs_issueScalar _ _ _ _
  case xori => rw [exec_xori]; delta execXori; delta aluOp; exact issuesAs_issueScalar _ _ _ _
  case shli => rw [exec_shli]; delta execShli; delta aluOp; exact issuesAs_issueScalar _ _ _ _
  case shri => rw [exec_shri]; delta execShri; delta aluOp; exact issuesAs_issueScalar _ _ _ _
  case sari => rw [exec_sari]; delta execSari; delta aluOp; exact issuesAs_issueScalar _ _ _ _
  case cmpiEq => rw [exec_cmpiEq]; delta execCmpiEq; exact issuesAs_issueScalar _ _ _ _
  case cmpiNe => rw [exec_cmpiNe]; delta execCmpiNe; exact issuesAs_issueScalar _ _ _ _
  case cmpiLt => rw [exec_cmpiLt]; delta execCmpiLt; exact issuesAs_issueScalar _ _ _ _
  case cmpiLtn => rw [exec_cmpiLtn]; delta execCmpiLtn; exact issuesAs_issueScalar _ _ _ _
  case cmpiGe => rw [exec_cmpiGe]; delta execCmpiGe; exact issuesAs_issueScalar _ _ _ _
  case cmpiGen => rw [exec_cmpiGen]; delta execCmpiGen; exact issuesAs_issueScalar _ _ _ _
  case cmpEq => rw [exec_cmpEq]; delta execCmpEq; exact issuesAs_issueScalar _ _ _ _
  case cmpNe => rw [exec_cmpNe]; delta execCmpNe; exact issuesAs_issueScalar _ _ _ _
  case cmpLt => rw [exec_cmpLt]; delta execCmpLt; exact issuesAs_issueScalar _ _ _ _
  case cmpLtn => rw [exec_cmpLtn]; delta execCmpLtn; exact issuesAs_issueScalar _ _ _ _
  case cmpGe => rw [exec_cmpGe]; delta execCmpGe; exact issuesAs_issueScalar _ _ _ _
  case cmpGen => rw [exec_cmpGen]; delta execCmpGen; exact issuesAs_issueScalar _ _ _ _
  case lea => rw [exec_lea]; delta execLea; delta aluOp; exact issuesAs_issueScalar _ _ _ _
  case pand => rw [exec_pand]; delta execPand; delta predOp; exact issuesAs_issueScalar _ _ _ _
  case por => rw [exec_por]; delta execPor; delta predOp; exact issuesAs_issueScalar _ _ _ _
  case pxor => rw [exec_pxor]; delta execPxor; delta predOp; exact issuesAs_issueScalar _ _ _ _
  case pandn => rw [exec_pandn]; delta execPandn; delta predOp; exact issuesAs_issueScalar _ _ _ _
  case pnot => rw [exec_pnot]; delta execPnot; delta predOp; exact issuesAs_issueScalar _ _ _ _
  case pset => rw [exec_pset]; delta execPset; delta predOp; exact issuesAs_issueScalar _ _ _ _
  case pclr => rw [exec_pclr]; delta execPclr; delta predOp; exact issuesAs_issueScalar _ _ _ _
  case pmovs => rw [exec_pmovs]; delta execPmovs; delta predOp; exact issuesAs_issueScalar _ _ _ _
  case pany => rw [exec_pany]; delta execPany; delta aluOp; exact issuesAs_issueScalar _ _ _ _
  case pall => rw [exec_pall]; delta execPall; delta aluOp; exact issuesAs_issueScalar _ _ _ _
  case pcnt => rw [exec_pcnt]; delta execPcnt; delta aluOp; exact issuesAs_issueScalar _ _ _ _
  case pfirst => rw [exec_pfirst]; delta execPfirst; delta aluOp; exact issuesAs_issueScalar _ _ _ _
  case sel => rw [exec_sel]; delta execSel; delta aluOp; exact issuesAs_issueScalar _ _ _ _
  case jump => rw [exec_jump]; delta execJump; exact issuesAs_issueScalar _ _ _ _
  case jumpLink => rw [exec_jumpLink]; delta execJumpLink; exact issuesAs_issueScalar _ _ _ _
  case jumpReg => rw [exec_jumpReg]; delta execJumpReg; exact issuesAs_issueScalar _ _ _ _
  case jumpLinkReg => rw [exec_jumpLinkReg]; delta execJumpLinkReg; exact issuesAs_issueScalar _ _ _ _
  case nop => rw [exec_nop]; delta execNop; exact issuesAs_issueScalar _ _ _ _
  case endTask => rw [exec_endTask]; delta execEndTask; exact issuesAs_issueScalar _ _ _ _
  case commit => rw [exec_commit]; delta execCommit; exact issuesAs_issueScalar _ _ _ _
  case yield => rw [exec_yield]; delta execYield; exact issuesAs_issueScalar _ _ _ _
  case park => rw [exec_park]; delta execPark; exact issuesAs_issueScalar _ _ _ _
  case trap => rw [exec_trap]; delta execTrap; exact issuesAs_issueScalar _ _ _ _
  case eret => rw [exec_eret]; delta execEret; exact issuesAs_issueScalar _ _ _ _
  case brk => rw [exec_brk]; delta execBrk; exact issuesAs_issueScalar _ _ _ _
  case hret => rw [exec_hret]; delta execHret; exact issuesAs_issueScalar _ _ _ _
  case astart => rw [exec_astart]; delta execAstart; exact issuesAs_issueScalar _ _ _ _
  case await => rw [exec_await]; delta execAwait; exact issuesAs_issueScalar _ _ _ _
  case iflush => rw [exec_iflush]; delta execIflush; exact issuesAs_issueScalar _ _ _ _
  case crd => rw [exec_crd]; delta execCrd; exact issuesAs_issue _ _ _
  case cwr => rw [exec_cwr]; delta execCwr; exact issuesAs_issue _ _ _
  case ld => rw [exec_ld]; delta execLd; exact issuesAs_issueScalar _ _ _ _
  case st => rw [exec_st]; delta execSt; exact issuesAs_issueScalar _ _ _ _
  case ldv => rw [exec_ldv]; delta execLdv; exact issuesAs_issue _ _ _
  case stv => rw [exec_stv]; delta execStv; exact issuesAs_issue _ _ _
  case amoadd => rw [exec_amoadd]; delta execAmoadd; delta amoOp; exact issuesAs_issueScalar _ _ _ _
  case amoand => rw [exec_amoand]; delta execAmoand; delta amoOp; exact issuesAs_issueScalar _ _ _ _
  case amoor => rw [exec_amoor]; delta execAmoor; delta amoOp; exact issuesAs_issueScalar _ _ _ _
  case amoxor => rw [exec_amoxor]; delta execAmoxor; delta amoOp; exact issuesAs_issueScalar _ _ _ _
  case amomin => rw [exec_amomin]; delta execAmomin; delta amoOp; exact issuesAs_issueScalar _ _ _ _
  case amomax => rw [exec_amomax]; delta execAmomax; delta amoOp; exact issuesAs_issueScalar _ _ _ _
  case amominn => rw [exec_amominn]; delta execAmominn; delta amoOp; exact issuesAs_issueScalar _ _ _ _
  case amomaxn => rw [exec_amomaxn]; delta execAmomaxn; delta amoOp; exact issuesAs_issueScalar _ _ _ _
  case amoswap => rw [exec_amoswap]; delta execAmoswap; delta amoOp; exact issuesAs_issueScalar _ _ _ _
  case amocas => rw [exec_amocas]; delta execAmocas; delta amoOp; exact issuesAs_issueScalar _ _ _ _
  case amofadd => rw [exec_amofadd]; delta execAmofadd; delta amoOp; exact issuesAs_issueScalar _ _ _ _
  case amostag => rw [exec_amostag]; delta execAmostag; delta amoOp; exact issuesAs_issueScalar _ _ _ _
  case fence => rw [exec_fence]; delta execFence; exact issuesAs_issueScalar _ _ _ _
  case waitack => rw [exec_waitack]; delta execWaitack; exact issuesAs_issueScalar _ _ _ _
  case pfetch => rw [exec_pfetch]; delta execPfetch; exact issuesAs_issueScalar _ _ _ _
  case cclean => rw [exec_cclean]; delta execCclean; delta cleanOp; exact issuesAs_issueScalar _ _ _ _
  case cinval => rw [exec_cinval]; delta execCinval; exact issuesAs_issueScalar _ _ _ _
  case cflush => rw [exec_cflush]; delta execCflush; delta cleanOp; exact issuesAs_issueScalar _ _ _ _
  case acqinv => rw [exec_acqinv]; delta execAcqinv; exact issuesAs_issueScalar _ _ _ _
  case vadd => rw [exec_vadd]; delta execVadd; delta vecOp; delta vecOpIf; exact issuesAs_issue _ _ _
  case vsub => rw [exec_vsub]; delta execVsub; delta vecOp; delta vecOpIf; exact issuesAs_issue _ _ _
  case vmul => rw [exec_vmul]; delta execVmul; delta vecOp; delta vecOpIf; exact issuesAs_issue _ _ _
  case vmin => rw [exec_vmin]; delta execVmin; delta vecOp; delta vecOpIf; exact issuesAs_issue _ _ _
  case vmax => rw [exec_vmax]; delta execVmax; delta vecOp; delta vecOpIf; exact issuesAs_issue _ _ _
  case vabs => rw [exec_vabs]; delta execVabs; delta vecOp; delta vecOpIf; exact issuesAs_issue _ _ _
  case vneg => rw [exec_vneg]; delta execVneg; delta vecOp; delta vecOpIf; exact issuesAs_issue _ _ _
  case vand => rw [exec_vand]; delta execVand; delta vecOp; delta vecOpIf; exact issuesAs_issue _ _ _
  case vor => rw [exec_vor]; delta execVor; delta vecOp; delta vecOpIf; exact issuesAs_issue _ _ _
  case vxor => rw [exec_vxor]; delta execVxor; delta vecOp; delta vecOpIf; exact issuesAs_issue _ _ _
  case vshl => rw [exec_vshl]; delta execVshl; delta vecOp; delta vecOpIf; exact issuesAs_issue _ _ _
  case vshr => rw [exec_vshr]; delta execVshr; delta vecOp; delta vecOpIf; exact issuesAs_issue _ _ _
  case vsar => rw [exec_vsar]; delta execVsar; delta vecOp; delta vecOpIf; exact issuesAs_issue _ _ _
  case vfma => rw [exec_vfma]; delta execVfma; delta vecOp; delta vecOpIf; exact issuesAs_issue _ _ _
  case vfms => rw [exec_vfms]; delta execVfms; delta vecOp; delta vecOpIf; exact issuesAs_issue _ _ _
  case vadds => rw [exec_vadds]; delta execVadds; delta vecOp; delta vecOpIf; exact issuesAs_issue _ _ _
  case vsubs => rw [exec_vsubs]; delta execVsubs; delta vecOp; delta vecOpIf; exact issuesAs_issue _ _ _
  case vmuls => rw [exec_vmuls]; delta execVmuls; delta vecOp; delta vecOpIf; exact issuesAs_issue _ _ _
  case vmins => rw [exec_vmins]; delta execVmins; delta vecOp; delta vecOpIf; exact issuesAs_issue _ _ _
  case vmaxs => rw [exec_vmaxs]; delta execVmaxs; delta vecOp; delta vecOpIf; exact issuesAs_issue _ _ _
  case vfmas => rw [exec_vfmas]; delta execVfmas; delta vecOp; delta vecOpIf; exact issuesAs_issue _ _ _
  case vexp2 => rw [exec_vexp2]; delta execVexp2; delta vecOp; delta vecOpIf; exact issuesAs_issue _ _ _
  case vlog2 => rw [exec_vlog2]; delta execVlog2; delta vecOp; delta vecOpIf; exact issuesAs_issue _ _ _
  case vrcp => rw [exec_vrcp]; delta execVrcp; delta vecOp; delta vecOpIf; exact issuesAs_issue _ _ _
  case vrsq => rw [exec_vrsq]; delta execVrsq; delta vecOp; delta vecOpIf; exact issuesAs_issue _ _ _
  case vsqrt => rw [exec_vsqrt]; delta execVsqrt; delta vecOp; delta vecOpIf; exact issuesAs_issue _ _ _
  case vtanh => rw [exec_vtanh]; delta execVtanh; delta vecOp; delta vecOpIf; exact issuesAs_issue _ _ _
  case vrsum => rw [exec_vrsum]; delta execVrsum; delta redOp; exact issuesAs_issue _ _ _
  case vrmax => rw [exec_vrmax]; delta execVrmax; delta redOp; exact issuesAs_issue _ _ _
  case vrmin => rw [exec_vrmin]; delta execVrmin; delta redOp; exact issuesAs_issue _ _ _
  case vcsum => rw [exec_vcsum]; delta execVcsum; delta redOp; exact issuesAs_issue _ _ _
  case vcmax => rw [exec_vcmax]; delta execVcmax; delta redOp; exact issuesAs_issue _ _ _
  case vramax => rw [exec_vramax]; delta execVramax; delta redOp; exact issuesAs_issue _ _ _
  case vcmpEq => rw [exec_vcmpEq]; delta execVcmpEq; delta vcmpOp; exact issuesAs_issue _ _ _
  case vcmpNe => rw [exec_vcmpNe]; delta execVcmpNe; delta vcmpOp; exact issuesAs_issue _ _ _
  case vcmpLt => rw [exec_vcmpLt]; delta execVcmpLt; delta vcmpOp; exact issuesAs_issue _ _ _
  case vcmpLe => rw [exec_vcmpLe]; delta execVcmpLe; delta vcmpOp; exact issuesAs_issue _ _ _
  case vcmpGt => rw [exec_vcmpGt]; delta execVcmpGt; delta vcmpOp; exact issuesAs_issue _ _ _
  case vcmpGe => rw [exec_vcmpGe]; delta execVcmpGe; delta vcmpOp; exact issuesAs_issue _ _ _
  case vcmpUn => rw [exec_vcmpUn]; delta execVcmpUn; delta vcmpOp; exact issuesAs_issue _ _ _
  case vcvt => rw [exec_vcvt]; delta execVcvt; exact issuesAs_issue _ _ _
  case vmov => rw [exec_vmov]; delta execVmov; delta vecOp; delta vecOpIf; exact issuesAs_issue _ _ _
  case vsplat => rw [exec_vsplat]; delta execVsplat; delta vecOp; delta vecOpIf; exact issuesAs_issue _ _ _
  case vext => rw [exec_vext]; delta execVext; exact issuesAs_issueScalar _ _ _ _
  case vins => rw [exec_vins]; delta execVins; exact issuesAs_issue _ _ _
  case vbrow => rw [exec_vbrow]; delta execVbrow; delta vecOpIf; exact issuesAs_issue _ _ _
  case vbcol => rw [exec_vbcol]; delta execVbcol; delta vecOpIf; exact issuesAs_issue _ _ _
  case vshape => rw [exec_vshape]; delta execVshape; exact issuesAs_issueScalar _ _ _ _
  case vzero => rw [exec_vzero]; delta execVzero; delta vecOp; delta vecOpIf; exact issuesAs_issue _ _ _
  case viota => rw [exec_viota]; delta execViota; delta vecOp; delta vecOpIf; exact issuesAs_issue _ _ _
  case vshuf => rw [exec_vshuf]; delta execVshuf; delta vecOp; delta vecOpIf; exact issuesAs_issue _ _ _
  case vscale => rw [exec_vscale]; delta execVscale; delta vecOpIf; exact issuesAs_issue _ _ _
  case smerge => rw [exec_smerge]; delta execSmerge; delta smergeOp; exact issuesAs_issueScalar _ _ _ _
  case smergez => rw [exec_smergez]; delta execSmergez; delta smergeOp; exact issuesAs_issueScalar _ _ _ _
  case smcount => rw [exec_smcount]; delta execSmcount; exact issuesAs_issueScalar _ _ _ _
  case scan => rw [exec_scan]; delta execScan; delta scanOp; exact issuesAs_issue _ _ _
  case scanx => rw [exec_scanx]; delta execScanx; delta scanOp; exact issuesAs_issue _ _ _
  case vprune => rw [exec_vprune]; delta execVprune; delta pruneOp; exact issuesAs_issue _ _ _
  case vprunes => rw [exec_vprunes]; delta execVprunes; delta pruneOp; exact issuesAs_issue _ _ _
  case vrng => rw [exec_vrng]; delta execVrng; exact issuesAs_issue _ _ _
  case vcompact => rw [exec_vcompact]; delta execVcompact; exact issuesAs_issueScalar _ _ _ _
  case pmerge => rw [exec_pmerge]; delta execPmerge; exact issuesAs_issue _ _ _
  case qcfg => rw [exec_qcfg]; delta execQcfg; exact issuesAs_issueScalar _ _ _ _
  case qpub => rw [exec_qpub]; delta execQpub; exact issuesAs_issueScalar _ _ _ _
  case qadv => rw [exec_qadv]; delta execQadv; exact issuesAs_issueScalar _ _ _ _
  case qfill => rw [exec_qfill]; delta execQfill; exact issuesAs_issueScalar _ _ _ _
  case sstr => rw [exec_sstr]; delta execSstr; delta startStream; exact issuesAs_issueScalar _ _ _ _
  case istr => rw [exec_istr]; delta execIstr; delta startStream; exact issuesAs_issueScalar _ _ _ _
  case sclose => rw [exec_sclose]; delta execSclose; exact issuesAs_issueScalar _ _ _ _
  case sstat => rw [exec_sstat]; delta execSstat; exact issuesAs_issueScalar _ _ _ _
  case spsend => rw [exec_spsend]; delta execSpsend; delta sendItem; exact issuesAs_issueScalar _ _ _ _
  case spsendv => rw [exec_spsendv]; delta execSpsendv; delta sendItem; exact issuesAs_issueScalar _ _ _ _
  case spclose => rw [exec_spclose]; delta execSpclose; exact issuesAs_issueScalar _ _ _ _
  case sprecv => rw [exec_sprecv]; delta execSprecv; delta recvItem; exact issuesAs_issueScalar _ _ _ _
  case sprecvv => rw [exec_sprecvv]; delta execSprecvv; delta recvItem; exact issuesAs_issueScalar _ _ _ _
  case spstat => rw [exec_spstat]; delta execSpstat; exact issuesAs_issueScalar _ _ _ _
  case mwalk => rw [exec_mwalk]; delta execMwalk; delta walkIssue; exact issuesAs_issueScalar _ _ _ _
  case mwalkg => rw [exec_mwalkg]; delta execMwalkg; delta walkIssue; exact issuesAs_issueScalar _ _ _ _
  case mprog => rw [exec_mprog]; delta execMprog; exact issuesAs_issueScalar _ _ _ _
  case mcancel => rw [exec_mcancel]; delta execMcancel; exact issuesAs_issueScalar _ _ _ _
  case mnode => rw [exec_mnode]; delta execMnode; exact issuesAs_issueScalar _ _ _ _
  case gang => rw [exec_gang]; delta execGang; exact issuesAs_issueScalar _ _ _ _
  case jwait => rw [exec_jwait]; delta execJwait; exact issuesAs_issueScalar _ _ _ _
  case jpoll => rw [exec_jpoll]; delta execJpoll; exact issuesAs_issueScalar _ _ _ _
  case tcopy => rw [exec_tcopy]; delta execTcopy; delta trcOp; exact issuesAs_issueScalar _ _ _ _
  case tgather => rw [exec_tgather]; delta execTgather; delta trcOp; exact issuesAs_issueScalar _ _ _ _
  case tscatter => rw [exec_tscatter]; delta execTscatter; delta trcOp; exact issuesAs_issueScalar _ _ _ _
  case tscadd => rw [exec_tscadd]; delta execTscadd; delta trcOp; exact issuesAs_issueScalar _ _ _ _
  case tfill => rw [exec_tfill]; delta execTfill; delta trcOp; exact issuesAs_issueScalar _ _ _ _
  case sleepu => rw [exec_sleepu]; delta execSleepu; exact issuesAs_issueScalar _ _ _ _
  case phreg => rw [exec_phreg]; delta execPhreg; delta phaserOp; exact issuesAs_issueScalar _ _ _ _
  case phdrop => rw [exec_phdrop]; delta execPhdrop; delta phaserOp; exact issuesAs_issueScalar _ _ _ _
  case phsig => rw [exec_phsig]; delta execPhsig; delta phaserOp; exact issuesAs_issueScalar _ _ _ _
  case phwait => rw [exec_phwait]; delta execPhwait; delta phaserOp; exact issuesAs_issueScalar _ _ _ _
  case phnext => rw [exec_phnext]; delta execPhnext; delta phaserOp; exact issuesAs_issueScalar _ _ _ _
  case phread => rw [exec_phread]; delta execPhread; delta phaserOp; exact issuesAs_issueScalar _ _ _ _
  case phnew => rw [exec_phnew]; delta execPhnew; exact issuesAs_issueScalar _ _ _ _
  case phfree => rw [exec_phfree]; delta execPhfree; exact issuesAs_issueScalar _ _ _ _
  case tspawn => rw [exec_tspawn]; delta execTspawn; exact issuesAs_issueScalar _ _ _ _
  case tdep => rw [exec_tdep]; delta execTdep; exact issuesAs_issueScalar _ _ _ _
  case tctr => rw [exec_tctr]; delta execTctr; exact issuesAs_issueScalar _ _ _ _
  case tshape => rw [exec_tshape]; delta execTshape; exact issuesAs_issueScalar _ _ _ _
  case targ => rw [exec_targ]; delta execTarg; exact issuesAs_issueScalar _ _ _ _
  case tself => rw [exec_tself]; delta execTself; exact issuesAs_issueScalar _ _ _ _
  case tlate => rw [exec_tlate]; delta execTlate; exact issuesAs_issueScalar _ _ _ _
  case pgld => rw [exec_pgld]; delta execPgld; exact issuesAs_issueScalar _ _ _ _
  case pdrop => rw [exec_pdrop]; delta execPdrop; delta plateOp; exact issuesAs_issueScalar _ _ _ _
  case pstat => rw [exec_pstat]; delta execPstat; delta plateOp; exact issuesAs_issueScalar _ _ _ _
  case pnorec => rw [exec_pnorec]; delta execPnorec; delta plateOp; exact issuesAs_issueScalar _ _ _ _
  case lturn => rw [exec_lturn]; delta execLturn; exact issuesAs_issueScalar _ _ _ _
  case lstat => rw [exec_lstat]; delta execLstat; exact issuesAs_issueScalar _ _ _ _
  case lquiet => rw [exec_lquiet]; delta execLquiet; exact issuesAs_issueScalar _ _ _ _
  case gpush => rw [exec_gpush]; delta execGpush; delta committedOp; exact issuesAs_issueScalar _ _ _ _
  case rpop => rw [exec_rpop]; delta execRpop; delta committedOp; exact issuesAs_issueScalar _ _ _ _
  case lxbegin => rw [exec_lxbegin]; delta execLxbegin; delta committedOp; exact issuesAs_issueScalar _ _ _ _
  case lxack => rw [exec_lxack]; delta execLxack; exact issuesAs_issueScalar _ _ _ _
  case lxend => rw [exec_lxend]; delta execLxend; delta committedOp; exact issuesAs_issueScalar _ _ _ _
  case lxstat => rw [exec_lxstat]; delta execLxstat; exact issuesAs_issueScalar _ _ _ _
  case tlbinv => rw [exec_tlbinv]; delta execTlbinv; exact issuesAs_issueScalar _ _ _ _
  case freeze => rw [exec_freeze]; delta execFreeze; exact issuesAs_issueScalar _ _ _ _
  case thaw => rw [exec_thaw]; delta execThaw; exact issuesAs_issueScalar _ _ _ _
  case pgmove => rw [exec_pgmove]; delta execPgmove; exact issuesAs_issueScalar _ _ _ _
  case cspare => rw [exec_cspare]; delta execCspare; exact issuesAs_issueScalar _ _ _ _
  case world => rw [exec_world]; delta execWorld; exact issuesAs_issueScalar _ _ _ _
  case immxHint => exact absurd rfl hh
  case repHint => exact absurd rfl hh
  case ordHint => exact absurd rfl hh
  case locHint => exact absurd rfl hh
  case mcompHint => exact absurd rfl hh
  case qwHint => exact absurd rfl hh
  case rndHint => exact absurd rfl hh
  case illegalInstruction => exact absurd rfl h
  case jobQueueGrant => exact absurd rfl h
  case walkJobAccept => exact absurd rfl h
  case walkLoadDone => exact absurd rfl h
  case walkStep => exact absurd rfl h
  case walkStepEnd => exact absurd rfl h
  case walkSuspend => exact absurd rfl h
  case handlerStart => exact absurd rfl h
  case walkJobComplete => exact absurd rfl h
  case tracerGrant => exact absurd rfl h
  case tracerJobStart => exact absurd rfl h
  case tracerPart => exact absurd rfl h
  case tracerSig => exact absurd rfl h
  case tracerSuspend => exact absurd rfl h
  case appendReadyAdd => exact absurd rfl h
  case tracerJobComplete => exact absurd rfl h
  case streamStart => exact absurd rfl h
  case streamSlotPublish => exact absurd rfl h
  case streamSuspend => exact absurd rfl h
  case pmergeResult => exact absurd rfl h
  case homeWrite => exact absurd rfl h
  case homeAtomic => exact absurd rfl h
  case ackReceive => exact absurd rfl h
  case nackRetry => exact absurd rfl h
  case tlbMissWalk => exact absurd rfl h
  case tlbHcSpill => exact absurd rfl h
  case llcFill => exact absurd rfl h
  case pageEpochBoundary => exact absurd rfl h
  case wcfgWrite => exact absurd rfl h
  case windowEnChangeDone => exact absurd rfl h
  case atlasWrite => exact absurd rfl h
  case repctlWrite => exact absurd rfl h
  case stqcfgWrite => exact absurd rfl h
  case svitemWrite => exact absurd rfl h
  case plctlFlush => exact absurd rfl h
  case plctlKind => exact absurd rfl h
  case lxlostWrite => exact absurd rfl h
  case securityRegionWrite => exact absurd rfl h
  case surveyorRegWrite => exact absurd rfl h
  case itemIntake => exact absurd rfl h
  case dispatchCycle => exact absurd rfl h
  case printEntryIssue => exact absurd rfl h
  case inputCopyDone => exact absurd rfl h
  case inputCopyFault => exact absurd rfl h
  case taskEndComplete => exact absurd rfl h
  case governorTick => exact absurd rfl h
  case deadlockSweep => exact absurd rfl h
  case surveyorTrap => exact absurd rfl h
  case watchdogExpire => exact absurd rfl h
  case softErrorCorrected => exact absurd rfl h
  case softErrorUncorrected => exact absurd rfl h
  case latePacketRecord => exact absurd rfl h
  case packetForward => exact absurd rfl h
  case routeOpen => exact absurd rfl h
  case portItemArrive => exact absurd rfl h
  case routeCloseFlit => exact absurd rfl h
  case turnGroupStart => exact absurd rfl h
  case turnGroupRetrain => exact absurd rfl h
  case compassSpawn => exact absurd rfl h
  case compassSeal => exact absurd rfl h
  case compassPopq => exact absurd rfl h
  case compassIndexWrite => exact absurd rfl h
  case compassIntailWrite => exact absurd rfl h
  case lxCommit => exact absurd rfl h
  case sheetLost => exact absurd rfl h
  case cmdbaseWrite => exact absurd rfl h
  case cmdtailWrite => exact absurd rfl h
  case hostRegWrite => exact absurd rfl h
  case cmdWrite => exact absurd rfl h
  case cmdRead => exact absurd rfl h
  case cmdCreateLaunch => exact absurd rfl h
  case cmdSubmitItem => exact absurd rfl h
  case cmdWakeTask => exact absurd rfl h
  case cmdEndLaunch => exact absurd rfl h
  case cmdAttest => exact absurd rfl h
  case cmdInvalidOp => exact absurd rfl h
  case statusWrite => exact absurd rfl h
  case bootVerifyDone => exact absurd rfl h
  case moduleReset => exact absurd rfl h
  case thermalThrottle => exact absurd rfl h
  case thermalStop => exact absurd rfl h
  case sleepuWake => exact absurd rfl h
  case bar2WindowAccess => exact absurd rfl h
  case meridianLinkTraining => exact absurd rfl h
  case junctionTemperatureFall => exact absurd rfl h

/-- An instruction word that fails a check at issue raises that cause and does nothing else (R69). -/
theorem exec_of_issueFault (i : Instr) (s : State) (c : Nat) (h : groupOf i ≠ .event) (hc : issueFault i s = some c) : exec i s = raise0 c s := by
  by_cases hh : groupOf i = .hint
  · cases i
    case immxHint => rw [exec_immxHint]; delta execImmxHint hintOp hintCtx; rw [hc]
    case repHint => rw [exec_repHint]; delta execRepHint hintCtx; dsimp only; rw [hc]
    case ordHint => rw [exec_ordHint]; delta execOrdHint hintOp hintCtx; rw [hc]
    case locHint => rw [exec_locHint]; delta execLocHint hintOp hintCtx; rw [hc]
    case mcompHint => rw [exec_mcompHint]; delta execMcompHint hintOp hintCtx; rw [hc]
    case qwHint => rw [exec_qwHint]; delta execQwHint hintOp hintCtx; rw [hc]
    case rndHint => rw [exec_rndHint]; delta execRndHint hintOp hintCtx; rw [hc]
    all_goals exact absurd hh (by intro hx; cases hx)
  · obtain ⟨b, hb⟩ := exec_issuesAs i s h hh
    rw [hb, issue_of_fault hc]

/-- An instruction that passes the checks, leaves a repetition and waits on no window has the effect behind its issue; the effect is one for all states. -/
theorem exec_waitsOnWindow (i : Instr) (s : State) (w : Wait) (h : groupOf i ≠ .event) (hh : groupOf i ≠ .hint) (hf : issueFault i s = none) (hz : s.repZero = false)
    (hw : s.windowWaits (opndsOf i) = some w) : exec i s = .next (s.block w) := by
  obtain ⟨b, hb⟩ := exec_issuesAs i s h hh
  rw [hb]; simp [issue, hf, hz, hw]

end Sys2Proof.Machine
end

