-- ==== Sys2Proof/Laws/Launches.lean ====
section
/-! SUPPORT. What the end of a launch leaves as it was. -/

namespace Sys2Proof.Machine

/-- A map whose entries change by a function that keeps their keys and a part of their values keeps that part of every value. -/
theorem Map.get_map_entries {K V W : Type} [DecidableEq K] (f : K × V → K × V) (g : V → W) (hk : ∀ p, (f p).1 = p.1) (hv : ∀ p, g (f p).2 = g p.2) (d : V) (m : Map K V) (k : K) :
    g (Map.get d (m.map f) k) = g (Map.get d m k) := by
  induction m with
  | nil => rfl
  | cons p rest ih => by_cases e : p.1 = k <;> simp [Map.get, e, hk, hv, ih]

/-- The end of a launch writes no byte, and leaves the plates, format windows and page moves of every sheet: a plate of code that is not written again stays valid (R50). -/
theorem State.endLaunch_frame (l : Nat) (s : State) :
    (s.endLaunch l).mem = s.mem ∧ (s.endLaunch l).cores = s.cores ∧ (s.endLaunch l).ctxs = s.ctxs ∧
      ∀ h, ((s.endLaunch l).sheet h).plates = (s.sheet h).plates ∧ ((s.endLaunch l).sheet h).windows = (s.sheet h).windows ∧ ((s.endLaunch l).sheet h).moves = (s.sheet h).moves := by
  refine ⟨rfl, rfl, rfl, fun h => ⟨?_, ?_, ?_⟩⟩
  all_goals
    simp only [State.sheet, State.endLaunch, State.mapPort]
  · refine Map.get_map_entries _ Sheet.plates ?_ ?_ Sheet.init s.sheets h <;> intro _ <;> rfl
  · refine Map.get_map_entries _ Sheet.windows ?_ ?_ Sheet.init s.sheets h <;> intro _ <;> rfl
  · refine Map.get_map_entries _ Sheet.moves ?_ ?_ Sheet.init s.sheets h <;> intro _ <;> rfl

end Sys2Proof.Machine
end

