-- ==== Sys2Proof/Tests/Slice0.lean ====
section
/-! SUPPORT. Tests: ill-formed terms that WellFormed refuses, words written out from the spec's encodings, single steps, and for every statement states and operands
that meet its hypotheses together. -/

namespace Sys2Proof.Tests

-- one theorem after another, so that the file needs little memory
set_option Elab.async false

open Sys2Proof Sys2Proof.Machine Sys2Proof.Claims

/-! ## Small states -/

/-- A context that runs at 0x1000 with some scalar registers. -/
def running (xs : List (BitVec 5 × Word)) : Ctx :=
  xs.foldl (fun (k : Ctx) r => k.setReg r.1 r.2) { Ctx.init with run := .running, pc := 0x1000, grp := 0x1000 }

/-- The launch of the tests: it holds the whole module. -/
def launch0 : Launch :=
  { live := true, x := 0, y := 0, w := 8, h := 4, asid := 1, secure := true, legends := [], qcfgs := [], drained := [], port := 0 }

/-- A side of the task on thread 0, before or after commit, with some scalar registers. -/
def task (side : Side) (post : Bool) (xs : List (BitVec 5 × Word)) : State :=
  { State.reset with
    cur := .task 0 side, bootStage := 2, ctxs := [(.task 0 side, running xs)], launches := [(0, launch0)],
    threads := [(0, { Thread.init with st := if post then .post else .pre, post := post, n := 24, prio := 3, item := 1 })],
    sheets := [(0, { Sheet.init with items := [(1, { Item.none with st := .placed, members := [(0, 0, 1)] })] })] }

/-- A handler of the walk of thread 0, and a surveyor core. -/
def handler (xs : List (BitVec 5 × Word)) : State := { task .c true xs with cur := .handler 0 0, ctxs := [(.handler 0 0, running xs)] }
def surveyor (xs : List (BitVec 5 × Word)) : State := { task .c true xs with cur := .surveyor 0 0, ctxs := [(.surveyor 0 0, running xs)] }

/-! ## Encodings and steps -/

theorem witness_everyInstructionDecodes : hasWord (.add .always 1 2 3) ∧ hasWord (.world (.on true 31) 31 31 31) ∧ hasWord (.qwHint 0 0 0 0 0 0) := by
  unfold hasWord; decide +kernel

theorem witness_decodingReadsEveryBit : decode 0x10008310 = .ok (.addi .always 1 0 0x310) := by decide +kernel

theorem witness_reservedWords :
    (let w : BitVec 32 := 0x00100000; w.toNat / 2 ^ 26 ≠ 0x3F ∧ w.toNat / 2 ^ 25 % 2 = 0 ∧ w.toNat / 2 ^ 20 % 32 ≠ 0 ∧ decode w = .error .guardBits) ∧
    ((0xF8000000 : BitVec 32).toNat / 2 ^ 26 ∈ unassignedMajors) ∧ (((0x04000017 : BitVec 32).toNat / 2 ^ 26, 0x17) ∈ firstReservedFn) ∧
    ((0xF4000006 : BitVec 32).toNat / 2 ^ 26, 6) ∈ firstReservedFn := by decide +kernel

/-- A task whose next word is fetched already. -/
def withWords (ws : List (BitVec 32)) : State := { (task .c true []).upd (fun k => { k with buf := ws }) with agenda := [.ctx (.task 0 .c)] }

theorem witness_stepRuns_buffered :
    let s := withWords [0x10008310]
    let t := issuing s (.task 0 .c) []
    s.agenda = [.ctx (.task 0 .c)] ∧ s.ready (.task 0 .c) = true ∧ t.ctx.buf ≠ [] ∧ t.watchdog = false ∧ t.ctx.hints.rep = none ∧
      decode (t.ctx.buf.headD 0) = .ok (.addi .always 1 0 0x310) ∧ ∀ p ∈ t.threads, p.2.recd = none := by decide +kernel

/-- A core that holds a copy of the line at 0x1000, with ADDI in its first word. -/
def withLine : State := ({ task .c true [] with agenda := [.ctx (.task 0 .c)] } : State).mapCore 0 (fun k => { k with ilines := [((1, 16), 0x10008310)] })

theorem witness_stepRuns_fetched :
    let t := issuing withLine (.task 0 .c) []
    withLine.ready (.task 0 .c) = true ∧ t.ctx.buf = [] ∧ t.isFollower = false ∧ isHintWord 0x10008310 = false ∧
      (match (t.upd (fun k => k.begin k.pc [])).fetchWord t.ctx.pc.toNat with
       | .ok w u => decide (w = 0x10008310) && !(u.upd (fun k => k.begin t.ctx.pc [w])).watchdog
       | _ => false) = true := by decide +kernel

/-- A leaf of 64 KiB that maps an address to itself and admits every access of a non-secure master, and a task on whose cluster a TLB entry holds it. -/
def leafAt (pa kind : Nat) : Leaf := { pa := pa, kind := kind, imm := false, r := true, w := true, x := true, sec := false, size := 65536 }
def mapped (side : Side) (post : Bool) (xs : List (BitVec 5 × Word)) (pages : List (Nat × Leaf)) : State :=
  (task side post xs).mapCluster 0 (fun c => { c with tlb := pages.map (fun p => { asid := 1, va := p.1, leaf := p.2, hc := 1 }) })

theorem witness_fetch :
    (withLine.cur.isSurveyor = false ∧ (withLine.core withLine.coreId).ilines.get? (withLine.asidOf withLine.cur, 0x1000 / 256) = some 0x10008310) ∧
    (let s := mapped .c true [] [(0, leafAt 0x50000 0)]
     s.cur.isSurveyor = false ∧ (s.core s.coreId).ilines.get? (s.asidOf s.cur, 0x1FFC / 256) = none ∧
      (match s.translate s.clusterId (s.asidOf s.cur) 0x1FFC .fetch (s.coreSecure s.coreId) with
       | (.page _ pa, u) => !u.moving pa && !u.poisoned pa 4 && decide (pa % 256 = 0x1FFC % 256)
       | _ => false) = true) ∧
    (let s := task .c true []
     (s.core s.coreId).ilines.get? (s.asidOf s.cur, 0x1FFC / 256) = none ∧
      (match s.translate s.clusterId (s.asidOf s.cur) 0x1FFC .fetch (s.coreSecure s.coreId) with | (.cause c, _) => decide (c = 6) | _ => false) = true) := by decide +kernel

/-! ## Scalar instructions -/

/-- What a scalar statement asks of an instruction and a state. -/
def issues (i : Instr) (s : State) : Bool := decide (issueFault i s = none) && !s.repZero && decide (s.windowWaits (opndsOf i) = none) && s.selected (guardOf i)

theorem issues_iff (i : Instr) (s : State) : issues i s = true ↔ Issues i s ∧ s.selected (guardOf i) = true := by
  simp [issues, Issues, and_assoc]

theorem witness_scalarInstructions : (∃ v, scalarValue (.add .always 1 2 3) = some (.always, 1, v)) ∧ (∃ v, multiplyValue (.div .always 1 2 3) = some (.always, 1, v)) ∧
    (∃ v, immediateValue (.addi .always 0 2 0x3FF) = some (.always, 0, v)) ∧
    issues (.add .always 1 2 3) (task .a false []) = true ∧ issues (.div .always 1 2 3) (handler [(2, 5)]) = true ∧
    issues (.addi .always 0 2 0x3FF) ((task .c true []).upd (fun k => { k with hints := { Hints.none with immx := some 0x3FFFFF } })) = true :=
  ⟨⟨_, rfl⟩, ⟨_, rfl⟩, ⟨_, rfl⟩, by decide +kernel⟩

theorem witness_scalarPredicates : (∃ c, comparison (.cmpLtn (.on true 3) 15 2 3) = some (.on true 3, 15, c)) ∧ (∃ v, predicateValue (.pmovs .always 0 2) = some (.always, 0, v)) ∧
    (∃ v, predicateCount (.pfirst .always 1 2) = some (.always, 1, v)) ∧ issues (.cmpLtn (.on true 3) 15 2 3) (task .c true []) = true ∧
    issues (.pmovs .always 0 2) (task .a true []) = true ∧ issues (.pfirst .always 1 2) (handler []) = true :=
  ⟨⟨_, rfl⟩, ⟨_, rfl⟩, ⟨_, rfl⟩, by decide +kernel⟩

/-! ## Issue, faults and control -/

/-- A state whose group holds a REP hint, with some repetitions done. -/
def underRep (n done : Nat) (s : State) : State := s.upd (fun k => { k with hints := { k.hints with rep := some { count := n, dStep := 1, aStep := 0, bStep := 0 } }, repDone := done })

/-- The task with a queue 0 of depth 1 that the A side produces and the C side consumes. -/
def withQueue (q : Queue) (s : State) : State := s.mapThread 0 (fun t => { t with queues := q :: List.replicate 7 Queue.init, qcfg := 1, q := q.depth })
def queue1 : Queue := { Queue.init with depth := 1, prod := 0, cons := 1 }

theorem witness_checksAtIssue :
    (hasWord (.vext .always 0 25 1) ∧ (Instr.ldv .always 31 2 3 1 0).wellFormed = true) ∧
    (let i := Instr.eret .always; i.wellFormed = true ∧ privileged (.task 0 .c) i = true) ∧
    (let i := Instr.vadd .always 1 2 3; i.wellFormed = true ∧ privileged (.task 0 .a) i = false ∧ wrongSide (.task 0 .a) i = true) ∧
    (let i := Instr.vadd .always 1 2 3; let s := underRep 1 1 (task .c true []); privileged s.cur i = false ∧ wrongSide s.cur i = false ∧ groupOf i ≠ .hint ∧ s.repZero = true) ∧
    (let i := Instr.vadd .always 8 2 3; let s := (task .c true []).mapThread 0 (fun t => { t with n := 8 }); privileged s.cur i = false ∧ wrongSide s.cur i = false ∧ s.repZero = false ∧
      s.beyondAllotment i = true) ∧
    (let i := Instr.vadd .always 24 2 3; let s := task .c true []; privileged s.cur i = false ∧ wrongSide s.cur i = false ∧ s.repZero = false ∧ s.beyondAllotment i = false ∧
      s.misuse i = true) := by unfold hasWord; decide +kernel

theorem witness_sideTable :
    hasWord (.crd .always 1 0x200) ∧ groupOf (.crd .always 1 0x200) ≠ .hint ∧ (CtxId.task 3 .a).isSurveyor = false ∧ privileged (.task 3 .c) (.vadd .always 1 2 3) = false ∧
    privileged (.handler 1 1) (.hret .always) = false ∧ privileged (.task 3 .a) (.crd .always 1 1) = false := by unfold hasWord; decide +kernel

theorem witness_unselectedAndWaiting :
    (hasWord (.add (.on false 1) 1 2 3) ∧ guardsElements (.add (.on false 1) 1 2 3) = false ∧ Issues (.add (.on false 1) 1 2 3) (task .c true []) ∧
      (task .c true []).selected (guardOf (.add (.on false 1) 1 2 3)) = false ∧ numberStands (.add (.on false 1) 1 2 3) (task .c true [])) ∧
    (hasWord (.cwr (.on false 1) 1 0x010) ∧ guardsElements (.cwr (.on false 1) 1 0x010) = false ∧ Issues (.cwr (.on false 1) 1 0x010) (task .c true []) ∧
      (task .c true []).selected (.on false 1) = false ∧ (0x010 : BitVec 10).toNat ∈ [0x000, 0x004, 0x008, 0x010, 0x012]) ∧
    (hasWord (.crd (.on false 1) 1 0x3FF) ∧ guardsElements (.crd (.on false 1) 1 0x3FF) = false ∧ Issues (.crd (.on false 1) 1 0x3FF) (surveyor []) ∧
      (surveyor []).selected (.on false 1) = false ∧ (surveyor []).cur = .surveyor 0 0 ∧ 0x200 ≤ (0x3FF : BitVec 10).toNat ∧ (surveyor []).svRead 0 0 0x3FF = none) ∧
    (let i := Instr.vadd .always 1 24 3; let s := withQueue queue1 (task .c true [])
     hasWord i ∧ groupOf i ≠ .hint ∧ issueFault i s = none ∧ s.repZero = false ∧ (s.windowWaits (opndsOf i)).map Wait.cond = some (.filled 0 1)) := by
  unfold Issues hasWord; exact ⟨by unfold numberStands; decide +kernel, by decide +kernel⟩

theorem witness_wordsAndRepetitions :
    (let s := withWords [0xFC000000, 0x10008310]; s.followers s.threadId = [] ∧ isHintWord (s.ctx.buf.headD 0) = true) ∧
    (let s := underRep 2 0 (withWords [0x10008310]); isHintWord (s.ctx.buf.headD 0) = false ∧ s.repeats = true) ∧
    (let s := underRep 2 1 (withWords [0x10008310]); isHintWord (s.ctx.buf.headD 0) = false ∧ s.repeats = false ∧ s.ctx.hints.rep.isSome = true) ∧
    (∃ w, stepWord (.add .always 30 2 3) 0x040F0860 { count := 2, dStep := 1, aStep := -1, bStep := 0 } 1 0 = .ok w) := by
  refine ⟨by decide +kernel, by decide +kernel, by decide +kernel, _, rfl⟩

theorem witness_faults :
    (let s := task .c false []; s.cur = .task 0 .c ∧ (s.thread 0).post = false ∧ plainCause 0x01 = true ∧
      (let it := s.item (s.thread 0).itemSheet (s.thread 0).item; it.gang = false ∧ s.follows it = false ∧ it.st ≠ .final ∧ it.members = [(0, 0, 1)] ∧ (s.thread 0).rank = 0 ∧
        it.ended = [] ∧ it.holds = [] ∧ it.faults.get? 0 ≠ some (0x01, .c, s.ctx.grp))) ∧
    (let s := (task .c false []).mapItem 0 1 (fun i => { i with rerun := true, faults := [(0, 0x1B, .c, 0x1000)] })
     let it := s.item (s.thread 0).itemSheet (s.thread 0).item
     (s.thread 0).post = false ∧ plainCause 0x1B = true ∧ it.faults.get? (s.thread 0).rank = some (0x1B, .c, s.ctx.grp)) ∧
    (let s := underRep 200 7 (task .a true []); (s.thread 0).post = true ∧ (s.thread 0).follow = none ∧ plainCause 0x05 = true ∧ s.ringBlocked (sheetOfCore (coreOfThread 0)) = false ∧
      s.ctx.hints.rep.isSome = true ∧ s.cur = .task 0 .a) ∧
    (let s := underRep 0 0 (task .c true []); s.ringBlocked 0 = false ∧ s.ctx.hints.rep.any (fun r => r.count == 0) = true) := by decide +kernel

theorem witness_records :
    let e : EventRec := { cause := 255, flags := 255, source := 0xFFFFFFFF, obj := 0, epc := 0, cycle := 2 ^ 32 - 1, freeze := none }
    let s := task .c true []
    let low := s.mapSheet 0 (fun h => { h with evbase := 0x1000 })
    let off := s.mapSheet 0 (fun h => { h with evbase := 0xF00000000 })
    let full := s.mapSheet 0 (fun h => { h with evhead := 128 })
    s.mem.wf = true ∧ e.source.toNat < 2 ^ 32 ∧ low.region 0x1000 = .hbm ∧ off.backed 0xF00000000 = false ∧ s.ringBlocked 0 = false ∧ (∀ q ∈ s.sheets, q.2.plates = []) ∧
      (full.sheet 0).ringFull = true ∧ full.ringBlocked 0 = true := by decide +kernel

theorem witness_trapAndBrk :
    let s := (task .a true []).mapThread 0 (fun t => { t with utvec := 0x2003 })
    (let l := s.mapThread 8 (fun t => { t with follow := some 0, item := 1, st := .post }); Issues (.trap .always 31) l ∧ (l.followers 0).count 8 = 1 ∧ l.ctx.begun = false) ∧
    Issues (.trap .always 31) s ∧ Issues (.brk .always) s ∧ s.selected .always = true ∧ (s.thread 0).utvec ≠ 0 ∧ (s.thread 0).follow = none := by unfold Issues; decide +kernel

theorem witness_transfers :
    let s := task .c true [(1, 0x2000), (2, 0x2002)]
    let f := (task .c true [(2, 0x2002)]).mapThread 0 (fun t => { t with follow := some 8 })
    Issues (.jump .always 0xFFFFF) s ∧ Issues (.jumpLink .always 0x80000) s ∧ Issues (.jumpReg .always 1) s ∧ (s.reg 1).toNat % 4 = 0 ∧ Issues (.jumpLinkReg .always 1) s ∧
      Issues (.jumpReg .always 2) s ∧ (s.reg 2).toNat % 4 ≠ 0 ∧ s.isFollower = false ∧ Issues (.jumpLinkReg .always 2) f ∧ f.isFollower = true := by unfold Issues; decide +kernel

theorem witness_nopCommitYieldPark :
    let s := task .c true []
    let b := task .c false []
    Issues (.nop .always) s ∧ Issues (.commit .always) b ∧ (s.thread 0).post = true ∧ (b.thread 0).post = false ∧ Issues (.yield .always) s ∧ Issues (.park .always) s ∧
      (s.thread 0).wake = false ∧ ((s.mapThread 0 (fun t => { t with wake := true })).thread 0).wake = true ∧ Issues (.park .always) (s.mapThread 0 (fun t => { t with wake := true })) := by
  unfold Issues; decide +kernel

/-- A walk job with one row, which a handler of core 0 works on. -/
def walkJob0 (st : WalkState) (rows : List WalkRow) : WalkJob :=
  { gang := false, threads := [0], asid := 1, descs := [walkDescOf []], st := st, back := .loading, faultVa := 0, fmt := 1, rows := rows, cache := [], step := none, drain := [],
    sat := false, canc := false, susp := false, released := [], rounds := [0], retry := false, launch := 0, items := [{ Member.none with item := 1 }] }

theorem witness_endAndHret :
    let h : Handler := { cl := 0, job := 5, row := 0, slice := 0, th := 0, launch := 0, who := { Member.none with item := 1 }, own := [] }
    let s := ({ handler [] with handlers := [((0, 0), h)] } : State).mapCluster 0 (fun c => { c with walks := [(5, walkJob0 .draining [{ WalkRow.fresh with hstart := [0] }])] })
    Issues (.endTask .always) (task .a true []) ∧ Issues (.endTask .always) (task .c false []) ∧ Issues (.hret .always) s ∧ s.handlers.get? (0, 0) = some h ∧
      (s.walk? 0 5).any (fun j => (j.rows[0]?).any (fun r => decide ((∀ n < j.descs.length, n = h.slice ∨ n ∈ r.hdone) ∧ r.st = 0))) = true := by unfold Issues; decide +kernel

theorem witness_astartAndAwait :
    let s := task .c true []
    let e := s.mapItem 0 1 (fun i => { i with words := [0x3000, 0x2000] })
    Issues (.astart .always 3) e ∧ (e.thread 0).aStarted = false ∧ (e.itemOf e.cur).entryA ≠ 0 ∧ Issues (.astart .always 3) s ∧ (s.itemOf s.cur).entryA = 0 ∧ Issues (.await .always) s ∧
      s.aIdle 0 = true ∧ (let r := s.setCtx (.task 0 .a) (running []); Issues (.await .always) r ∧ r.aIdle 0 = false) := by unfold Issues; decide +kernel

theorem witness_iflushAndEret :
    Issues (.iflush .always) (task .c true []) ∧ (∀ e ∈ ((task .c true []).core 0).l1, e.dirty = 0) ∧ (task .c true []).net = [] ∧ (task .c true []).ctx.stage = 0 ∧
      Issues (.eret .always) (surveyor []) ∧ (surveyor []).cur = .surveyor 0 0 := by unfold Issues; decide +kernel

/-! ## Control registers, hints and memory -/

theorem witness_controlRegisters :
    (let s := task .a true []; s.selected .always = true ∧ Issues (.crd .always 1 0x00D) s ∧ s.cur.isSurveyor = false ∧ Issues (.crd .always 1 0x012) s ∧ Issues (.crd .always 1 4) s ∧
      Issues (.crd .always 1 8) s ∧ Issues (.crd .always 1 0x010) s) ∧
    (let s := handler []; Issues (.crd .always 1 4) s ∧ Issues (.crd .always 1 0x010) s) ∧
    (let s := task .c true [(1, 0x7F0), (2, 0x1F3F), (3, 3), (4, 4), (5, 16), (6, 5), (7, 6), (8, 0x3FFFFFFF)]
     Issues (.cwr .always 1 3) s ∧ Issues (.cwr .always 2 3) s ∧ Issues (.cwr .always 3 0x011) s ∧ (s.reg 3).toNat ≤ (s.thread 0).prio ∧ Issues (.cwr .always 4 0x011) s ∧
      (s.thread 0).prio < (s.reg 4).toNat ∧ Issues (.cwr .always 5 0x011) s ∧ Issues (.cwr .always 1 0) s ∧ Issues (.cwr .always 1 0x012) s ∧ stored 2 (s.reg 6) = some 5 ∧
      stored 2 (s.reg 7) = none ∧ stored 5 (s.reg 8) = some 0x3FFFFFFF ∧ Issues (.cwr .always 7 2) s) := by unfold Issues; decide +kernel

theorem witness_legalShape : legalShape 0x7F0 ∧ ¬legalShape 0x1F3F ∧ ¬legalShape 0x00C := by unfold legalShape; decide +kernel

theorem witness_hints :
    (∃ f, hintEffect (.immxHint 0x3FFFFF) = some f) ∧ (∃ f, hintEffect (.qwHint 3 7 0 0 1 7) = some f) ∧ issueFault (.immxHint 0) (withWords [0xFC000000, 0x10008310]) = none ∧ isHintWord ((withWords [0xFC000000, 0x10008310]).ctx.buf.headD 0) = true ∧
    isHintWord ((encode (.repHint 0 1 7 255)).getD 0) = true ∧
    issueFault (.repHint 0 1 7 255) ((withWords [0, 0x04010C41]).upd (fun k => { k with buf := [(encode (.repHint 0 1 7 255)).getD 0, (encode (.add .always 2 3 2)).getD 0] })) = none := by
  refine ⟨⟨_, rfl⟩, ⟨_, rfl⟩, by decide +kernel, by decide +kernel, by decide +kernel, by decide +kernel⟩

theorem witness_localLoadsAndStores :
    let s := task .c true [(1, 0x17FF8), (2, 0xE0000), (3, 0x18000), (4, 0x100000), (5, 0x1001)]
    let gone := s.mapCore 7 (fun k => { k with retired := true })
    let still := s.mapCore 7 (fun k => { k with frozen := true })
    s.cur.isSurveyor = false ∧ plainOrder s ∧ Issues (.ld .always 6 1 3 1 0) s ∧ localOk s (address s 1 3 0).toNat ∧ (address s 1 3 0).toNat % 8 = 0 ∧ Issues (.ld .always 6 2 0 1 0x3F) s ∧
      Issues (.ld .always 6 3 0 1 0) s ∧ Issues (.ld .always 6 4 0 1 0) s ∧ Issues (.ld .always 6 5 1 1 0) s ∧ (address s 5 1 0).toNat % 2 ≠ 0 ∧ Issues (.st .always 6 1 3 1 0) s ∧
      namedCore s (address s 1 3 0).toNat = s.coreId ∧ s.inputArea 0x17FF8 8 = false ∧ (s.core s.coreId).mem.wf = true ∧ Issues (.st .always 6 2 0 1 0) s ∧
      namedCore s (address s 2 0 0).toNat ≠ s.coreId ∧ unpoisoned (s.core 0) 0x17FF8 8 ∧
      Issues (.st .always 6 5 1 1 0) s ∧ localOk s 0x1001 ∧ namedCore s 0x1001 = s.coreId ∧ Issues (.ld .always 6 2 0 1 0) gone ∧ (gone.core (namedCore gone 0xE0000)).retired = true ∧
      Issues (.ld .always 6 2 0 1 0) still ∧ (still.core (namedCore still 0xE0000)).frozen = true ∧ (still.core (namedCore still 0xE0000)).retired = false ∧
      (let b := (task .c false [(1, 0x40)]).mapItem 0 1 (fun i => { i with words := [0, 0, 0, 0x2000000040, 0, 0, 0] })
       Issues (.st .always 6 1 3 1 0) b ∧ namedCore b 0x40 = b.coreId) := by
  unfold Issues plainOrder localOk unpoisoned; refine ⟨?_, Or.inl ?_, ?_⟩ <;> decide +kernel

/-- An L1d entry of line 0x10 whose sectors are valid, and a task that holds it. -/
def entry0 : L1Entry := { asid := 1, line := 16, kind := 0, imm := false, r := true, w := true, valid := 15, dirty := 0, data := 0x0102, retain := false, used := 1, after := [] }
def spec0 : SpecEntry := { asid := 1, line := 16, slot := 0, kind := 0, imm := false, r := true, w := true, mask := 1, so := 0, late := 0, sent := 0, pol := 0, data := 0xFF, used := 1 }
def cached (post : Bool) (xs : List (BitVec 5 × Word)) (es : List L1Entry) (ps : List SpecEntry) : State := (task .c post xs).mapCore 0 (fun k => { k with l1 := es, spec := ps })

theorem witness_globalLoadsThatHit :
    let s := cached true [(1, 0x1000), (2, 0x1001)] [entry0] []
    let n := cached true [(1, 0x1000)] [{ entry0 with r := false }] []
    Issues (.ld .always 6 1 3 0 0) s ∧ plainOrder s ∧ (address s 1 3 0).toNat % 8 = 0 ∧ (s.core s.coreId).entry? (s.asidOf s.cur) ((address s 1 3 0).toNat / 256) = some entry0 ∧
      (∀ k, k < 8 → holdsByte entry0 (s.ownSpec (s.asidOf s.cur) 16) (0 + k)) ∧ Issues (.ld .always 6 2 3 0 0) s ∧ (address s 2 3 0).toNat % 8 ≠ 0 ∧
      (n.core n.coreId).entry? (n.asidOf n.cur) 16 = some { entry0 with r := false } := by
  unfold Issues plainOrder holdsByte
  exact ⟨by decide +kernel, Or.inl (by decide +kernel), by decide +kernel, by decide +kernel, fun k hk => Or.inr (Or.inr (by revert k; decide +kernel)), by decide +kernel,
    by decide +kernel, by decide +kernel⟩

/-- What the statements about a miss ask of the page that the translation gives. -/
def missOk (s : State) (va : Nat) : Bool :=
  match s.translate s.clusterId (s.asidOf s.cur) va .load (s.coreSecure s.coreId) with
  | (.page l pa, u) => decide (l.kind ≠ 1) && !u.moving pa && decide (u.memPoison = [] ∧ u.net = [] ∧ (u.core s.coreId).ways (va / 256) < 10 ∧
      (u.cluster s.clusterId).rmap.get? (pa / 256 * 256) = none ∧ paSheet pa = s.sheetId ∧ pa % 256 = va % 256)
  | _ => false

theorem witness_globalLoadsThatMiss :
    (let s := mapped .c true [(1, 0x1238)] [(0, leafAt 0x50000 0)]
     Issues (.ld .always 6 1 3 0 0) s ∧ (address s 1 3 0).toNat % 8 = 0 ∧ (s.core s.coreId).entry? (s.asidOf s.cur) 0x12 = none ∧ s.ownSpec (s.asidOf s.cur) 0x12 = none ∧
      missOk s 0x1238 = true) ∧
    (let s := task .c true [(1, 0x1238)]
     Issues (.ld .always 6 1 3 0 0) s ∧ (match s.translate s.clusterId (s.asidOf s.cur) 0x1238 .load (s.coreSecure s.coreId) with | (.cause c, _) => decide (c = 6) | _ => false) = true) := by
  unfold Issues; decide +kernel

theorem witness_globalStores :
    (let s := cached true [(1, 0x10F8)] [entry0] []
     Issues (.st .always 6 1 3 0 0) s ∧ (address s 1 3 0).toNat % 8 = 0 ∧ s.isPost s.cur = true ∧ (s.core s.coreId).entry? (s.asidOf s.cur) 16 = some entry0 ∧ entry0.w = true ∧ entry0.kind ≠ 1) ∧
    (let s := cached false [(1, 0x10F8)] [] [spec0]
     Issues (.st .always 6 1 3 0 0) s ∧ (s.thread 0).post = false ∧ (s.core s.coreId).entry? (s.asidOf s.cur) 16 = none ∧ s.ownSpec (s.asidOf s.cur) 16 = some spec0 ∧ spec0.w = true) := by
  unfold Issues; decide +kernel

/-! ## Tiles, atomics, maintenance and homes -/

theorem witness_tiles :
    (let s := (task .c true [(1, 0x40), (2, 0x20), (3, 0x18000), (4, 0x1002)]).upd (fun k => { k with vshape := 0x700 })
     s.shape.cols * s.shape.esize ≤ 32 ∧ Issues (.ldv .always 5 1 2 1 0) s ∧ (∀ x ∈ executing s .always, localOk s (tileAddress s 1 2 false x.1 x.2).toNat ∧ (tileAddress s 1 2 false x.1 x.2).toNat % 4 = 0) ∧
      Issues (.stv .always 5 1 2 1) s ∧ s.ctx.keep = 0 ∧ (∀ x ∈ executing s .always, namedCore s (tileAddress s 1 2 false x.1 x.2).toNat = s.coreId ∧
        s.inputArea ((tileAddress s 1 2 false x.1 x.2).toNat % 2 ^ 17) 4 = false) ∧
      (executing s .always).head? = some (0, 0) ∧ 0x18000 ≤ (tileAddress s 3 2 false 0 0).toNat % 2 ^ 17 ∧ Issues (.ldv .always 5 3 2 1 0) s ∧ Issues (.ldv .always 5 4 2 0 1) s ∧
      (tileAddress s 4 2 true 0 0).toNat % 4 ≠ 0 ∧ Issues (.stv .always 5 4 2 0) s) := by unfold Issues localOk; decide +kernel

theorem witness_atomics :
    atomicForm (.amocas .always 6 1 2 1) = some (.always, 9, 32, 6, 1, 2) ∧
    (let s := (task .a true [(1, 0x1234)]).upd (fun k => { k with stage := 4, keep := 7 })
     Issues (.amocas .always 6 1 2 1) s ∧ s.selected .always = true ∧ s.commit.ctx.stage = 4) ∧
    (let s := task .c false [(1, 0x1236)]
     Issues (.amocas .always 6 1 2 1) s ∧ s.isPost s.cur = false ∧ s.commit.ctx.stage ≠ 4 ∧ (s.commit.reg 1).toNat % (32 / 8) ≠ 0) := by
  unfold Issues; decide +kernel

theorem witness_atomicRequest :
    let s := mapped .c true [(1, 0x1234)] [(0, leafAt 0x50000 0)]
    Issues (.amocas .always 6 1 2 1) s ∧ s.commit.ctx.stage = 0 ∧ (s.commit.reg 1).toNat % (32 / 8) = 0 ∧ s.commit.ctx.hints.ord = none ∧ s.commit.cur.isSurveyor = false ∧
      (match s.commit.translate s.clusterId (s.asidOf s.cur) 0x1234 .store (s.coreSecure s.coreId) with
        | (.page l _, u) => decide (l.kind ≠ 1 ∧ (u.core s.coreId).entry? (s.asidOf s.cur) 0x12 = none ∧ (u.cluster s.clusterId).rmap = []) | _ => false) = true := by
  unfold Issues; decide +kernel

/-- A request of the C side of thread 0 that stands at its home, on the line at 0x100. -/
def packet0 (r : Req) : Packet :=
  { origin := .side (.task 0 .c), pa := 0x100, va := 0x30, asid := 1, so := false, req := r, dreg := none, acq := 0, performed := false, answered := 0, nacked := none, held := false, tag := 0, result := 0, after := [] }
def inFlight (p : Packet) : State := { task .c true [] with net := [(3, p)] }

theorem witness_homes :
    (let p := packet0 (.write 0xF 0x04030201); (inFlight p).net.get? 3 = some p ∧ (inFlight p).atHome 3 p = true ∧ (inFlight p).moving p.pa = false ∧ (inFlight p).region p.pa = .hbm ∧ p.pa % 256 = 0 ∧
      (inFlight p).mem.wf = true ∧ (let m := (inFlight p).mapSheet 0 (fun h => { h with moves := [(0, 0x10000)] }); m.atHome 3 p = true ∧ m.moving p.pa = true)) ∧
    noRecording (inFlight (packet0 (.write 0 0))) ∧
    (let p := packet0 (.atomic 11 32 252 0 0); (inFlight p).atHome 3 p = true ∧ 252 + 32 / 8 ≤ 256 ∧ (inFlight p).memPoison = []) ∧
    (let p := packet0 (.atomic 9 64 248 5 0); (inFlight p).atHome 3 p = true ∧ 248 + 64 / 8 ≤ 256 ∧ (5 : Word).toNat < 2 ^ 64) ∧
    (let p := { packet0 (.atomic 16 32 4 0xFFFF 0) with origin := .tlb 0 }; (inFlight p).atHome 3 p = true ∧ (0xFFFF : Word).toNat < 2 ^ 32) := by unfold noRecording; decide +kernel

theorem witness_acknowledgements :
    (let p := { packet0 (.atomic 0 64 0 1 0) with performed := true, result := 9 }; (inFlight p).net.get? 3 = some p ∧ p.performed = true ∧ (inFlight p).behindReply 3 p = false) ∧
    (let p := { packet0 (.write 1 1) with nacked := some 0, origin := .side (.surveyor 0 1) }; (∀ q ∈ (inFlight p).net, q.1 < 3 → q.2.nacked = none ∨ q.2.origin ≠ p.origin) ∧ p.held = false ∧ p.pa % 256 = 0) ∧
    (let p := { packet0 (.write 1 1) with nacked := some 0, origin := .core 0 }
     let s := { mapped .c true [] [(0, leafAt 0x50000 0)] with net := [(3, p)] }
     (match s.translate (clusterOfCore 0) p.asid (p.va * 256) .writeBack (s.cluster (clusterOfCore 0)).worldCl with | (.page _ _, _) => true | _ => false) = true ∧ p.held = false ∧ p.so = false) := by decide +kernel

theorem witness_fencesAndWaitack :
    (let s := cached true [(1, 0x1000), (2, 0x2000)] [entry0] []
     Issues (.fence .always 1 2) s ∧ Issues (.fence .always 3 6) s ∧ Issues (.fence .always 2 0) s ∧ s.isPost s.cur = true ∧ s.ctx.stage = 0 ∧ s.net = [] ∧ (∀ e ∈ (s.core s.coreId).l1, e.dirty = 0) ∧
      Issues (.acqinv .always 1) s ∧ Issues (.waitack .always 6 1 2) s ∧ s.outstanding (.side s.cur) = false ∧ s.ctx.ackRecord.find? (fun e => e.1 == bitsAt (s.reg 1) 55 8) = none) ∧
    (let s := (task .c true [(1, 0x1000)]).upd (fun k => { k with ackRecord := [(16, 5)] }); s.ctx.ackRecord.find? (fun e => e.1 == bitsAt (s.reg 1) 55 8) = some (16, 5)) ∧
    (let s := inFlight (packet0 (.write 1 1)); Issues (.waitack .always 6 1 2) s ∧ s.outstanding (.side s.cur) = true) := by unfold Issues; decide +kernel

theorem witness_cacheMaintenance :
    (let s := cached true [(1, 0x1000), (2, 0x100000), (3, 1)] [entry0] []
     let t := s.upd (fun k => { k with stage := 2 })
     Issues (.cinval .always 6 1 2) s ∧ Issues (.cclean .always 6 1 2) s ∧ Issues (.cflush .always 6 1 2) t ∧ t.ctx.stage = 2 ∧ t.outstanding (.side t.cur) = false ∧ s.ctx.stage = 0 ∧
      (∀ e ∈ (s.core s.coreId).l1, e.dirty = 0) ∧ Issues (.pfetch .always 1 0) s ∧ s.reg 0 = 0) ∧
    (let s := mapped .c true [(1, 0x1234), (3, 1)] [(0, leafAt 0x50000 0)]
     Issues (.pfetch .always 1 3) s ∧ s.reg 3 = 1 ∧ s.ctx.hints.loc = none ∧
      (match s.translate s.clusterId (s.asidOf s.cur) (0x1234 / 256 * 256) .load (s.coreSecure s.coreId) with
       | (.page l pa, u) => decide (l.kind ≠ 1 ∧ pa % 256 = 0 ∧ u.backed pa = true ∧ u.moving pa = false ∧ u.memPoison = [] ∧ u.net = [] ∧ (u.core s.coreId).ways 0x12 < 10 ∧
           (u.core s.coreId).entry? (s.asidOf s.cur) 0x12 = none ∧ (u.cluster s.clusterId).rmap.get? pa = none ∧ paSheet pa = s.sheetId)
       | _ => false) = true) ∧
    (let s := (inFlight (packet0 (.write 1 1))).upd (fun k => { k with stage := 2 }); Issues (.cclean .always 6 1 2) s ∧ s.outstanding (.side s.cur) = true) ∧
    (let e := { entry0 with dirty := 0xF0 }
     let s := (mapped .c true [(1, 0x1000), (2, 0x100)] [(0, leafAt 0x50000 0)]).mapCore 0 (fun k => { k with l1 := [e] })
     Issues (.cclean .always 6 1 2) s ∧ s.ctx.stage = 0 ∧ (s.core s.coreId).l1.count e = 1 ∧ e.asid = s.asidOf s.cur ∧ inRange s 1 2 e.line ∧ e.dirty ≠ 0 ∧
       (∀ x ∈ (s.core s.coreId).l1, x.asid = s.asidOf s.cur → x.line = e.line ∨ (inRange s 1 2 x.line ∧ x.dirty ≠ 0) → x = e) ∧
       (match s.translate s.clusterId e.asid (e.line * 256) .writeBack (s.coreSecure s.coreId) with | (.page _ _, _) => true | _ => false) = true) := by unfold Issues inRange; decide +kernel

/-- Memory with doublewords at addresses, and page tables that map VA 0 to 0xFFFF of ASID 1 to 0x50000: an ASID table at 0x8000 and five levels above it. -/
def doublewords (xs : List (Nat × Nat)) : Memory := xs.foldl (fun m x => m.writeList x.1 (leBytes 8 x.2)) []
def tables : State :=
  { (task .c true []).mapSheet 0 (fun h => { h with asidtab := 0x8001 }) with
    mem := doublewords [(0x8008, 2 ^ 63 + 0x10000), (0x10000, 2 ^ 63 + 0x20000), (0x20000, 2 ^ 63 + 0x30000), (0x30000, 2 ^ 63 + 0x40000), (0x40000, 2 ^ 63 + 0x48000),
      (0x48000, 0xC700000000000000 + 0x50000)] }

theorem witness_translationAndCacheSteps :
    (tables.pageWalk 0 1 0x1234 .load = .page (leafAt 0x50000 0) 0x51234 ∧ (∀ e ∈ (tables.cluster 0).tlb, e.covers 1 0x1234 = false) ∧ (tables.cluster 0).tlb.length < 2048) ∧
    (let e : TlbEntry := { asid := 1, va := 0, leaf := leafAt 0x50000 0, hc := 0xFFFF }
     let s := (task .c true []).mapCluster 0 (fun c => { c with tlb := [e] })
     (s.cluster 0).tlb[0]? = some e ∧ 0xFFFF ≤ e.hc) ∧
    (let e : TlbEntry := { asid := 2, va := 0, leaf := leafAt 0x50000 0, hc := 7 }
     let s := tables.mapCluster 0 (fun c => { c with tlb := List.replicate 2048 e })
     (∀ e ∈ (s.cluster 0).tlb, e.covers 1 0x1234 = false) ∧ 2048 ≤ (s.cluster 0).tlb.length ∧ (s.cluster 0).tlb.getLast? = some e) ∧
    (let s := (task .c true []).mapSheet 0 (fun h => { h with windows := [(0, { Window.init with cfg := 0x8000000000000000, base := 0x100000, size := 1 })] })
     paSheet 0x100100 = 0 ∧ s.moving 0x100100 = false ∧ (s.windowOf 0x100100).isSome = true ∧ s.windowOf 0x900100 = none) ∧
    (let s := (task .c true []).mapSheet 1 (fun h => { h with replicas := [(0x100100, 0, 0, none)] })
     paSheet 0x100100 ≠ 1 ∧ ((s.sheet 1).replicas.get? 0x100100).isSome = true ∧ s.region 0x100100 ≠ .unbacked ∧ s.moving 0x100100 = false) ∧
    (let s := (task .c true []).mapSheet 0 (fun h => { h with repctl := 0x1400 })
     paSheet 0x100100 ≠ 1 ∧ s.moving 0x100100 = false ∧ s.region 0x100100 = .hbm ∧ (s.sheet 1).replicas.get? 0x100100 = none ∧
       (s.page 0x100100).repl = false ∧ (s.sheet (paSheet 0x100100)).repctl.toNat % 256 = 0 ∧
       (let r := s.mapSheet 0 (fun h => { h with repctl := 0x1401 }); (r.sheet (paSheet 0x100100)).repctl.toNat % 256 = 1 ∧ (r.page 0x100100).wseen = false ∧ (r.page 0x100100).hold = false)) ∧
    (let s := { task .c true [] with cycle := 0x100000000 }; (s.sheet 0).epochAt ≤ s.cycle.toNat) := by decide +kernel

/-! ## Vector instructions -/

/-- The task with a shape and some vector registers. -/
def shaped (shape : Word) (xs : List (BitVec 5 × Word)) (vs : List (Nat × VReg)) : State :=
  vs.foldl (fun s v => s.vset v.1 0 v.2) ((task .c true xs).upd (fun k => { k with vshape := shape }))

theorem witness_registersReadBack : (23 < 24) ∧ 24 ≤ 31 ∧ 31 - 24 < ((task .c true []).thread (task .c true []).threadId).queues.length := by decide +kernel

theorem witness_vectorInstructions :
    (let i := Instr.vfma (.on true 15) 23 1 2; let s := shaped 0x7F0 [] []; (elementRule i).isSome = true ∧ Issues i s ∧ s.shape.cols * s.shape.esize ≤ 32 ∧
      ((elementRule i).any (fun r => r.admits s.shape.ty && r.operand s)) = true) ∧
    (let i := Instr.vexp2 .always 0 1; let s := shaped 0xFF3 [] []; Issues i s ∧ s.shape.cols * s.shape.esize ≤ 32 ∧ ((elementRule i).any (fun r => r.admits s.shape.ty)) = false) ∧
    (let i := Instr.vbrow .always 0 1 2; let s := shaped 0x7F0 [(2, 16)] []; Issues i s ∧ s.shape.cols * s.shape.esize ≤ 32 ∧ ((elementRule i).any (fun r => r.operand s)) = false) ∧
    (let i := Instr.vbrow .always 0 1 2; let s := shaped 0x7F0 [(2, 15)] []; Issues i s ∧ s.shape.cols * s.shape.esize ≤ 32 ∧ ((elementRule i).any (fun r => r.operand s)) = true) := by
  unfold Issues; decide +kernel

theorem witness_reductions :
    (let i := Instr.vrsum .always 0 1; let s := shaped 0x7F0 [] []; (reduction i).isSome = true ∧ Issues i s ∧ s.shape.cols * s.shape.esize ≤ 32 ∧
      ((reduction i).any (fun r => r.admits s.shape.ty && !(lineOfReduction s r 15).isEmpty)) = true) ∧
    (let i := Instr.vramax .always 0 1; let s := shaped 0x7F8 [] []; Issues i s ∧ s.shape.cols * s.shape.esize ≤ 32 ∧ ((reduction i).any (fun r => r.admits s.shape.ty)) = false) := by
  unfold Issues; decide +kernel

theorem witness_vectorComparisons :
    (vectorComparison (.vcmpUn .always 15 1 2)).isSome = true ∧ Issues (.vcmpUn .always 15 1 2) (shaped 0x7F0 [] []) ∧ (shaped 0x7F0 [] []).shape.cols * (shaped 0x7F0 [] []).shape.esize ≤ 32 := by
  unfold Issues; decide +kernel

theorem witness_elementMovesAndVshape :
    (let s := shaped 0x7F0 [(2, 15 * 32 + 7), (3, 8), (4, 0x1F3F), (5, 512)] []
     s.shape.cols * s.shape.esize ≤ 32 ∧ Issues (.vext .always 6 1 2) s ∧ Issues (.vins .always 7 1 2) s ∧ bitsAt (s.reg 2) 8 5 < s.shape.rows ∧ bitsAt (s.reg 2) 4 0 < s.shape.cols ∧
       (s.reg 2).toNat < 512 ∧ Issues (.vext .always 6 1 3) s ∧ Issues (.vins .always 7 1 5) s ∧ ¬(bitsAt (s.reg 3) 4 0 < s.shape.cols) ∧ ¬((s.reg 5).toNat < 512) ∧
       Issues (.vshape .always 6 2) s ∧ Issues (.vshape .always 6 4) s) ∧ legalShape 0x7F0 ∧ ¬legalShape 0x1F3F := by unfold Issues legalShape; decide +kernel

theorem witness_elementArithmetic :
    valueOf 0 0x7FC00000 = .nan ∧ valueOf 0 0 ≠ .nan ∧ valueOf 4 0x7F = .nan ∧ (2 ^ elemBits 6 - 1) < 2 ^ elemBits 6 ∧ 0x80 < 2 ^ elemBits 4 ∧ valueOf 5 0x3F ≠ .nan ∧
      valueOf 0 0x7F7FFFFF ≠ .inf false := by decide +kernel

/-- Registers that hold the lists (2, 1.0), (0xFFFFFFFF, 1); no pair; and (2, 1), (2, 2), each with the terminator. -/
def rising : VReg := 0x00000000FFFFFFFF00000001FFFFFFFF3F80000000000002
def noPair : VReg := 0x00000000FFFFFFFF
def level : VReg := 0x00000000FFFFFFFF00000002000000020000000100000002

theorem witness_sparse :
    let s := shaped 0x7F0 [] [(1, rising), (2, noPair), (3, level)]
    s.selected .always = true ∧ s.vsrc 1 s.qwA.2 = rising ∧ s.vsrc 2 s.qwB.2 = noPair ∧ s.vsrc 3 s.qwB.2 = level ∧ Issues (.smcount .always 6 1 2) s ∧ Issues (.smerge .always 6 1 2) s ∧
      Issues (.smergez .always 6 1 3) s := by unfold Issues; decide +kernel

/-- A register whose pairs are the list and the terminator holds that list. -/
theorem sparseList_of (v : VReg) (l : List (Nat × Nat)) (hn : l.length < 64) (h : ∀ p < l.length, pairAt v p = l.getD p (0, 0) ∧ l.getD p (0, 0) ≠ (0xFFFFFFFF, 0))
    (ht : pairAt v l.length = (0xFFFFFFFF, 0)) : sparseList v l := by
  refine ⟨Nat.le_of_lt hn, fun p x hx => ?_, fun _ => ht⟩
  have hp : p < l.length := (List.getElem?_eq_some_iff.mp hx).1
  have hd : l.getD p (0, 0) = x := by simp [List.getD, hx]
  exact ⟨(h p hp).1.trans hd, hd ▸ (h p hp).2⟩

theorem witness_sparseLists :
    sparseList rising [(2, 0x3F800000), (0xFFFFFFFF, 1)] ∧ strictlyRising [(2, 0x3F800000), (0xFFFFFFFF, 1)] ∧ sparseList noPair [] ∧ strictlyRising [] ∧
      sparseList level [(2, 1), (2, 2)] ∧ ¬strictlyRising [(2, 1), (2, 2)] := by
  refine ⟨sparseList_of _ _ (by decide) ?_ ?_, by unfold strictlyRising; decide, sparseList_of _ _ (by decide) ?_ ?_, by unfold strictlyRising; decide,
    sparseList_of _ _ (by decide) ?_ ?_, by unfold strictlyRising; decide⟩ <;> decide +kernel

theorem witness_scansAndPacking :
    (let s := shaped 0x7F0 [(2, 0x3F800000), (3, 0)] []
     s.shape.cols * s.shape.esize ≤ 32 ∧ Issues (.scan .always 6 1 2) s ∧ Issues (.scanx .always 6 1 2) s ∧ Issues (.vrng .always 6) s ∧ Issues (.vprune .always 6 1 2) s ∧
       Issues (.vprunes .always 6 1 3) s ∧ s.shape.ty < 6 ∧ valueOf 0 ((s.reg 2).toNat % 2 ^ 32) = .fin false 0x800000 (-23) ∧ valueOf 0 ((s.reg 3).toNat % 2 ^ 32) = .fin false 0 (-149) ∧
       s.ctx.round.toNat % 8 ≠ 5 ∧ Issues (.vcompact .always 6 1 15) s ∧ s.selected .always = true) ∧
    (let s := shaped 0x7F8 [(2, 0x3F800000)] []; Issues (.vprune .always 6 1 2) s ∧ 6 ≤ s.shape.ty ∧ s.shape.cols * s.shape.esize ≤ 32) := by
  unfold Issues; decide +kernel

theorem witness_pmerge :
    (let s := (shaped 0x7F0 [(2, 2), (3, 3)] []).mapThread 0 (fun t => { t with n := 24 })
     s.cur = .task 0 .c ∧ Issues (.pmerge .always 6 1 2 2) s ∧ Issues (.pmerge .always 6 1 3 16) s ∧ (s.thread 0).pmergeRes = none ∧ 3 ≤ (s.reg 3).toNat ∧ (s.reg 2).toNat ≤ 2 ∧
       (s.thread 0).post = true ∧ (∀ t ∈ participants 0 2, (s.thread t).pmerge = none)) ∧
    (let s := shaped 0x7F0 [(2, 2)] []; let b := s.mapThread 0 (fun t => { t with post := false }); Issues (.pmerge .always 6 1 2 2) b ∧ (b.thread 0).post = false) ∧
    (let s := (shaped 0x7F0 [] []).mapThread 0 (fun t => { t with pmergeRes := some 7 })
     Issues (.pmerge .always 23 1 2 2) s ∧ (s.thread 0).pmergeRes = some 7 ∧ s.shape.cols * s.shape.esize ≤ 32) ∧
    (let s := (task .c true []).mapThread 0 (fun t => { t with pmerge := some (2, 1, 0x7F0, 5) })
     let r := s.mapThread 64 (fun t => { t with pmerge := some (2, 1, 0x7F0, 9) })
     participants 0 2 = [0, 64] ∧ (r.thread 0).pmerge = some (2 ^ 1, 1, 0x7F0, 5) ∧ (r.thread 64).pmerge = some (2 ^ 1, 1, 0x7F0, 9) ∧ (r.thread 0).pmergeRes = none ∧
       (r.thread 64).pmergeRes = none) := by unfold Issues; decide +kernel

/-! ## Queues, streams and ports -/

theorem witness_queues :
    (let s := withQueue { queue1 with filled := 0 } (task .a true [(2, 1), (3, 2)])
     s.cur = .task 0 .a ∧ s.selected .always = true ∧ Issues (.qpub .always 0) s ∧ Issues (.qcfg .always 5 0) s ∧ Issues (.qfill .always 5 0 2) s ∧ Issues (.qfill .always 5 0 3) s ∧
       (s.queueAt 0 0).filled < (s.queueAt 0 0).depth ∧ (s.queueAt 0 0).cons ≠ sideNumber .a ∧ (s.queueAt 0 0).filled + (s.reg 2).toNat ≤ (s.queueAt 0 0).depth ∧
       (s.queueAt 0 0).depth < (s.reg 3).toNat) ∧
    (let s := withQueue { queue1 with filled := 1 } (task .a true [(2, 1)])
     Issues (.qpub .always 0) s ∧ (s.queueAt 0 0).depth ≤ (s.queueAt 0 0).filled ∧ Issues (.qfill .always 5 0 2) s ∧ (s.queueAt 0 0).depth < (s.queueAt 0 0).filled + (s.reg 2).toNat) ∧
    (let s := withQueue { queue1 with filled := 1 } (task .c true [(2, 1)])
     Issues (.qadv .always 0) s ∧ 0 < (s.queueAt 0 0).filled ∧ Issues (.qfill .always 5 0 2) s ∧ (s.queueAt 0 0).cons = sideNumber .c ∧ (s.reg 2).toNat ≤ (s.queueAt 0 0).filled) ∧
    (let s := withQueue { queue1 with filled := 0 } (task .c true [(2, 1)])
     Issues (.qadv .always 0) s ∧ (s.queueAt 0 0).filled = 0 ∧ Issues (.qfill .always 5 0 2) s ∧ (s.queueAt 0 0).filled < (s.reg 2).toNat) := by unfold Issues; decide +kernel

/-- Stream descriptors: one row of one byte, one segment, and one index of one record; and a queue that a stream fills. -/
def strided : List Byte := leBytes 32 (1 * 2 ^ 128 + 1 * 2 ^ 160 + 1 * 2 ^ 192)
def segmented : List Byte := leBytes 32 (65535 * 2 ^ 128 + 8 * 2 ^ 160 + 1 * 2 ^ 176)
def indirect : List Byte := leBytes 32 (2 ^ 24 * 2 ^ 128 + 512 * 2 ^ 160 + 2 * 2 ^ 176 + 1 * 2 ^ 192)
def queueS (l : List Stream) : Queue := { Queue.init with depth := 2, stream := true, prod := 2, cons := 1, streams := l }
def stream0 (mode : Nat) : Stream :=
  { mode := mode, base := 0x1000, aux := 0x2000, stride := 8, count := 1, esize := if mode = 2 then 4 else 8, flags := 0, width := 8, limit := 9, started := true, seg := 0, sub := 0,
    suspVa := none, suspPos := 0 }
def withDescriptor (bs : List Byte) (l : List Stream) (x1 : Word) : State := (withQueue (queueS l) (task .a true [(1, x1)])).mapCore 0 (fun k => { k with mem := k.mem.writeList 0x17FE0 bs })

theorem legal_strided : legalStream strided := by
  have h : leAt strided 0x16 1 = 0 := by decide +kernel
  unfold legalStream; simp only [h]; decide +kernel

theorem legal_segmented : legalStream segmented := by
  have h : leAt segmented 0x16 1 = 1 := by decide +kernel
  unfold legalStream; simp only [h]; decide +kernel

theorem legal_indirect : legalStream indirect := by
  have h : leAt indirect 0x16 1 = 2 := by decide +kernel
  unfold legalStream; simp only [h]; exact ⟨⟨9, by decide, by decide +kernel⟩, by decide +kernel⟩

theorem witness_streamsStart :
    (let s := withDescriptor strided [] 0x17FE0
     s.cur = .task 0 .a ∧ Issues (.sstr .always 0 1) s ∧ s.ctx.stage = 0 ∧ (s.reg 1).toNat + 32 ≤ 0x18000 ∧ (s.reg 1).toNat % 32 = 0 ∧ unpoisoned (s.core s.coreId) (s.reg 1).toNat 32 ∧
       settledHere s ∧ (s.core s.coreId).mem.readList (s.reg 1).toNat 32 = strided ∧ (s.queueAt 0 0).streams.length < 4 ∧ (s.queueAt 0 0).streams = [] ∧ Issues (.sclose .always 0) s ∧
       Issues (.sstat .always 5 0) s) ∧
    (let s := withDescriptor strided [{ stream0 2 with suspVa := some 0x1004, suspPos := 1 }, stream0 1] 0x17FE0
     Issues (.sstat .always 5 0) s ∧ (s.queueAt 0 0).streams.length ≤ 4 ∧ (s.queueAt 0 0).why < 5 ∧ (s.queueAt 0 0).pos < 2 ^ 32) ∧
    (let s := withDescriptor indirect [stream0 0, stream0 0, stream0 1, stream0 2] 0x17FE0
     Issues (.istr .always 0 1) s ∧ leAt indirect 0x16 1 = 2 ∧ (s.core s.coreId).mem.readList (s.reg 1).toNat 32 = indirect ∧ 4 ≤ (s.queueAt 0 0).streams.length ∧
       Issues (.sclose .always 0) s ∧ Issues (.sstat .always 5 0) s ∧ (∀ x ∈ (s.queueAt 0 0).streams, x.count < 2 ^ 32 ∧ x.seg < 2 ^ 32) ∧ Issues (.sstr .always 0 1) s) ∧
    (let s := withDescriptor [] [] 0x17FE1; Issues (.istr .always 0 1) s ∧ (0x18000 < (s.reg 1).toNat + 32)) ∧ (let s := withDescriptor [] [] 0x10; Issues (.istr .always 0 1) s ∧ (s.reg 1).toNat % 32 ≠ 0) := by
  unfold Issues unpoisoned settledHere; decide +kernel

/-- A queue whose running stream reads pages that are mapped, with an index of 1 and bounds 0 and 1 at 0x2000. -/
def streaming (mode : Nat) (mem : Memory) : State :=
  { withQueue (queueS [stream0 mode]) (mapped .c true [] [(0, leafAt 0x50000 0)]) with mem := mem }

theorem witness_streamEngines :
    (let s := streaming 0 []
     (s.queueAt 0 0).streams = [stream0 0] ∧ (stream0 0).started = true ∧ (stream0 0).suspVa = none ∧ (s.queueAt 0 0).filled < (s.queueAt 0 0).depth ∧
       (match s.engineReads 0 1 (s.coreSecure 0) none [(0x1000, 8)] with | (.ok b, _) => decide (b.length = 1) | _ => false) = true) ∧
    (let s := streaming 1 (doublewords [(0x52000, 0x100000000)])
     (match s.engineReads 0 1 (s.coreSecure 0) none [(0x2000, 4), (0x2004, 4)] with
      | (.ok [b0, b1], u) => decide (leNat b0 ≤ leNat b1) && (match u.engineReads 0 1 (s.coreSecure 0) none [(0x1000, 8)] with | (.ok b, _) => decide (b.length = 1) | _ => false)
      | _ => false) = true) ∧
    (let s := streaming 1 (doublewords [(0x52000, 1)])
     (match s.engineReads 0 1 (s.coreSecure 0) none [(0x2000, 4), (0x2004, 4)] with | (.ok [b0, b1], _) => decide (leNat b1 < leNat b0) | _ => false) = true) ∧
    (let s := streaming 2 (doublewords [(0x52000, 8)])
     (match s.engineReads 0 1 (s.coreSecure 0) none [(0x2000, 4)] with
      | (.ok bs, u) => bs.all (fun b => decide (leNat b < 9)) && (match u.engineReads 0 1 (s.coreSecure 0) none (bs.map (fun b => (0x1000 + 4 * leNat b, 4))) with | (.ok b, _) => decide (b.length = 1) | _ => false)
      | _ => false) = true) ∧
    (let s := streaming 2 (doublewords [(0x52000, 9)])
     (match s.engineReads 0 1 (s.coreSecure 0) none [(0x2000, 4)] with | (.ok bs, _) => bs.all (fun b => decide (9 ≤ leNat b)) | _ => false) = true) ∧
    (let s := withQueue (queueS [stream0 1]) (task .c true [])
     (match s.engineReads 0 1 (s.coreSecure 0) none [(0x2000, 4), (0x2004, 4)] with | (.error (va, some 6), _) => decide (va = 0x2000) | _ => false) = true) := by decide +kernel

/-- The task with a send route. -/
def routed (r : Route) (xs : List (BitVec 5 × Word)) : State := (task .c true xs).upd (fun k => { k with route := r })

theorem witness_sends :
    (let s := routed Route.init [(1, 0x1C8), (2, 7), (3, 0x400000)]
     s.cur = .task 0 .c ∧ Issues (.spsend .always 1 2) s ∧ Issues (.spsendv .always 3 1) s ∧ (s.thread 0).post = true ∧ portAddress s 0 (s.reg 1) ∧ Issues (.spsend .always 3 2) s ∧
       ¬portAddress s 0 (s.reg 3) ∧ settledHere s ∧ s.ctx.stage = 0 ∧ s.ctx.route.opn = false ∧ Issues (.spclose .always) s) ∧
    (let s := routed { Route.init with opn := true, dest := 0x1C8, free := 16 } [(1, 0x1C8), (2, 7)]
     Issues (.spsendv .always 3 1) s ∧ s.ctx.route.opn = true ∧ s.ctx.route.closing = false ∧ s.ctx.route.dest = s.reg 1 ∧ 16 ≤ s.ctx.route.free ∧ portAddress s 0 (s.reg 1)) ∧
    (let s := routed { Route.init with opn := true, dest := 0x1C8, free := 15 } [(1, 0x1C8)]; Issues (.spsendv .always 3 1) s ∧ s.ctx.route.free < 16) := by
  unfold Issues portAddress settledHere; decide +kernel

/-- The task with its receive ports. -/
def received (q : Port) (xs : List (BitVec 5 × Word)) : State := (task .c true xs).mapThread 0 (fun t => { t with ports := [q, Port.init] })

theorem witness_receives :
    (let s := received { bound := some (1, .a), items := [(false, 5, 3), (true, 6, 4)], mark := true } [(2, 2)]
     s.cur = .task 0 .c ∧ Issues (.sprecv .always 5 0 1) s ∧ (s.thread 0).post = true ∧ (s.thread 0).ports.length = 2 ∧ Issues (.sprecvv .always 5 0 1) s ∧ Issues (.spstat .always 5 0) s ∧
       Issues (.spstat .always 5 2) s ∧ (s.reg 2).toNat = 2 ∧ s.ctx.route.free ≤ 32 ∧ entriesOf [(false, (5 : VReg), 3), (true, 6, 4)] ≤ 32) ∧
    (let s := received { Port.init with mark := true } [(2, 3)]; Issues (.sprecv .always 5 0 1) s ∧ Issues (.sprecvv .always 5 2 1) s ∧ 1 < (s.reg 2).toNat ∧ Issues (.spstat .always 5 2) s) ∧
    (let s := received Port.init []; Issues (.sprecvv .always 5 0 1) s) := by unfold Issues; decide +kernel

/-- A packet of a request at the router of cluster 0, on its way to a home. -/
def forwarding : State :=
  { (task .c true []).mapCluster 0 (fun c => { c with packets := [(3, some 0, 1), (4, none, 0)] }) with
    net := [(3, { packet0 (.write 1 1) with pa := 0x500 }), (4, packet0 (.write 1 1))] }

theorem witness_routes :
    (let s := routed { Route.init with opening := true, dest := 0x1C8 } []
     let s := s.mapThread (threadOfAddr 0x1C8) (fun t => { t with st := .post })
     (s.ctxOf (.task 0 .c)).route.opening = true ∧ (s.thread (threadOfAddr 0x1C8)).st ≠ .empty ∧ (s.thread (threadOfAddr 0x1C8)).launch = (s.thread 0).launch ∧
       s.placesFree 0 (threadOfAddr 0x1C8 / 64) = true ∧ (∀ x ∈ s.openable, s.opensFirst x (0, .c) = false) ∧ s.openable ≠ []) ∧
    (let s := routed { Route.init with opn := true, dest := 0x1C8, flight := [(true, 5)] } []; (s.ctxOf (.task 0 .c)).route.flight ≠ []) ∧
    (let s := routed { Route.init with opn := true, dest := 0x1C8, closing := true } []; (s.ctxOf (.task 0 .c)).route.flight = []) ∧
    ((3, some 0, 1) ∈ (forwarding.cluster 0).packets ∧ (∀ x ∈ (forwarding.cluster 0).packets, x ≠ (3, some 0, 1) → goesFirst (3, some 0, 1) x = true ∧ goesFirst x (3, some 0, 1) = false) ∧
      (forwarding.net.get? 3).map Packet.pa = some 0x500 ∧ direction 0 (homeCluster 0x500) = some 0) := by decide +kernel

/-! ## Walks and jobs -/

/-- A descriptor of a walk of one row of two I8 elements through a chart of three units, and a node with rule 0 whose children are units 1 and 2. -/
def walkBytes : List Byte :=
  leBytes 64 (0x10000 + 4 * 2 ^ 64 + 1 * 2 ^ 96 + 2 * 2 ^ 112 + 0x1000 * 2 ^ 128 + 3 * 2 ^ 192 + 15 * 2 ^ 224 + 6 * 2 ^ 232 + 8 * 2 ^ 240 + 1 * 2 ^ 248 + 0x3000 * 2 ^ 256 + 0x100 * 2 ^ 320)
def nodeBytes : List Byte :=
  leBytes 72 (6 * 2 ^ 24 + 2 * 2 ^ 32 + 1 * 2 ^ 48 + 2 * 2 ^ 64 + 0x20 * 2 ^ 160 + 0x40 * 2 ^ 192 + 127 * 2 ^ 224 + 0xFF01 * 2 ^ 256 + 1 * 2 ^ 512 + 2 * 2 ^ 544)
def walking (f : Thread → Thread) (x1 : Word) : State :=
  ((task .c true [(1, x1)]).mapCore 0 (fun k => { k with mem := k.mem.writeList 0x17FC0 walkBytes })).mapThread 0 f

theorem legal_walk : legalWalk walkBytes := by
  have h : leAt walkBytes 0x1D 1 = 6 := by decide +kernel
  unfold legalWalk; simp only [h]; decide +kernel

theorem illegal_walk : ¬legalWalk [] := by
  intro h
  have : leAt [] 0x1D 1 = 0 := by decide +kernel
  unfold legalWalk at h; simp only [this] at h; exact absurd h.1 (by decide)

theorem witness_walksAreQueued :
    (let s := walking id 0x17FC0
     s.cur = .task 0 .c ∧ s.selected .always = true ∧ Issues (.mwalk .always 5 1) s ∧ Issues (.mwalkg .always 5 1) s ∧ s.ctx.stage = 0 ∧ takesDescriptor s 1 64 walkBytes ∧
       (s.launch (s.thread 0).launch).secure = (s.cluster 0).worldArr ∧ (s.thread 0).post = true ∧ jobRoomy (s.thread 0).jobs ∧ (s.cluster 0).walkQ.length < 32 ∧ (s.cluster 0).walkWait = [] ∧
       (s.thread 0).mwalkgId = none ∧ (s.thread 0).mwalkg = none ∧ (s.thread 8).mwalkg = none) ∧
    (let s := walking (fun t => { t with jobs := List.replicate 16 { id := 5, complete := false, status := 0, faultVa := 0 } }) 0x17FC0
     Issues (.mwalk .always 5 1) s ∧ takesDescriptor s 1 64 walkBytes ∧ ¬jobRoomy (s.thread 0).jobs) ∧
    (let s := (walking id 0).upd (fun k => { k with stage := 3, kept := walkBytes }); Issues (.mwalk .always 5 1) s ∧ takesDescriptor s 1 64 walkBytes) ∧
    (let e : JobEntry := { id := 5, complete := false, status := 0, faultVa := 0 }
     let s := walking (fun t => { t with jobs := List.replicate 15 e ++ [{ e with complete := true }] }) 0x17FC0
     Issues (.mwalk .always 5 1) s ∧ takesDescriptor s 1 64 walkBytes ∧ jobRoomy (s.thread 0).jobs ∧ 16 ≤ (s.thread 0).jobs.length) := by
  unfold Issues takesDescriptor unpoisoned settledHere jobRoomy; refine ⟨?_, ?_, ?_, ?_⟩ <;> decide +kernel

theorem witness_moreWalksAreQueued :
    (let s := (walking id 0x17FC0).mapCluster 0 (fun c => { c with walkQ := List.range 32 }); Issues (.mwalk .always 5 1) s ∧ 32 ≤ (s.cluster 0).walkQ.length) ∧
    (let s := walking (fun t => { t with mwalkgId := some 0x4001 }) 0x17FC0; Issues (.mwalkg .always 5 1) s ∧ (s.thread 0).mwalkgId = some 0x4001) ∧
    (let s := ((List.range 7).map (fun k => 8 * (k + 1))).foldl (fun (s : State) th => s.mapThread th (fun t => { t with mwalkg := some (walkDescOf walkBytes) })) (walking id 0x17FC0)
     Issues (.mwalkg .always 5 1) s ∧ (∀ k < 8, k ≠ 0 → (s.thread ((0 * 8 + k) * 8 + 0)).mwalkg = (List.replicate 8 (walkDescOf walkBytes))[k]?) ∧
       (∀ k < 8, jobRoomy (s.thread ((0 * 8 + k) * 8 + 0)).jobs) ∧ (s.cluster 0).seqGang < 0x4000) ∧
    (let s := walking id 0x17FC1; Issues (.mwalk .always 5 1) s ∧ 0x18000 < (s.reg 1).toNat + 64) ∧ (let s := walking id 0x20; Issues (.mwalk .always 5 1) s ∧ (s.reg 1).toNat % 64 ≠ 0) ∧
    (let s := walking id 0; Issues (.mwalk .always 5 1) s ∧ unpoisoned (s.core 0) 0 64) := by
  unfold Issues unpoisoned jobRoomy; decide +kernel

/-- A job with one row in a state, its entry, and the job in its cluster. -/
def job0 (st : WalkState) (rows : List WalkRow) : WalkJob := { walkJob0 st rows with descs := [walkDescOf walkBytes], fmt := 6, released := [] }
def observing (j : WalkJob) (done : Bool) (status : Word) (xs : List (BitVec 5 × Word)) : State :=
  ((task .c true xs).mapThread 0 (fun t => { t with jobs := [{ id := 5, complete := done, status := status, faultVa := 0x70 }] })).mapCluster 0 (fun c => { c with walks := [(5, j)], walkQ := [5] })

theorem witness_jobs :
    (let s := observing (job0 .stepping [WalkRow.fresh]) false 0 [(1, 5), (2, 0), (3, 0xFFFFFFFFFFFFFFFF), (4, 1), (6, 6)]
     s.clusterId = 0 ∧ Issues (.mprog .always 7 1 2) s ∧ (jobOf s 0 5).isSome = true ∧ s.walk? 0 5 = some (job0 .stepping [WalkRow.fresh]) ∧ s.reg 3 = BitVec.allOnes 64 ∧
       Issues (.mprog .always 7 1 3) s ∧ Issues (.mprog .always 7 1 4) s ∧ 1 ≤ (s.reg 4).toNat ∧ Issues (.mcancel .always 7 1) s ∧ jobOf s 0 6 = none ∧ Issues (.mprog .always 7 6 2) s ∧
       Issues (.mcancel .always 7 6) s ∧ Issues (.jwait .always 7 6) s ∧ Issues (.jwait .always 7 1) s ∧ Issues (.jpoll .always 7 1) s) ∧
    (let s := observing (job0 .queued [WalkRow.fresh]) false 0 [(1, 5)]; Issues (.mcancel .always 7 1) s ∧ (job0 .queued [WalkRow.fresh]).canc = false ∧ 0 ∈ (job0 .queued [WalkRow.fresh]).threads) ∧
    (let j := { job0 .stepping [WalkRow.fresh, WalkRow.fresh, { WalkRow.fresh with st := 2 }] with step := some (0, [0, 1], [1]) }; let s := observing j false 0 [(1, 5)]
     Issues (.mcancel .always 7 1) s ∧ s.walk? 0 5 = some j ∧ j.canc = false) ∧
    (let s := (observing (job0 .draining []) true 0x00010000 [(1, 5)]).mapSheet 0 (fun h => { h with evhead := 128 })
     Issues (.jwait .always 7 1) s ∧ (s.thread 0).utvec = 0 ∧ s.ringBlocked (sheetOfThread 0) = true) ∧
    (let s := observing (job0 .draining []) true 0x00010000 [(1, 5)]; s.ringBlocked (sheetOfThread 0) = false) ∧
    (let s := (observing (job0 .draining []) true 0x00010000 [(1, 5)]).mapThread 0 (fun t => { t with utvec := 0x2000 })
     Issues (.jwait .always 7 1) s ∧ (s.thread 0).utvec ≠ 0 ∧ (s.thread 0).follow = none) ∧
    (let s := observing (job0 .draining []) true 0x00010000 [(1, 5)]
     Issues (.jwait .always 7 1) s ∧ Issues (.jpoll .always 7 1) s ∧ ((jobOf s 0 5).map (fun e => (e.complete, bitsAt e.status 31 16))) = some (true, 1) ∧ bitsAt (BitVec.ofNat 64 5) 15 14 ≠ 2) ∧
    (let s := observing (job0 .draining []) true 1 [(1, 5)]; Issues (.jpoll .always 7 1) s ∧ ((jobOf s 0 5).map (fun e => (e.complete, bitsAt e.status 31 16))) = some (true, 0)) := by
  unfold Issues; refine ⟨?_, ?_, ?_, ?_, ?_, ?_, ?_, ?_⟩ <;> decide +kernel

/-- The task with the node's bytes at 0x1000, and with mapped pages. -/
def charted (xs : List (BitVec 5 × Word)) : State := { mapped .c true xs [(0, leafAt 0x50000 0), (0x10000, leafAt 0x60000 0)] with mem := Memory.writeList [] 0x51000 nodeBytes }

theorem witness_mnodeAndGang :
    (let s := charted [(1, 0x1000), (2, 0), (3, 0x1000000), (4, 0x1001)]
     Issues (.mnode .always 7 1 2) s ∧ Issues (.mnode .always 7 1 3) s ∧ 2 ^ 24 ≤ (s.reg 3).toNat ∧ Issues (.mnode .always 7 4 2) s ∧ (s.reg 4).toNat % 64 ≠ 0 ∧
       (match s.loadPieces 0x1000 8 4 with
        | .ok bs t => decide ((nodeHead bs).code false = 0 ∧ leAt bs 0 1 = 0) && (match t.loadPieces 0x1040 4 2 with | .ok ks _ => decide (leAt ks 0 4 = 1 ∧ leAt ks 4 4 = 2) | _ => false)
        | _ => false) = true) ∧
    (let s := task .c true [(1, 1), (2, 2), (3, 0)]
     Issues (.gang .always 1) s ∧ Issues (.gang .always 2) s ∧ Issues (.gang .always 3) s ∧ (2 : Nat).testBit 0 = false ∧ (s.thread 0).gangGo = false ∧ settledHere s ∧ s.ctx.stage = 0 ∧
       (∃ k, k < 8 ∧ (s.thread (8 * k)).gangMask = none)) ∧
    (let s := (task .c true [(1, 3)]).mapThread 8 (fun t => { t with gangMask := some 3 }); Issues (.gang .always 1) s ∧ (s.thread 8).gangMask = some 3) ∧
    (let s := (task .c true [(1, 3)]).mapThread 8 (fun t => { t with gangMask := some 2 }); Issues (.gang .always 1) s ∧ (s.thread 8).gangMask = some 2 ∧ (s.thread 8).gangGo = false) ∧
    (let s := (task .c true [(1, 3)]).mapThread 0 (fun t => { t with gangGo := true }); Issues (.gang .always 1) s ∧ (s.thread 0).gangGo = true) := by
  unfold Issues settledHere; decide +kernel

/-- A row at a node with two elements, and a cluster with one job. -/
def row0 : WalkRow := { WalkRow.fresh with elems := [3, 0xFF] }
def withJob (j : WalkJob) (s : State) : State := s.mapCluster 0 (fun c => { c with walks := [(5, j)], walkQ := [5] })

theorem witness_walkJobs :
    (let s := (task .c true []).mapCluster 0 (fun c => { c with walkWait := [8, 3, 2], walkLast := 7 })
     let turn := fun (x : Nat) => (x / 8 % 8 + 7 - (s.cluster 0).walkLast) % 8
     (s.cluster 0).walkWait = [8] ++ 3 :: [2] ∧ (s.cluster 0).walkLast < 8 ∧ (s.cluster 0).walkQ.length < 32 ∧ (∀ x ∈ [8], turn 3 < turn x) ∧ (∀ x ∈ [2], turn 3 ≤ turn x)) ∧
    (let j := job0 .queued [WalkRow.fresh]; let s := withJob j (charted []); s.walk? 0 5 = some j ∧ j.threads = [0] ∧ j.descs = [walkDescOf walkBytes] ∧ 1 ∉ (s.cluster 0).engineHeld ∧
      (s.core 0).mem.wf = true) ∧
    (let j := job0 .loading [WalkRow.fresh]; let s := withJob j (charted [])
     (match s.loadJob 0 j with | (.ok k, _) => decide (k.rows.length = 1) | _ => false) = true) ∧
    (let j := { job0 .loading [WalkRow.fresh] with descs := [{ walkDescOf walkBytes with rows := 0x20000 }] }; let s := withJob j (charted [])
     (match s.loadJob 0 j with | (.error (_, some c), _) => decide (c = 6) | _ => false) = true) ∧
    (let j := job0 .stepping [row0]; let s := withJob j (charted [])
     (match s.readNode 0 j (walkDescOf walkBytes) 0 with
      | (.ok bs, _) => nodeValid j (walkDescOf walkBytes) 0 bs && decide (leAt bs 0 1 = 0 ∧ leAt bs 1 1 = 0 ∧ leAt bs 2 1 = 0 ∧ row0.elems.length = leAt bs 4 2)
      | _ => false) = true) ∧
    (let j := job0 .stepping [row0]; let s := withJob j (mapped .c true [] [(0, leafAt 0x50000 0)])
     (match s.readNode 0 j (walkDescOf walkBytes) 0 with | (.ok bs, _) => !nodeValid j (walkDescOf walkBytes) 0 bs | _ => false) = true) ∧
    (let j := { job0 .stepping [row0] with step := some (0, [0], []) }; (withJob j (charted [])).walk? 0 5 = some j) ∧
    (let j := { job0 .draining [{ row0 with leaf := true, leafN := 2, results := [7] }] with drain := [0] }; let s := withJob j (charted [])
     s.handlers.get? (0, 0) = none ∧ s.nextResult 0 = some (5, 0, 0)) ∧
    (let j := { job0 .draining [{ row0 with st := 1 }] with released := [0] }; let s := withJob j (charted [])
     j.released = [0 / 8] ∧ s.net = [] ∧ (∀ r ∈ j.rows, r.st ≠ 0) ∧ (∀ x ∈ (s.cluster 0).tracers, x.2.walk ≠ some (0, 5))) := by decide +kernel

/-! ## The tracer and phasers -/

/-- Descriptors of a copy of one record of 8 bytes, of an APPEND copy, and of a scatter; and a task with a descriptor at 0x17FC0. -/
def copyBytes : List Byte := leBytes 64 (0x1000 + 0x2000 * 2 ^ 64 + 1 * 2 ^ 192 + 8 * 2 ^ 224 + 8 * 2 ^ 256 + 8 * 2 ^ 288)
def appendBytes : List Byte := leBytes 64 (0x1000 + 0x2000 * 2 ^ 64 + 1 * 2 ^ 192 + 8 * 2 ^ 224 + 2 * 2 ^ 248 + 8 * 2 ^ 256 + 8 * 2 ^ 288 + 8 * 2 ^ 320 + 0x3000 * 2 ^ 384)
def scatterBytes : List Byte := leBytes 64 (0x1000 + 0x2000 * 2 ^ 64 + 0x3000 * 2 ^ 128 + 1 * 2 ^ 192 + 8 * 2 ^ 224 + 4 * 2 ^ 248 + 8 * 2 ^ 256 + 4 * 2 ^ 320)
def tracing (bs : List Byte) (xs : List (BitVec 5 × Word)) : State := (task .a true xs).mapCore 0 (fun k => { k with mem := k.mem.writeList 0x17FC0 bs })

theorem locals_of_none {d : TracerDesc} (hs : d.slocal = false) (hd : d.dlocal = false) : tracerLocals d :=
  ⟨fun h => by simp [hs] at h, fun h => by simp [hd] at h⟩

theorem tracer_descriptors :
    tracerLocals (tracerDescOf 0 copyBytes) ∧ tracerLocals (tracerDescOf 0 (0xFF :: copyBytes.drop 1)) ∧ tracerLocals (tracerDescOf 1 copyBytes) ∧
      tracerMultiples (tracerDescOf 0 copyBytes) ∧ ¬tracerMultiples (tracerDescOf 0 (0xFF :: copyBytes.drop 1)) ∧ tracerMultiples (tracerDescOf 1 copyBytes) ∧
      (tracerDescOf 0 copyBytes).sig = false ∧ (tracerDescOf 0 appendBytes).append = true ∧ (tracerDescOf 2 scatterBytes).skip = true := by
  unfold tracerMultiples
  refine ⟨locals_of_none ?_ ?_, locals_of_none ?_ ?_, locals_of_none ?_ ?_, ?_⟩ <;> decide +kernel

theorem tracer_limits : tracerLimits (tracerDescOf 0 copyBytes) copyBytes ∧ ¬tracerLimits (tracerDescOf 1 copyBytes) copyBytes := by
  constructor
  · exact ⟨by decide +kernel, by decide +kernel, by decide +kernel, ⟨3, by decide, by decide +kernel⟩, by decide +kernel⟩
  · intro h; exact absurd h.1 (by decide +kernel)

theorem tracer_local_out_of_range : ¬tracerLocals { tracerDescOf 0 copyBytes with slocal := true, src := 0x17FF9 } := by
  intro h; have := (h.1 rfl).2.2 0 (by decide +kernel); revert this; decide +kernel

theorem witness_tracerCommands :
    (tracerCommand (.tcopy .always 15 1) .always 15 1 0 ∧ tracerCommand (.tfill .always 0 1) .always 0 1 4) ∧
    (let s := tracing copyBytes [(1, 0x17FC0)]
     s.cur = .task 0 .a ∧ Issues (.tcopy .always 15 1) s ∧ s.ctx.stage = 0 ∧ (s.reg 1).toNat + 64 ≤ 0x18000 ∧ (s.reg 1).toNat % 64 = 0 ∧ unpoisoned (s.core 0) (s.reg 1).toNat 64 ∧ settledHere s ∧
       (s.core 0).mem.readList 0x17FC0 64 = copyBytes ∧ (s.launch (s.thread 0).launch).secure = (s.cluster 0).worldTrc ∧ (s.thread 0).post = true ∧ (s.cluster 0).tracers.length < 64 ∧
       (s.cluster 0).tracerWait = [] ∧ jobRoomy (s.thread 0).jobs ∧ takesDescriptor s 1 64 copyBytes) ∧
    (let s := (tracing [] [(1, 0x17FC0)]).upd (fun k => { k with stage := 2, kept := copyBytes ++ [0] }); Issues (.tcopy .always 15 1) s ∧ takesDescriptor s 1 64 (copyBytes ++ [0])) ∧
    (let j : TracerJob := { d := tracerDescOf 0 [], th := 0, ctx := .task 0 .a, who := Member.none, walk := none, asid := 1, prev := 0, phPhase := 0, st := .running, rec0 := 0, part := 0, idx := none, base := 0,
                            reserved := false, readyDone := false, sigDone := false, sent := 0, promise := 0, suspVa := 0, susp := false, err := false, why := 0 }
     let s := (tracing copyBytes [(1, 0x17FC0)]).mapCluster 0 (fun c => { c with tracers := (List.range 64).map (fun k => (0x8001 + k, j)) }); 64 ≤ (s.cluster 0).tracers.length) ∧
    (let s := (tracing copyBytes [(1, 0x17FC0)]).upd (fun k => { k with stage := 5, keep := 96, kept := leBytes 2 0x8001 }); Issues (.tcopy .always 15 1) s ∧ s.ctx.stage = 5) := by
  unfold tracerCommand Issues takesDescriptor unpoisoned settledHere jobRoomy; refine ⟨?_, ?_, ?_, ?_, ?_⟩ <;> decide +kernel

/-- A descriptor without SIG is admitted, and one whose phaser does not count is not. -/
theorem tracer_signals : tracerSignals (tracing copyBytes []) 0 (tracerDescOf 0 copyBytes) ∧ ¬tracerSignals (tracing copyBytes []) 0 { tracerDescOf 0 copyBytes with sig := true } := by
  constructor
  · intro h; exact absurd h (by decide +kernel)
  · intro h
    obtain ⟨p, hp, -⟩ := h rfl
    have := hp.2.2.2.2.2.2.1 (by decide +kernel)
    have e : ((tracing copyBytes []).sheet ((BitVec.ofNat 64 ({ tracerDescOf 0 copyBytes with sig := true } : TracerDesc).phaser).toNat / 2 ^ 25)).phasers.get?
      ((BitVec.ofNat 64 ({ tracerDescOf 0 copyBytes with sig := true } : TracerDesc).phaser).toNat % 4096) = none := by decide +kernel
    rw [e] at this; cases this

/-- The task with one job in its table. -/
def withEntry (done : Bool) (utvec : Word) (xs : List (BitVec 5 × Word)) : State :=
  (task .a true xs).mapThread 0 (fun t => { t with utvec := utvec, jobs := [{ id := 0x8001, complete := done, status := 0, faultVa := 0 }] })

theorem witness_sleepu :
    (let s := task .a true [(1, 9), (2, 0x10000)]
     Issues (.sleepu .always 5 1 2) s ∧ s.ctx.stage = 0 ∧ s.cycle.toNat < (s.reg 1).toNat ∧ Issues (.sleepu .always 5 0 2) s ∧ (s.reg 0).toNat ≤ s.cycle.toNat ∧ 2 ^ 16 ≤ (s.reg 2).toNat ∧
       Issues (.sleepu .always 5 0 0) s ∧ Issues (.sleepu .always 5 0 1) s ∧ jobOf s 0 9 = none) ∧
    (let s := withEntry true 0 [(2, 0x8001)]; Issues (.sleepu .always 5 0 2) s ∧ (jobOf s 0 0x8001).map JobEntry.complete = some true) ∧
    (let s := withEntry false 0 [(2, 0x8001)]; Issues (.sleepu .always 5 0 2) s ∧ (jobOf s 0 0x8001).map JobEntry.complete = some false ∧ (s.thread 0).utvec = 0) ∧
    (let s := withEntry false 0x2000 [(2, 0x8001)]; Issues (.sleepu .always 5 0 2) s ∧ (s.thread 0).utvec ≠ 0 ∧ (s.thread 0).follow = none) ∧
    (let s := ((withEntry false 0x2000 [(2, 0x8001)]).mapThread 0 (fun t => { t with follow := some 8 })).mapSheet 0 (fun h => { h with evhead := 128 })
     Issues (.sleepu .always 5 0 2) s ∧ (s.thread 0).utvec ≠ 0 ∧ (s.thread 0).follow ≠ none ∧ s.ringBlocked (sheetOfThread 0) = true) ∧
    (let s := (task .a true []).upd (fun k => { k with kept := [1] }); Issues (.sleepu .always 5 0 2) s ∧ s.ctx.kept = [1] ∧ (∀ j, j < 0 → jobOf s 0 j = none)) ∧
    (let s := (task .a true []).upd (fun k => { k with stage := 1 }); Issues (.sleepu .always 5 0 2) s) ∧
    (∀ b ∈ [0, 1], let s := (task .a true [(1, 9)]).upd (fun k => { k with wait := some (Wait.plain (.cycle 9)), kept := [b], buf := [(encode (.sleepu .always 5 1 0)).getD 0] })
     let s := { s with cycle := 9 }
     s.ctx.wait.map Wait.cond = some (.cycle (s.reg 1).toNat) ∧ s.ready s.cur = true ∧ s.ctx.kept = [b] ∧ decode (s.ctx.buf.headD 0) = .ok (.sleepu .always 5 1 0) ∧ jobOf s 0 (s.reg 0).toNat = none) := by
  unfold Issues; refine ⟨?_, ?_, ?_, ?_, ?_, ?_, ?_, ?_⟩ <;> decide +kernel

/-- A tracer job of a descriptor on cluster 0, whose pages are mapped. -/
def tjob (st : TracerState) (d : TracerDesc) : TracerJob :=
  { d := d, th := 0, ctx := .task 0 .a, who := Member.none, walk := none, asid := 1, prev := 0, phPhase := 0, st := st, rec0 := 0, part := 0, idx := none, base := 0, reserved := false, readyDone := false,
    sigDone := false, sent := 0, promise := 0, suspVa := 0, susp := false, err := false, why := 0 }
def withTracer (j : TracerJob) (q : List Nat) : State :=
  (mapped .a true [] [(0, leafAt 0x50000 0)]).mapCluster 0 (fun c => { c with tracers := [(0x8001, j)], tracerQ := q })

/-- What the statements ask of the reads and translations of a copy's record. -/
def copies (s : State) (j : TracerJob) (src dst : Nat) : Bool :=
  match s.engineSpan 0 j.asid src 8 (s.cluster 0).worldTrc none with
  | (.ok bs, u) => decide (bs.length = 8) && (match u.translate 0 j.asid dst .store (u.cluster 0).worldTrc with | (.page _ pa, v) => !v.moving pa | _ => false)
  | _ => false

theorem witness_tracerJobs :
    (let s := (task .a true []).upd (fun k => { k with kept := copyBytes ++ [0] }) |>.mapCluster 0 (fun c => { c with tracerWait := [.task 8 .c, .task 0 .a, .handler 1 0], tracerLast := 7 })
     let turn := fun (c : CtxId) => (s.threadOf c / 8 % 8 + 7 - (s.cluster 0).tracerLast) % 8
     (s.cluster 0).tracerWait = [.task 8 .c] ++ .task 0 .a :: [.handler 1 0] ∧ jobRoomy (s.thread 0).jobs ∧ turn (.task 0 .a) < turn (.task 8 .c) ∧ turn (.task 0 .a) ≤ turn (.handler 1 0) ∧ (s.cluster 0).tracers.length < 64 ∧ (s.ctxOf (.task 0 .a)).kept.length = 65) ∧
    (let j := tjob .queued (tracerDescOf 0 copyBytes); let s := withTracer j [0x8001]
     s.tracer? 0 0x8001 = some j ∧ 2 ∉ (s.cluster 0).engineHeld ∧ (s.cluster 0).tracerQ = [0x8001] ∧ j.d.after = false ∧ j.d.append = false ∧
       ((s.cluster 0).tracers.filter (fun x => decide (x.2.st ≠ .queued))).length < 4) ∧
    (let j := tjob .queued (tracerDescOf 0 appendBytes); let s := withTracer j [0x8001]
     j.d.append = true ∧ (match s.translate 0 1 j.d.tail.toNat .store (s.cluster 0).worldTrc with
       | (.page _ pa, u) => !u.moving pa && !u.poisoned pa 8 && decide (u.homeNat pa 8 + j.d.count * j.d.size ≤ j.d.limit)
       | _ => false) = true) ∧
    (let j := tjob .queued { tracerDescOf 0 appendBytes with limit := 7 }; let s := withTracer j [0x8001]
     (match s.translate 0 1 j.d.tail.toNat .store (s.cluster 0).worldTrc with | (.page _ pa, u) => !u.moving pa && !u.poisoned pa 8 && decide (j.d.limit < u.homeNat pa 8 + j.d.count * j.d.size) | _ => false) = true) ∧
    (let j := tjob .running (tracerDescOf 0 copyBytes); let s := withTracer j []
     j.err = false ∧ j.rec0 < j.d.count ∧ j.part = 0 ∧ j.d.slocal = false ∧ j.d.dlocal = false ∧ j.d.fn ≤ 4 ∧ j.d.size ≤ 4096 ∧ j.d.append = false ∧ copies s j 0x1000 0x2000 = true) ∧
    (let j := { tjob .running (tracerDescOf 2 scatterBytes) with idx := some 3 }; let s := withTracer j []; j.d.fn ∈ [1, 2, 3] ∧ j.d.skip = true ∧ copies s j 0x1000 0x2018 = true) ∧
    (let j := tjob .running { tracerDescOf 4 [] with count := 1, size := 4096, dlocal := true, dst := 0x20000 }; let s := withTracer { j with part := 3 } []
     j.d.fn = 4 ∧ 256 * 3 - 0x20000 % 256 < j.d.size ∧ (s.core (0 * 8 + 0x20000 / 2 ^ 17 % 8)).retired = false ∧ (s.core (0 * 8 + 0x20000 / 2 ^ 17 % 8)).frozen = false) ∧
    (let j := tjob .running (tracerDescOf 2 scatterBytes); let s := { withTracer j [] with mem := Memory.writeList [] 0x53000 [4] }
     j.idx = none ∧ (match s.engineSpan 0 1 0x3000 4 (s.cluster 0).worldTrc none with | (.ok bs, _) => decide (j.d.limit ≤ leNat bs ∧ leNat bs ≠ 0xFFFFFFFF) | _ => false) = true) ∧
    (let j := tjob .running (tracerDescOf 2 scatterBytes); let s := { withTracer j [] with mem := Memory.writeList [] 0x53000 [255, 255, 255, 255] }
     (match s.engineSpan 0 1 0x3000 4 (s.cluster 0).worldTrc none with | (.ok bs, _) => decide (leNat bs = 0xFFFFFFFF) | _ => false) = true) := by
  unfold jobRoomy; refine ⟨?_, ?_, ?_, ?_, ?_, ?_, ?_, ?_, ?_⟩ <;> decide +kernel

theorem witness_tracerEnds :
    (let j := tjob .running { tracerDescOf 0 copyBytes with src := 0x20000 }; let s := withTracer j []
     (match s.engineSpan 0 1 0x20000 8 (s.cluster 0).worldTrc none with | (.error (va, some 6), _) => decide (va = 0x20000) | _ => false) = true) ∧
    (let j := { tjob .running { tracerDescOf 0 appendBytes with sig := true } with rec0 := 1 }; let s := withTracer j []
     j.d.count ≤ j.rec0 ∧ j.sigDone = false ∧ j.readyDone = false ∧ s.phaserAt j.d.phaser = none ∧ (match s.translate 0 1 (j.d.tail.toNat + 8) .store (s.cluster 0).worldTrc with | (.page _ pa, u) => !u.moving pa && !u.poisoned pa 8 | _ => false) = true) ∧
    (let j := { tjob .running (tracerDescOf 0 copyBytes) with rec0 := 1 }; j.d.count ≤ j.rec0 ∧ j.walk = none ∧ j.why < 4 ∧ j.rec0 < 2 ^ 32) ∧
    (let s := (withTracer (tjob .running (tracerDescOf 0 copyBytes)) []).mapThread 0 (fun t => { t with jobs := [{ id := 0x8001, complete := false, status := 0, faultVa := 0 }] })
     (jobOf s 0 0x8001).isSome = true) := by decide +kernel

/-- A phaser of the task's launch on sheet 0 with two members, and the task with it at index 5. -/
def phaser0 (counting : Bool) (ms : List (Nat × Nat × BitVec 32)) (sg : List (Nat × BitVec 32)) : Phaser :=
  { live := true, gen := 0, scope := 3, counting := counting, launch := 0, phase := 7, members := ms, signalled := sg, sums := [], deliveries := [], broken := false }
def phased (post : Bool) (p : Phaser) (xs : List (BitVec 5 × Word)) : State := (task .c post xs).mapSheet 0 (fun h => { h with phasers := [(5, p)] })

/-- That phaser at its next phase. -/
def phaser8 : Phaser := { phaser0 false [(0, 3, 8)] [] with phase := 8 }

/-- A phaser that still expects a signal stands. -/
theorem stands {p : Phaser} {m : Nat} (n : Nat) (h : expectedNow p m) (hs : (m, p.phase) ∉ p.signalled) : settlesIn (n + 1) p p :=
  ⟨fun ha => absurd (ha.1 m h) hs, fun ha => absurd (ha.1 m h) hs, fun _ => rfl⟩

/-- After the one member's signal the phase advances, and stands. -/
theorem advances : settlesIn 4 (signalled (phaser0 false [(0, 3, 7)] []) 0 7 0) (phaser8) := by
  have hn : nextPhase (signalled (phaser0 false [(0, 3, 7)] []) 0 7 0) = phaser8 := by decide +kernel
  have hc : ¬(signalled (phaser0 false [(0, 3, 7)] []) 0 7 0).counting = true := by decide +kernel
  have he : expectedNow (phaser8) 0 := ⟨_, List.mem_singleton.mpr rfl, by decide +kernel⟩ 
  have ha : allSignalled (signalled (phaser0 false [(0, 3, 7)] []) 0 7 0) := by
    rintro m ⟨e, hm, rfl, -⟩
    rw [List.mem_singleton.mp hm]
    decide +kernel
  refine ⟨fun _ => ⟨fun h => absurd he (hn ▸ h 0), fun _ => ?_⟩, fun h => absurd h.2.1 hc, fun h => absurd ⟨ha, fun h => absurd h hc⟩ h⟩
  rw [hn]; exact stands 2 he (by decide +kernel)

/-- More deliveries than the sum break a counting phaser. -/
theorem breaks : settlesIn 4 { phaser0 true [] [] with deliveries := [(7, 1)] } { phaser0 true [] [] with deliveries := [(7, 1)], broken := true } := by
  refine ⟨fun h => absurd (h.2 rfl) (by decide +kernel), fun _ => rfl, fun h => absurd ⟨?_, fun _ => by decide +kernel⟩ h⟩
  rintro m ⟨e, hm, -⟩; exact absurd hm (by simp [phaser0])

theorem witness_phasers :
    (let p := phaser0 false [(0, 3, 7), (1, 1, 0)] []; let s := phased true p [(1, 5), (2, 7), (3, 8), (4, 2), (6, 0x10002), (7, 0x20000)]
     s.cur = .task 0 .c ∧ liveAt s 5 p ∧ namesPhaser s 0 (s.reg 1) p ∧ Issues (.phwait .always 9 1 2) s ∧ Issues (.phwait .always 9 1 3) s ∧ s.ctx.stage = 0 ∧ s.ctx.kept = [] ∧
       p.members.get? (s.thread 0).member = some (3, 7) ∧
       (p.phase - BitVec.ofNat 32 (s.reg 2).toNat).toNat < 2 ^ 31 ∧ 2 ^ 31 ≤ (p.phase - BitVec.ofNat 32 (s.reg 3).toNat).toNat ∧ Issues (.phsig .always 9 1 0) s ∧ Issues (.phsig .always 9 1 4) s ∧
       (s.reg 0) = 0 ∧ (0, phaseOf p 0) ∉ p.signalled ∧ (s.thread 0).post = true ∧ settledHere s ∧ Issues (.phnext .always 9 1 0) s ∧ 2 ^ 31 ≤ (p.phase - (phaseOf p 0 + 1)).toNat) ∧
    (let p := phaser0 false [(0, 3, 7)] []; let s := phased true p [(1, 5)]
     liveAt s 5 p ∧ phaseOf p 0 = 7 ∧ Issues (.phnext .always 9 1 0) s ∧ ((phaser8).phase - (7 + 1)).toNat < 2 ^ 31) ∧
    (let p := phaser0 true [] []; let s := phased true p []; liveAt s 5 p ∧ p.deliveries.set 7 (p.deliveries.get 0 7 + 1) = [(7, 1)]) := by
  unfold Issues namesPhaser settledHere liveAt; refine ⟨?_, ?_, ?_⟩ <;> decide +kernel

theorem witness_signals :
    (∃ q, settlesIn 4 (signalled (phaser0 false [(0, 3, 7), (1, 1, 7)] []) 0 7 0) q ∧ q.broken = false) ∧
    signalStart (phased true (phaser0 false [(0, 3, 7)] []) [(1, 5)]) (phaser0 false [(0, 3, 7)] []) 0 0 7 ∧
    signalStart ((phased true (phaser0 false [(0, 3, 7)] []) [(1, 5)]).upd (fun k => { k with stage := 2, kept := leBytes 4 7 })) (phaser0 false [(0, 3, 7)] []) 0 0 7 ∧
    expectedNow (phaser0 false [(0, 3, 7)] []) 0 ∧ (∃ q, settlesIn 4 { phaser0 false [(0, 3, 7), (1, 1, 7)] [] with members := [(1, 1, 7)] } q) := by
  refine ⟨⟨_, stands (m := 1) 3 ⟨(1, 1, 7), by decide +kernel⟩ (by decide +kernel), by decide +kernel⟩, Or.inl ?_, Or.inr (by decide +kernel), ⟨(0, 3, 7), by decide +kernel⟩,
    _, stands (m := 1) 3 ⟨(1, 1, 7), by decide +kernel⟩ (by decide +kernel)⟩
  refine ⟨by decide +kernel, by decide +kernel, ?_, ⟨(3, 7), by decide +kernel⟩, by decide +kernel⟩
  unfold settledHere; decide +kernel

theorem witness_registrations :
    (let p := phaser0 false [(0, 3, 7), (1, 1, 0)] []; let s := phased true p [(1, 5), (2, 0x10002), (3, 0x20003), (4, 0x30001)]
     Issues (.phreg .always 9 1 2) s ∧ Issues (.phreg .always 9 1 3) s ∧ (p.members.get? ((s.reg 2).toNat % 2 ^ 16)).isNone = true ∧ (p.members.map Prod.fst).Nodup ∧ Issues (.phreg .always 9 1 4) s ∧
       (p.members.get? ((s.reg 4).toNat % 2 ^ 16)).isSome = true ∧ Issues (.phdrop .always 9 1 2) s ∧ Issues (.phdrop .always 9 1 4) s ∧ Issues (.phread .always 9 1 0) s ∧
       Issues (.phread .always 9 1 2) s ∧ Issues (.phfree .always 9 1) s ∧ (∀ c ∈ s.ctxs, c.2.wait = none) ∧ (∀ c ∈ s.clusters, c.2.tracers = [])) ∧
    (let p := phaser0 true [(0, 1, 7)] [(0, 7)]; let s := phased true p [(1, 5), (2, 1)]
     Issues (.phread .always 9 1 2) s ∧ (s.reg 2).toNat = 1 ∧ p.counting = true ∧ Issues (.phsig .always 9 1 2) s ∧ (0, phaseOf p 0) ∈ p.signalled ∧ Issues (.phwait .always 9 1 2) s) := by
  unfold Issues; decide +kernel

theorem witness_morePhasers :
    (let p := phaser0 false [(0, 2, 7)] []; let s := phased true p [(1, 5)]; Issues (.phsig .always 9 1 0) s) ∧
    (let s := (phased true (phaser0 false [(0, 3, 7)] []) [(1, 5)]).upd (fun k => { k with stage := 4, keep := 7 }); Issues (.phnext .always 9 1 0) s ∧ s.ctx.stage = 4) ∧
    (let s := phased false (phaser0 false [(0, 3, 7)] []) [(1, 5), (2, 0x10002)]; Issues (.phnew .always 9 1) s ∧ Issues (.phfree .always 9 1) s ∧ Issues (.phreg .always 9 1 2) s ∧ (s.thread 0).post = false) ∧
    (let s := task .c true [(1, 0x1000D), (2, 7), (3, 0x2000B), (4, 0x2003B)]
     Issues (.phnew .always 9 2) s ∧ (s.reg 2).toNat % 8 = 7 ∧ Issues (.phnew .always 9 4) s ∧ (s.reg 4).toNat < 2 ^ 32 ∧ (s.reg 4).toNat / 64 % 1024 = 0 ∧ (s.reg 4).toNat % 8 < 4 ∧
       (s.reg 4).toNat / 16 % 4 ≠ 0 ∧ (s.sheet s.sheetId).phasers.get? 0 = none) ∧
    (let s := phased true (phaser0 false [(0, 3, 7)] []) [(1, 0x10005)]; Issues (.phread .always 9 1 0) s ∧ (s.reg 1).toNat / 2 ^ 16 % 512 ≠ (phaser0 false [(0, 3, 7)] []).gen) ∧
    (let s := (phased true (phaser0 false [(0, 3, 7)] []) [(1, 5)]).setCtx (.task 1 .c) { running [] with wait := some { kind := 1, obj := 0, cond := .phase 5 8 } }
     Issues (.phfree .always 9 1) s ∧ (∃ c ∈ s.ctxs, c.2.wait.map Wait.cond = some (.phase 5 8))) ∧
    (let s := (phased true (phaser0 true [(0, 1, 7)] []) [(1, 5)]).mapCluster 0 (fun c => { c with tracers := [(0x8001, tjob .queued { tracerDescOf 0 [] with sig := true, phaser := 5 })] })
     Issues (.phfree .always 9 1) s ∧ (∃ c ∈ s.clusters, ∃ t ∈ c.2.tracers, t.2.d.sig = true ∧ t.2.d.phaser = 5)) := by unfold Issues; decide +kernel

/-! ## Tasks, plates, the dispatcher and lane groups -/

theorem witness_taskInstructions :
    (let s := (task .c true [(1, 0x40), (2, 31), (3, 32), (4, 0x18000), (5, 0x41), (6, 5)]).mapItem 0 1 (fun i => { i with words := [0x2000, 0x1000] })
     s.cur = .task 0 .c ∧ Issues (.targ .always 9 7) s ∧ Issues (.tself .always 9) s ∧ (s.thread 0).segment < 2 ^ 16 ∧ (s.thread 0).rank < 2 ^ 16 ∧
       1 ≤ (s.item (s.thread 0).itemSheet (s.thread 0).item).members.length ∧ Issues (.tlate .always 9) s ∧ Issues (.tshape .always 9 1 2) s ∧ (s.reg 2).toNat < 32 ∧
       Issues (.tshape .always 9 0 2) s ∧ Issues (.tshape .always 9 1 3) s ∧ 32 ≤ (s.reg 3).toNat ∧ Issues (.tshape .always 9 4 2) s ∧ 0x18000 < (s.reg 4).toNat + 64 ∧
       Issues (.tshape .always 9 5 2) s ∧ (s.reg 5).toNat % 64 ≠ 0) := by unfold Issues; decide +kernel

theorem witness_countersAndSpawn :
    (let s := task .c true [(1, 0x3FFF), (3, 0x4000), (4, 0xFFFFFFFF)]
     Issues (.tdep .always 9 1 4) s ∧ 0 < (s.reg 1).toNat ∧ (s.reg 1).toNat < 2 ^ 14 ∧ (s.thread 0).post = true ∧ settledHere s ∧ s.ctx.stage = 0 ∧ Issues (.tdep .always 9 3 4) s ∧
       2 ^ 14 ≤ (s.reg 3).toNat ∧ Issues (.tctr .always 9 1) s ∧ Issues (.tctr .always 9 0) s ∧ ((s.sheet 0).counters.get (0, false) (0, 0x3FFF)).1 < 2 ^ 31) ∧
    (let s := mapped .c true [(1, 0x1FF80), (2, 7), (3, 0x1F81)] [(0x10000, leafAt 0x50000 0)]
     Issues (.tspawn .always 9 1 2) s ∧ (s.reg 1).toNat % 128 = 0 ∧ Issues (.tspawn .always 9 3 2) s ∧ (s.reg 3).toNat % 128 ≠ 0 ∧ settledHere s ∧
       (match s.translate s.clusterId (s.asidOf s.cur) 0x1FF80 .load (s.coreSecure s.coreId) with
        | (.page _ pa, u) => !u.moving pa && !u.poisoned pa 128 && decide (pa = 0x5FF80 ∧ (u.sheet 0).pool < Config.poolSize ∧ u.ctxs = s.ctxs ∧ u.threads = s.threads ∧ u.launches = s.launches ∧ u.cur = s.cur)
        | _ => false) = true) := by unfold Issues settledHere; decide +kernel

/-- A plate of the task type whose entries are 0x1000 and 0. -/
def plate0 : Plate :=
  { entryC := 0x1000, entryA := 0, legend := 0, st := 2, vkey := 0, wgen := 0, kgen := 0, page0 := 0, page1 := 0, plv := false, selfBits := 0, args := [], guards := [], entries := [],
    spans := [(0, 1)], serial := 1, pinned := 0, prints := 0, fallbacks := 0, owner := 0, bad := false }
def plated (ps : List Plate) : State :=
  ((task .c true []).mapItem 0 1 (fun i => { i with words := [0, 0x1000, 0, 0, 0] })).mapSheet 0 (fun h => { h with plates := ps })

theorem witness_plates :
    (let s := cached true [(1, 0x1000)] [entry0] []
     Issues (.pgld .always 9 1 0) s ∧ (match s.load (s.reg 1 + s.reg 0).toNat 8 0 0 0 with | .ok bs _ => decide (bs.1.length = 8) | _ => false) = true) ∧
    (let s := plated []
     s.reg 0 = 0 ∧ (s.thread 0).recd = none ∧ Issues (.pstat .always 9 0) s ∧ Issues (.pdrop .always 9 0) s ∧ Issues (.pnorec .always 9 0) s ∧
       (s.sheet 0).plates.filter (fun p => decide (p.entryC = 0x1000 ∧ p.entryA = 0 ∧ p.legend = 0 ∧ p.st ≠ 3)) = []) ∧
    (let s := plated [plate0]
     Issues (.pstat .always 9 0) s ∧ Issues (.pdrop .always 9 0) s ∧ Issues (.pnorec .always 9 0) s ∧
       (s.sheet 0).plates.filter (fun p => decide (p.entryC = 0x1000 ∧ p.entryA = 0 ∧ p.legend = 0 ∧ p.st ≠ 3)) = [plate0] ∧ plate0.st = 2) := by unfold Issues; decide +kernel

/-- A legend whose rectangle is the module and which has no level, a launch with it, and an item at entry 0x1000 with n = 8. -/
def legend0 : List Byte := leBytes 128 (8 * 2 ^ 48 + 4 * 2 ^ 64)
def item0 : List Word := [0, 0x1000, 0, 0, 8 * 2 ^ 32, 0, 0, 0, 0, 0, 0, 0, 0, 0, 0, 0]
def launched : State := { task .c true [] with launches := [(0, { launch0 with legends := [legend0] })] }
def submitted (ws : List Word) : State := launched.mapSheet 0 (fun h => { h with intakeQ := [{ Submission.ofVa 0 0 with words := ws }], nextItem := 2 })
def itemOfTest (ws : List Word) : Item := ({ Submission.ofVa 0 0 with words := ws } : Submission).item ws 2

/-- Intake takes an item, or waits for a page of its shape that moves, or for room. -/
theorem witness_intakes :
    (let s := launched.upd (fun k => { k with stage := 4, kept := (List.range 16).flatMap (fun k => leBytes 8 ((item0.getD k 0).toNat)) })
     Issues (.tspawn .always 9 0 2) s ∧ s.ctx.stage = 4 ∧ (s.reg 0).toNat % 128 = 0 ∧ (s.thread 0).post = true ∧
       (match s.intake 0 { Submission.ofVa 0 0 with words := item0 } with | (.ok c, _) => decide (c = 0) | _ => false) = true) ∧
    (let s := ({ launched with mem := tables.mem }).mapSheet 0 (fun h => { h with asidtab := 0x8001, moves := [(0x50000, 0x90000)] })
     (match s.intake 0 { Submission.ofVa 0 0 with words := item0.set 3 0x1000 } with | (.error .retry, _) => true | _ => false) = true) ∧
    (let s := (task .c true []).mapSheet 0 (fun h => { h with items := List.replicate 8192 (1, { Item.none with st := .ready }) }); Config.poolSize ≤ (s.sheet 0).pool) ∧
    (∀ h ∈ launched.sheets, h.2.moves = [] ∧ h.2.pool < Config.poolSize) := by
  unfold Issues; refine ⟨?_, ?_, ?_, ?_⟩ <;> decide +kernel

theorem witness_intake :
    (let s := submitted (List.replicate 16 0); (s.sheet 0).lost = false ∧ (s.sheet 0).intakeQ.length = 1 ∧ (s.sheet 0).pool < Config.poolSize ∧ (itemOfTest (List.replicate 16 0)).entryC = 0) ∧
    (let s := submitted item0; let it := itemOfTest item0
     s.itemFinding it = none ∧ it.shapeVa = 0 ∧ legendCovers (s.legendOf it) 0 = true ∧ it.team (s.legendOf it) = [(0, 0xFFFF, 0)] ∧ it.pin = none ∧ it.member + 1 ≤ 2 ^ 16) := by decide +kernel

theorem witness_dispatcher :
    (let s := task .c true []; ∀ p ∈ (s.sheet 0).items, p.2.st ≠ .ready) ∧
    (let it := { itemOfTest (item0.set 2 5) with st := .ready, members := [(0, 0xFFFF, 0)] }
     let s := { launched.mapSheet 0 (fun h => { h with items := [(1, it)] }) with cycle := 6 }
     (s.sheet 0).items.map Prod.fst = [1] ∧ 0 ∉ (s.launch it.launch).drained ∧ legendCovers (s.legendOf it) 3 = true ∧ 3 ∉ (s.launch it.launch).drained ∧ it.late = 0 ∧ it.deadline ≠ 0 ∧ it.deadline.toNat < s.cycle.toNat ∧ it.ended = []) ∧
    (let s := launched.mapThread 0 (fun t => { t with st := .placing })
     (s.thread 0).st = .placing ∧ s.drained (.task 0 .c) = false ∧ (match s.readVa 0 1 0 0 true with | (.ok bs, v) => decide (bs = []) && (v.core 0).mem.wf | _ => false) = true) ∧
    (let s := (launched.mapThread 0 (fun t => { t with st := .placing })).mapItem 0 1 (fun i => { i with words := [0, 0x1000, 0, 0, 0, 0, 0x2000, 8] })
     (match s.copyFault 0 with | some x => decide (x.1 = 6) | none => false) = true ∧ (match s.readVa 0 1 0x2000 8 true with | (.error (some _), _) => true | _ => false) = true ∧
       s.ringBlocked 0 = false ∧ (s.item 0 1).gang = false ∧ s.follows (s.item 0 1) = false ∧ (s.item 0 1).st ≠ .final ∧ (s.item 0 1).holds = [] ∧ (s.item 0 1).members = [(0, 0, 1)] ∧
       (s.item 0 1).ended = []) ∧
    (let s := (task .c true []).mapThread 0 (fun t => { t with st := .ending })
     (s.thread 0).st = .ending ∧ s.aIdle 0 = true ∧ s.jobsDone 0 = true ∧ (∀ e ∈ (s.core 0).l1, e.dirty = 0) ∧ s.net = [] ∧ (s.item 0 1).st ≠ .final ∧ (s.item 0 1).tile = none ∧
       (s.item 0 1).ended.length + 1 = (s.item 0 1).members.length) := by decide +kernel

theorem witness_ticks :
    (let s := { task .c true [] with cycle := 0x10000 }
     (s.sheet 0).gov < s.cycle.toNat / 1024 ∧ (s.sheet 0).swept < s.cycle.toNat / 2 ^ 16 ∧ (∀ st < 16, s.stageReady 0 st ≤ bitsAt ((s.sheet 0).stqcfg.get 0 st) 57 44) ∧
       s.moving (s.sheet 0).deadlockArea = false ∧ s.launches.find? (fun p => decide (p.2.live = true ∧ p.2.origin = 0 ∧ p.2.drained = [])) = some (0, launch0) ∧ s.atRest 0 = false ∧ (s.sheet 0).quiet = 0) ∧
    (let s := { State.reset with cycle := 0x10000, launches := [(0, launch0)] }
     s.atRest 0 = true ∧ (s.sheet 0).quiet = 0 ∧ (∀ l ∈ s.launches, l.2.live = true → l.2.origin = 1 → l.2.drained ≠ [])) ∧
    (let s := (task .c true []).upd (fun k => { k with words := 65536 }); s.ready (.task 0 .c) = true ∧ (s.thread 0).post = true ∧ 65536 ≤ (s.ctxOf (.task 0 .c)).words) ∧
    (let e : PEntry := { typ := 3, side := .a, insn := 0, arg := 0, words := [], marks := [] }
     let p : Printing := { serial := 1, args := [], entries := [e], next := 0, cmds := 1, jobs := [0] }
     let s := (task .c true []).mapThread 0 (fun t => { t with print := some p })
     (s.thread 0).print = some p ∧ (s.thread 0).st = .post ∧ (s.core 0).frozen = false ∧ (s.ctxOf (.task 0 .c)).wait = none ∧ s.drained (.task 0 .c) = false ∧ (s.sheet 0).plates = [] ∧
       p.entries[p.next]? = some e ∧ p.jobs.getD e.arg 0 = 0) := by decide +kernel

/-- The task with edge 0 in a state. -/
def edged (e : Edge) (xs : List (BitVec 5 × Word)) : State := { task .c true xs with edges := [(0, e)] }

theorem witness_laneTurns :
    (let s := edged Edge.init [(1, 0), (2, 2), (3, 31), (4, 124), (5, 30), (6, 0x20001)]
     s.cur = .task 0 .c ∧ edgeNamed (s.reg 1) = some (0, 0, 1) ∧ edgeNamed (s.reg 4) = none ∧ Issues (.lturn .always 9 1 2) s ∧ (s.reg 2).toNat = 2 ∧ Issues (.lturn .always 9 1 3) s ∧
       30 < (s.reg 3).toNat ∧ s.ctx.stage ≠ 1 ∧ Issues (.lturn .always 9 4 2) s ∧ Issues (.lstat .always 9 4 2) s ∧ Issues (.lquiet .always 9 4) s ∧ (s.thread 0).post = true ∧ coversEdge s 0 (0, 0, 1) = true ∧
       (s.launch (s.thread 0).launch).secure = (s.edge 0).world ∧ Issues (.lturn .always 9 1 5) s ∧ (s.reg 5).toNat + (s.edge 0).retired + 2 ≤ 32 ∧ (s.edge 0).queue = [] ∧ (s.reg 5).toNat ≠ (s.edge 0).pos ∧
       Issues (.lstat .always 9 1 0) s ∧ (s.edge 0).pos < 32 ∧ (s.reg 0) = 0 ∧ Issues (.lstat .always 9 1 6) s ∧ (s.reg 6).toNat / 2 ^ 16 % 128 ≠ 0 ∧ Issues (.lquiet .always 9 1) s) ∧
    (let s := edged { Edge.init with retired := 1, queue := List.replicate 8 (5, 1) } [(2, 30), (3, 29)]
     Issues (.lturn .always 9 1 2) s ∧ 32 < (s.reg 2).toNat + (s.edge 0).retired + 2 ∧ Issues (.lturn .always 9 1 3) s ∧ 8 ≤ (s.edge 0).queue.length ∧ Issues (.lquiet .always 9 1) s ∧
       (s.edge 0).queue.getLast? = some (5, 1)) ∧
    (let s := { edged Edge.init [(2, 5)] with launches := [(0, { launch0 with w := 1, h := 1 })] }; Issues (.lturn .always 9 1 2) s ∧ coversEdge s 0 (0, 0, 1) = false) ∧
    (let s := edged { Edge.init with world := false } [(2, 5)]; Issues (.lturn .always 9 1 2) s ∧ s.ctx.stage ≠ 1 ∧ (s.launch (s.thread 0).launch).secure ≠ (s.edge 0).world) ∧
    (let s := (edged Edge.init [(2, 5)]).upd (fun k => { k with stage := 1 }); Issues (.lturn .always 9 1 2) s ∧ s.ctx.stage = 1 ∧ (s.edge 0).queue.length < 8) := by
  unfold Issues; refine ⟨?_, ?_, ?_, ?_, ?_⟩ <;> decide +kernel

theorem witness_edges :
    (let e := (edged { Edge.init with left := 1, leftPos := true } []).edge 0
     0 < e.left ∧ e.dark.length < 4 ∧ (e.starts.filter (fun t => decide (0 < t + 7000))).length < 16 ∧ 3 ≤ (if e.leftPos then e.neg else e.pos)) ∧
    (let s := { edged { Edge.init with left := 1, dark := [(34, true)] } [] with cycle := 34 }; (s.edge 0).dark = [(34, true)] ∧ 34 ≤ s.cycle.toNat ∧ (s.edge 0).left ≠ 0 ∧ s.ringBlocked 0 = false) ∧
    (31 ∉ (task .c true []).meridian ∧ 31 ∈ ({ task .c true [] with meridian := [31] } : State).meridian) ∧
    (let s := { task .c true [] with edges := [(0, { Edge.init with neg := 1 }), (1, { Edge.init with neg := 1 })] }
     (s.sheet 0).lost = false ∧ edgeNamed 0 = some (0, 0, 1) ∧ edgeNamed 1 = some (1, 0, 8) ∧ edgeNamed 2 = none ∧ edgeNamed 3 = none ∧ (s.edge 0).neg < 2 ∧ (s.edge 1).neg < 2) := by decide +kernel

/-! ## The Compass and layer transactions -/

/-- A descriptor of a transaction whose participant is rank 0, with 16 tiles at most; the transaction at INDEX 3 of sheet 0, and the task beside it. -/
def lxBytes : List Byte := leBytes 64 (1 + 0x2000 * 2 ^ 64 + 0x1000 * 2 ^ 128 + 0x100 * 2 ^ 192 + 16 * 2 ^ 384 + 1 * 2 ^ 416 + 1 * 2 ^ 432)
def lx0 (st : Nat) : Lx := { Lx.none with live := true, gen := 1, desc := lxBytes, st := st }
def transacting (l : List (Nat × Lx)) (xs : List (BitVec 5 × Word)) : State := (task .c true xs).mapSheet 0 (fun h => { h with lxs := l })
def fullInbox (s : State) : State := s.mapSheet 0 (fun h => { h with compass := { h.compass with inhead := 64 } })

theorem legal_transaction : legalTransaction lxBytes ∧ ¬legalTransaction [] := by
  constructor
  · unfold legalTransaction; decide +kernel
  · intro h; exact absurd h.1 (by decide +kernel)

theorem witness_compassPushes :
    (let s := transacting [(3, lx0 1)] [(2, 0x10003), (3, 1), (4, 2)]
     s.selected .always = true ∧ Issues (.gpush .always 9 1 2) s ∧ s.isPost s.cur = true ∧ s.shape.ty ∈ [0, 1, 2] ∧ namesTransaction s (s.launchOf s.cur) 0x10003 (lx0 1) ∧
       participates s (lx0 1) 0 0 ∧ ((s.sheet 0).compass.inhead - (s.sheet 0).compass.intail).toNat < 64 ∧ settledHere s ∧ s.ctx.stage = 0 ∧ (s.sheet 0).compass.pad.wf = true ∧
       Issues (.rpop .always 3 0) s ∧ Issues (.rpop .always 15 3) s ∧ Issues (.rpop .always 0 4) s ∧ (s.sheet 0).compass.popq = [] ∧ (s.reg 0).toNat = 0) := by
  unfold Issues namesTransaction participates settledHere; decide +kernel

theorem witness_compassWaits :
    (let s := fullInbox (transacting [(3, lx0 1)] [(2, 0x10003)]); Issues (.gpush .always 9 1 2) s ∧ 64 ≤ ((s.sheet 0).compass.inhead - (s.sheet 0).compass.intail).toNat) ∧
    (let s := transacting [(3, lx0 2)] [(2, 0x10003)]; Issues (.gpush .always 9 1 2) s ∧ (lx0 2).st ≠ 1) ∧
    (let s := (transacting [] []).upd (fun k => { k with vshape := 0x7F8 }); Issues (.gpush .always 9 1 2) s ∧ s.shape.ty ∉ [0, 1, 2]) ∧
    (let s := (transacting [] []).mapSheet 0 (fun h => { h with compass := { h.compass with popq := [(5, 6)] } }); Issues (.rpop .always 3 0) s ∧ (s.sheet 0).compass.popq = [(5, 6)]) ∧
    (let s := task .c false []; Issues (.gpush .always 9 1 2) s ∧ Issues (.rpop .always 3 0) s ∧ Issues (.lxbegin .always 9 1) s ∧ Issues (.lxend .always 9 1) s ∧ s.isPost s.cur = false) := by
  unfold Issues; decide +kernel

theorem witness_transactions :
    (let s := { mapped .c true [(1, 0x1000), (2, 0x1001)] [(0, leafAt 0x50000 0)] with mem := Memory.writeList [] 0x51000 lxBytes }
     Issues (.lxbegin .always 9 1) s ∧ (s.reg 1).toNat % 64 = 0 ∧ Issues (.lxbegin .always 9 2) s ∧ (s.reg 2).toNat % 64 ≠ 0 ∧
       (match s.spawnBytes (s.reg 1) 64 with
        | .ok bs u => decide (bs = lxBytes ∧ u.sheetId = 0 ∧ u.cur = s.cur ∧ u.launches = s.launches ∧ u.threads = s.threads ∧ u.reg 1 = s.reg 1 ∧ (u.lx 0 0).live = false)
        | _ => false) = true) := by
  unfold Issues; decide +kernel

theorem witness_acknowledgedTransactions :
    (let s := transacting [(3, lx0 1)] [(1, 0x10003), (2, 0x3)]
     Issues (.lxack .always 9 1 0) s ∧ Issues (.lxstat .always 9 1) s ∧ Issues (.lxack .always 9 2 0) s ∧ s.ctx.stage = 0 ∧ namesTransaction s (s.launchOf s.cur) (s.reg 1).toNat (lx0 1) ∧
       settledHere s ∧ (s.item 0 1).tile ≠ some (s.reg 1).toNat ∧ (lx0 1).ends.length < 2 ^ 8 ∧ Issues (.lxend .always 9 1) s ∧ participates s (lx0 1) 0 0 ∧ 0 ∉ (lx0 1).ends ∧ (lx0 1).st < 5 ∧
       (s.sheet 0).compass.pad.wf = true) := by
  unfold Issues namesTransaction participates settledHere; decide +kernel

theorem witness_endedTransactions :
    (let s := (transacting [(3, lx0 1)] [(1, 0x10003), (2, 7)]).mapItem 0 1 (fun i => { i with tile := some 0x10003 })
     Issues (.lxack .always 9 1 0) s ∧ Issues (.lxack .always 9 1 2) s ∧ (s.item 0 1).tile = some (s.reg 1).toNat ∧ (s.item 0 1).acked = false ∧ s.reg 2 ≠ 0 ∧ s.reg 0 = 0) ∧
    (let s := (transacting [(3, lx0 5)] [(1, 0x10003)]).mapItem 0 1 (fun i => { i with tile := some 0x10003 })
     Issues (.lxack .always 9 1 0) s ∧ (lx0 5).st ≠ 1 ∧ Issues (.lxend .always 9 1) s ∧ 5 ≤ (lx0 5).st) ∧
    (let s := fullInbox (transacting [(3, lx0 1)] [(1, 0x10003)]); Issues (.lxend .always 9 1) s ∧ 64 ≤ ((s.sheet 0).compass.inhead - (s.sheet 0).compass.intail).toNat) ∧
    (let s := transacting [(3, { lx0 1 with ends := [0] })] [(1, 0x10003)]; Issues (.lxend .always 9 1) s ∧ 0 ∈ ({ lx0 1 with ends := [0] } : Lx).ends) ∧
    (let t := { lx0 4 with desc := leBytes 64 (leNat lxBytes + 0x3000 * 2 ^ 320), why := 1 }
     let s := transacting [(3, t)] []; s.lx 0 3 = t ∧ t.live = true ∧ t.st = 4 ∧ leAt t.desc 0x37 1 < 3 ∧ leAt t.desc 0x28 8 ≠ 0) ∧
    (let s := transacting [(3, lx0 4)] []; s.lx 0 3 = lx0 4 ∧ leAt (lx0 4).desc 0x28 8 = 0 ∧ s.ringBlocked 0 = false) := by
  unfold Issues; refine ⟨?_, ?_, ?_, ?_, ?_, ?_⟩ <;> decide +kernel

/-- The placement table puts expert 0 on rank 0, in a page of the tables. -/
def placing (st : Nat) : State := tables.mapSheet 0 (fun h => { h with lxs := [(3, lx0 st)], compass := { h.compass with pop0 := some 5 } })

/-- A Compass that runs, with SUB x5, x6, x7 at address 0 of its scratchpad. -/
def compassAt0 : State := (task .c true []).mapSheet 0 (fun h => { h with compass := { h.compass with halted := false, pad := Memory.writeList [] 0 (leBytes 4 0x407302B3) } })

theorem witness_compassRuns :
    ((compassAt0.sheet 0).compass.halted = false ∧ 0x40000000 + 7 * 2 ^ 20 + 6 * 2 ^ 15 + 5 * 2 ^ 7 + 0x33 = 0x407302B3 ∧ ((task .c true []).sheet 0).compass.halted = true) ∧
    compassAt0.cpFetch 0 = .ok (0x407302B3, 4) compassAt0 := ⟨by decide +kernel, by rfl⟩

theorem witness_compassWrites :
    (let s := placing 1
     (0 : Nat) < 32 ∧ s.launchHolding 0 ≠ none ∧ s.lxNamed 0 2 = none ∧ s.lxNamed 0 3 = some (0x10003, lx0 1) ∧ lx0 1 = s.lx (lxHome 0x10003) (0x10003 % 4096) ∧ participates s (lx0 1) 0 0 ∧
       (lx0 1).st = 1 ∧ leAt (lx0 1).desc 0x30 4 ≤ bitsAt (16 * 2 ^ 20 + 3) 43 20 ∧ bitsAt (15 * 2 ^ 20 + 3) 43 20 < leAt (lx0 1).desc 0x30 4 ∧ (match s.expertSheet 0 (lx0 1) (bitsAt (15 * 2 ^ 20 + 3) 19 8) with | (.ok (some x), _) => decide (x = 0) | _ => false) = true ∧
       (s.sheet 0).compass.pop0 = some 5 ∧ (s.sheet 0).compass.popq.length < 256) ∧
    (let s := placing 2; s.lxNamed 0 3 = some (0x10003, lx0 2) ∧ (lx0 2).st ≠ 1 ∧ (s.lx 0 3).live = true ∧ (s.lx 0 3).st = 2) := by unfold participates; decide +kernel

/-! ## The surveyor -/

theorem witness_invalidations :
    (let s := surveyor [(1, 0x1000), (2, 0x08C001), (3, 0x00001), (4, 0x20000)]
     s.cur = .surveyor 0 0 ∧ s.selected .always = true ∧ Issues (.tlbinv .always 9 1 2) s ∧ Issues (.tlbinv .always 9 1 3) s ∧ ¬legalInvalidation (s.reg 1).toNat (s.reg 3).toNat ∧
       Issues (.tlbinv .always 9 1 4) s ∧ legalInvalidation (s.reg 1).toNat (s.reg 4).toNat ∧ (s.reg 4).toNat / 2 ^ 16 % 8 = 2 ∧ s.ctx.stage = 0 ∧ s.net = [] ∧ (s.clusters.map Prod.fst).Nodup ∧
       (∀ c ∈ s.cores, c.2.spec = [] ∧ ∀ e ∈ c.2.l1, e.dirty = 0)) ∧
    (let s := { surveyor [(1, 0x1000), (4, 0x20000)] with net := [(3, { packet0 (.write 1 1) with origin := .side (.surveyor 0 0) })] }
     Issues (.tlbinv .always 9 1 4) s ∧ (∃ p ∈ s.net, p.2.origin = .side s.cur)) ∧
    (let s := (surveyor [(1, 0x1000), (4, 0x20001)]).upd (fun k => { k with stage := 1 })
     let s := s.setCtx (.task 0 .c) { running [] with wait := some (Wait.plain (.page 0x1234)) }
     Issues (.tlbinv .always 9 1 4) s ∧ legalInvalidation (s.reg 1).toNat (s.reg 4).toNat ∧ s.ctx.stage = 1 ∧ coversAddress (s.reg 1).toNat (s.reg 4).toNat (s.asidOf (.task 0 .c)) 0x1234 ∧
       inScope 0 (s.reg 4).toNat 0) ∧
    (let p := { packet0 (.write 1 1) with origin := .core 0, nacked := some 0, held := true }
     let s := { (surveyor [(1, 0), (4, 0x20001)]).upd (fun k => { k with stage := 1 }) with net := [(3, p)] }
     legalInvalidation (s.reg 1).toNat (s.reg 4).toNat ∧ (3, p) ∈ s.net ∧ p.held = true ∧ inScope 0 (s.reg 4).toNat (s.entryOf p.origin).1 ∧
       coversAddress (s.reg 1).toNat (s.reg 4).toNat p.asid (p.va * 256)) := by
  unfold Issues legalInvalidation coversAddress inScope; refine ⟨?_, ?_, ?_, ?_⟩ <;> decide +kernel

theorem witness_pageMoves :
    (let s := surveyor [(1, 0x10000), (2, 0x20000), (3, 0x20001), (4, 2), (5, 0x10001), (6, 0x10000)]
     Issues (.pgmove .always 9 1 2) s ∧ Issues (.pgmove .always 9 1 3) s ∧ Issues (.pgmove .always 9 1 4) s ∧ Issues (.pgmove .always 9 5 2) s ∧ Issues (.pgmove .always 9 1 6) s ∧
       (s.reg 4).toNat % 2 ^ 16 = 2 ∧ (s.reg 5).toNat % 2 ^ 16 ≠ 0 ∧ (∀ h ∈ s.sheets, h.2.windows = []) ∧ (s.sheets.flatMap (fun h => h.2.moves)) = [] ∧ s.mem.wf = true ∧
       ((s.reg 6).toNat / 2 ^ 16 * 2 ^ 16 = (s.reg 1).toNat)) ∧
    (let s := (surveyor [(1, 0x10000), (2, 0x20000), (3, 0x20001), (4, 0x30000)]).mapSheet 0 (fun h => { h with moves := [(0x10000, 0x20000)] })
     Issues (.pgmove .always 9 1 2) s ∧ (s.reg 1).toNat ∈ (s.sheets.flatMap (fun h => h.2.moves)).map Prod.fst ∧ Issues (.pgmove .always 9 1 3) s ∧ Issues (.pgmove .always 9 4 2) s ∧
       (s.reg 4).toNat ∉ (s.sheets.flatMap (fun h => h.2.moves)).map Prod.fst ∧ (∀ h ∈ s.sheets, h.2.evWait = [])) ∧
    (let s := (surveyor [(1, 0x10000), (2, 0x20000)]).mapSheet 0 (fun h => { h with moves := (List.range 8).map (fun k => ((k + 8) * 0x10000, (k + 20) * 0x10000)) })
     Issues (.pgmove .always 9 1 2) s ∧ 8 ≤ (s.sheet 0).moves.length) := by unfold Issues; decide +kernel

theorem witness_freeze :
    (let s := surveyor [(1, 0x10), (2, 0), (3, 3), (4, 0x08), (5, 1), (6, 2), (7, 0x40), (8, 0x1000)]
     Issues (.freeze .always 9 1 2) s ∧ contextNamed (s.reg 1).toNat = some (0, .c) ∧ (s.ctxOf (.task 0 .c)).run ≠ .running ∧ Issues (.freeze .always 9 1 3) s ∧ 2 < (s.reg 3).toNat ∧
       Issues (.freeze .always 9 4 2) s ∧ contextNamed (s.reg 4).toNat = none ∧ Issues (.freeze .always 9 4 5) s ∧ Issues (.freeze .always 9 7 5) s ∧ (s.core 1).retired = false ∧
       (s.core 1).frozen = false ∧ Issues (.freeze .always 9 8 6) s ∧ 4096 ≤ (s.reg 8).toNat ∧ Issues (.freeze .always 9 3 6) s ∧ Issues (.freeze .always 9 5 6) s ∧
       s.launches = [(0, launch0)] ∧ launch0.asid = (s.reg 5).toNat ∧ launch0.covers 0 = true ∧ 0 ∉ launch0.drained ∧ (s.threads.map Prod.fst).Nodup ∧
       (∀ t ∈ s.threads, t.2.launch = 0 → t.2.st ≠ .pre ∧ t.2.st ≠ .placing) ∧ (s.ctxOf (.task 0 .c)).keep = 0) ∧
    (let s := (surveyor [(1, 0x10)]).setCtx (.task 0 .c) { running [] with hints := { Hints.none with rep := some { count := 9, dStep := 0, aStep := 0, bStep := 0 } }, repDone := 4 }
     Issues (.freeze .always 9 1 0) s ∧ (s.ctxOf (.task 0 .c)).stage = 0 ∧ (s.ctxOf (.task 0 .c)).keep = 0 ∧ (s.ctxOf (.task 0 .c)).hints.rep ≠ none ∧ (s.ctxOf (.task 0 .c)).repDone ≠ 0) ∧
    (let s := { surveyor [(5, 1)] with launches := [(0, { launch0 with drained := [0] })] }; Issues (.freeze .always 9 5 6) s ∧ 0 ∈ (s.launch 0).drained) ∧
    (let s := (surveyor [(1, 0x10)]).setCtx (.task 0 .c) (running []); Issues (.freeze .always 9 1 0) s ∧ (s.ctxOf (.task 0 .c)).run = .running) := by
  unfold Issues; dsimp only; and_intros <;> decide +kernel

theorem witness_thaw :
    (let s := ((surveyor [(1, 0x10), (2, 1024), (3, 512), (4, 0x400000003), (5, 0x100001FFF), (6, 256)]).setCtx (.task 0 .c) { running [] with run := .frozen, frozenCause := 0x17 })
     Issues (.thaw .always 9 1 2) s ∧ 1024 ≤ (s.reg 2).toNat ∧ Issues (.thaw .always 9 1 0) s ∧ (s.ctxOf (.task 0 .c)).run = .frozen ∧ (s.ctxOf (.task 0 .c)).stage = 0 ∧ (s.ctxOf (.task 0 .c)).keep = 0 ∧
       (s.ctxOf (.task 0 .c)).wait = none ∧ Issues (.thaw .always 9 1 3) s ∧ Issues (.thaw .always 9 1 6) s ∧ Issues (.thaw .always 9 4 0) s ∧ (s.port 3).stopped = false ∧ Issues (.thaw .always 9 5 0) s ∧
       1 ∉ (s.cluster 8191).engineHeld) := by unfold Issues; decide +kernel

theorem witness_coresAndItems :
    (let s := { (surveyor [(1, 0x40), (2, 1), (3, 257), (4, 2)]).mapCore 1 (fun c => { c with frozen := true }) with launches := [(0, { launch0 with drained := [0] })] }
     Issues (.thaw .always 9 1 2) s ∧ (s.core 1).frozen = true ∧ Issues (.thaw .always 9 1 3) s ∧ Issues (.thaw .always 9 2 4) s ∧ Issues (.cspare .always 9 (1, 0)) s ∧ (s.core 1).unreadable = [] ∧
       (s.cluster 0).spare = none ∧ Issues (.cspare .always 9 (2, 0)) s ∧ Issues (.cspare .always 9 (1, 4)) s ∧ (s.reg 4).toNat ≠ 0) ∧
    (let s := ((surveyor [(1, 0x40)]).mapCore 1 (fun c => { c with frozen := true })).mapCluster 0 (fun c => { c with spare := some 3 })
     Issues (.cspare .always 9 (1, 0)) s ∧ (s.cluster 0).spare ≠ none ∧ (∀ n < 8, (s.thread (1 * 8 + n)).st = .empty) ∧ s.handlers = []) ∧
    (let s := (surveyor [(1, 7), (2, 3), (3, 515), (4, 259)]).mapSheet 0 (fun h => { h with items := [(1, { Item.none with st := .service, members := [(0, 0, 0)], holds := [{ rank := 0, va := 0x1000, sheet := 0, no := 7, cause := 6 }] })] })
     Issues (.thaw .always 9 1 2) s ∧ Issues (.thaw .always 9 1 3) s ∧ Issues (.thaw .always 9 1 4) s ∧ (s.sheet 0).items.get? 1 = some (s.item 0 1) ∧ 0 ∈ s.sheets.map Prod.fst ∧
       (∀ k ∈ s.sheets, ∀ j ∈ k.2.items, j.2.holds ≠ [] → k.1 = 0 ∧ j = (1, s.item 0 1)) ∧ (s.item 0 1).holds.map Hold.no = [(s.reg 1).toNat] ∧ (s.item 0 1).holds.map Hold.sheet = [0] ∧
       (s.item 0 1).st ≠ .final ∧ (∀ m ∈ (s.item 0 1).members, m.2.2 = 0 ∧ m.1 = 0) ∧ (s.item 0 1).members ≠ [] ∧ (s.item 0 1).ended = [] ∧
       Issues (.thaw .always 9 2 2) s ∧ (∀ k ∈ s.sheets, ∀ j ∈ k.2.items, ∀ hold ∈ j.2.holds, hold.sheet ≠ 0 ∨ hold.no ≠ (s.reg 2).toNat)) := by
  unfold Issues; dsimp only; and_intros <;> decide +kernel

theorem witness_world :
    (let s := surveyor [(1, 0x1), (2, 1), (3, 0x300000000), (4, 0x400000003), (5, 0x10000)]
     Issues (.world .always 9 1 2) s ∧ s.blockBusy 0 1 = false ∧ s.blockBusy 0 0 = true ∧ Issues (.world .always 9 0 2) s ∧ Issues (.world .always 9 3 0) s ∧ (edgeNamed 0).map Prod.fst = some 0 ∧
       Issues (.world .always 9 4 2) s ∧ Issues (.world .always 9 5 2) s ∧ 2 ^ 16 ≤ (s.reg 5).toNat % 2 ^ 32) := by unfold Issues; decide +kernel

theorem witness_surveyorRegisters :
    (let s := surveyor [(1, 0x2000), (2, 0xFF0), (3, 6), (4, 9), (5, 0xFFF), (6, 0x8000000000020000), (7, 3)]
     Issues (.crd .always 9 0x208) s ∧ Issues (.crd .always 9 0x203) s ∧ (storedRegister 0x203 (s.sheet 0)).isSome = true ∧ Issues (.crd .always 9 0x204) s ∧ Issues (.crd .always 9 0x249) s ∧
       Issues (.crd .always 9 0x248) s ∧ Issues (.crd .always 9 0x250) s ∧ Issues (.crd .always 9 0x206) s ∧ Issues (.cwr .always 1 0x204) s ∧ (s.reg 1).toNat < 2 ^ 48 ∧ Issues (.cwr .always 6 0x204) s ∧ 2 ^ 48 ≤ (s.reg 6).toNat ∧ Issues (.cwr .always 1 0x249) s ∧ Issues (.cwr .always 1 0x3FF) s ∧
       Issues (.cwr .always 2 0x203) s ∧ Issues (.cwr .always 3 0x203) s ∧ Issues (.cwr .always 4 0x212) s ∧ Issues (.cwr .always 5 0x213) s ∧ Issues (.cwr .always 6 0x207) s ∧
       (s.reg 6).toNat / 2 ^ 63 = 1 ∧ (s.reg 6).toNat / 2 ^ 17 % 32 ≠ 0 ∧ (s.reg 3).toNat % 16 = 6 ∧ (s.reg 5).toNat / 2 ^ 8 % 32 = 15 ∧ (s.reg 2) &&& 0xFFF0000000000FF0 ≠ 0 ∧
       (s.reg 1) &&& 0xFFF0000000000FF0 = 0 ∧ Issues (.cwr .always 1 0x203) s ∧ Issues (.cwr .always 1 0x200) s ∧ Issues (.cwr .always 7 0x202) s ∧ (s.reg 7).toNat < 4) := by
  unfold Issues; dsimp only; and_intros <;> decide +kernel

theorem witness_surveyorWrites :
    (let s := surveyor []
     (match s.svWrite 0 0 0x203 0x2000 with | .ok _ => true | .error _ => false) = true ∧ (match s.svWrite 0 0 0x203 0xFF0 with | .ok _ => false | .error _ => true) = true ∧
       bitsAt (5 + 6 * 2 ^ 15) 14 0 ≤ bitsAt (5 + 6 * 2 ^ 15) 29 15 ∧ bitsAt (7 + 6 * 2 ^ 15) 29 15 < bitsAt (7 + 6 * 2 ^ 15) 14 0 ∧ (s.sheet 0).atlas.toNat < 9 ∧ s.mem.wf = true ∧
       (∀ h ∈ s.sheets, h.2.plates = []) ∧ (∀ l ∈ s.launches, l.2.live = true → l.2.asid ≠ bitsAt (s.sheet 0).svsub 59 48)) ∧
    (let s := (surveyor []).mapSheet 0 (fun h => { h with svsub := BitVec.ofNat 64 (2 ^ 48) }); launch0.asid = bitsAt (s.sheet 0).svsub 59 48 ∧ launch0.covers 0 = true) ∧
    (∀ l ∈ State.reset.launches, l.2.live = false) ∧
    (let s := (surveyor []).mapSheet 0 (fun h => { h with sstat := [(1, 1)], evhead := 1 })
     (∀ m < 1, (s.sheet 0).sstat.get 0 m % 2 = 0) ∧ (s.sheet 0).sstat.get 0 1 % 2 = 1 ∧ (s.sheet 0).evhead ≠ (s.sheet 0).evtail ∧ (s.ctxOf (.surveyor 0 1)).run ≠ .stopped ∧
       (s.ctxOf (.surveyor 0 1)).stage = 0 ∧ (s.ctxOf (.surveyor 0 1)).keep = 0 ∧ (s.ctxOf (.surveyor 0 1)).repDone = 0 ∧ (s.ctxOf (.surveyor 0 1)).pc = (s.ctxOf (.surveyor 0 1)).grp) := by decide +kernel

theorem witness_windows :
    (let s := surveyor []
     ¬((s.window 0 15).cfg.getLsbD 63 = true) ∧ ¬((s.window 0 15).changing = true) ∧ bitsAt 0x8000000000200000 23 20 ∉ [3, 4, 5]) ∧
    (let s := (surveyor []).mapSheet 0 (fun h => { h with windows := [(15, { Window.init with base := 0x100000, size := 1, store := 0x100000 })] })
     s.windowWhy 0 15 { s.window 0 15 with cfg := 0x0000000000300000 } = 0) ∧
    (let s := (surveyor []).mapSheet 0 (fun h => { h with windows := [(0, { Window.init with cfg := 0x8000000000300000, base := 0x100000, size := 1 })] })
     (s.window 0 0).cfg.getLsbD 63 = true ∧ (0x8000000000300000 : Word) &&& 0x7FFFFFFFFFFFFFFF = (s.window 0 0).cfg &&& 0x7FFFFFFFFFFFFFFF) ∧
    (let s := (surveyor []).mapSheet 0 (fun h => { h with windows := [(0, { Window.init with changing := true, target := true })] })
     (s.window 0 0).changing = true ∧ (∀ p ∈ s.net, p.2.performed = true)) := by decide +kernel

/-! ## The host, bring-up and soft errors -/

/-- A running module with a command at the head of port 0's ring at 0x1000, and with the launch of the tests or none. -/
def hosted (cmd : List Byte) (secure : Bool) (ls : List (Nat × Launch)) : State :=
  { State.reset with bootStage := 2, hostMem := Memory.writeList [] 0x1000 cmd, ports := [(0, { HostPort.init with cmdbase := 0x1000, cmdtail := 1, secure := secure })], launches := ls }

/-- A command of an operation with fields at offsets. -/
def command (op : Nat) (fs : List (Nat × Nat)) : List Byte := leBytes 64 (fs.foldl (fun n f => n + f.2 * 2 ^ (8 * f.1)) op)

/-- No port of these states has a write of EN in progress. -/
theorem free_of {s : State} {port : Nat} (h : (s.port port).cfgWait = none) : portFree s port := fun h' w e => by rw [h] at e; cases e

/-- The test of a command at the head of a ring, and that it says what the statements ask. -/
def commandOk (s : State) (port op : Nat) (body : List (Nat × Nat)) : Bool :=
  let p := s.port port
  let bs := s.hostMem.readList (p.cmdbase.toNat / 2 ^ 12 * 2 ^ 12 + 64 * (p.cmdhead.toNat % (64 * 2 ^ (p.cmdbase.toNat % 16)))) 64
  decide (port < 4 ∧ s.bootStage = 2 ∧ p.stopped = false ∧ p.finished = [] ∧ p.cfgWait = none ∧ p.cmdbase.toNat / 2 ^ 4 % 2 ^ 8 = 0 ∧ p.cmdbase.toNat % 16 ≤ 8 ∧ p.cmdhead.toNat < p.cmdtail.toNat ∧
    p.cmdtail.toNat < p.cmdhead.toNat + 2 ^ 31 ∧ p.cmdtail.toNat < 2 ^ 32 ∧ leAt bs 0 1 = op ∧
    ∀ k < 63, 1 ≤ k → (k < 4 ∨ 8 ≤ k) → (∀ r ∈ body, k < r.1 ∨ r.1 + r.2 ≤ k) → bs.getD k 0 = 0)

theorem commandAt_of {s : State} {port op : Nat} {body : List (Nat × Nat)} (h : commandOk s port op body = true) : commandAt s port op body := by
  have h := of_decide_eq_true h
  exact ⟨h.1, h.2.1, h.2.2.1, h.2.2.2.1, free_of h.2.2.2.2.1, h.2.2.2.2.2.1, h.2.2.2.2.2.2.1, h.2.2.2.2.2.2.2.1, h.2.2.2.2.2.2.2.2.1, h.2.2.2.2.2.2.2.2.2.1,
    h.2.2.2.2.2.2.2.2.2.2.1, fun k h1 h2 => h.2.2.2.2.2.2.2.2.2.2.2 k h2 h1⟩

theorem witness_hostMoves :
    (let s := hosted (command 9 []) true []; commandOk s 0 9 [(0, 64)] ∧ commandOk (hosted (command 1 [(1, 7)]) true []) 0 1 [(0, 64)] ∧ (hosted (command 1 [(1, 7)]) true []).hostMem.read 0x1001 = 7) ∧
    (let s := hosted (command 1 [(8, 0x100FF), (0x10, 0x2000), (0x18, 2)]) false []
     commandOk s 0 1 (bodyOf 1) ∧ plainModule s ∧ paCfg (commandField s 0 8 8) = false ∧ commandField s 0 8 8 = 0x100FF ∧ commandField s 0 0x18 4 = 2 ∧ s.region 0x10100 = .hbm ∧ s.mem.wf = true) ∧
    (let s := hosted (command 2 [(8, 0x10000), (0x10, 0x2000), (0x18, 0x100000)]) true []; commandOk s 0 2 (bodyOf 2) ∧ commandField s 0 0x18 4 = 2 ^ 20) ∧
    (let s := hosted (command 2 [(8, 0x10000), (0x10, 0x2000), (0x18, 0)]) true []; commandOk s 0 2 (bodyOf 2) ∧ commandField s 0 0x18 4 = 0) ∧
    (let s := hosted (command 1 [(8, 2 ^ 51 + 4), (0x10, 0x2000), (0x18, 8)]) false []; commandOk s 0 1 (bodyOf 1) ∧ paCfg (commandField s 0 8 8) = true ∧ commandField s 0 8 8 % 8 ≠ 0) ∧
    (let s := hosted (command 1 [(8, 2 ^ 51), (0x10, 0x2000), (0x18, 8)]) false []; commandOk s 0 1 (bodyOf 1) ∧ commandField s 0 8 8 % 8 = 0 ∧ (s.port 0).secure = false) := by
  unfold plainModule; decide +kernel

/-- A legend of one level, whose rectangle is sheet 0. -/
def legend1 : List Byte := leBytes 128 (1 + 1 * 2 ^ 48 + 1 * 2 ^ 64 + (5 + 1 * 2 ^ 32) * 2 ^ 512)

theorem witness_launches :
    (let s := hosted (command 3 [(8, 0x3000), (0x10, 0x8000), (0x20, 1), (0x21, 1), (0x28, 1), (0x2A, 1)]) true []
     let s := { s with hostMem := s.hostMem.writeList 0x3000 legend1 }
     commandOk s 0 3 (bodyOf 3) ∧ commandField s 0 0x10 8 % 2048 = 0 ∧ commandField s 0 0x20 1 = 1 ∧ commandField s 0 0x21 1 = 1 ∧ commandField s 0 0x22 2 = 0 ∧ (s.port 0).secure = true ∧ s.grid = 0 ∧
       s.hostMem.readList 0x3000 128 = legend1 ∧ legendOk legend1 = true ∧ leAt legend1 0x0A 1 = 0 ∧ leAt legend1 6 2 = commandField s 0 0x28 2 ∧ leAt legend1 8 2 = commandField s 0 0x2A 2 ∧
       s.routesOk { launch0 with w := 1, h := 1 } = true ∧ plainModule s ∧ s.lxlost = 0 ∧ s.mem.wf = true ∧ s.region ((s.sheet 0).asidtab.toNat / 2 ^ 15 % 2 ^ 37 * 2 ^ 15) = .hbm) ∧
    (let s := hosted (command 3 [(8, 0x3000), (0x10, 0x8000), (0x20, 1), (0x21, 1)]) false []; commandOk s 0 3 (bodyOf 3) ∧ commandField s 0 0x21 1 = 1 ∧ (s.port 0).secure = false) ∧
    (let s := hosted (command 3 [(0x10, 0x8001), (0x20, 1)]) true []; commandOk s 0 3 (bodyOf 3) ∧ commandField s 0 0x10 8 % 2048 ≠ 0) := by unfold plainModule; decide +kernel

theorem witness_hostItems :
    (let s := hosted (command 4 [(8, 0x3000), (0x1A, 31), (0x1B, 1)]) true [(0, launch0)]
     commandOk s 0 4 (bodyOf 4) ∧ (s.launch 0).live = true ∧ commandField s 0 0x1A 1 < (s.launch 0).w * (s.launch 0).h ∧ commandField s 0 0x1B 1 = 1 ∧ (s.port 0).secure = true ∧ s.hostErr = [] ∧
       (s.launch 0).x + commandField s 0 0x1A 1 % (s.launch 0).w < 8 ∧ (s.launch 0).y + commandField s 0 0x1A 1 / (s.launch 0).w < 4 ∧
       (s.sheet 31).pool < Config.poolSize ∧ s.sheets = []) ∧
    (let s := hosted (command 5 [(0x20, 0x47)]) true []; commandOk s 0 5 (bodyOf 5) ∧ (s.launch 0).live = false) ∧
    (let s := hosted (command 4 [(0x1A, 31), (0x1B, 1)]) false [(0, launch0)]; commandOk s 0 4 (bodyOf 4) ∧ (s.port 0).secure = false) ∧
    (let s := hosted (command 4 [(0x1A, 1)]) true [(0, { launch0 with x := 7, w := 2 })]; commandOk s 0 4 (bodyOf 4) ∧ 8 ≤ (s.launch 0).x + commandField s 0 0x1A 1 % (s.launch 0).w) ∧
    (let s := hosted (command 4 [(0x1A, 32)]) true [(0, launch0)]; commandOk s 0 4 (bodyOf 4) ∧ (s.launch 0).w * (s.launch 0).h ≤ commandField s 0 0x1A 1) ∧
    (let s := (hosted (command 5 [(0x20, 0x47)]) true [(0, launch0)]).mapThread 15 (fun t => { t with st := .post })
     commandOk s 0 5 (bodyOf 5) ∧ commandField s 0 0x20 8 = 0x47 ∧ (s.thread (0x47 / 64 * 8 + 0x47 % 8)).st ≠ .empty ∧ (s.thread 15).launch = 0) ∧
    (let s := hosted (command 5 [(0x20, 0x48)]) true [(0, launch0)]; commandOk s 0 5 (bodyOf 5) ∧ commandField s 0 0x20 8 / 8 % 8 ≠ 0) ∧
    (let s := hosted (command 6 [(0x1B, 1)]) true [(0, launch0)]; commandOk s 0 6 (bodyOf 6) ∧ (s.launches.get? 0).isSome = true ∧ commandField s 0 0x1B 1 = 1 ∧ (s.launch 0).live = true) ∧
    (let s := hosted (command 6 []) true [(0, launch0)]; commandOk s 0 6 (bodyOf 6) ∧ commandField s 0 0x1B 1 = 0 ∧ s.sheets = []) ∧
    (let s := (task .c true []).mapPort 0 (fun p => { p with cmdbase := 0x1000, cmdtail := 2 })
     let s := { s with hostMem := (Memory.writeList [] 0x1000 (command 6 [])).writeList 0x1040 (command 5 [(0x20, 0)]) }
     let bs := s.cmdBytes 0 1
     commandOk s 0 6 (bodyOf 6) ∧ commandField s 0 0x1B 1 = 0 ∧ (s.launch 0).live = true ∧ s.launchBusy 0 = true ∧ (s.port 0).cmdhead.toNat + 1 < (s.port 0).cmdtail.toNat ∧ leAt bs 0 1 = 5 ∧
       frameBad 5 bs = false ∧ leAt bs 0x20 8 < 2 ^ 22 ∧ leAt bs 0x20 8 / 8 % 8 = 0 ∧ leAt bs 0x18 2 = 0 ∧ (s.thread 0).st ≠ .empty ∧ (s.thread 0).launch = 0) ∧
    (let s := hosted (command 7 [(8, 0x3000), (0x10, 0x4000)]) true []; commandOk s 0 7 (bodyOf 7) ∧ s.hostErr = []) := by decide +kernel

theorem witness_bringUp :
    (let s := State.reset; s.bootStage = 0 ∧ (3 : Nat) < 4 ∧ (0x2001 : BitVec 64).getLsbD 0 = true) ∧
    (let s := { State.reset with bootStage := 1, bootImage := 0x2000, hostMem := Memory.writeList [] 0x2000 ([0x54, 0x58, 0x42, 0x46] ++ leBytes 4 1 ++ leBytes 4 64) }
     let hd := s.hostMem.readList s.bootImage.toNat 64
     hd.take 4 = [0x54, 0x58, 0x42, 0x46] ∧ leAt hd 4 4 = 1 ∧ (∀ k < 64, 12 ≤ k → hd.getD k 0 = 0) ∧ leAt hd 8 4 = 64 ∧ s.hostErr = []) ∧
    (let s := { State.reset with bootStage := 1, bootImage := 0x2000, hostErr := [(0x203F, 1)] }; ∃ e ∈ s.hostErr, s.bootImage.toNat < e.1 + e.2 ∧ e.1 < s.bootImage.toNat + 64 + 193) ∧
    (let s := hosted [] true []; s.bootStage = 2 ∧ s.launches = [] ∧ (s.port 0).stopped = false ∧ plainModule s ∧ (∀ k < 8, s.region (0x10000 + k) = .hbm) ∧ (s.sheet 31).throttled = false) ∧
    ((State.reset.mapSheet 31 (fun h => { h with throttled := true })).sheet 31).throttled = true := by unfold plainModule; decide +kernel

theorem witness_softErrors :
    (let s := cached true [] [entry0] []
     (∃ e ∈ (s.core 0).l1, e.line = 16) ∧ (s.core 0).spec = [] ∧ (∀ e ∈ (s.core 0).l1, e.line = 16 → e.dirty = 0) ∧ s.region 0x10007 = .hbm ∧ s.ringBlocked 0 = false) ∧
    (let s := cached true [] [{ entry0 with dirty := 1 }] []
     (∃ e ∈ (s.core 0).l1, e.line = 16 ∧ e.dirty.getLsbD 0 = true) ∧ ∀ e ∈ (s.core 0).l1, e.line = 16 → ∀ b < 256, 64 * 3 ≤ b → e.dirty.getLsbD b = false) ∧
    (let s := mapped .c true [] [(0, leafAt 0x50000 0)]; 0 < (s.cluster 0).tlb.length) ∧
    (let s := (task .c true []).mapSheet 1 (fun h => { h with replicas := [(0x100, 0, 0, none)] }); ∃ r ∈ (s.sheet 1).replicas, r.1 = 0x100) ∧ ((plated [plate0]).sheet 0).plates[0]? = some plate0 ∧
    (let s := { State.reset with launches := [(0, launch0)] }; (s.launch 0).live = true ∧ (∀ h ∈ s.sheets, h.2.items = [] ∧ h.2.intakeQ = [])) := by decide +kernel

theorem ringBlocked_reset (h : Nat) : State.reset.ringBlocked h = false := by
  have e (k : Nat) : State.reset.sheet k = Sheet.init := rfl
  simp only [State.ringBlocked, State.moving, e]; decide

theorem witness_canonical : canonical State.reset ∧ canonical (State.reset.withFetchWord 32 0) ∧ canonical tables := by unfold canonical; decide +kernel

theorem witness_taskStart :
    let s := launched.mapThread 0 (fun t => { t with st := .placing }); (s.thread 0).st = .placing ∧ (match s.readVa 0 1 0 0 true with | (.ok bs, _) => decide (bs = []) | _ => false) = true := by decide +kernel

/-! ## Words of the spec, field by field -/

/-- Whether each word decodes to its instruction. The words are written from the opcode table: major opcode, guard, and the fields of the body. -/
def reads (l : List (BitVec 32 × Instr)) : Bool := l.all (fun p => decide (decode p.1 = .ok p.2))

theorem test_words1 : reads [
  (0b000001_0_0_0000_00011_00101_01001_00000, .add .always 3 5 9),
  (0b000001_1_0_1001_00011_00101_01001_00001, .sub (.on false 9) 3 5 9),
  (0b000001_1_1_0110_00011_00101_01001_00010, .and (.on true 6) 3 5 9),
  (0b000001_0_0_0000_00011_00101_01001_00011, .or .always 3 5 9),
  (0b000001_1_0_1001_00011_00101_01001_00100, .xor (.on false 9) 3 5 9),
  (0b000001_1_1_0110_00011_00101_01001_00101, .andn (.on true 6) 3 5 9),
  (0b000001_0_0_0000_00011_00101_01001_00110, .shl .always 3 5 9),
  (0b000001_1_0_1001_00011_00101_01001_00111, .shr (.on false 9) 3 5 9),
  (0b000001_1_1_0110_00011_00101_01001_01000, .sar (.on true 6) 3 5 9),
  (0b000001_0_0_0000_00011_00101_01001_01001, .min .always 3 5 9),
  (0b000001_1_0_1001_00011_00101_01001_01010, .max (.on false 9) 3 5 9),
  (0b000001_1_1_0110_00011_00101_01001_01011, .minn (.on true 6) 3 5 9),
  (0b000001_0_0_0000_00011_00101_01001_01100, .maxn .always 3 5 9),
  (0b000001_1_0_1001_00011_00101_01001_01101, .addw (.on false 9) 3 5 9),
  (0b000001_1_1_0110_00011_00101_01001_01110, .subw (.on true 6) 3 5 9),
  (0b000001_0_0_0000_00011_00101_0000010000, .clz .always 3 5),
  (0b000001_1_0_1001_00011_00101_0000010001, .ctz (.on false 9) 3 5),
  (0b000001_1_1_0110_00011_00101_0000010010, .popc (.on true 6) 3 5),
  (0b000001_0_0_0000_00011_00101_0000010011, .sext8 .always 3 5),
  (0b000001_1_0_1001_00011_00101_0000010100, .sext16 (.on false 9) 3 5),
  (0b000001_1_1_0110_00011_00101_0000010101, .sext32 (.on true 6) 3 5),
  (0b000001_0_0_0000_00011_00101_0000010110, .zext32 .always 3 5),
  (0b000010_1_0_1001_00011_00101_01001_00000, .mul (.on false 9) 3 5 9),
  (0b000010_1_1_0110_00011_00101_01001_00001, .mulh (.on true 6) 3 5 9),
  (0b000010_0_0_0000_00011_00101_01001_00010, .mulhn .always 3 5 9),
  (0b000010_1_0_1001_00011_00101_01001_00011, .mulw (.on false 9) 3 5 9),
  (0b000010_1_1_0110_00011_00101_01001_00100, .div (.on true 6) 3 5 9),
  (0b000010_0_0_0000_00011_00101_01001_00101, .divn .always 3 5 9),
  (0b000010_1_0_1001_00011_00101_01001_00110, .rem (.on false 9) 3 5 9),
  (0b000010_1_1_0110_00011_00101_01001_00111, .remn (.on true 6) 3 5 9)] = true := by decide +kernel

theorem test_words2 : reads [
  (0b000100_0_0_0000_00011_00101_1010100101, .addi .always 3 5 0x2a5),
  (0b000101_1_0_1001_00011_00101_1010100101, .andi (.on false 9) 3 5 0x2a5),
  (0b000110_1_1_0110_00011_00101_1010100101, .ori (.on true 6) 3 5 0x2a5),
  (0b000111_0_0_0000_00011_00101_1010100101, .xori .always 3 5 0x2a5),
  (0b001000_1_0_1001_00011_00101_0000_000001, .shli (.on false 9) 3 5 1),
  (0b001000_1_1_0110_00011_00101_0100_000001, .shri (.on true 6) 3 5 1),
  (0b001000_0_0_0000_00011_00101_1000_000001, .sari .always 3 5 1),
  (0b001001_1_0_1001_0110_000_00101_10100101, .cmpiEq (.on false 9) 6 5 0xa5),
  (0b001001_1_1_0110_0110_001_00101_10100101, .cmpiNe (.on true 6) 6 5 0xa5),
  (0b001001_0_0_0000_0110_010_00101_10100101, .cmpiLt .always 6 5 0xa5),
  (0b001001_1_0_1001_0110_011_00101_10100101, .cmpiLtn (.on false 9) 6 5 0xa5),
  (0b001001_1_1_0110_0110_100_00101_10100101, .cmpiGe (.on true 6) 6 5 0xa5),
  (0b001001_0_0_0000_0110_101_00101_10100101, .cmpiGen .always 6 5 0xa5),
  (0b001010_1_0_1001_0_0110_00101_01001_00000, .cmpEq (.on false 9) 6 5 9),
  (0b001010_1_1_0110_0_0110_00101_01001_00001, .cmpNe (.on true 6) 6 5 9),
  (0b001010_0_0_0000_0_0110_00101_01001_00010, .cmpLt .always 6 5 9),
  (0b001010_1_0_1001_0_0110_00101_01001_00011, .cmpLtn (.on false 9) 6 5 9),
  (0b001010_1_1_0110_0_0110_00101_01001_00100, .cmpGe (.on true 6) 6 5 9),
  (0b001010_0_0_0000_0_0110_00101_01001_00101, .cmpGen .always 6 5 9),
  (0b001011_1_0_1001_00011_00101_01001_000_01, .lea (.on false 9) 3 5 9 1),
  (0b001100_1_1_0110_0_0011_0_0101_0_1001_00000, .pand (.on true 6) 3 5 9),
  (0b001100_0_0_0000_0_0011_0_0101_0_1001_00001, .por .always 3 5 9),
  (0b001100_1_0_1001_0_0011_0_0101_0_1001_00010, .pxor (.on false 9) 3 5 9),
  (0b001100_1_1_0110_0_0011_0_0101_0_1001_00011, .pandn (.on true 6) 3 5 9),
  (0b001100_0_0_0000_0_0011_0_0101_0000000100, .pnot .always 3 5),
  (0b001100_1_0_1001_0_0011_000000000000101, .pset (.on false 9) 3),
  (0b001100_1_1_0110_0_0011_000000000000110, .pclr (.on true 6) 3),
  (0b001100_0_0_0000_0_0011_00101_0000000111, .pmovs .always 3 5),
  (0b001100_1_0_1001_00011_0_0101_0000001000, .pany (.on false 9) 3 5),
  (0b001100_1_1_0110_00011_0_0101_0000001001, .pall (.on true 6) 3 5)] = true := by decide +kernel

theorem test_words3 : reads [
  (0b001100_0_0_0000_00011_0_0101_0000001010, .pcnt .always 3 5),
  (0b001100_1_0_1001_00011_0_0101_0000001011, .pfirst (.on false 9) 3 5),
  (0b001101_1_1_0110_00011_00101_01001_0_0110, .sel (.on true 6) 3 5 9 6),
  (0b010000_0_0_0000_10100101101001011100, .jump .always 0xa5a5c),
  (0b010001_1_0_1001_10100101101001011100, .jumpLink (.on false 9) 0xa5a5c),
  (0b010010_1_1_0110_00000_00101_0000000000, .jumpReg (.on true 6) 5),
  (0b010010_0_0_0000_00000_00101_0000000001, .jumpLinkReg .always 5),
  (0b010011_1_0_1001_000000000000000_00000, .nop (.on false 9)),
  (0b010011_1_1_0110_000000000000000_00001, .endTask (.on true 6)),
  (0b010011_0_0_0000_000000000000000_00010, .commit .always),
  (0b010011_1_0_1001_000000000000000_00011, .yield (.on false 9)),
  (0b010011_1_1_0110_000000000000000_00100, .park (.on true 6)),
  (0b010011_0_0_0000_0000000000_10010_00101, .trap .always 0x12),
  (0b010011_1_0_1001_000000000000000_00110, .eret (.on false 9)),
  (0b010011_1_1_0110_000000000000000_00111, .brk (.on true 6)),
  (0b010011_0_0_0000_000000000000000_01000, .hret .always),
  (0b010011_1_0_1001_00000_00101_0000001001, .astart (.on false 9) 5),
  (0b010011_1_1_0110_000000000000000_01010, .await (.on true 6)),
  (0b010011_0_0_0000_000000000000000_01011, .iflush .always),
  (0b010100_1_0_1001_00011_00000_0000001101, .crd (.on false 9) 3 0xd),
  (0b010101_1_1_0110_00000_00101_0000010010, .cwr (.on true 6) 5 0x12),
  (0b011000_0_0_0000_00011_01001_101_1_010101, .ld .always 3 9 5 1 0x15),
  (0b011001_1_0_1001_00011_01001_010_1_010101, .st (.on false 9) 3 9 2 1 0x15),
  (0b011010_1_1_0110_00011_01001_00110_1_1_000, .ldv (.on true 6) 3 9 6 1 1),
  (0b011011_0_0_0000_00011_01001_00110_1_0000, .stv .always 3 9 6 1),
  (0b011100_1_0_1001_00011_00101_01001_1_0000, .amoadd (.on false 9) 3 5 9 1),
  (0b011100_1_1_0110_00011_00101_01001_1_0001, .amoand (.on true 6) 3 5 9 1),
  (0b011100_0_0_0000_00011_00101_01001_1_0010, .amoor .always 3 5 9 1),
  (0b011100_1_0_1001_00011_00101_01001_1_0011, .amoxor (.on false 9) 3 5 9 1),
  (0b011100_1_1_0110_00011_00101_01001_1_0100, .amomin (.on true 6) 3 5 9 1)] = true := by decide +kernel

theorem test_words4 : reads [
  (0b011100_0_0_0000_00011_00101_01001_1_0101, .amomax .always 3 5 9 1),
  (0b011100_1_0_1001_00011_00101_01001_1_0110, .amominn (.on false 9) 3 5 9 1),
  (0b011100_1_1_0110_00011_00101_01001_1_0111, .amomaxn (.on true 6) 3 5 9 1),
  (0b011100_0_0_0000_00011_00101_01001_1_1000, .amoswap .always 3 5 9 1),
  (0b011100_1_0_1001_00011_00101_01001_1_1001, .amocas (.on false 9) 3 5 9 1),
  (0b011100_1_1_0110_00011_00101_01001_01010, .amofadd (.on true 6) 3 5 9),
  (0b011100_0_0_0000_00011_00101_01001_01011, .amostag .always 3 5 9),
  (0b011101_1_0_1001_00000_00011_00100_00000, .fence (.on false 9) 3 4),
  (0b011101_1_1_0110_00011_00101_00100_00001, .waitack (.on true 6) 3 5 4),
  (0b011101_0_0_0000_00000_00101_01001_00010, .pfetch .always 5 9),
  (0b011101_1_0_1001_00011_00101_01001_00011, .cclean (.on false 9) 3 5 9),
  (0b011101_1_1_0110_00011_00101_01001_00100, .cinval (.on true 6) 3 5 9),
  (0b011101_0_0_0000_00011_00101_01001_00101, .cflush .always 3 5 9),
  (0b011101_1_0_1001_0000000000_00001_00110, .acqinv (.on false 9) 1),
  (0b100000_1_1_0110_00011_00101_01001_00000, .vadd (.on true 6) 3 5 9),
  (0b100000_0_0_0000_00011_00101_01001_00001, .vsub .always 3 5 9),
  (0b100000_1_0_1001_00011_00101_01001_00010, .vmul (.on false 9) 3 5 9),
  (0b100000_1_1_0110_00011_00101_01001_00011, .vmin (.on true 6) 3 5 9),
  (0b100000_0_0_0000_00011_00101_01001_00100, .vmax .always 3 5 9),
  (0b100000_1_0_1001_00011_00101_0000000101, .vabs (.on false 9) 3 5),
  (0b100000_1_1_0110_00011_00101_0000000110, .vneg (.on true 6) 3 5),
  (0b100000_0_0_0000_00011_00101_01001_00111, .vand .always 3 5 9),
  (0b100000_1_0_1001_00011_00101_01001_01000, .vor (.on false 9) 3 5 9),
  (0b100000_1_1_0110_00011_00101_01001_01001, .vxor (.on true 6) 3 5 9),
  (0b100000_0_0_0000_00011_00101_01001_01010, .vshl .always 3 5 9),
  (0b100000_1_0_1001_00011_00101_01001_01011, .vshr (.on false 9) 3 5 9),
  (0b100000_1_1_0110_00011_00101_01001_01100, .vsar (.on true 6) 3 5 9),
  (0b100000_0_0_0000_00011_00101_01001_01101, .vfma .always 3 5 9),
  (0b100000_1_0_1001_00011_00101_01001_01110, .vfms (.on false 9) 3 5 9),
  (0b100001_1_1_0110_00011_00101_01001_00000, .vadds (.on true 6) 3 5 9)] = true := by decide +kernel

theorem test_words5 : reads [
  (0b100001_0_0_0000_00011_00101_01001_00001, .vsubs .always 3 5 9),
  (0b100001_1_0_1001_00011_00101_01001_00010, .vmuls (.on false 9) 3 5 9),
  (0b100001_1_1_0110_00011_00101_01001_00011, .vmins (.on true 6) 3 5 9),
  (0b100001_0_0_0000_00011_00101_01001_00100, .vmaxs .always 3 5 9),
  (0b100001_1_0_1001_00011_00101_01001_00101, .vfmas (.on false 9) 3 5 9),
  (0b100010_1_1_0110_00011_00101_0000000000, .vexp2 (.on true 6) 3 5),
  (0b100010_0_0_0000_00011_00101_0000000001, .vlog2 .always 3 5),
  (0b100010_1_0_1001_00011_00101_0000000010, .vrcp (.on false 9) 3 5),
  (0b100010_1_1_0110_00011_00101_0000000011, .vrsq (.on true 6) 3 5),
  (0b100010_0_0_0000_00011_00101_0000000100, .vsqrt .always 3 5),
  (0b100010_1_0_1001_00011_00101_0000000101, .vtanh (.on false 9) 3 5),
  (0b100011_1_1_0110_00011_00101_0000000000, .vrsum (.on true 6) 3 5),
  (0b100011_0_0_0000_00011_00101_0000000001, .vrmax .always 3 5),
  (0b100011_1_0_1001_00011_00101_0000000010, .vrmin (.on false 9) 3 5),
  (0b100011_1_1_0110_00011_00101_0000000011, .vcsum (.on true 6) 3 5),
  (0b100011_0_0_0000_00011_00101_0000000100, .vcmax .always 3 5),
  (0b100011_1_0_1001_00011_00101_0000000101, .vramax (.on false 9) 3 5),
  (0b100100_1_1_0110_0_0110_00101_01001_00000, .vcmpEq (.on true 6) 6 5 9),
  (0b100100_0_0_0000_0_0110_00101_01001_00001, .vcmpNe .always 6 5 9),
  (0b100100_1_0_1001_0_0110_00101_01001_00010, .vcmpLt (.on false 9) 6 5 9),
  (0b100100_1_1_0110_0_0110_00101_01001_00011, .vcmpLe (.on true 6) 6 5 9),
  (0b100100_0_0_0000_0_0110_00101_01001_00100, .vcmpGt .always 6 5 9),
  (0b100100_1_0_1001_0_0110_00101_01001_00101, .vcmpGe (.on false 9) 6 5 9),
  (0b100100_1_1_0110_0_0110_00101_01001_00110, .vcmpUn (.on true 6) 6 5 9),
  (0b100101_0_0_0000_00011_00101_00000_1_1011, .vcvt .always 3 5 1 0xb),
  (0b100110_1_0_1001_00011_00101_0000000000, .vmov (.on false 9) 3 5),
  (0b100110_1_1_0110_00011_00101_0000000001, .vsplat (.on true 6) 3 5),
  (0b100110_0_0_0000_00011_00101_01001_00010, .vext .always 3 5 9),
  (0b100110_1_0_1001_00011_00101_01001_00011, .vins (.on false 9) 3 5 9),
  (0b100110_1_1_0110_00011_00101_01001_00100, .vbrow (.on true 6) 3 5 9)] = true := by decide +kernel

theorem test_words6 : reads [
  (0b100110_0_0_0000_00011_00101_01001_00101, .vbcol .always 3 5 9),
  (0b100110_1_0_1001_00011_00101_0000000110, .vshape (.on false 9) 3 5),
  (0b100110_1_1_0110_00011_000000000000111, .vzero (.on true 6) 3),
  (0b100110_0_0_0000_00011_00101_0000001000, .viota .always 3 5),
  (0b100110_1_0_1001_00011_00101_01001_01001, .vshuf (.on false 9) 3 5 9),
  (0b100110_1_1_0110_00011_00101_01001_01010, .vscale (.on true 6) 3 5 9),
  (0b100111_0_0_0000_00011_00101_01001_00000, .smerge .always 3 5 9),
  (0b100111_1_0_1001_00011_00101_01001_00001, .smergez (.on false 9) 3 5 9),
  (0b100111_1_1_0110_00011_00101_01001_00010, .smcount (.on true 6) 3 5 9),
  (0b100111_0_0_0000_00011_00101_01001_00011, .scan .always 3 5 9),
  (0b100111_1_0_1001_00011_00101_01001_00100, .scanx (.on false 9) 3 5 9),
  (0b100111_1_1_0110_00011_00101_01001_00101, .vprune (.on true 6) 3 5 9),
  (0b100111_0_0_0000_00011_00101_01001_00110, .vprunes .always 3 5 9),
  (0b100111_1_0_1001_00011_000000000000111, .vrng (.on false 9) 3),
  (0b100111_1_1_0110_00011_00101_0_0110_01000, .vcompact (.on true 6) 3 5 6),
  (0b101000_0_0_0000_00011_00101_01001_01000, .pmerge .always 3 5 9 8),
  (0b101100_1_0_1001_00011_11_101_0000000000, .qcfg (.on false 9) 3 5),
  (0b101100_1_1_0110_11_101_000000000000001, .qpub (.on true 6) 5),
  (0b101100_0_0_0000_11_101_000000000000010, .qadv .always 5),
  (0b101100_1_0_1001_00011_11_101_01001_00011, .qfill (.on false 9) 3 5 9),
  (0b101100_1_1_0110_11_101_00101_0000000100, .sstr (.on true 6) 5 5),
  (0b101100_0_0_0000_11_101_00101_0000000101, .istr .always 5 5),
  (0b101100_1_0_1001_11_101_000000000000110, .sclose (.on false 9) 5),
  (0b101100_1_1_0110_00011_11_101_0000000111, .sstat (.on true 6) 3 5),
  (0b101101_0_0_0000_00000_00101_01001_00000, .spsend .always 5 9),
  (0b101101_1_0_1001_00011_00101_0000000001, .spsendv (.on false 9) 3 5),
  (0b101101_1_1_0110_000000000000000_00010, .spclose (.on true 6)),
  (0b101101_0_0_0000_00011_00101_0_0110_00011, .sprecv .always 3 5 6),
  (0b101101_1_0_1001_00011_00101_0_0110_00100, .sprecvv (.on false 9) 3 5 6),
  (0b101101_1_1_0110_00011_00101_0000000101, .spstat (.on true 6) 3 5)] = true := by decide +kernel

theorem test_words7 : reads [
  (0b110000_0_0_0000_00011_00101_0000000000, .mwalk .always 3 5),
  (0b110000_1_0_1001_00011_00101_0000000001, .mwalkg (.on false 9) 3 5),
  (0b110000_1_1_0110_00011_00101_01001_00010, .mprog (.on true 6) 3 5 9),
  (0b110000_0_0_0000_00011_00101_0000000011, .mcancel .always 3 5),
  (0b110000_1_0_1001_00011_00101_01001_00100, .mnode (.on false 9) 3 5 9),
  (0b110001_1_1_0110_00000_00101_0000000000, .gang (.on true 6) 5),
  (0b110010_0_0_0000_00011_00101_0000000000, .jwait .always 3 5),
  (0b110010_1_0_1001_00011_00101_0000000001, .jpoll (.on false 9) 3 5),
  (0b110011_1_1_0110_0011_0_00101_0000000000, .tcopy (.on true 6) 3 5),
  (0b110011_0_0_0000_0011_0_00101_0000000001, .tgather .always 3 5),
  (0b110011_1_0_1001_0011_0_00101_0000000010, .tscatter (.on false 9) 3 5),
  (0b110011_1_1_0110_0011_0_00101_0000000011, .tscadd (.on true 6) 3 5),
  (0b110011_0_0_0000_0011_0_00101_0000000100, .tfill .always 3 5),
  (0b110100_1_0_1001_00011_00101_01001_00000, .sleepu (.on false 9) 3 5 9),
  (0b111000_1_1_0110_00011_00101_01001_00000, .phreg (.on true 6) 3 5 9),
  (0b111000_0_0_0000_00011_00101_01001_00001, .phdrop .always 3 5 9),
  (0b111000_1_0_1001_00011_00101_01001_00010, .phsig (.on false 9) 3 5 9),
  (0b111000_1_1_0110_00011_00101_01001_00011, .phwait (.on true 6) 3 5 9),
  (0b111000_0_0_0000_00011_00101_01001_00100, .phnext .always 3 5 9),
  (0b111000_1_0_1001_00011_00101_01001_00101, .phread (.on false 9) 3 5 9),
  (0b111000_1_1_0110_00011_00101_0000000110, .phnew (.on true 6) 3 5),
  (0b111000_0_0_0000_00011_00101_0000000111, .phfree .always 3 5),
  (0b111001_1_0_1001_00011_00101_01001_00000, .tspawn (.on false 9) 3 5 9),
  (0b111001_1_1_0110_00011_00101_01001_00001, .tdep (.on true 6) 3 5 9),
  (0b111001_0_0_0000_00011_00101_0000000010, .tctr .always 3 5),
  (0b111001_1_0_1001_00011_00101_01001_00011, .tshape (.on false 9) 3 5 9),
  (0b111001_1_1_0110_00011_0000000_001_00100, .targ (.on true 6) 3 1),
  (0b111001_0_0_0000_00011_000000000000101, .tself .always 3),
  (0b111001_1_0_1001_00011_000000000000110, .tlate (.on false 9) 3),
  (0b111010_1_1_0110_00011_00101_01001_00000, .pgld (.on true 6) 3 5 9)] = true := by decide +kernel

theorem test_words8 : reads [
  (0b111010_0_0_0000_00011_00101_0000000001, .pdrop .always 3 5),
  (0b111010_1_0_1001_00011_00101_0000000010, .pstat (.on false 9) 3 5),
  (0b111010_1_1_0110_00011_00101_0000000011, .pnorec (.on true 6) 3 5),
  (0b111011_0_0_0000_00011_00101_01001_00000, .lturn .always 3 5 9),
  (0b111011_1_0_1001_00011_00101_01001_00001, .lstat (.on false 9) 3 5 9),
  (0b111011_1_1_0110_00011_00101_0000000010, .lquiet (.on true 6) 3 5),
  (0b111100_0_0_0000_00011_00101_01001_00000, .gpush .always 3 5 9),
  (0b111100_1_0_1001_0011_000000_01001_00001, .rpop (.on false 9) 3 9),
  (0b111100_1_1_0110_00011_00101_0000000010, .lxbegin (.on true 6) 3 5),
  (0b111100_0_0_0000_00011_00101_01001_00011, .lxack .always 3 5 9),
  (0b111100_1_0_1001_00011_00101_0000000100, .lxend (.on false 9) 3 5),
  (0b111100_1_1_0110_00011_00101_0000000101, .lxstat (.on true 6) 3 5),
  (0b111101_0_0_0000_00011_00101_01001_00000, .tlbinv .always 3 5 9),
  (0b111101_1_0_1001_00011_00101_01001_00001, .freeze (.on false 9) 3 5 9),
  (0b111101_1_1_0110_00011_00101_01001_00010, .thaw (.on true 6) 3 5 9),
  (0b111101_0_0_0000_00011_00101_01001_00011, .pgmove .always 3 5 9),
  (0b111101_1_0_1001_00011_00101_01001_00100, .cspare (.on false 9) 3 (5, 9)),
  (0b111101_1_1_0110_00011_00101_01001_00101, .world (.on true 6) 3 5 9),
  (0b111111_0000_1010101010101010100101, .immxHint 0x2aaaa5),
  (0b111111_0001_00000_001_101_011_00010010, .repHint 1 5 3 0x12),
  (0b111111_0010_0000000000000000_011_101, .ordHint 3 5),
  (0b111111_0011_000000000000000000_11_00, .locHint 3 0),
  (0b111111_0100_0000000000000000_0_00100, .mcompHint 0 4),
  (0b111111_0101_0000_101_010_101_110_111_000, .qwHint 5 2 5 6 7 0),
  (0b111111_0110_0000000000000000000_100, .rndHint 4)] = true := by decide +kernel

/-! ## Ill-formed terms -/

theorem test_ill_formed_crd : (Instr.crd .always 1 0x00E).wellFormed = false ∧ (Instr.crd .always 1 0x00D).wellFormed = true ∧ (Instr.crd .always 1 0x1FF).wellFormed = false := by decide
theorem test_ill_formed_cwr : (Instr.cwr .always 1 0x013).wellFormed = false ∧ (Instr.cwr .always 1 0x200).wellFormed = true := by decide
theorem test_ill_formed_ld : (Instr.ld .always 1 2 7 0 0).wellFormed = false ∧ (Instr.ld .always 1 2 6 0 0).wellFormed = true := by decide
theorem test_ill_formed_st : (Instr.st .always 1 2 4 0 0).wellFormed = false ∧ (Instr.st .always 1 2 3 0 0).wellFormed = true := by decide
theorem test_ill_formed_fence : (Instr.fence .always 0 0).wellFormed = false ∧ (Instr.fence .always 4 0).wellFormed = false ∧ (Instr.fence .always 1 7).wellFormed = false ∧
    (Instr.fence .always 3 6).wellFormed = true := by decide
theorem test_ill_formed_waitack : (Instr.waitack .always 1 2 7).wellFormed = false ∧ (Instr.waitack .always 1 2 6).wellFormed = true := by decide
theorem test_ill_formed_acqinv : (Instr.acqinv .always 2).wellFormed = false ∧ (Instr.acqinv .always 1).wellFormed = true := by decide
theorem test_ill_formed_pmerge : (Instr.pmerge .always 1 2 3 3).wellFormed = false ∧ (Instr.pmerge .always 1 2 3 0).wellFormed = false ∧ (Instr.pmerge .always 1 2 3 16).wellFormed = true := by decide
theorem test_ill_formed_ord : (Instr.ordHint 5 0).wellFormed = false ∧ (Instr.ordHint 0 7).wellFormed = false ∧ (Instr.ordHint 4 6).wellFormed = true := by decide
theorem test_ill_formed_rnd : (Instr.rndHint 6).wellFormed = false ∧ (Instr.rndHint 5).wellFormed = true := by decide

/-! ## Single steps

Each value is worked out by hand from the rule that the comment names. -/

/-- What a step of an instruction leaves, seen through a reader. -/
def after {α : Type} (i : Instr) (s : State) (f : State → α) : Option α := match exec i s with | .next t => some (f t) | _ => none

-- R103
theorem test_add_wraps : after (.add .always 3 1 2) (task .c true [(1, 0xFFFFFFFFFFFFFFFF), (2, 2)]) (fun t => (t.reg 3, t.ctx.pc)) = some (1, 0x1004) := by decide +kernel
theorem test_addw_extends : after (.addw .always 1 1 2) (task .a true [(1, 0x7FFFFFFF), (2, 1)]) (fun t => t.reg 1) = some 0xFFFFFFFF80000000 := by decide +kernel
theorem test_sar_ignores_high_amount : after (.sar .always 3 1 2) (task .c true [(1, 0x8000000000000000), (2, 0x43)]) (fun t => t.reg 3) = some 0xF000000000000000 := by decide +kernel
theorem test_minn_is_unsigned : after (.minn .always 3 1 2) (task .c true [(1, 0xFFFFFFFFFFFFFFFF), (2, 1)]) (fun t => t.reg 3) = some 1 := by decide +kernel
theorem test_clz_of_zero : after (.clz .always 3 0) (task .c true []) (fun t => t.reg 3) = some 64 := by decide +kernel
theorem test_s0_discards : after (.ori .always 0 0 5) (task .c true []) (fun t => (t.reg 0, t.ctx.pc)) = some (0, 0x1004) := by decide +kernel
-- R104
theorem test_mulhn : after (.mulhn .always 3 1 2) (task .c true [(1, 0x8000000000000000), (2, 0xFFFFFFFFFFFFFFFF)]) (fun t => t.reg 3) = some 0x7FFFFFFFFFFFFFFF := by decide +kernel
theorem test_div_rounds_to_zero : after (.div .always 3 1 2) (task .c true [(1, 0xFFFFFFFFFFFFFFF9), (2, 2)]) (fun t => t.reg 3) = some 0xFFFFFFFFFFFFFFFD := by decide +kernel
theorem test_rem_sign : after (.rem .always 3 1 2) (task .c true [(1, 0xFFFFFFFFFFFFFFF9), (2, 2)]) (fun t => t.reg 3) = some 0xFFFFFFFFFFFFFFFF := by decide +kernel
theorem test_div_by_zero : after (.div .always 3 1 0) (task .c true [(1, 7)]) (fun t => t.reg 3) = some 0xFFFFFFFFFFFFFFFF := by decide +kernel
theorem test_div_overflow : after (.div .always 3 1 2) (task .c true [(1, 0x8000000000000000), (2, 0xFFFFFFFFFFFFFFFF)]) (fun t => t.reg 3) = some 0x8000000000000000 := by decide +kernel
-- R105: andi s2, s2, -256
theorem test_andi_extends : after (.andi .always 2 2 0x300) (task .c true [(2, 0xFFFFFFFFFFFF12FF)]) (fun t => t.reg 2) = some 0xFFFFFFFFFFFF1200 := by decide +kernel
-- R107
theorem test_cmp_ltn : after (.cmpLtn .always 3 4 5) (task .c true [(4, 1), (5, 0xFFFFFFFFFFFFFFFF)]) (fun t => (t.pred 3, t.pred 2)) = some (BitVec.allOnes 512, 0) := by decide +kernel
theorem test_cmp_lt_signed : after (.cmpLt .always 3 4 5) (task .c true [(4, 1), (5, 0xFFFFFFFFFFFFFFFF)]) (fun t => t.pred 3) = some 0 := by decide +kernel
-- R108
theorem test_lea : after (.lea .always 6 7 8 3) (task .c true [(7, 0x1000), (8, 2)]) (fun t => t.reg 6) = some 0x1010 := by decide +kernel
-- R111, R112: backwards by 7 words from 0x1000; JALR through s31 jumps to the old link
theorem test_jump_back : after (.jump .always 0xFFFF9) (task .c true []) (fun t => t.ctx.pc) = some 0xFE4 := by decide +kernel
theorem test_jalr_through_link : after (.jumpLinkReg .always 31) (task .c true [(31, 0x2000)]) (fun t => (t.ctx.pc, t.reg 31)) = some (0x2000, 0x1004) := by decide +kernel
theorem test_guard_unselected : after (.jump (.on false 1) 4) (task .c true []) (fun t => t.ctx.pc) = some 0x1004 := by decide +kernel
-- R119, R362: TRAP 5 with a user vector goes there, with its code saved
theorem test_trap : after (.trap .always 5) ((task .c true []).mapThread 0 (fun t => { t with utvec := 0x2000 })) (fun t => t.ctx.pc) = some 0x2000 := by decide +kernel
-- R125, R126: a store of the last doubleword of local memory and its bytes, lowest first
theorem test_local_store : after (.st .always 2 1 3 1 0) (task .c true [(1, 0x17FF8), (2, 0x0102030405060708)]) (fun t => ((t.core 0).mem.read 0x17FF8, (t.core 0).mem.read 0x17FFF)) = some (8, 1) := by decide +kernel
theorem test_local_load_sign : after (.ld .always 2 1 0 1 0) ((task .c true [(1, 0x10)]).mapCore 0 (fun k => { k with mem := Memory.writeList [] 0x10 [0x80] })) (fun t => t.reg 2) = some 0xFFFFFFFFFFFFFF80 := by
  decide +kernel
-- R177, R211: 1.0 + 1.0 = 2.0 in FP32, and the smallest subnormal is kept
theorem test_vadd_fp32 : after (.vadd .always 0 1 2) (shaped 0 [] [(1, 0x3F800000), (2, 0x3F800000)]) (fun t => getBytes (t.vsrc 0 0) 0 4) = some 0x40000000 := by decide +kernel
theorem test_vadd_subnormal : after (.vadd .always 0 1 2) (shaped 0 [] [(1, 1), (2, 1)]) (fun t => getBytes (t.vsrc 0 0) 0 4) = some 2 := by decide +kernel
-- 1 + 2^-24 ties to even, 1.0 (R175)
theorem test_vadd_ties_to_even : after (.vadd .always 0 1 2) (shaped 0 [] [(1, 0x3F800000), (2, 0x33800000)]) (fun t => getBytes (t.vsrc 0 0) 0 4) = some 0x3F800000 := by decide +kernel
theorem test_vmul_overflow : after (.vmul .always 0 1 1) (shaped 0 [] [(1, 0x7F000000)]) (fun t => getBytes (t.vsrc 0 0) 0 4) = some 0x7F800000 := by decide +kernel
-- R235, R234
theorem test_qpub : after (.qpub .always 0) (withQueue { queue1 with filled := 0 } (task .a true [])) (fun t => ((t.queueAt 0 0).filled, (t.queueAt 0 0).pp, (t.thread 0).wake)) = some (1, 0, true) := by decide +kernel
-- R282, R283: the atomic add of 5 to a word of 7 leaves 12 and returns 7
theorem test_home_atomic : after (.homeAtomic 3) { inFlight (packet0 (.atomic 0 32 4 5 0)) with mem := Memory.writeList [] 0x104 [7] }
    (fun t => (t.mem.read 0x104, (t.net.get? 3).map Packet.result, t.tagOf 0x100)) = some (12, some 7, 1) := by decide +kernel
-- R266: the home slices of two lines
theorem test_home_slice : homeSlice 0x352A3C1F00 = 0x0C ∧ homeSlice 0x352A3C2000 = 0x33 := by decide
-- R271: the leaf entries of a 64 KiB page
theorem test_leaves : leafOf 0 0xC60000352A3C0000 = some { pa := 0x352A3C0000, size := 65536, kind := 0, imm := false, r := true, w := true, x := false, sec := false } ∧
    leafOf 0 0xCD0000352A3C0000 = some { pa := 0x352A3C0000, size := 65536, kind := 0, imm := true, r := true, w := false, x := true, sec := false } := by decide
-- R176: the first draw after SEED 1
theorem test_xorshift : xorshift 1 = 0x40822041 := by decide +kernel
-- R354: a counter below 0 stays at 0 and sets UNDER
theorem test_tdep_under : after (.tdep .always 9 1 4) (task .c true [(1, 5), (4, 0xFFFFFFFF)]) (fun t => t.reg 9) = some 0x8000000000000000 := by decide +kernel
-- R413: the ticket of the first command on edge 4
theorem test_lturn_ticket : after (.lturn .always 9 1 2) (edged Edge.init [(1, 4), (2, 20)]) (fun t => t.reg 9) = some 0x40001 := by decide +kernel
-- R370: WORLD returns the old bit
theorem test_world : after (.world .always 9 1 0) (surveyor [(1, 0x1)]) (fun t => (t.reg 9, (t.cluster 1).worldCl)) = some (1, false) := by decide +kernel
-- R75, R78: a word with MAJ 0, and a word with E = 0 and a guard predicate, are no instructions
theorem test_illegal : (match decode 0 with | .error _ => true | .ok _ => false) = true ∧ decode 0x04100000 = .error .guardBits := by decide +kernel
-- R436: GO starts verification
theorem test_go : after (.statusWrite 2 0x5001) State.reset (fun t => (t.bootStage, t.bootPort, t.bootImage)) = some (1, 2, 0x5000) := by decide +kernel
-- The word that is placed after reset runs as the first instruction: addi s1, s0, -240
theorem test_first_instruction : (match step (State.reset.withFetchWord 32 0x10008310) with | .next t => some (t.reg 1) | _ => none) = some 0xFFFFFFFFFFFFFF10 := by decide +kernel
-- R438: the example "abc" of FIPS 180-4, its first and last bytes
theorem test_sha384_abc : ((sha384 [0x61, 0x62, 0x63]).take 4, (sha384 [0x61, 0x62, 0x63]).drop 44) = ([0xCB, 0x00, 0x75, 0x3F], [0x34, 0xC8, 0x25, 0xA7]) := by decide +kernel
-- R63: the number of a read-only register raises cause 0x08 whatever the guard is
theorem test_cwr_read_only : after (.cwr (.on false 1) 1 0x010) ((task .c true []).mapThread 0 (fun t => { t with utvec := 0x2000 })) (fun t => (t.ctx.run, t.ctx.x, (t.thread 0).epcc)) = some (.frozen, (task .c true []).ctx.x, 0x1000) := by decide +kernel

/-! ## Hint groups, jumps and the counts of REP -/

theorem witness_trapWithoutVector :
    (let s := task .a true []
     Issues (.trap .always 31) s ∧ Issues (.brk .always) s ∧ s.selected .always = true ∧ (s.thread 0).utvec = 0 ∧ (s.thread 0).follow = none ∧ s.ctx.grp = s.ctx.pc ∧
       s.ringBlocked (sheetOfCore (coreOfThread 0)) = false) ∧
    (let s := (task .c true []).mapThread 0 (fun t => { t with follow := some 64 })
     Issues (.trap .always 0) s ∧ s.isFollower = true) ∧ Issues (.brk .always) (handler []) ∧ (handler []).cur.isTask = false := by unfold Issues; decide +kernel

theorem witness_repetitionsOfCountZero :
    let s := (task .c true []).upd (fun k => { k with hints := { k.hints with rep := some { count := 0, dStep := 0, aStep := 0, bStep := 0 } } })
    let i := Instr.vadd .always 23 24 31
    hasWord i ∧ i.wellFormed = true ∧ privileged s.cur i = false ∧ wrongSide s.cur i = false ∧ groupOf i ≠ .hint ∧ s.repZero = true := by
  unfold hasWord; decide +kernel

/-- A core that holds a copy of the line at 0x1000, with some words at its start. -/
def withGroup (ws : List Nat) : State :=
  (task .c true []).mapCore 0 (fun k => { k with ilines := [((1, 16), BitVec.ofNat _ (ws.foldr (fun w x => x * 2 ^ 32 + w) 0))] })

/-- The words that a fetch of a group at the program counter returns. -/
def groupFetched (s : State) : List (BitVec 32) :=
  match (s.upd (fun k => k.begin k.pc [])).fetchGroup s.ctx.pc.toNat 4 with | .ok ws _ => ws | _ => []

theorem witness_fourHints : groupFetched (withGroup [0xFC000000, 0xFC400001, 0xFCC00000, 0xFD000000, 0x10008310]) = [0xFC000000, 0xFC400001, 0xFCC00000, 0xFD000000] := by
  decide +kernel

theorem witness_group : groupFetched (withGroup [0xFC000000, 0xFC400001, 0x10008310]) = [0xFC000000, 0xFC400001] ++ [0x10008310] := by decide +kernel

theorem witness_groupOfOneKind : groupFetched (withGroup [0xFC400001, 0xFC400002, 0x10008310]) = [0xFC400001, 0xFC400002] ++ [0x10008310] := by decide +kernel

theorem witness_hintWords : [0xFC000000, 0xFC400001, 0xFC400002, 0xFCC00000, 0xFD000000].all isHintWord = true ∧ isHintWord 0x10008310 = false := by decide +kernel

theorem witness_emptyBuffer : (withGroup []).ctx.buf = [] ∧ (withGroup []).isFollower = false := by decide +kernel

/-- The parts of the two hints of the legal group: IMMX with 0, and REP with count 1 and no step. -/
theorem hintParts : kindOf 0xFC000000 = 0 ∧ payloadOf 0xFC000000 = 0 ∧ kindOf 0xFC400001 = 1 ∧ payloadOf 0xFC400001 = 1 := by decide +kernel

theorem witness_legalGroup : legalGroup false [0xFC000000, 0xFC400001] 0x10008310 := by
  obtain ⟨k0, p0, k1, p1⟩ := hintParts
  have hi : groupOf (.addi .always 1 0 0x310) = .immediate := rfl
  refine ⟨by decide +kernel, ?_, .addi .always 1 0 0x310, by decide +kernel, by decide +kernel, ?_⟩
  · intro h hh
    simp only [List.mem_cons, List.not_mem_nil, or_false] at hh
    rcases hh with rfl | rfl
    · rw [k0, p0]; unfold reservedHint; omega
    · rw [k1, p1]; unfold reservedHint; omega
  · intro h hh
    simp only [List.mem_cons, List.not_mem_nil, or_false] at hh
    rcases hh with rfl | rfl
    · rw [k0, p0]; unfold suits takesKind; rw [hi]; simp
    · rw [k1, p1]; unfold suits takesKind; rw [hi]; simp

theorem witness_illegalGroup : ¬legalGroup false [0xFC400001, 0xFC400002] 0x10008310 := fun h => absurd h.1 (by decide +kernel)

theorem witness_jumpsThroughRegisters :
    ((0x48000020 : BitVec 32).toNat / 2 ^ 26 = 0x12 ∧ (0x48000020 : BitVec 32).toNat % 32 < 2 ∧ (0x48000020 : BitVec 32).toNat / 2 ^ 5 % 32 ≠ 0) ∧
    (0x480F8001 : BitVec 32).toNat / 2 ^ 15 % 32 ≠ 0 ∧ decode 0x48007C01 = .ok (.jumpLinkReg .always 31) ∧
    (let s := task .c true [(31, 0x2002), (30, 0x2000)]
     Issues (.jumpLinkReg .always 31) s ∧ Issues (.jumpReg .always 30) s ∧ s.isFollower = false ∧ (s.reg 30).toNat % 4 = 0 ∧ (s.reg 31).toNat % 4 ≠ 0 ∧ (s.thread 0).post = true ∧
       s.ringBlocked (sheetOfCore (coreOfThread 0)) = false ∧ s.ctx.grp = s.ctx.pc) ∧
    (let s := (task .a true []).mapThread 0 (fun t => { t with follow := some 64 }); Issues (.jumpLinkReg .always 31) s ∧ s.isFollower = true) := by
  unfold Issues; decide +kernel


end Sys2Proof.Tests
end

/-! # Fetches, the host's accesses to memory, and bring-up (O6, O53) -/

namespace Sys2Proof.Machine

/-! ### Bytes of a number (R7) -/

theorem two_pow_eight_mul (k : Nat) : 2 ^ (8 * k) = 256 ^ k := Nat.pow_mul 2 8 k

theorem toNat_ofNat_of_lt {w x : Nat} (h : x < 2 ^ w) : (BitVec.ofNat w x).toNat = x := by rw [BitVec.toNat_ofNat, Nat.mod_eq_of_lt h]

theorem leNat_lt (bs : List Byte) : leNat bs < 256 ^ bs.length := by
  induction bs with
  | nil => simp [leNat]
  | cons b rest ih =>
    have hb : b.toNat < 256 := b.isLt
    simp only [leNat, List.length_cons, Nat.pow_succ]
    omega

theorem leNat_div_pow (bs : List Byte) (k : Nat) : leNat bs / 256 ^ k = leNat (bs.drop k) := by
  induction k generalizing bs with
  | zero => simp
  | succ k ih =>
    cases bs with
    | nil => simp [leNat]
    | cons b rest =>
      have hb : b.toNat < 256 := b.isLt
      rw [Nat.pow_succ', ← Nat.div_div_eq_div_mul, List.drop_succ_cons, ← ih, leNat]
      congr 1
      omega

theorem leNat_mod_pow (bs : List Byte) (k : Nat) : leNat bs % 256 ^ k = leNat (bs.take k) := by
  induction k generalizing bs with
  | zero => simp [leNat, Nat.mod_one]
  | succ k ih =>
    cases bs with
    | nil => simp [leNat]
    | cons b rest =>
      have hb : b.toNat < 256 := b.isLt
      rw [List.take_succ_cons, leNat, leNat, ← ih, Nat.pow_succ', Nat.mod_mul]
      rw [show (b.toNat + 256 * leNat rest) % 256 = b.toNat by omega, show (b.toNat + 256 * leNat rest) / 256 = leNat rest by omega]

/-- A byte of a list is the byte of the number that the list holds. -/
theorem leNat_byte (bs : List Byte) (k : Nat) : leNat bs / 256 ^ k % 256 = (bs.getD k 0).toNat := by
  rw [leNat_div_pow, ← Nat.pow_one 256, leNat_mod_pow, List.getD_eq_getElem?_getD]
  cases h : bs.drop k with
  | nil => simp [leNat, List.getElem?_eq_none (List.drop_eq_nil_iff.mp h)]
  | cons b rest =>
    have hk : bs[k]? = some b := by rw [← Nat.add_zero k, ← List.getElem?_drop, h]; rfl
    simp [leNat, hk]

@[simp] theorem length_leBytes (n x : Nat) : (leBytes n x).length = n := by
  induction n generalizing x with
  | zero => rfl
  | succ n ih => simp [leBytes, ih]

/-- The bytes of the number that a list holds are the list. -/
theorem leBytes_leNat (bs : List Byte) : leBytes bs.length (leNat bs) = bs := by
  induction bs with
  | nil => rfl
  | cons b rest ih =>
    have hb : b.toNat < 256 := b.isLt
    have hd : (b.toNat + 256 * leNat rest) / 256 = leNat rest := by omega
    have hm : BitVec.ofNat 8 (b.toNat + 256 * leNat rest) = b := BitVec.eq_of_toNat_eq (by simp; omega)
    rw [List.length_cons, leNat, leBytes, hd, hm, ih]

/-- A word that holds the number of n bytes gives them back. -/
theorem leBytes_toNat_ofNat {bs : List Byte} {n : Nat} (h : bs.length = n) : leBytes n (BitVec.ofNat (8 * n) (leNat bs)).toNat = bs := by
  subst h
  rw [toNat_ofNat_of_lt (two_pow_eight_mul _ ▸ leNat_lt bs), leBytes_leNat]

@[simp] theorem State.length_homeBytes (s : State) (pa n : Nat) : (s.homeBytes pa n).length = n := by simp [State.homeBytes]

/-- A part of the bytes at a range of home addresses. -/
theorem State.homeBytes_drop_take (s : State) (pa n k m : Nat) (h : k + m ≤ n) : ((s.homeBytes pa n).drop k).take m = s.homeBytes (pa + k) m := by
  refine List.ext_getElem (by simp; omega) (fun i _ _ => ?_)
  simp [State.homeBytes, Nat.add_assoc]

/-! ### Fetched words (R99, R122, R276) -/

theorem State.toNat_homeLine (s : State) (line : Nat) : (s.homeLine line).toNat = leNat (s.homeBytes line 256) := by
  have h := leNat_lt (s.homeBytes line 256)
  rw [State.length_homeBytes, ← two_pow_eight_mul] at h
  exact toNat_ofNat_of_lt (w := 8 * 256) h

/-- The word at an offset of a line is the number that the line holds from there upward, to 32 bits. -/
theorem wordOf_eq (d : LineData) (off : Nat) : wordOf d off = BitVec.ofNat 32 (d.toNat / 2 ^ (8 * off)) :=
  BitVec.eq_of_toNat_eq (by simp [wordOf, getBytes])

/-- An aligned word of a line at its home is made of the four bytes at its address, lowest first (R7). -/
theorem State.wordOf_homeLine (s : State) {pa : Nat} (h : pa % 4 = 0) :
    wordOf (s.homeLine (pa / 256 * 256)) (pa % 256) = BitVec.ofNat 32 (leNat (s.homeBytes pa 4)) := by
  have hin : pa % 256 + 4 ≤ 256 := by omega
  have hat : pa / 256 * 256 + pa % 256 = pa := by omega
  have hbytes := s.homeBytes_drop_take (pa / 256 * 256) 256 (pa % 256) 4 hin
  rw [hat] at hbytes
  rw [wordOf, getBytes, State.toNat_homeLine, two_pow_eight_mul, two_pow_eight_mul, leNat_div_pow, leNat_mod_pow, hbytes]

/-- A sheet reads a line at its home where it is the home's sheet or holds no replica. -/
theorem State.readLine_home (s : State) {sheet line : Nat} (h : paSheet line = sheet ∨ (s.sheet sheet).replicas.get? line = none) :
    (s.readLine sheet line).1 = s.homeLine line := by
  have hno : (if paSheet line ≠ sheet then (s.sheet sheet).replicas.get? line else none) = none := by
    rcases h with h | h <;> simp [h]
  simp only [State.readLine, hno]

theorem State.readLine_replica (s : State) {sheet line : Nat} {x : LineData × BitVec 32 × Option WinTag} (hs : paSheet line ≠ sheet)
    (h : (s.sheet sheet).replicas.get? line = some x) : s.readLine sheet line = (x.1, s) := by
  simp only [State.readLine, if_pos hs, h]

section fetch
variable {s : State} {pc : Nat} (hsv : s.cur.isSurveyor = false)
include hsv

theorem State.fetchWord_copy {d : LineData} (h : (s.core s.coreId).ilines.get? (s.asidOf s.cur, pc / 256) = some d) :
    s.fetchWord pc = .ok (wordOf d (pc % 256)) s := by
  simp only [State.fetchWord, hsv, Bool.false_eq_true, if_false, h]

variable (hno : (s.core s.coreId).ilines.get? (s.asidOf s.cur, pc / 256) = none)
include hno

theorem State.fetchWord_cause {c : Nat} {u : State}
    (hx : s.translate s.clusterId (s.asidOf s.cur) pc .fetch (s.coreSecure s.coreId) = (.cause c, u)) :
    s.fetchWord pc = .trap c (BitVec.ofNat 64 pc) u := by
  simp only [State.fetchWord, hsv, Bool.false_eq_true, if_false, hno, hx]

theorem State.fetchWord_page {u : State} {l : Leaf} {pa : Nat}
    (hx : s.translate s.clusterId (s.asidOf s.cur) pc .fetch (s.coreSecure s.coreId) = (.page l pa, u))
    (hm : u.moving pa = false) (hp : u.poisoned pa 4 = false) :
    let line := pa / 256 * 256
    let v := (u.countUnbacked pa).readPass u.clusterId pa (u.entryOf (.side u.cur)).2
    let r := if l.kind = 1 then (v.homeLine line, v) else v.readLine v.sheetId line
    s.fetchWord pc = .ok (wordOf r.1 (pc % 256)) (r.2.mapCore v.coreId (fun k => { k with ilines := k.ilines.set (s.asidOf s.cur, pc / 256) r.1 })) := by
  simp only [State.fetchWord, hsv, Bool.false_eq_true, if_false, hno, hx, hm, hp]

end fetch

/-! ### Writes of backed memory by the host (R253, R260, R322)

The offsets below 0xC00000000 of a sheet are backed whatever the state holds; a write there changes its own bytes alone where no plate has to be made
invalid. -/

theorem State.region_eq_hbm_iff (s : State) (pa : Nat) : s.region pa = .hbm ↔ paModule pa = 0 ∧ paCfg pa = false ∧ paOff pa < 0xC00000000 := by
  have hiff : ¬(paModule pa ≠ 0 ∨ paCfg pa = true) ↔ paModule pa = 0 ∧ paCfg pa = false := by simp
  rw [← and_assoc, ← hiff]
  unfold State.region
  by_cases hm : paModule pa ≠ 0 ∨ paCfg pa = true
  · simp only [hm, if_true, not_true, false_and, reduceCtorEq]
  · by_cases ho : paOff pa < 0xC00000000
    · simp only [hm, ho, if_true, if_false, not_false_eq_true, and_self]
    · simp only [hm, ho, if_false, and_false, iff_false]
      split_ifs <;> nofun

theorem State.region_hbm_of {s : State} (t : State) {pa : Nat} (h : s.region pa = .hbm) : t.region pa = .hbm :=
  (t.region_eq_hbm_iff pa).mpr ((s.region_eq_hbm_iff pa).mp h)

theorem State.region_line_hbm {s : State} {pa : Nat} (h : s.region pa = .hbm) : s.region (pa / 256 * 256) = .hbm := by
  obtain ⟨hm, hc, ho⟩ := (s.region_eq_hbm_iff pa).mp h
  refine (s.region_eq_hbm_iff _).mpr ⟨?_, ?_, ?_⟩
  · simp only [paModule] at hm ⊢; omega
  · simp only [paCfg, beq_eq_false_iff_ne] at hc ⊢; omega
  · simp only [paOff] at ho ⊢; omega

theorem State.backed_hbm {s : State} {pa : Nat} (h : s.region pa = .hbm) : s.backed pa = true := by simp only [State.backed, h]

theorem State.homeByte_hbm {s : State} {pa : Nat} (h : s.region pa = .hbm) : s.homeByte pa = s.mem.read pa := by simp only [State.homeByte, h]

theorem State.storeByte_hbm {s : State} {pa : Nat} (b : Byte) (h : s.region pa = .hbm) :
    s.storeByte pa b = { s with memPoison := s.memPoison.filter (· ≠ pa), mem := s.mem.write pa b } := by
  have h' : ({ s with memPoison := s.memPoison.filter (· ≠ pa) } : State).region pa = .hbm := h
  simp only [State.storeByte, h']

/-- The bytes of a mask's first n positions, as storing them leaves memory. -/
theorem State.storeLine_upTo {s : State} {line : Nat} {mask : LineMask} (data : LineData) (hwf : s.mem.wf = true) (n : Nat)
    (hh : ∀ k, k < n → mask.getLsbD k = true → s.region (line + k) = .hbm) :
    let t := (List.range n).foldl (fun s k => if mask.getLsbD k then s.storeByte (line + k) (BitVec.ofNat 8 (getBytes data k 1)) else s) s
    t.mem.wf = true ∧ t.sheets = s.sheets ∧ ∀ x, t.mem.read x =
      if line ≤ x ∧ x < line + n ∧ mask.getLsbD (x - line) = true then BitVec.ofNat 8 (getBytes data (x - line) 1) else s.mem.read x := by
  induction n with
  | zero => exact ⟨hwf, rfl, fun x => by rw [if_neg (by omega)]; rfl⟩
  | succ n ih =>
    obtain ⟨iwf, ish, iread⟩ := ih (fun k hk => hh k (by omega))
    simp only [List.range_succ, List.foldl_append, List.foldl_cons, List.foldl_nil]
    by_cases hn : mask.getLsbD n = true
    · rw [if_pos hn, State.storeByte_hbm _ (State.region_hbm_of _ (hh n (by omega) hn))]
      refine ⟨Memory.wf_write iwf _ _, ish, fun x => ?_⟩
      rw [Memory.read_write iwf, iread]
      by_cases hx : x = line + n
      · simp [hx, hn]
      · rw [if_neg hx]
        exact if_congr (and_congr_right fun _ => and_congr_left fun _ => by omega) rfl rfl
    · rw [if_neg hn]
      refine ⟨iwf, ish, fun x => (iread x).trans (if_congr ?_ rfl rfl)⟩
      by_cases hx : x = line + n
      · simp [hx, hn]
      · exact and_congr_right fun _ => and_congr_left fun _ => by omega

theorem getLsbD_lineMask {off n k : Nat} (hk : k < 256) : (lineMask off n).getLsbD k = decide (off ≤ k ∧ k < off + n) := by
  rw [lineMask, ones, BitVec.getLsbD_ofNat, Nat.testBit_mul_two_pow, Nat.testBit_two_pow_sub_one]
  simp only [hk, decide_true, Bool.true_and, ← Bool.decide_and]
  exact decide_eq_decide.mpr (by omega)

/-- No sheet holds a plate, so a write makes none invalid. -/
def State.noPlates (s : State) : Prop := ∀ h, (s.sheet h).plates = []

theorem State.noPlates_mapSheet {s : State} {n : Nat} {f : Sheet → Sheet} (hf : ∀ h, (f h).plates = h.plates) (hp : s.noPlates) : (s.mapSheet n f).noPlates := by
  intro m
  rw [State.sheet_mapSheet]
  split
  · rw [hf, hp]
  · exact hp m

theorem State.noPlates_of_sheets {s t : State} (h : t.sheets = s.sheets) (hp : s.noPlates) : t.noPlates := fun m => by
  rw [State.sheet, h]; exact hp m

/-- The page record of a write changes neither memory nor plates (R276). -/
theorem State.pageWritten_frame {s : State} (line : Nat) (hp : s.noPlates) : (s.pageWritten line).mem = s.mem ∧ (s.pageWritten line).noPlates := by
  have hdrop (mask : BitVec 32) : (s.dropReplicas line mask).mem = s.mem ∧ (s.dropReplicas line mask).noPlates := by
    refine List.foldlRecOn (motive := fun t : State => t.mem = s.mem ∧ t.noPlates) _ _ ⟨rfl, hp⟩ (fun t ht r _ => ?_)
    split
    · exact ⟨ht.1, State.noPlates_mapSheet (by exact fun _ => rfl) ht.2⟩
    · exact ht
  unfold State.pageWritten
  dsimp only
  split_ifs
  · exact ⟨(hdrop _).1, State.noPlates_mapSheet (by exact fun _ => rfl) (hdrop _).2⟩
  · exact ⟨rfl, State.noPlates_mapSheet (by exact fun _ => rfl) hp⟩
  · exact ⟨rfl, hp⟩

theorem State.invalidatePlates_noPlates {s : State} (pa : Nat) (hp : s.noPlates) : s.invalidatePlates pa = s := by
  refine List.foldlRecOn (motive := fun t : State => t = s) _ _ rfl (fun t ht e _ => ?_)
  subst ht
  simp [hp e.1]

theorem State.afterWrite_frame {s : State} (line : Nat) (hp : s.noPlates) : (s.afterWrite line).mem = s.mem ∧ (s.afterWrite line).noPlates := by
  have hpage := (s.setTag line (s.tagOf line + 1)).pageWritten_frame line hp
  rw [State.afterWrite, State.invalidatePlates_noPlates line hpage.2]
  exact hpage

/-- From one state to another the bytes of a list were stored at consecutive addresses and no other byte changed; memory is canonical, and no plate exists. -/
def wroteBytes (s t : State) (pa : Nat) (bs : List Byte) : Prop :=
  t.mem.wf = true ∧ t.noPlates ∧ ∀ x, t.mem.read x = if pa ≤ x ∧ x < pa + bs.length then bs.getD (x - pa) 0 else s.mem.read x

theorem wroteBytes_nil {s : State} (hwf : s.mem.wf = true) (hp : s.noPlates) (pa : Nat) : wroteBytes s s pa [] :=
  ⟨hwf, hp, fun x => by rw [if_neg (by simp)]⟩

theorem wroteBytes_append {s u t : State} {pa : Nat} {xs ys : List Byte} (h : wroteBytes s u pa xs) (h' : wroteBytes u t (pa + xs.length) ys) :
    wroteBytes s t pa (xs ++ ys) := by
  obtain ⟨-, -, hx⟩ := h
  obtain ⟨twf, tp, hy⟩ := h'
  refine ⟨twf, tp, fun a => ?_⟩
  rw [hy, hx, List.length_append]
  by_cases h1 : pa + xs.length ≤ a ∧ a < pa + xs.length + ys.length
  · rw [if_pos h1, if_pos (by omega), List.getD_append_right _ _ _ _ (by omega), Nat.sub_sub]
  · rw [if_neg h1]
    by_cases h2 : pa ≤ a ∧ a < pa + xs.length
    · rw [if_pos h2, if_pos (by omega), List.getD_append _ _ _ _ (by omega)]
    · rw [if_neg h2, if_neg (by omega)]

theorem leNat_mul_lt {bs : List Byte} {off n : Nat} (h : bs.length + off ≤ n) : leNat bs * 2 ^ (8 * off) < 2 ^ (8 * n) := by
  calc leNat bs * 2 ^ (8 * off) < 256 ^ bs.length * 2 ^ (8 * off) := Nat.mul_lt_mul_of_pos_right (leNat_lt bs) (Nat.two_pow_pos _)
    _ = 2 ^ (8 * (bs.length + off)) := by rw [← two_pow_eight_mul, ← Nat.pow_add, ← Nat.mul_add]
    _ ≤ 2 ^ (8 * n) := Nat.pow_le_pow_right (by decide) (by omega)

/-- The bytes of a list within a line's data, at the offset at which a write carries them. -/
theorem byte_of_lineData {bs : List Byte} {off k : Nat} (hin : bs.length + off ≤ 256) (hk : off ≤ k) :
    BitVec.ofNat 8 (getBytes (BitVec.ofNat 2048 (leNat bs * 2 ^ (8 * off))) k 1) = bs.getD (k - off) 0 := by
  obtain ⟨j, rfl⟩ := Nat.exists_eq_add_of_le hk
  have hnat : (BitVec.ofNat 2048 (leNat bs * 2 ^ (8 * off))).toNat = leNat bs * 2 ^ (8 * off) := toNat_ofNat_of_lt (w := 8 * 256) (leNat_mul_lt hin)
  have hbyte : leNat bs * 2 ^ (8 * off) / 2 ^ (8 * (off + j)) = leNat bs / 256 ^ j := by
    rw [Nat.mul_add, Nat.pow_add, Nat.mul_comm (2 ^ (8 * off)), Nat.mul_div_mul_right _ _ (Nat.two_pow_pos _), two_pow_eight_mul]
  rw [getBytes, hnat, hbyte, show 2 ^ (8 * 1) = 256 from rfl, leNat_byte, Nat.add_sub_cancel_left, BitVec.ofNat_toNat, BitVec.setWidth_eq]

section write
variable {s : State} (hwf : s.mem.wf = true) (hp : s.noPlates)
include hwf hp

/-- A write of backed bytes within a line stores them and no others (R253). -/
theorem State.performBytes_hbm {pa : Nat} {bs : List Byte} (hne : bs ≠ []) (hin : pa % 256 + bs.length ≤ 256)
    (hh : ∀ k, k < bs.length → s.region (pa + k) = .hbm) : wroteBytes s (s.performBytes pa bs) pa bs := by
  have hlen : 0 < bs.length := List.length_pos_iff.mpr hne
  have hline : s.region (pa / 256 * 256) = .hbm := State.region_line_hbm (hh 0 hlen)
  have hmask (k : Nat) (hk : k < 256) : (lineMask (pa % 256) bs.length).getLsbD k = true ↔ pa % 256 ≤ k ∧ k < pa % 256 + bs.length := by
    rw [getLsbD_lineMask hk, decide_eq_true_iff]
  obtain ⟨swf, ssh, sread⟩ := State.storeLine_upTo (line := pa / 256 * 256) (mask := lineMask (pa % 256) bs.length)
    (BitVec.ofNat 2048 (leNat bs * 2 ^ (8 * (pa % 256)))) hwf 256 (fun k hk hm => by
      obtain ⟨h1, h2⟩ := (hmask k hk).mp hm
      have := hh (k - pa % 256) (by omega)
      rwa [show pa + (k - pa % 256) = pa / 256 * 256 + k by omega] at this)
  obtain ⟨amem, aplates⟩ := State.afterWrite_frame (pa / 256 * 256) (State.noPlates_of_sheets ssh hp)
  rw [State.performBytes, State.performWrite, if_pos (State.backed_hbm hline)]
  refine ⟨amem ▸ swf, aplates, fun x => ?_⟩
  rw [State.storeLine, amem, sread]
  by_cases hx : pa ≤ x ∧ x < pa + bs.length
  · have hk := (hmask (x - pa / 256 * 256) (by omega)).mpr (by omega)
    rw [if_pos ⟨by omega, by omega, hk⟩, if_pos hx, byte_of_lineData (by omega) (by omega)]
    congr 1; omega
  · rw [if_neg hx, if_neg]
    rintro ⟨h1, h2, h3⟩
    exact hx (by have := (hmask _ (by omega)).mp h3; omega)

end write

@[simp] theorem State.performSpan_nil (s : State) (pa n : Nat) : s.performSpan pa [] n = s := by cases n <;> rfl

/-- A write of backed bytes stores them, line by line (R253). -/
theorem State.performSpan_hbm {s : State} (hwf : s.mem.wf = true) (hp : s.noPlates) {pa : Nat} {bs : List Byte} {n : Nat} (hn : bs.length + pa % 256 ≤ 256 * n)
    (hh : ∀ k, k < bs.length → s.region (pa + k) = .hbm) : wroteBytes s (s.performSpan pa bs n) pa bs := by
  induction n generalizing s pa bs with
  | zero =>
    obtain rfl : bs = [] := List.length_eq_zero_iff.mp (by omega)
    exact wroteBytes_nil hwf hp pa
  | succ n ih =>
    rw [State.performSpan]
    by_cases hb : bs = []
    · rw [if_pos hb, hb]; exact wroteBytes_nil hwf hp pa
    rw [if_neg hb]
    dsimp only
    set m := 256 - pa % 256 with hm
    have hpos : 0 < bs.length := List.length_pos_iff.mpr hb
    by_cases hlen : bs.length ≤ m
    · rw [List.take_of_length_le hlen, List.drop_of_length_le hlen, State.performSpan_nil]
      exact State.performBytes_hbm hwf hp hb (by omega) hh
    · have htake : (bs.take m).length = m := List.length_take_of_le (by omega)
      have hdrop : (bs.drop m).length = bs.length - m := List.length_drop
      have hfirst := State.performBytes_hbm hwf hp (bs := bs.take m) (List.length_pos_iff.mp (by omega)) (by omega) (fun k hk => hh k (by omega))
      have ⟨fwf, fplates, _⟩ := hfirst
      have hrest := ih fwf fplates (pa := pa + m) (bs := bs.drop m) (by omega)
        (fun k hk => State.region_hbm_of _ (Nat.add_assoc pa m k ▸ hh (m + k) (by omega)))
      have hall : wroteBytes s _ pa (bs.take m ++ bs.drop m) := wroteBytes_append hfirst (by rw [htake]; exact hrest)
      rwa [List.take_append_drop] at hall

/-- A host write of backed memory stores its bytes and no others (R322). -/
theorem State.hostWrite_hbm {s : State} (hwf : s.mem.wf = true) (hp : s.noPlates) {pa : Nat} {bs : List Byte}
    (hh : ∀ k, k < bs.length → s.region (pa + k) = .hbm) : wroteBytes s (s.hostWrite pa bs) pa bs := by
  have hspan := State.performSpan_hbm hwf hp (n := bs.length / 256 + 2) (by omega) hh
  refine List.foldlRecOn (motive := fun t : State => wroteBytes s t pa bs) _ _ hspan (fun t ht line _ => ?_)
  split <;> exact ht

/-! ### Reads of backed memory by the host (R322) -/

theorem readList_of_wroteBytes {s t : State} {pa : Nat} {bs : List Byte} (h : wroteBytes s t pa bs) : t.mem.readList pa bs.length = bs := by
  obtain ⟨-, -, hread⟩ := h
  refine List.ext_getElem (Memory.length_readList _ _ _) (fun k hk hk' => ?_)
  simp only [Memory.readList, List.getElem_map, List.getElem_range, hread]
  rw [if_pos (by omega), Nat.add_sub_cancel_left, List.getD_eq_getElem _ _ hk']

theorem read_of_wroteBytes_outside {s t : State} {pa : Nat} {bs : List Byte} (h : wroteBytes s t pa bs) {x : Nat} (hx : x < pa ∨ pa + bs.length ≤ x) :
    t.mem.read x = s.mem.read x := by
  obtain ⟨-, -, hread⟩ := h
  rw [hread, if_neg (by omega)]

theorem State.homeBytes_hbm {s : State} {pa n : Nat} (hh : ∀ k, k < n → s.region (pa + k) = .hbm) : s.homeBytes pa n = s.mem.readList pa n :=
  List.map_congr_left (fun k hk => State.homeByte_hbm (hh k (List.mem_range.mp hk)))

theorem State.countUnbacked_mem (s : State) (pa : Nat) : (s.countUnbacked pa).mem = s.mem := by
  unfold State.countUnbacked
  split <;> rfl

theorem State.hostRead_hbm {s : State} {pa n : Nat} (hc : paCfg pa = false) (hh : ∀ k, k < n → s.region (pa + k) = .hbm) :
    (s.hostRead pa n).1 = s.mem.readList pa n ∧ (s.hostRead pa n).2.mem = s.mem := by
  rw [State.hostRead, if_neg (by simp [hc])]
  refine ⟨State.homeBytes_hbm hh, ?_⟩
  exact List.foldlRecOn (motive := fun t : State => t.mem = s.mem) _ _ rfl (fun t ht l _ => (t.countUnbacked_mem l).trans ht)

/-! ### A module with no regions, moves or plates, and a port that holds nothing -/

theorem Map.get_of_forall {K V : Type} [DecidableEq K] {P : V → Prop} {d : V} (hd : P d) {m : Map K V} (h : ∀ e ∈ m, P e.2) (k : K) : P (m.get d k) := by
  induction m with
  | nil => exact hd
  | cons e rest ih =>
    rw [Map.get]
    split
    · exact h e (by simp)
    · exact ih (fun x hx => h x (List.mem_cons_of_mem _ hx))

section claims
open Sys2Proof.Claims

theorem sheet_of_plainModule {s : State} (h : plainModule s) (n : Nat) :
    (s.sheet n).regions = [] ∧ (s.sheet n).windows = [] ∧ (s.sheet n).moves = [] ∧ (s.sheet n).plates = [] := by
  obtain ⟨-, hsheets, -⟩ := h
  exact Map.get_of_forall (P := fun k : Sheet => k.regions = [] ∧ k.windows = [] ∧ k.moves = [] ∧ k.plates = []) ⟨rfl, rfl, rfl, rfl⟩ hsheets n

theorem noPlates_of_plainModule {s : State} (h : plainModule s) : s.noPlates := fun n => by
  obtain ⟨-, -, -, hp⟩ := sheet_of_plainModule h n
  exact hp

theorem hostBreach_of_plainModule {s : State} (h : plainModule s) (port pa n : Nat) : s.hostBreach port pa n = false := by
  have hsec (x : Nat) : s.secureRegion x = false := by
    obtain ⟨hr, -⟩ := sheet_of_plainModule h (paSheet x)
    rw [State.secureRegion, hr, List.any_nil]
  simp [State.hostBreach, hsec]

theorem moving_of_plainModule {s : State} (h : plainModule s) (pa : Nat) : s.moving pa = false := by
  obtain ⟨-, -, hm, -⟩ := sheet_of_plainModule h (paSheet pa)
  rw [State.moving, hm, List.any_nil]

theorem portHeld_of_portFree {s : State} {port : Nat} (h : portFree s port) : s.portHeld port = false := by
  unfold State.portHeld
  split
  · next x w hx =>
    have hw := h x w hx
    rw [State.window, Map.get_eq_get?] at hw
    cases hg : Map.get? (s.sheet x).windows w with
    | none => rfl
    | some k => simpa [hg] using hw
  · rfl

/-! ### Registers of the ports and BAR2 (R431, R432, R436) -/

section ports
variable {s : State} {port : Nat} (hport : port < 4)
include hport

theorem portWrite_closed (f : HostPort → HostPort) (h : s.bootStage ≠ 2) : portWrite port f s = .next s := by
  rw [portWrite, if_neg (by omega), if_pos h]

theorem portWrite_open (f : HostPort → HostPort) (h : s.bootStage = 2) : portWrite port f s = .next (s.mapPort port f) := by
  rw [portWrite, if_neg (by omega), if_neg (not_not.mpr h)]

/-- GRID takes a write while the module runs and no launch has been created (R432). -/
theorem execHostRegWrite_grid (v : Word) (h : s.bootStage = 2) (hl : s.launches = []) : execHostRegWrite port 0x28 v s = .next { s with grid := v &&& 0xFF } := by
  rw [execHostRegWrite, if_neg (by omega), if_pos (by simp [h, hl])]

/-- A register without a row of its own drops its write, GRID outside stage 2 or once a launch has been created among them (R432, R436). -/
theorem execHostRegWrite_dropped {off : Nat} (v : Word) (hrow : off ∉ [0x8, 0x10, 0x18]) (h : off = 0x28 → s.bootStage = 2 → s.launches ≠ []) :
    execHostRegWrite port off v s = .next s := by
  have hno : ¬(4 ≤ port ∨ off = 0x8 ∨ off = 0x10 ∨ off = 0x18) := by simp at hrow; omega
  rw [execHostRegWrite, if_neg hno, if_neg]
  rintro ⟨hoff, hstage, hl⟩
  exact h hoff hstage (List.isEmpty_iff.mp hl)

variable (hfree : portFree s port) {pa : Nat} (hpa : pa % 8 = 0)
include hfree hpa

theorem bar2_enabled (hlt : pa < 2 ^ 52) : (4 ≤ port || pa % 8 != 0 || 2 ^ 52 ≤ pa || s.portHeld port : Bool) = false := by
  simp [portHeld_of_portFree hfree, hpa]; omega

/-- Outside stage 2 a read through BAR2 returns all ones and a write is dropped (R436). -/
theorem execBar2_closed (write : Bool) (v : Word) (hlt : pa < 2 ^ 52) (h : s.bootStage ≠ 2) :
    execBar2WindowAccess port write pa v s = .next (if write then s else s.mapPort port (fun p => { p with rdata := BitVec.allOnes 64 })) := by
  simp only [execBar2WindowAccess, bar2_enabled hport hfree hpa hlt, h, ne_eq, not_false_eq_true, true_or, if_true, Bool.false_eq_true, if_false]

variable (hlt : pa < 2 ^ 41) (hrun : s.bootStage = 2) (hgo : (s.port port).stopped = false) (hplain : plainModule s)
include hlt hrun hgo hplain

/-- An access through BAR2 to memory of a plain module is a host access to the doubleword at its home (R431). -/
theorem execBar2_memory (write : Bool) (v : Word) :
    execBar2WindowAccess port write pa v s =
      .next (if write then s.hostWrite pa (leBytes 8 v.toNat)
        else (s.hostRead pa 8).2.mapPort port (fun p => { p with rdata := BitVec.ofNat 64 (leNat (s.hostRead pa 8).1) })) := by
  have hc : paCfg pa = false := by simp only [paCfg, beq_eq_false_iff_ne]; omega
  simp only [execBar2WindowAccess, bar2_enabled hport hfree hpa (pa := pa) (by omega), hrun, hgo, hc, hostBreach_of_plainModule hplain,
    moving_of_plainModule hplain, Bool.and_false, Bool.false_eq_true, if_false, ne_eq, not_true, false_and, or_self]
  cases write <;> rfl

/-- A read through BAR2 returns the eight bytes at its address, lowest first. -/
theorem execBar2_reads (v : Word) (hh : ∀ k, k < 8 → s.region (pa + k) = .hbm) :
    ∃ t, execBar2WindowAccess port false pa v s = .next t ∧ leBytes 8 (t.port port).rdata.toNat = s.mem.readList pa 8 ∧ t.mem = s.mem := by
  have hc : paCfg pa = false := by simp only [paCfg, beq_eq_false_iff_ne]; omega
  obtain ⟨hbytes, hmem⟩ := State.hostRead_hbm hc hh
  refine ⟨_, execBar2_memory hport hfree hpa hlt hrun hgo hplain false v, ?_, hmem⟩
  rw [if_neg Bool.false_ne_true, State.port_mapPort, if_pos rfl, hbytes]
  exact leBytes_toNat_ofNat (Memory.length_readList _ _ _)

/-- A write through BAR2 stores its eight bytes, lowest first, and changes no other byte. -/
theorem execBar2_writes (v : Word) (hwf : s.mem.wf = true) (hh : ∀ k, k < 8 → s.region (pa + k) = .hbm) :
    ∃ t, execBar2WindowAccess port true pa v s = .next t ∧ t.mem.readList pa 8 = leBytes 8 v.toNat ∧ ∀ x, x < pa ∨ pa + 8 ≤ x → t.mem.read x = s.mem.read x := by
  have hlen : (leBytes 8 v.toNat).length = 8 := length_leBytes _ _
  have hw := State.hostWrite_hbm hwf (noPlates_of_plainModule hplain) (bs := leBytes 8 v.toNat) (fun k hk => hh k (by omega))
  exact ⟨_, execBar2_memory hport hfree hpa hlt hrun hgo hplain true v, readList_of_wroteBytes hw, fun _ hx => read_of_wroteBytes_outside hw hx⟩

end ports

/-! ### Bring-up (R436 to R438) -/

/-- Bits [63:12] of a STATUS write are the address of the image (R437). -/
theorem toNat_imageAddress (v : Word) : (v &&& ~~~(0xFFF : Word)).toNat = v.toNat / 4096 * 4096 := by
  have hmask : ∀ i : Fin 64, (~~~(0xFFF : Word)).getLsbD i = decide (12 ≤ i.val) := by decide
  have hshift : v &&& ~~~(0xFFF : Word) = (v >>> 12) <<< 12 := by
    refine BitVec.eq_of_getLsbD_eq (fun i hi => ?_)
    rw [BitVec.getLsbD_and, hmask ⟨i, hi⟩, BitVec.getLsbD_shiftLeft, BitVec.getLsbD_ushiftRight]
    by_cases h : 12 ≤ i
    · simp [hi, h, Nat.add_sub_cancel' h]
    · simp [h]
  rw [hshift, BitVec.toNat_shiftLeft, BitVec.toNat_ushiftRight, Nat.shiftLeft_eq, Nat.shiftRight_eq_div_pow]
  omega

theorem toNat_and_byte (v : Word) : (v &&& 0xFF).toNat = v.toNat % 256 := Nat.and_two_pow_sub_one_eq_mod v.toNat 8

theorem drop_all_zero_iff (bs : List Byte) (n : Nat) : (bs.drop n).all (fun b => b == 0) = true ↔ ∀ k, n ≤ k → k < bs.length → bs.getD k 0 = 0 := by
  simp only [List.all_eq_true, beq_iff_eq, List.mem_iff_getElem, List.getElem_drop, List.length_drop]
  constructor
  · intro h k hk hk'
    rw [List.getD_eq_getElem _ _ hk']
    exact h _ ⟨k - n, by omega, by congr 1; omega⟩
  · rintro h b ⟨k, hk, rfl⟩
    rw [← List.getD_eq_getElem _ 0]
    exact h (n + k) (by omega) (by omega)

theorem odd_iff_getLsbD (v : Word) : v.toNat % 2 = 1 ↔ v.getLsbD 0 = true := by
  rw [BitVec.getLsbD, Nat.testBit_zero, decide_eq_true_iff]

/-- The header of an image: TXBF, version 1, and zeros from byte 12 on (R438). -/
def imageHeader (hd : List Byte) : Prop := hd.take 4 = [0x54, 0x58, 0x42, 0x46] ∧ leAt hd 4 4 = 1 ∧ ∀ k, 12 ≤ k → k < 64 → hd.getD k 0 = 0

/-- The length of an image: a multiple of 64 from 64 to 2^26 (R438). -/
def imageSize (len : Nat) : Prop := len % 64 = 0 ∧ 64 ≤ len ∧ len ≤ 2 ^ 26

/-- The finding of a header that is not an image's is 1, and an image's header leaves what the rest of R438's list finds. -/
theorem imageHeader_refused_iff {hd : List Byte} (hl : hd.length = 64) :
    (hd.take 4 ≠ [0x54, 0x58, 0x42, 0x46] ∨ leAt hd 4 4 ≠ 1 ∨ (!(hd.drop 12).all (fun b => b == 0)) = true) ↔ ¬ imageHeader hd := by
  have hz := drop_all_zero_iff hd 12
  rw [hl] at hz
  rw [imageHeader, ← hz, not_and_or, not_and_or, Bool.not_eq_true', Bool.not_eq_true]

theorem imageSize_refused_iff {len : Nat} : (len < 64 ∨ len % 64 ≠ 0 ∨ 2 ^ 26 < len) ↔ ¬ imageSize len := by
  rw [imageSize]; omega

theorem hostFails_iff {s : State} {a n : Nat} : s.hostFails a n = true ↔ ∃ e ∈ s.hostErr, a < e.1 + e.2 ∧ e.1 < a + n := by
  simp [State.hostFails]

section image
variable {s : State} {a len : Nat} (ha : s.bootImage.toNat = a) (hlen : leAt (s.hostMem.readList a 64) 8 4 = len)
include ha hlen

theorem State.bootFinding_header (h : ¬ imageHeader (s.hostMem.readList a 64)) : s.bootFinding = 1 := by
  subst ha hlen
  exact if_pos ((imageHeader_refused_iff (Memory.length_readList _ _ _)).mpr h)

variable (hh : imageHeader (s.hostMem.readList a 64))
include hh

theorem State.bootFinding_size (h : ¬ imageSize len) : s.bootFinding = 2 := by
  subst ha hlen
  rw [State.bootFinding]
  simp only [imageHeader_refused_iff (Memory.length_readList _ _ _), hh, not_true, if_false, imageSize_refused_iff, h, not_false_eq_true, if_true]

variable (hs : imageSize len)
include hs

theorem State.bootFinding_checked : s.bootFinding =
    let key := s.hostMem.readList (a + len) 97
    if sha384 key ≠ Config.fusedKeyHash then 3
    else if !ecdsaOk key (s.hostMem.readList (a + len + 97) 96) (sha384 (s.hostMem.readList a len)) then 4
    else if s.hostFails a (len + 193) then 5
    else 0 := by
  subst ha hlen
  rw [State.bootFinding]
  simp only [imageHeader_refused_iff (Memory.length_readList _ _ _), hh, not_true, if_false, imageSize_refused_iff, hs]

theorem State.bootFinding_key (hk : sha384 (s.hostMem.readList (a + len) 97) ≠ Config.fusedKeyHash) : s.bootFinding = 3 :=
  (State.bootFinding_checked ha hlen hh hs).trans (if_pos hk)

variable (hk : sha384 (s.hostMem.readList (a + len) 97) = Config.fusedKeyHash)
include hk

theorem State.bootFinding_signature
    (hg : ecdsaOk (s.hostMem.readList (a + len) 97) (s.hostMem.readList (a + len + 97) 96) (sha384 (s.hostMem.readList a len)) = false) : s.bootFinding = 4 := by
  simp only [State.bootFinding_checked ha hlen hh hs, hk, hg, ne_eq, not_true, if_false, Bool.not_false, if_true]

variable (hg : ecdsaOk (s.hostMem.readList (a + len) 97) (s.hostMem.readList (a + len + 97) 96) (sha384 (s.hostMem.readList a len)) = true)
include hg

theorem State.bootFinding_reads (he : ∃ e ∈ s.hostErr, a < e.1 + e.2 ∧ e.1 < a + len + 193) : s.bootFinding = 5 := by
  have hf : s.hostFails a (len + 193) = true := hostFails_iff.mpr (by simpa only [Nat.add_assoc] using he)
  simp only [State.bootFinding_checked ha hlen hh hs, hk, hg, hf, ne_eq, not_true, if_false, Bool.not_true, Bool.false_eq_true, if_true]

theorem State.bootFinding_none (he : s.hostErr = []) : s.bootFinding = 0 := by
  have hf : s.hostFails a (len + 193) = false := by rw [State.hostFails, he, List.any_nil]
  simp only [State.bootFinding_checked ha hlen hh hs, hk, hg, hf, ne_eq, not_true, if_false, Bool.not_true, Bool.false_eq_true]

end image

theorem execBootVerifyDone_stands {s : State} {n : Nat} (hs : s.bootStage = 1) (hn : s.bootFinding = n) (h0 : n ≠ 0) :
    execBootVerifyDone n s = .next { s with bootStage := 3, bootReason := n } := by
  rw [execBootVerifyDone, if_neg (by simp [hs, hn]), if_neg h0]

theorem execBootVerifyDone_runs {s : State} (hs : s.bootStage = 1) (hn : s.bootFinding = 0) :
    let a := s.bootImage.toNat
    execBootVerifyDone 0 s = .next { s with bootStage := 2, bootReason := 0, bootDigest := sha384 (s.hostMem.readList a (leAt (s.hostMem.readList a 64) 8 4)) } := by
  intro a
  rw [execBootVerifyDone, if_neg (by simp [hs, hn]), if_pos rfl]

theorem execStatusWrite_accepted {s : State} {port : Nat} {v : Word} (hport : port < 4) (hs : s.bootStage = 0 ∨ s.bootStage = 3) (hgo : v.getLsbD 0 = true) :
    execStatusWrite port v s = .next { s with bootStage := 1, bootReason := 0, bootPort := port, bootImage := v &&& ~~~(0xFFF : Word) } := by
  rw [execStatusWrite, if_neg (by omega), if_pos ⟨hs, (odd_iff_getLsbD v).mpr hgo⟩]

theorem execStatusWrite_dropped {s : State} {port : Nat} {v : Word} (hport : port < 4) (h : s.bootStage = 1 ∨ s.bootStage = 2 ∨ v.getLsbD 0 = false) :
    execStatusWrite port v s = .next s := by
  rw [execStatusWrite, if_neg (by omega), if_neg]
  rintro ⟨hs, hgo⟩
  rw [odd_iff_getLsbD] at hgo
  simp only [hgo, Bool.true_eq_false, or_false] at h
  omega

/-! ### Junction temperature (R442) -/

theorem execThermalThrottle_next {s : State} {sh : Nat} (hsh : sh < 32) (h : (s.sheet sh).throttled = false) :
    execThermalThrottle sh s = .next (s.mapSheet sh (fun k => { k with throttled := true })) := by
  rw [execThermalThrottle, if_neg (by simp [h]; omega)]

theorem execJunctionTemperatureFall_next {s : State} {sh : Nat} (h : (s.sheet sh).throttled = true) :
    execJunctionTemperatureFall sh s = .next (s.mapSheet sh (fun k => { k with throttled := false })) := by
  rw [execJunctionTemperatureFall, h, Bool.not_true, if_neg Bool.false_ne_true]

end claims
end Sys2Proof.Machine

namespace Sys2Proof.Proofs
open Sys2Proof.Machine

/-! ### The settled statements of bring-up and fetches -/

/-- Settles O6, from what a fetch does where the core holds a copy, where the translation faults, and where it reads the line (R99, R122). -/
theorem fetchReadsTheWordAtTheAddress : Obligations.FetchReadsTheWordAtTheAddress := by
  unfold Obligations.FetchReadsTheWordAtTheAddress
  simp only [← wordOf_eq]
  refine ⟨?copy, ?page, ?home, ?replica, ?word, ?cause⟩
  case copy => exact fun _ _ _ hsv h => State.fetchWord_copy hsv h
  case page => exact fun _ _ _ _ _ hsv hno hx hm hp => State.fetchWord_page hsv hno hx hm hp
  case home => exact fun s _ _ h => s.readLine_home h
  case replica => exact fun s _ _ _ hs h => s.readLine_replica hs h
  case word => exact fun s _ h => s.wordOf_homeLine h
  case cause => exact fun _ _ _ _ hsv hno hx => State.fetchWord_cause hsv hno hx

/-- Settles O53, from what each event of bring-up does (R436 to R438, R442), and what a host access does to the bytes at their homes (R431). -/
theorem bringUpAndPorts : Obligations.BringUpAndPorts := by
  unfold Obligations.BringUpAndPorts
  intro s port v hport hfree
  refine ⟨?accepted, ?dropped, ?verified, ?closed, ?running, ?reset, ?thermal⟩
  case accepted =>
    exact fun hs hgo => ⟨_, execStatusWrite_accepted hport hs hgo, rfl, rfl, rfl, toNat_imageAddress v, rfl⟩
  case dropped => exact fun h => execStatusWrite_dropped hport h
  case verified =>
    intro hstage a hd len header size key stands
    have hstands {n : Nat} (hn : s.bootFinding = n) (h0 : n ≠ 0) : stands n := execBootVerifyDone_stands hstage hn h0
    refine ⟨fun hh => hstands (State.bootFinding_header rfl rfl hh) (by decide), fun hh hs => hstands (State.bootFinding_size rfl rfl hh hs) (by decide),
      fun hh hs hk => hstands (State.bootFinding_key rfl rfl hh hs hk) (by decide), ?_⟩
    intro hh hs hk good
    exact ⟨fun hg => hstands (State.bootFinding_signature rfl rfl hh hs hk hg) (by decide),
      fun hg he => hstands (State.bootFinding_reads rfl rfl hh hs hk hg he) (by decide),
      fun hg he => ⟨_, execBootVerifyDone_runs hstage (State.bootFinding_none rfl rfl hh hs hk hg he), rfl, rfl, rfl, rfl⟩⟩
  case closed =>
    intro hstage
    exact ⟨portWrite_closed hport _ hstage, portWrite_closed hport _ hstage, execHostRegWrite_dropped hport v (by decide) (fun _ h => absurd h hstage),
      fun pa hpa hlt => ⟨execBar2_closed hport hfree hpa true v hlt hstage, execBar2_closed hport hfree hpa false v hlt hstage⟩⟩
  case running =>
    intro hrun
    refine ⟨portWrite_open hport _ hrun, portWrite_open hport _ hrun, ?grid, ?launched, ?others, ?bar2⟩
    case grid => exact fun hl => ⟨_, execHostRegWrite_grid hport v hrun hl, toNat_and_byte v, rfl⟩
    case launched => exact fun hl => execHostRegWrite_dropped hport v (by decide) (fun _ _ => hl)
    case others =>
      intro off hoff
      simp only [List.mem_cons, List.not_mem_nil, or_false, not_or] at hoff
      obtain ⟨h8, h10, h18, h28⟩ := hoff
      exact execHostRegWrite_dropped hport v (by simp [h8, h10, h18]) (fun h => absurd h h28)
    case bar2 =>
      exact fun pa hpa hlt hgo hplain hh => ⟨execBar2_reads hport hfree hpa hlt hrun hgo hplain v hh,
        fun hwf => execBar2_writes hport hfree hpa hlt hrun hgo hplain v hwf hh⟩
  case reset =>
    rintro i (rfl | rfl) <;> exact ⟨_, rfl, rfl, rfl, rfl, rfl, rfl, rfl, rfl, rfl⟩
  case thermal =>
    exact fun sh hsh => ⟨fun h => execThermalThrottle_next hsh h, fun h => execJunctionTemperatureFall_next h⟩

end Sys2Proof.Proofs

/-! # The states of a walk job (O38) -/

namespace Sys2Proof.Machine

/-! ### The first least element of a list (R148, R149) -/

theorem argMin_eq_none_iff {α : Type} {l : List α} {key : α → Nat} : argMin l key = none ↔ l = [] := by
  cases l with
  | nil => simp [argMin]
  | cons x rest =>
    simp only [argMin, reduceCtorEq, iff_false]
    split
    · nofun
    · split <;> nofun

theorem argMin_least {α : Type} {l : List α} {key : α → Nat} {y : α} (h : argMin l key = some y) : y ∈ l ∧ ∀ x ∈ l, key y ≤ key x := by
  induction l generalizing y with
  | nil => simp [argMin] at h
  | cons x rest ih =>
    simp only [argMin] at h
    split at h
    · next hn =>
      obtain rfl := argMin_eq_none_iff.mp hn
      simp_all
    · next z hz =>
      obtain ⟨hmem, hle⟩ := ih hz
      split at h <;> cases h
      · next hxz => exact ⟨List.mem_cons_self, List.forall_mem_cons.mpr ⟨le_rfl, fun w hw => hxz.trans (hle w hw)⟩⟩
      · next hxz => exact ⟨List.mem_cons_of_mem _ hmem, List.forall_mem_cons.mpr ⟨by omega, hle⟩⟩

/-- Of the least elements of a list the first is found. -/
theorem argMin_first {α : Type} {pre post : List α} {x : α} {key : α → Nat} (hpre : ∀ y ∈ pre, key x < key y) (hpost : ∀ y ∈ post, key x ≤ key y) :
    argMin (pre ++ x :: post) key = some x := by
  induction pre with
  | nil =>
    simp only [List.nil_append, argMin]
    split
    · rfl
    · next y hy => rw [if_pos (hpost y (argMin_least hy).1)]
  | cons z pre ih =>
    obtain ⟨hz, hpre⟩ := List.forall_mem_cons.mp hpre
    simp only [List.cons_append, argMin, ih hpre]
    rw [if_neg (by omega)]

theorem execJobQueueGrant_first {s : State} {cl th : Nat} {pre post : List Nat} (hwait : (s.cluster cl).walkWait = pre ++ th :: post)
    (hroom : (s.cluster cl).walkQ.length < 32)
    (hpre : ∀ x ∈ pre, (th / 8 % 8 + 7 - (s.cluster cl).walkLast) % 8 < (x / 8 % 8 + 7 - (s.cluster cl).walkLast) % 8)
    (hpost : ∀ x ∈ post, (th / 8 % 8 + 7 - (s.cluster cl).walkLast) % 8 ≤ (x / 8 % 8 + 7 - (s.cluster cl).walkLast) % 8) :
    execJobQueueGrant cl s = .next (s.mapCluster cl (fun c =>
      { c with walkQ := c.walkQ ++ [grantMark th], walkWait := c.walkWait.filter (· ≠ th), walkLast := coreOfThread th % 8 })) := by
  have hmin := argMin_first (key := fun x => (x / 8 % 8 + 7 - (s.cluster cl).walkLast) % 8) hpre hpost
  simp only [execJobQueueGrant, hwait, coreOfThread, hmin]
  rw [if_neg (by omega)]

/-! ### A cluster's jobs -/

@[simp] theorem State.walk?_setWalk_same (s : State) (cl job : Nat) (j : WalkJob) : (s.setWalk cl job j).walk? cl job = some j := by
  simp [State.walk?, State.setWalk, State.cluster_mapCluster]

theorem State.walk?_of_clusters {s t : State} (h : t.clusters = s.clusters) (cl job : Nat) : t.walk? cl job = s.walk? cl job := by
  simp only [State.walk?, State.cluster, h]

theorem State.arrayHeld_eq_false {s : State} {cl : Nat} (h : 1 ∉ (s.cluster cl).engineHeld) : s.arrayHeld cl = false := by
  simpa [State.arrayHeld] using h

theorem WalkJob.works_of_st {j : WalkJob} {st : WalkState} (h : j.st = st) : j.works st = true := by simp [WalkJob.works, h]

theorem WalkRow.pending_eq (r : WalkRow) : r.pending = decide (r.st = 0 ∧ r.leaf = false) := by
  simp [WalkRow.pending, Bool.beq_eq_decide_eq]

theorem WalkJob.anyPending_eq (j : WalkJob) : j.anyPending = j.rows.any (fun r => decide (r.st = 0 ∧ r.leaf = false)) :=
  congrArg j.rows.any (funext WalkRow.pending_eq)

/-! ### The progress mirror (R146, R147) -/

theorem leNat_leBytes (n x : Nat) : leNat (leBytes n x) = x % 256 ^ n := by
  induction n generalizing x with
  | zero => simp [leBytes, leNat, Nat.mod_one]
  | succ n ih => rw [leBytes, leNat, ih, BitVec.toNat_ofNat, Nat.pow_succ' (m := 256) (n := n), Nat.mod_mul]

theorem WalkRow.entry_lt (r : WalkRow) : r.entry < 256 ^ 4 := by unfold WalkRow.entry; omega

/-- Two changes of cores only make one. -/
theorem State.onlyCores_trans {r u t : State} (h1 : u = { r with cores := u.cores }) (h2 : t = { u with cores := t.cores }) : t = { r with cores := t.cores } := by
  rw [h1] at h2; exact h2

/-- The mirror of a row changes nothing but local memories. -/
theorem State.mirror_frame (s : State) (j : WalkJob) (k : Nat) : s.mirror j k = { s with cores := (s.mirror j k).cores } := by
  unfold State.mirror
  split
  · rfl
  · exact List.foldlRecOn (motive := fun t : State => t = { s with cores := t.cores }) _ _ rfl (fun _ ht _ _ => State.onlyCores_trans ht rfl)

theorem State.foldl_mirror_frame (s : State) (j : WalkJob) (ks : List Nat) :
    ks.foldl (fun (s : State) k => s.mirror j k) s = { s with cores := (ks.foldl (fun (s : State) k => s.mirror j k) s).cores } :=
  List.foldlRecOn (motive := fun t : State => t = { s with cores := t.cores }) _ _ rfl (fun t ht k _ => State.onlyCores_trans ht (t.mirror_frame j k))

theorem State.walk?_foldl_mirror (s : State) (j : WalkJob) (cl job : Nat) (ks : List Nat) :
    (ks.foldl (fun (s : State) k => s.mirror j k) (s.setWalk cl job j)).walk? cl job = some j := by
  rw [State.foldl_mirror_frame]; exact s.walk?_setWalk_same cl job j

theorem State.foldl_mirror_fields (s : State) (j : WalkJob) (cl job : Nat) (ks : List Nat) :
    let t := ks.foldl (fun (s : State) k => s.mirror j k) (s.setWalk cl job j)
    t.mem = s.mem ∧ t.ctxs = s.ctxs := by
  intro t
  have ht : t = { s.setWalk cl job j with cores := t.cores } := State.foldl_mirror_frame _ _ _
  rw [ht]; exact ⟨rfl, rfl⟩

/-- The byte that a job's progress entries hold at an address of a core's local memory, where a row has its entry there (R146). -/
def WalkJob.progressByte (j : WalkJob) (d : WalkDesc) (x : Nat) : Option Byte :=
  if d.progress ≤ x then (j.rows[(x - d.progress) / 4]?).map (fun r => (leBytes 4 r.entry).getD ((x - d.progress) % 4) 0) else none

section solo
variable {j : WalkJob} {th : Nat} {d : WalkDesc} (hth : j.threads = [th]) (hd : j.descs = [d])
include hth hd

/-- The mirror of a row of a job of one thread: its entry's four bytes are stored on the thread's core. -/
theorem State.read_mirror {s : State} (hwf : (s.core (th / 8)).mem.wf = true) (k : Nat) :
    let m := ((s.mirror j k).core (th / 8)).mem
    m.wf = true ∧ ∀ x, m.read x = if (x - d.progress) / 4 = k then (j.progressByte d x).getD ((s.core (th / 8)).mem.read x) else (s.core (th / 8)).mem.read x := by
  cases hr : j.rows[k]? with
  | none =>
    have hm : s.mirror j k = s := by simp only [State.mirror, hr]
    rw [hm]
    refine ⟨hwf, fun x => ?_⟩
    split
    · next hx => simp [WalkJob.progressByte, hx, hr]
    · rfl
  | some r =>
    have hm : ((s.mirror j k).core (th / 8)).mem = (s.core (th / 8)).mem.writeList (d.progress + 4 * k) (leBytes 4 r.entry) := by
      simp [State.mirror, hr, hth, hd, State.putLocal, coreOfThread, State.core_mapCore]
    rw [hm]
    refine ⟨Memory.wf_writeList hwf _ _, fun x => ?_⟩
    rw [Memory.read_writeList hwf, length_leBytes]
    by_cases hx : d.progress + 4 * k ≤ x ∧ x < d.progress + 4 * k + 4
    · have hk : (x - d.progress) / 4 = k := by omega
      rw [if_pos hx, if_pos hk, WalkJob.progressByte, if_pos (by omega), hk, hr, show x - (d.progress + 4 * k) = (x - d.progress) % 4 by omega]
      rfl
    · rw [if_neg hx]
      split
      · rw [WalkJob.progressByte, if_neg (by omega)]; rfl
      · rfl

theorem State.read_foldl_mirror {s : State} (hwf : (s.core (th / 8)).mem.wf = true) (ks : List Nat) (x : Nat) :
    ((ks.foldl (fun (s : State) k => s.mirror j k) s).core (th / 8)).mem.read x =
      if (x - d.progress) / 4 ∈ ks then (j.progressByte d x).getD ((s.core (th / 8)).mem.read x) else (s.core (th / 8)).mem.read x := by
  induction ks generalizing s with
  | nil => simp
  | cons k ks ih =>
    obtain ⟨hwf', hread⟩ := State.read_mirror hth hd hwf k
    rw [List.foldl_cons, ih hwf', hread]
    by_cases hk : (x - d.progress) / 4 = k
    · rw [if_pos hk, if_pos (List.mem_cons.mpr (Or.inl hk))]
      cases j.progressByte d x <;> simp
    · simp only [hk, if_false, List.mem_cons, false_or]

/-- After the mirrors of rows have been written, the entry of each of them stands in local memory. -/
theorem State.leNat_foldl_mirror {s : State} (hwf : (s.core (th / 8)).mem.wf = true) {ks : List Nat} {k : Nat} {r : WalkRow} (hk : k ∈ ks)
    (hr : j.rows[k]? = some r) :
    leNat (((ks.foldl (fun (s : State) k => s.mirror j k) s).core (th / 8)).mem.readList (d.progress + 4 * k) 4) = r.entry := by
  have hbytes : ((ks.foldl (fun (s : State) k => s.mirror j k) s).core (th / 8)).mem.readList (d.progress + 4 * k) 4 = leBytes 4 r.entry := by
    refine List.ext_getElem (by simp [Memory.readList]) (fun i hi hi' => ?_)
    rw [length_leBytes] at hi'
    have hdiv : (d.progress + 4 * k + i - d.progress) / 4 = k := by omega
    have hmod : (d.progress + 4 * k + i - d.progress) % 4 = i := by omega
    simp only [Memory.readList, List.getElem_map, List.getElem_range]
    rw [State.read_foldl_mirror hth hd hwf, hdiv, if_pos hk, WalkJob.progressByte, if_pos (by omega), hdiv, hmod, hr, Option.map_some, Option.getD_some,
      List.getD_eq_getElem _ _ (by simpa using hi')]
  rw [hbytes, leNat_leBytes, Nat.mod_eq_of_lt r.entry_lt]

/-- The entries of rows that have not moved are 0 (R12). -/
theorem State.read_foldl_mirror_fresh {s : State} (hwf : (s.core (th / 8)).mem.wf = true) (hfresh : ∀ r ∈ j.rows, r = WalkRow.fresh) (x : Nat) :
    (((List.range j.rows.length).foldl (fun (s : State) k => s.mirror j k) s).core (th / 8)).mem.read x =
      if d.progress ≤ x ∧ x < d.progress + 4 * j.rows.length then 0 else (s.core (th / 8)).mem.read x := by
  have hzero : ∀ i < 4, (leBytes 4 WalkRow.fresh.entry).getD i 0 = 0 := by decide
  rw [State.read_foldl_mirror hth hd hwf]
  simp only [List.mem_range]
  by_cases hx : d.progress ≤ x
  · by_cases hk : (x - d.progress) / 4 < j.rows.length
    · rw [if_pos hk, if_pos ⟨hx, by omega⟩, WalkJob.progressByte, if_pos hx, List.getElem?_eq_getElem hk, hfresh _ (List.getElem_mem hk)]
      exact hzero _ (Nat.mod_lt _ (by decide))
    · rw [if_neg hk, if_neg (by omega)]
  · simp [WalkJob.progressByte, hx]

end solo

/-! ### The start of a job (R12, R150) -/

open Sys2Proof.Claims in
theorem WalkJob.shares_eq_false {j k : WalkJob} (h : disjointJobs k j) : k.cores.any (fun c => j.cores.contains c) = false := by
  simp only [WalkJob.cores, List.any_map, List.any_eq_false, Function.comp, List.contains_iff_mem, List.mem_map, coreOfThread]
  rintro t ht ⟨u, hu, he⟩
  exact h t ht u hu he.symm

open Sys2Proof.Claims in
theorem State.mayStart_of_idle {s : State} {cl job : Nat} {j : WalkJob} (hw : s.walk? cl job = some j) (hst : j.st = .queued) (hheld : s.arrayHeld cl = false)
    (hidle : ∀ w ∈ (s.cluster cl).walks, w.2.st ≠ .queued → w.2.st ≠ .complete → disjointJobs w.2 j)
    (hfirst : ∀ x ∈ (s.cluster cl).walkQ.takeWhile (fun k => decide (k ≠ job)), ∀ k, s.walk? cl x = some k → k.st = .queued → disjointJobs k j) :
    s.mayStart cl job = true := by
  have hslices : (s.cluster cl).walks.any (fun w => w.2.running && w.2.cores.any (fun c => j.cores.contains c)) = false := by
    refine List.any_eq_false.mpr (fun w hmem => ?_)
    cases hrun : w.2.running with
    | false => simp
    | true =>
      have hne : w.2.st ≠ .queued ∧ w.2.st ≠ .complete := by
        constructor <;> intro h <;> simp [WalkJob.running, h] at hrun
      rw [WalkJob.shares_eq_false (hidle w hmem hne.1 hne.2)]
      nofun
  have hbefore : ((s.cluster cl).walkQ.takeWhile (fun k => decide (k ≠ job))).any (fun b =>
      match s.walk? cl b with | some k => decide (k.st = .queued) && k.cores.any (fun c => j.cores.contains c) | none => false) = false := by
    refine List.any_eq_false.mpr (fun b hmem => ?_)
    cases hk : s.walk? cl b with
    | none => simp
    | some k =>
      by_cases hq : k.st = .queued
      · simp only [WalkJob.shares_eq_false (hfirst b hmem k hk hq), Bool.and_false, Bool.false_eq_true, not_false_eq_true]
      · simp [hq]
  unfold State.mayStart
  simp only [hw, hslices, hheld, hst, Bool.not_false, Bool.and_true, decide_true, Bool.true_and, Bool.not_eq_true']
  exact hbefore

/-- A started job, with none of its rows loaded (R12, R155). -/
def WalkJob.started (j : WalkJob) : WalkJob := { j with st := .loading, cache := [], rows := j.rows.map (fun _ => WalkRow.fresh) }

theorem execWalkJobAccept_starts {s : State} {cl job : Nat} {j : WalkJob} (hw : s.walk? cl job = some j) (hmay : s.mayStart cl job = true) :
    execWalkJobAccept cl job s = .next ((List.range j.started.rows.length).foldl (fun (s : State) k => s.mirror j.started k) (s.setWalk cl job j.started)) := by
  simp only [execWalkJobAccept, hw, hmay]
  rfl

/-! ### Loading (R144, R145, R161) -/

theorem execWalkLoadDone_loaded {s u : State} {cl job : Nat} {j k : WalkJob} (hw : s.walk? cl job = some j) (hst : j.st = .loading)
    (hheld : s.arrayHeld cl = false) (hload : s.loadJob cl j = (.ok k, u)) :
    ∃ t, execWalkLoadDone cl job s = .next t ∧
      t.walk? cl job = some { k with retry := false, st := if k.anyPending then .stepping else .draining } ∧ t.mem = u.mem := by
  simp only [execWalkLoadDone, hw, WalkJob.works_of_st hst, hheld, hload]
  exact ⟨_, rfl, State.walk?_foldl_mirror _ _ _ _ _, (State.foldl_mirror_fields _ _ _ _ _).1⟩

/-- A job of one row, with a format of its own and without scales or segments, loads the elements at its address (R144). -/
theorem State.loadJob_oneRow {s u : State} {cl : Nat} {j : WalkJob} {d : WalkDesc} {bs : List Byte} (hd : j.descs = [d]) (hfmt : d.rowFmt ≠ 0x0F)
    (hscales : d.scales = 0) (hseg : d.segTable = 0) (hrows : d.rowsN = 1)
    (hread : s.engineSpan cl j.asid d.rows.toNat (d.k * elemSize d.rowFmt) (s.arraySecure cl) j.packetClass = (.ok bs, u)) :
    s.loadJob cl j = (.ok { j with fmt := d.rowFmt, rows := [{ WalkRow.fresh with elems := elementsOf bs (elemSize d.rowFmt) d.k }] }, u) := by
  have hva : (d.rows + BitVec.ofNat 64 (0 * d.stride)).toNat = d.rows.toNat := by simp
  simp only [State.loadJob, hd, State.segmentTable, hseg, State.rowFormat, hfmt, hrows, List.range_succ, List.range_zero, List.nil_append, State.loadRows, hva,
    hread, hscales, if_true, if_false, ne_eq, not_false_eq_true]
  rfl

/-! ### Steps (R148, R155) -/

section step
variable {s u : State} {cl job : Nat} {j : WalkJob} {d : WalkDesc} {unit : Nat} {rows : List Nat}

theorem WalkJob.process_none {k : Nat} (h : j.rows[k]? = none) (f : WalkRow → WalkRow × Bool) (ks : List Nat) : j.process f (k :: ks) = j.process f ks := by
  simp only [WalkJob.process, List.foldl_cons, h]

theorem WalkJob.process_some {k : Nat} {r : WalkRow} (h : j.rows[k]? = some r) (f : WalkRow → WalkRow × Bool) (ks : List Nat) :
    j.process f (k :: ks) = ({ j with rows := j.rows.set k (f r).1, sat := j.sat || (f r).2,
                                      drain := if (f r).1.leaf then j.drain ++ [k] else j.drain } : WalkJob).process f ks := by
  simp only [WalkJob.process, List.foldl_cons, h]

/-- Processing rows leaves the job's state as it is. -/
theorem WalkJob.process_st (j : WalkJob) (f : WalkRow → WalkRow × Bool) (ks : List Nat) : (j.process f ks).st = j.st := by
  refine List.foldlRecOn (motive := fun i : WalkJob => i.st = j.st) _ _ rfl (fun i hi k _ => ?_)
  split <;> exact hi

/-- Processing rows changes each of them once, and no other row. -/
theorem WalkJob.process_rows (j : WalkJob) (f : WalkRow → WalkRow × Bool) {ks : List Nat} (hks : ks.Nodup) (n : Nat) :
    (j.process f ks).rows[n]? = (j.rows[n]?).map (fun r => if n ∈ ks then (f r).1 else r) := by
  induction ks generalizing j with
  | nil => simp [WalkJob.process]
  | cons k ks ih =>
    obtain ⟨hk, hks⟩ := List.nodup_cons.mp hks
    cases hr : j.rows[k]? with
    | none =>
      rw [WalkJob.process_none hr, ih _ hks]
      by_cases hn : n = k
      · simp [hn, hr]
      · simp [hn]
    | some r =>
      rw [WalkJob.process_some hr, ih _ hks]
      by_cases hn : n = k
      · have hlt : k < j.rows.length := (List.getElem?_eq_some_iff.mp hr).1
        subst hn
        rw [List.getElem?_set_self hlt, hr, Option.map_some, Option.map_some, if_neg hk, if_pos List.mem_cons_self]
      · simp [hn, List.getElem?_set_ne (Ne.symm hn)]

/-- The rows of a job that are pending at a node (R148). -/
def WalkJob.pendingAt (j : WalkJob) (unit : Nat) : List Nat :=
  (List.range j.rows.length).filter (fun k => (j.rows[k]?).any (fun r => decide (r.st = 0 ∧ r.leaf = false ∧ r.unit = unit)))

theorem WalkJob.nodup_pendingAt (j : WalkJob) (unit : Nat) : (j.pendingAt unit).Nodup := List.nodup_range.filter _

theorem WalkJob.mem_pendingAt {k : Nat} : k ∈ j.pendingAt unit ↔ ∃ r, j.rows[k]? = some r ∧ r.pending = true ∧ r.unit = unit := by
  simp only [WalkJob.pendingAt, List.mem_filter, List.mem_range, Option.any_eq_true, decide_eq_true_eq, WalkRow.pending_eq, and_assoc]
  exact and_iff_right_of_imp (fun ⟨_, hr, _⟩ => (List.getElem?_eq_some_iff.mp hr).1)

/-- The next step is at the lowest unit at which a row is pending. -/
theorem WalkJob.nextNode_lowest (hne : j.pendingAt unit ≠ []) (hlow : ∀ r ∈ j.rows, r.st = 0 → r.leaf = false → unit ≤ r.unit) :
    j.nextNode = some (unit, j.pendingAt unit) := by
  have hmem {k : Nat} : k ∈ (List.range j.rows.length).filter (fun k => (j.rows[k]?).any WalkRow.pending) ↔ ∃ r, j.rows[k]? = some r ∧ r.pending = true := by
    simp only [List.mem_filter, List.mem_range, Option.any_eq_true]
    exact and_iff_right_of_imp (fun ⟨_, hr, _⟩ => (List.getElem?_eq_some_iff.mp hr).1)
  obtain ⟨i, hi⟩ := List.exists_mem_of_ne_nil _ hne
  obtain ⟨r, hr, hp, hu⟩ := WalkJob.mem_pendingAt.mp hi
  cases hmin : argMin ((List.range j.rows.length).filter (fun k => (j.rows[k]?).any WalkRow.pending)) (fun k => ((j.rows[k]?).map WalkRow.unit).getD 0) with
  | none => exact absurd (hmem.mpr ⟨r, hr, hp⟩) (by simp [argMin_eq_none_iff.mp hmin])
  | some m =>
    obtain ⟨hm, hle⟩ := argMin_least hmin
    obtain ⟨q, hq, hqp⟩ := hmem.mp hm
    have hqp' : q.st = 0 ∧ q.leaf = false := by simpa [WalkRow.pending_eq] using hqp
    have hle := hle i (hmem.mpr ⟨r, hr, hp⟩)
    have hlow := hlow q (List.mem_of_getElem? hq) hqp'.1 hqp'.2
    simp only [hq, hr, Option.map_some, Option.getD_some] at hle
    have hunit : q.unit = unit := by omega
    simp only [WalkJob.nextNode, hmin, Option.map_some, hq, Option.getD_some, hunit, WalkJob.pendingAt, List.filter_filter]
    refine congrArg (fun l => some (unit, l)) (List.filter_congr (fun k _ => ?_))
    cases j.rows[k]? with
    | none => simp
    | some x => simp [WalkRow.pending_eq, Bool.beq_eq_decide_eq, ← Bool.decide_and, and_comm, and_assoc, and_left_comm]

/-- A job after a step that processes its rows at once: its node is in the node cache, and none of its rows is left (R148, R155). -/
def WalkJob.processed (j : WalkJob) (unit : Nat) (bs : List Byte) (f : WalkRow → WalkRow × Bool) (rows : List Nat) : WalkJob :=
  { ({ j with cache := j.cache.set unit bs } : WalkJob).process f rows with step := some (unit, rows, []) }

variable (hw : s.walk? cl job = some j) (hd : j.descs = [d]) (hheld : s.arrayHeld cl = false) (hst : j.st = .stepping) (hstep : j.step = none)
  (hnext : j.nextNode = some (unit, rows)) {bs : List Byte} (hread : s.readNode cl j d unit = (.ok bs, u))
include hw hd hheld hst hstep hnext hread

/-- A step that processes its rows at once: a step at an invalid node, which faults them, or at an interior node, which moves them (R148). -/
theorem execWalkStep_whole (hrows : rows.Nodup) (f : WalkRow → WalkRow × Bool)
    (hnode : nodeValid j d unit bs = false ∧ f = (fun r => ({ r with st := 2 }, false)) ∨
      nodeValid j d unit bs = true ∧ (nodeHead bs).leaf = false ∧ f = stepRow j d bs) :
    ∃ t k, execWalkStep cl job s = .next t ∧ t.walk? cl job = some k ∧ k.step = some (unit, rows, []) ∧
      ∀ n r, j.rows[n]? = some r → k.rows[n]? = some (if n ∈ rows then (f r).1 else r) := by
  have hjob : s.stepJob cl j = (.ok (some (j.processed unit bs f rows)), u) := by
    unfold State.stepJob
    split
    · next d' rest u rows' left hd' hn =>
      obtain ⟨rfl, -⟩ := List.cons.inj (hd.symm.trans hd')
      simp only [hstep, hnext, Option.map_some, Option.some.injEq, Prod.mk.injEq] at hn
      obtain ⟨rfl, rfl, rfl⟩ := hn
      rcases hnode with ⟨hbad, rfl⟩ | ⟨hgood, hleaf, rfl⟩
      · have hbad' : nodeValid { j with cache := j.cache.set unit bs } d unit bs = false := hbad
        simp only [hread, hbad', Bool.not_false, if_true]
        rfl
      · have hgood' : nodeValid { j with cache := j.cache.set unit bs } d unit bs = true := hgood
        simp only [hread, hgood', hleaf, WalkJob.group, Bool.not_false, Bool.true_or, Bool.not_true, Bool.false_eq_true, if_true, if_false, List.drop_length]
        rfl
    · next hno => exact (hno d [] unit rows rows hd (by simp only [hstep, hnext, Option.map_some])).elim
  have hpst : (j.processed unit bs f rows).st = .stepping := (WalkJob.process_st _ f rows).trans hst
  have hstepping : s.stepping cl j = true := by simp [State.stepping, WalkJob.works_of_st hst, hheld]
  have hexec : execWalkStep cl job s = .next (u.setWalk cl job (j.processed unit bs f rows)) := by
    simp only [execWalkStep, hw, hstepping, hjob, WalkJob.resumed, hpst]
    rfl
  refine ⟨_, _, hexec, State.walk?_setWalk_same _ _ _ _, rfl, fun n r hr => ?_⟩
  exact (WalkJob.process_rows _ f hrows n).trans (by simp [hr])

end step

/-- The job after the end of a step: its next step, or draining where no row is pending or a cancel has overtaken it (R161). -/
def WalkJob.stepped (j : WalkJob) : WalkJob := { j with step := none, st := if j.anyPending && !j.canc then .stepping else .draining }

theorem execWalkStepEnd_mirrors {s : State} {cl job unit : Nat} {j : WalkJob} {rows : List Nat} (hw : s.walk? cl job = some j) (hst : j.st = .stepping)
    (hheld : s.arrayHeld cl = false) (hstep : j.step = some (unit, rows, [])) :
    execWalkStepEnd cl job s = .next (rows.foldl (fun (s : State) k => s.mirror j.stepped k) (s.setWalk cl job j.stepped)) := by
  have hstepping : s.stepping cl j = true := by simp [State.stepping, WalkJob.works_of_st hst, hheld]
  simp only [execWalkStepEnd, hw, hstep, hstepping]
  rfl

/-! ### The product of an integer row (R138, R179)

A byte's value lies from -128 to 255, so a sum of at most 512 products stays within 32 bits: no clamp takes effect, and its pattern has the sum's sign, read
as an integer or as a float. -/

/-- The value of a byte as a signed or an unsigned integer: formats 6 and 9. -/
theorem natAbs_intOf_le {fmt x : Nat} (hf : fmt = 6 ∨ fmt = 9) : (intOf fmt x).natAbs ≤ 255 := by
  rcases hf with rfl | rfl
  · have h : intOf 6 x = toSigned x 8 := rfl
    rw [h, toSigned]
    have := Nat.mod_lt x (show 0 < 2 ^ 8 by decide)
    split <;> omega
  · have h : intOf 9 x = (x % 2 ^ 8 : Nat) := rfl
    rw [h]; omega

theorem clampInt_eq_self {i : Int} (h : i.natAbs < 2 ^ 31) : clampInt 8 i = i := by
  have hr : intRange 8 = (-2 ^ 31, 2 ^ 31 - 1) := by decide
  rw [clampInt, hr]
  dsimp only
  omega

/-- A sum that is clamped after each term is the plain sum, where every term is small. -/
theorem foldl_clampInt {α : Type} (f : α → Int) {b : Nat} {ps : List α} (hf : ∀ p ∈ ps, (f p).natAbs ≤ b) (acc : Int × Bool)
    (hacc : acc.1.natAbs + b * ps.length < 2 ^ 31) :
    (ps.foldl (fun (acc : Int × Bool) p => (clampInt 8 (acc.1 + f p), acc.2 || decide (clampInt 8 (acc.1 + f p) ≠ acc.1 + f p))) acc).1 = acc.1 + (ps.map f).sum := by
  induction ps generalizing acc with
  | nil => simp
  | cons p ps ih =>
    obtain ⟨hp, hf⟩ := List.forall_mem_cons.mp hf
    rw [List.length_cons, Nat.mul_succ] at hacc
    have hc : clampInt 8 (acc.1 + f p) = acc.1 + f p := clampInt_eq_self (by omega)
    rw [List.foldl_cons, ih hf _ (by rw [hc]; omega), hc, List.map_cons, List.sum_cons, Int.add_assoc]

theorem natAbs_sum_le {α : Type} (f : α → Int) {b : Nat} {ps : List α} (hf : ∀ p ∈ ps, (f p).natAbs ≤ b) : (ps.map f).sum.natAbs ≤ b * ps.length := by
  induction ps with
  | nil => simp
  | cons p ps ih =>
    obtain ⟨hp, hf⟩ := List.forall_mem_cons.mp hf
    have := ih hf
    rw [List.map_cons, List.sum_cons, List.length_cons, Nat.mul_succ]
    omega

/-- A 32-bit pattern of a small sum is above zero, as an integer and as a float, exactly where the sum is. -/
theorem positive_ofSigned {t : Int} (ht : t.natAbs < 2 ^ 30) (acc : Nat) : positive acc (ofSigned t 32) = decide (0 < t) := by
  have hx : (ofSigned t 32 : Int) = if 0 ≤ t then t else t + 2 ^ 32 := by
    rw [ofSigned]
    split <;> omega
  unfold positive
  by_cases ha : acc = 8
  · rw [if_pos ha, toSigned]
    refine decide_eq_decide.mpr ?_
    split at hx <;> split <;> omega
  · rw [if_neg ha]
    generalize ofSigned t 32 = x at hx
    have hv : valueOf 0 x = if x % 2 ^ 31 = 0x7F800000 then .inf (x / 2 ^ 31 % 2 == 1) else if 0x7F800000 < x % 2 ^ 31 then .nan else
        if x % 2 ^ 31 < 2 ^ 23 then .fin (x / 2 ^ 31 % 2 == 1) (x % 2 ^ 31) (-126 - 23)
        else .fin (x / 2 ^ 31 % 2 == 1) (x % 2 ^ 31 % 2 ^ 23 + 2 ^ 23) (-126 - 23 + (x % 2 ^ 31 / 2 ^ 23 : Nat) - 1) := rfl
    rw [hv]
    by_cases hneg : t < 0
    · have hsign : (x / 2 ^ 31 % 2 == 1) = true := by rw [beq_iff_eq]; split at hx <;> omega
      rw [hsign, decide_eq_false (by omega)]
      split_ifs <;> rfl
    · have hmag : x % 2 ^ 31 = t.natAbs := by split at hx <;> omega
      have hsign : (x / 2 ^ 31 % 2 == 1) = false := by rw [beq_eq_false_iff_ne]; split at hx <;> omega
      rw [hsign, hmag, if_neg (by omega), if_neg (by omega)]
      by_cases hlow : t.natAbs < 2 ^ 23
      · simp only [hlow, if_true, Bool.not_false, Bool.true_and, decide_eq_decide]
        omega
      · simp only [hlow, if_false, Bool.not_false, Bool.true_and, decide_eq_decide]
        omega

/-- The product of an integer row with a column: the pattern of the plain sum. -/
theorem dotProduct_int {rowFmt matFmt er en : Nat} {xs ms : List Nat} (hrow : rowFmt = 6 ∨ rowFmt = 9) (hmat : matFmt = 6 ∨ matFmt = 9) (hlen : xs.length ≤ 512) :
    let t := ((xs.zip ms).map (fun p => intOf rowFmt p.1 * intOf matFmt p.2)).sum
    (dotProduct rowFmt matFmt er en xs ms).1 = ofSigned t 32 ∧ t.natAbs < 2 ^ 30 := by
  have hterm : ∀ p ∈ xs.zip ms, (intOf rowFmt p.1 * intOf matFmt p.2).natAbs ≤ 255 * 255 := fun p _ => by
    rw [Int.natAbs_mul]
    exact Nat.mul_le_mul (natAbs_intOf_le hrow) (natAbs_intOf_le hmat)
  have hzip : (xs.zip ms).length ≤ 512 := by rw [List.length_zip]; omega
  have h5 : rowFmt ≠ 5 := by omega
  have hint : isInt rowFmt = true := decide_eq_true (by omega)
  have hsum := natAbs_sum_le _ hterm
  have hfold := foldl_clampInt _ hterm (0, false) (by dsimp only; omega)
  refine ⟨?_, by omega⟩
  simp only [dotProduct, h5, hint, if_false, if_true]
  rw [hfold, Int.zero_add]

/-! ### A row at an interior node (R134 to R139) -/

theorem NodeHead.leaf_eq_false {bs : List Byte} (h : leAt bs 0 1 = 0) : (nodeHead bs).leaf = false := by
  simp [NodeHead.leaf, nodeHead, h]

theorem ite_succ_eq_zero_iff {c : Prop} [Decidable c] {n x : Nat} : (if c then n + 1 else x) = 0 ↔ ¬c ∧ x = 0 := by
  split <;> simp [*]

/-- What a header without a finding says of an interior node with rule 0: its width, its columns and the column it selects by. -/
theorem NodeHead.bounds_of_code {h : NodeHead} (hcode : h.code false = 0) (hleaf : h.leaf = false) (hrule : h.rule = 0) : h.k ≤ 512 ∧ h.sel < h.n := by
  simp only [NodeHead.code, ite_succ_eq_zero_iff] at hcode
  obtain ⟨-, -, -, -, hk, -, -, hsel, -⟩ := hcode
  refine ⟨by omega, ?_⟩
  simpa [selOk, hleaf, hrule, columnRead] using hsel

theorem matrixFormats_int {fmt m : Nat} (hf : fmt = 6 ∨ fmt = 9) (h : (matrixFormats fmt).contains m = true) : m = 6 ∨ m = 9 := by
  rcases hf with rfl | rfl <;> simpa [matrixFormats] using h

/-- A row of the node's width, at an interior node with elements that are not carried, goes to the child that the rule chooses from its product, or is faulted
where that child does not exist or lies too deep. -/
theorem stepRow_interior {j : WalkJob} {d : WalkDesc} {bs : List Byte} {r : WalkRow} (hgang : j.gang = false) (hleaf : (nodeHead bs).leaf = false)
    (hmode : (nodeHead bs).mode = 0) (hwidth : r.elems.length = (nodeHead bs).k) :
    let product := sliceProduct (nodeHead bs) bs j.fmt r.scale r.elems 0
    let child := leAt bs ((nodeHead bs).table + 4 * chooseChild (nodeHead bs) d.accFmt (fun col => (product.getD col (0, false)).1)) 4
    (stepRow j d bs r).1 = if child = 0 ∨ d.chartLen ≤ child ∨ d.maxDepth < r.depth + 1 then { r with st := 2 } else { r with depth := r.depth + 1, unit := child } := by
  simp only [stepRow, hwidth, hgang, hleaf, hmode, ne_eq, not_true, Bool.false_and, Bool.false_eq_true, if_true, if_false]
  exact apply_ite Prod.fst _ _ _

/-- A column of an integer row's product at an interior node: the pattern of the sum of its products, which is small. -/
theorem sliceProduct_int {fmt er sel : Nat} {bs : List Byte} {xs : List Nat} (hfmt : fmt = 6 ∨ fmt = 9) (hmat : (nodeHead bs).fmt = 6 ∨ (nodeHead bs).fmt = 9)
    (hk : (nodeHead bs).k ≤ 512) (hsel : sel < (nodeHead bs).n) (hwidth : xs.length = (nodeHead bs).k) :
    let sum : Int := ((List.range xs.length).map (fun k =>
      intOf fmt (xs.getD k 0) * intOf (nodeHead bs).fmt (leAt bs ((nodeHead bs).matrix + 16 * k + sel) 1))).sum
    ((sliceProduct (nodeHead bs) bs fmt er xs 0).getD sel (0, false)).1 = ofSigned sum 32 ∧ sum.natAbs < 2 ^ 30 := by
  have hsize : elemSize (nodeHead bs).fmt = 1 := by rcases hmat with h | h <;> rw [h] <;> rfl
  have hzip (g : Nat → Nat) : xs.zip ((List.range xs.length).map g) = (List.range xs.length).map (fun k => (xs.getD k 0, g k)) :=
    List.ext_getElem (by simp) (fun i hi _ => by simp at hi; simp [hi])
  have hdot := dotProduct_int (er := er) (en := (nodeHead bs).scale) (xs := xs)
    (ms := (List.range xs.length).map (fun k => leAt bs ((nodeHead bs).matrix + 16 * k + sel) 1)) hfmt hmat (hwidth ▸ hk)
  rw [hzip, List.map_map] at hdot
  refine ⟨Eq.trans ?_ hdot.1, hdot.2⟩
  simp [sliceProduct, List.getD_eq_getElem?_getD, hsel, hsize, hwidth, Nat.add_assoc]

/-- A valid node of an integer job, interior and with rule 0, sends a row of its width to the second child where its product with the selected column is above
zero, and else to the first. -/
theorem stepRow_sign {j : WalkJob} {d : WalkDesc} {bs : List Byte} {r : WalkRow} (hgang : j.gang = false) (hfmt : j.fmt = 6 ∨ j.fmt = 9)
    (hvalid : nodeValid j d r.unit bs = true) (hkind : leAt bs 0 1 = 0) (hrule : leAt bs 1 1 = 0) (hmode : leAt bs 2 1 = 0) (hwidth : r.elems.length = leAt bs 4 2) :
    let sum : Int := ((List.range r.elems.length).map (fun k =>
      intOf j.fmt (r.elems.getD k 0) * intOf (leAt bs 3 1) (leAt bs (leAt bs 0x14 4 + 16 * k + leAt bs 0xA 2) 1))).sum
    let child := leAt bs (leAt bs 0x18 4 + (if 0 < sum then 4 else 0)) 4
    (stepRow j d bs r).1 = if child = 0 ∨ d.chartLen ≤ child ∨ d.maxDepth < r.depth + 1 then { r with st := 2 } else { r with depth := r.depth + 1, unit := child } := by
  intro sum child
  have hleaf := NodeHead.leaf_eq_false hkind
  simp only [nodeValid, hgang, Bool.and_eq_true, beq_iff_eq] at hvalid
  obtain ⟨⟨⟨hcode, hmat⟩, -⟩, -⟩ := hvalid
  obtain ⟨hk, hsel⟩ := NodeHead.bounds_of_code hcode hleaf hrule
  obtain ⟨hcol, hsmall⟩ := sliceProduct_int (er := r.scale) hfmt (matrixFormats_int hfmt hmat) hk hsel hwidth
  have hchoose : (nodeHead bs).table + 4 * chooseChild (nodeHead bs) d.accFmt (fun col => ((sliceProduct (nodeHead bs) bs j.fmt r.scale r.elems 0).getD col (0, false)).1) =
      leAt bs 0x18 4 + (if 0 < sum then 4 else 0) := by
    have hrule' : (nodeHead bs).rule = 0 := hrule
    simp only [chooseChild, hrule', hcol, positive_ofSigned hsmall, decide_eq_true_eq, mul_ite, Nat.mul_one, Nat.mul_zero]
    rfl
  rw [stepRow_interior hgang hleaf hmode hwidth, hchoose]

/-! ### Event records (R363)

A record goes to memory and to its sheet, and a recording that its write abandons changes its thread. -/

/-- From one state to another the clusters, the contexts and the cores stay as they are. -/
def State.sameBlocks (s t : State) : Prop := t.clusters = s.clusters ∧ t.ctxs = s.ctxs ∧ t.cores = s.cores

theorem State.sameBlocks_refl (s : State) : s.sameBlocks s := ⟨rfl, rfl, rfl⟩

theorem State.sameBlocks.trans {r s t : State} (h : r.sameBlocks s) (h' : s.sameBlocks t) : r.sameBlocks t :=
  ⟨h'.1.trans h.1, h'.2.1.trans h.2.1, h'.2.2.trans h.2.2⟩

/-- A fold of updates that each leave the blocks as they are. -/
theorem State.sameBlocks_foldl {α : Type} (f : State → α → State) (hf : ∀ (s : State) a, s.sameBlocks (f s a)) (l : List α) (s : State) : s.sameBlocks (l.foldl f s) :=
  List.foldlRecOn (motive := s.sameBlocks) _ _ s.sameBlocks_refl (fun t ht a _ => ht.trans (hf t a))

theorem State.sameBlocks_mapSheet (s : State) (n : Nat) (f : Sheet → Sheet) : s.sameBlocks (s.mapSheet n f) := ⟨rfl, rfl, rfl⟩

theorem State.sameBlocks_setTag (s : State) (line : Nat) (x : BitVec 32) : s.sameBlocks (s.setTag line x) := ⟨rfl, rfl, rfl⟩

theorem State.sameBlocks_storeByte (s : State) (pa : Nat) (b : Byte) : s.sameBlocks (s.storeByte pa b) := by
  unfold State.storeByte
  dsimp only
  split <;> exact ⟨rfl, rfl, rfl⟩

theorem State.sameBlocks_storeLine (s : State) (line : Nat) (mask : LineMask) (data : LineData) : s.sameBlocks (s.storeLine line mask data) := by
  refine State.sameBlocks_foldl _ (fun t k => ?_) _ _
  split
  · exact t.sameBlocks_storeByte _ _
  · exact t.sameBlocks_refl

theorem State.sameBlocks_dropReplicas (s : State) (pa : Nat) (mask : BitVec 32) : s.sameBlocks (s.dropReplicas pa mask) := by
  refine State.sameBlocks_foldl _ (fun t k => ?_) _ _
  split
  · exact t.sameBlocks_mapSheet _ _
  · exact t.sameBlocks_refl

theorem State.sameBlocks_pageWritten (s : State) (pa : Nat) : s.sameBlocks (s.pageWritten pa) := by
  unfold State.pageWritten
  dsimp only
  split_ifs
  · exact (s.sameBlocks_dropReplicas _ _).trans (State.sameBlocks_mapSheet _ _ _)
  · exact s.sameBlocks_mapSheet _ _
  · exact s.sameBlocks_refl

theorem State.sameBlocks_countUnbacked (s : State) (pa : Nat) : s.sameBlocks (s.countUnbacked pa) := by
  unfold State.countUnbacked
  split
  · exact s.sameBlocks_mapSheet _ _
  · exact s.sameBlocks_refl

theorem State.sameBlocks_writeRecord (s : State) (sheet : Nat) (e : EventRec) : s.sameBlocks (s.writeRecord sheet e) := by
  unfold State.writeRecord
  dsimp only
  refine State.sameBlocks.trans ?_ (State.sameBlocks_mapSheet _ _ _)
  split
  · exact ((s.sameBlocks_storeLine _ _ _).trans (State.sameBlocks_setTag _ _ _)).trans (State.sameBlocks_pageWritten _ _)
  · exact s.sameBlocks_countUnbacked _

theorem State.sameBlocks_logEvent (s : State) (sheet : Nat) (e : EventRec) : s.sameBlocks (s.logEvent sheet e) := by
  unfold State.logEvent
  split_ifs
  · exact s.sameBlocks_mapSheet _ _
  · exact s.sameBlocks_mapSheet _ _
  · exact s.sameBlocks_writeRecord _ _

theorem State.sameBlocks_abandonRec (s : State) (th code : Nat) : s.sameBlocks (s.abandonRec th code) := by
  unfold State.abandonRec
  split
  · exact s.sameBlocks_refl
  · exact State.sameBlocks_logEvent (State.mapSheet _ _ (State.setThread _ _ s)) _ _

theorem State.sameBlocks_invalidatePlates (s : State) (pa : Nat) : s.sameBlocks (s.invalidatePlates pa) := by
  refine State.sameBlocks_foldl _ (fun t e => ?_) _ _
  have habandon (ps : List Plate) : t.sameBlocks (ps.foldl (fun (u : State) p => u.abandonRec p.owner 14) t) :=
    State.sameBlocks_foldl _ (fun u p => u.sameBlocks_abandonRec p.owner 14) ps t
  dsimp only
  split
  · exact (habandon _).trans (State.sameBlocks_mapSheet _ _ _)
  · exact habandon _

theorem State.sameBlocks_recordOf (s : State) (sheet cause flags : Nat) (source obj : Word) : s.sameBlocks (s.recordOf sheet cause flags source obj) := by
  unfold State.recordOf State.record
  dsimp only
  split
  · exact s.sameBlocks_logEvent _ _
  · exact (s.sameBlocks_logEvent _ _).trans (State.sameBlocks_invalidatePlates _ _)

/-! ### Suspension (R16) -/

/-- A fault, other than a world violation, at which a job that loads is suspended. -/
theorem execWalkSuspend_loading {s u : State} {cl job va c : Nat} {j : WalkJob} (hw : s.walk? cl job = some j) (hst : j.st = .loading)
    (hheld : s.arrayHeld cl = false) (hc : c ≠ 9) (hload : s.loadJob cl j = (.error (va, some c), u)) :
    ∃ t, execWalkSuspend cl job s = .next t ∧
      t.walk? cl job = some { j with st := .suspended, back := .loading, retry := false, faultVa := va, susp := true } ∧ t.ctxs = u.ctxs ∧ t.cores = u.cores := by
  have hexec : execWalkSuspend cl job s = .next (u.suspendWalk cl job j va c) := by
    simp only [execWalkSuspend, hw, hheld, WalkJob.works_of_st hst, hload, Bool.false_eq_true, if_false, if_true]
  obtain ⟨hclusters, hctxs, hcores⟩ : (u.setWalk cl job { j with st := .suspended, back := .loading, retry := false, faultVa := va, susp := true }).sameBlocks
      (u.suspendWalk cl job j va c) := by
    simp only [State.suspendWalk, hc, hst, if_false, reduceCtorEq]
    exact State.sameBlocks_recordOf _ _ _ _ _ _
  exact ⟨_, hexec, (State.walk?_of_clusters hclusters cl job).trans (State.walk?_setWalk_same _ _ _ _), hctxs, hcores⟩

/-! ### Handlers (R13, R54, R157) -/

/-- A handler starts on the first context of its core, where that is free, with the registers of R13, and its row counts it as started. -/
theorem execHandlerStart_first {s : State} {core job row : Nat} {j : WalkJob} {d : WalkDesc} {r : WalkRow} (hw : s.walk? (core / 8) job = some j)
    (hd : j.descs = [d]) (hfree : s.handlers.get? (core, 0) = none) (hnext : s.nextResult core = some (job, row, 0)) (hr : j.rows[row]? = some r) :
    ∃ t, execHandlerStart core s = .next t ∧ t.mem = s.mem ∧ (∀ x, x ≠ .handler core 0 → t.ctxOf x = s.ctxOf x) ∧
      t.ctxOf (.handler core 0) = handlerCtx (s.ctxOf (.handler core 0)) d r row 0 (j.rounds.getD 0 0) s.freeCtr s.cycle.toNat ∧
      (t.handlers.get? (core, 0)).map Handler.row = some row ∧
      ((t.walk? (core / 8) job).bind (fun j => j.rows[row]?)).map WalkRow.hstart = some (0 :: r.hstart) := by
  have hslot : [0, 1].find? (fun k => (s.handlers.get? (core, k)).isNone) = some 0 := by simp [hfree]
  have hlt : row < j.rows.length := (List.getElem?_eq_some_iff.mp hr).1
  simp only [execHandlerStart, hslot, hnext, clusterOfCore, hw, hr, hd, List.getElem?_cons_zero]
  refine ⟨_, rfl, rfl, fun x hx => State.ctxOf_setCtx_other _ _ hx, State.ctxOf_setCtx_same _ _ _, ?_, ?_⟩
  · exact congrArg (Option.map Handler.row) (Map.get?_set_same _ _ _)
  · rw [State.walk?_of_clusters (State.setCtx_clusters _ _ _), State.walk?_setWalk_same]
    simp [hlt]

/-- What a handler starts with (R13, R54). -/
theorem handlerCtx_start (old : Ctx) (d : WalkDesc) (r : WalkRow) (row slice : Nat) (round : Word) (free now : Nat) :
    let k := handlerCtx old d r row slice round free now
    k.run = .running ∧ k.pc = d.handler ∧ k.buf = [] ∧ k.reg 1 = BitVec.ofNat 64 row ∧ k.reg 2 = BitVec.ofNat 64 r.leafId ∧ k.reg 3 = d.user ∧
      k.reg 4 = BitVec.ofNat 64 r.seg ∧ k.v.get 0 0 = r.results.getD slice 0 ∧ k.round = round ∧ k.p = Ctx.init.p := by
  intro k
  have hregs : k.reg 1 = BitVec.ofNat 64 row ∧ k.reg 2 = BitVec.ofNat 64 r.leafId ∧ k.reg 3 = d.user ∧ k.reg 4 = BitVec.ofNat 64 r.seg := by
    simp [k, handlerCtx, Ctx.reg_setReg]
  obtain ⟨h1, h2, h3, h4⟩ := hregs
  exact ⟨rfl, rfl, rfl, h1, h2, h3, h4, rfl, rfl, rfl⟩

/-! ### Completion (R14, R18, R161) -/

/-- A job of which every slice has released its lines is complete when nothing of it is on its way. -/
theorem execWalkJobComplete_quiet {s : State} {cl job th : Nat} {j : WalkJob} (hw : s.walk? cl job = some j) (hth : j.threads = [th]) (hst : j.st = .draining)
    (hdrain : j.drain = []) (hstep : j.step = none) (hrows : ∀ r ∈ j.rows, r.st ≠ 0) (hrel : j.released = [th / 8]) (hnet : s.net = [])
    (htracers : ∀ x ∈ (s.cluster cl).tracers, x.2.walk ≠ some (cl, job)) :
    execWalkJobComplete cl job s = .next (s.walkComplete cl job) := by
  have hready : ¬(j.st ≠ .draining ∨ j.rows.any (fun r => r.st == 0) = true ∨ j.drain ≠ [] ∨ j.step.isSome = true) := by
    simpa [hst, hdrain, hstep] using hrows
  have hcores : j.cores.find? (fun c => !j.released.contains c) = none := by simp [WalkJob.cores, hth, hrel, coreOfThread]
  have hquiet : s.walkQuiet cl job j = true := by
    simpa [State.walkQuiet, State.coreUnacked, hnet] using htracers
  simp only [execWalkJobComplete, hw, if_neg hready, hcores, hquiet, if_true]

/-- The completion of a job of one thread: the job and its queue entry are gone, and the thread's table has its status. -/
theorem State.walkComplete_solo {s : State} {cl job th : Nat} {j : WalkJob} (hw : s.walk? cl job = some j) (hth : j.threads = [th]) :
    let t := s.walkComplete cl job
    t.walk? cl job = none ∧ (t.cluster cl).walkQ = (s.cluster cl).walkQ.filter (fun k => decide (k ≠ job)) ∧ t.mem = s.mem ∧
      t.thread th = (s.thread th).jobDone job j.status j.faultAddr := by
  intro t
  have ht : t = (s.mapThread th (fun t => t.jobDone job j.status j.faultAddr)).mapCluster cl
      (fun c => { c with walks := c.walks.del job, walkQ := c.walkQ.filter (· ≠ job) }) := by
    simp only [t, State.walkComplete, hw, hth, List.foldl_cons, List.foldl_nil]
  have hcluster := State.cluster_mapCluster (s.mapThread th (fun t => t.jobDone job j.status j.faultAddr)) cl cl
    (fun c => { c with walks := c.walks.del job, walkQ := c.walkQ.filter (· ≠ job) })
  rw [if_pos rfl, ← ht] at hcluster
  refine ⟨?_, by rw [hcluster]; rfl, by rw [ht]; rfl, ?_⟩
  · rw [State.walk?, hcluster]
    exact Map.get?_del_same _ _
  · rw [ht]
    exact (State.thread_mapThread s th th _).trans (if_pos rfl)

/-- The entry of a job in its thread's table is complete, with the job's status. -/
theorem Thread.find_jobDone {t : Thread} {id : Nat} {e : JobEntry} (h : t.jobs.find? (fun e => e.id == id) = some e) (status va : Word) :
    (t.jobDone id status va).wake = true ∧
      (t.jobDone id status va).jobs.find? (fun e => e.id == id) = some { e with complete := true, status := status, faultVa := va } := by
  have hid : e.id = id := by simpa using List.find?_some h
  have hany : t.jobs.any (fun e => e.id == id) = true := List.any_eq_true.mpr ⟨e, List.mem_of_find?_eq_some h, beq_iff_eq.mpr hid⟩
  have hkey : (fun e : JobEntry => e.id == id) ∘ (fun e => if e.id = id then { e with complete := true, status := status, faultVa := va } else e) = (fun e => e.id == id) := by
    funext x
    dsimp only [Function.comp]
    split <;> rfl
  rw [Thread.jobDone, if_pos hany]
  refine ⟨rfl, ?_⟩
  rw [List.find?_map, hkey, h, Option.map_some, if_pos hid]

section status
open Sys2Proof.Claims
variable {j : WalkJob} (hlen : j.rows.length ≤ 256)
include hlen

theorem WalkJob.toNat_status :
    j.status.toNat = (if j.susp then 2 ^ 34 else 0) + (if j.canc then 2 ^ 33 else 0) + (if j.sat then 2 ^ 32 else 0) + rowsIn j 2 * 2 ^ 16 + rowsIn j 1 ∧
      rowsIn j 1 ≤ 256 ∧ rowsIn j 2 ≤ 256 := by
  have hle (st : Nat) : rowsIn j st ≤ 256 := (List.length_filter_le _ _).trans hlen
  have h1 := hle 1
  have h2 := hle 2
  have hlt : (if j.susp then 2 ^ 34 else 0) + (if j.canc then 2 ^ 33 else 0) + (if j.sat then 2 ^ 32 else 0) + rowsIn j 2 * 2 ^ 16 + rowsIn j 1 < 2 ^ 64 := by
    split_ifs <;> omega
  exact ⟨toNat_ofNat_of_lt hlt, h1, h2⟩

/-- The fields of a job's status word (R18). -/
theorem WalkJob.status_fields :
    bitsAt j.status 15 0 = rowsIn j 1 ∧ bitsAt j.status 31 16 = rowsIn j 2 ∧ j.status.getLsbD 32 = j.sat ∧ j.status.getLsbD 33 = j.canc ∧
      j.status.getLsbD 34 = j.susp := by
  obtain ⟨hv, h1, h2⟩ := WalkJob.toNat_status hlen
  simp only [bitsAt, BitVec.getLsbD, Nat.testBit_eq_decide_div_mod_eq, hv]
  cases j.sat <;> cases j.canc <;> cases j.susp <;> simp <;> omega

end status

end Sys2Proof.Machine

namespace Sys2Proof.Proofs
open Sys2Proof.Machine

/-! ### The settled statement of walk jobs -/

/-- Settles O38, from what each event does to a job of one thread (R12, R13, R16, R144 to R161). -/
theorem walkJobsRunThroughTheirStates : Obligations.WalkJobsRunThroughTheirStates := by
  unfold Obligations.WalkJobsRunThroughTheirStates
  refine ⟨fun s cl th pre post hwait _ hroom hpre hpost => execJobQueueGrant_first hwait hroom hpre hpost, ?_⟩
  intro s cl job th j d hw hth hd hengine
  have hheld := State.arrayHeld_eq_false hengine
  refine ⟨?accept, ?load, ?row, ?step, ?child, ?stepEnd, ?suspend, ?handler, ?complete⟩
  case accept =>
    intro hst hwf hidle hfirst
    have hfresh : ∀ r ∈ j.started.rows, r = WalkRow.fresh := fun r hr => by
      obtain ⟨_, -, rfl⟩ := List.mem_map.mp hr
      rfl
    have hlen : j.started.rows.length = j.rows.length := List.length_map _
    have hread := State.read_foldl_mirror_fresh (j := j.started) (s := s.setWalk cl job j.started) hth hd hwf hfresh
    obtain ⟨hmem, hctxs⟩ := s.foldl_mirror_fields j.started cl job (List.range j.started.rows.length)
    refine ⟨_, execWalkJobAccept_starts hw (State.mayStart_of_idle hw hst hheld hidle hfirst), State.walk?_foldl_mirror _ _ _ _ _, ?_, ?_, hmem, hctxs⟩
    · exact fun x h1 h2 => (hread x).trans (if_pos ⟨h1, by omega⟩)
    · exact fun x hx => (hread x).trans (if_neg (by omega))
  case load =>
    intro k u hst hload
    rw [← WalkJob.anyPending_eq]
    exact execWalkLoadDone_loaded hw hst hheld hload
  case row => exact fun bs u hfmt hscales hseg hrows hread => State.loadJob_oneRow hd hfmt hscales hseg hrows hread
  case step =>
    rintro unit rows bs u hst hstep hne rfl hlow hread
    have hnext := WalkJob.nextNode_lowest hne hlow
    have hnodup := j.nodup_pendingAt unit
    exact ⟨fun hbad => execWalkStep_whole hw hd hheld hst hstep hnext hread hnodup _ (Or.inl ⟨hbad, rfl⟩),
      fun hgood hkind => execWalkStep_whole hw hd hheld hst hstep hnext hread hnodup _ (Or.inr ⟨hgood, NodeHead.leaf_eq_false hkind, rfl⟩)⟩
  case child =>
    rintro bs r sel hgang hfmt hvalid hkind hrule hmode hwidth - rfl
    exact stepRow_sign hgang (by simpa using hfmt) hvalid hkind hrule hmode hwidth
  case stepEnd =>
    intro unit rows hst hstep hwf
    refine ⟨_, execWalkStepEnd_mirrors hw hst hheld hstep, ?_, ?_, (State.foldl_mirror_fields _ _ _ _ _).1⟩
    · simpa only [WalkJob.stepped, WalkJob.anyPending_eq, Bool.and_eq_true, Bool.not_eq_true', and_comm] using
        State.walk?_foldl_mirror s j.stepped cl job rows
    · exact fun k r hk hr => State.leNat_foldl_mirror (j := j.stepped) (s := s.setWalk cl job j.stepped) hth hd hwf hk hr
  case suspend => exact fun va c u hst hc hload => execWalkSuspend_loading hw hst hheld hc hload
  case handler =>
    rintro row r hfree hnext hr rfl
    have hcl : th / 64 = th / 8 / 8 := (Nat.div_div_eq_div_mul th 8 8).symm
    rw [hcl] at hw ⊢
    obtain ⟨t, hexec, hmem, hothers, hctx, hrow, hstart⟩ := execHandlerStart_first hw hd hfree hnext hr
    obtain ⟨hrun, hpc, hbuf, h1, h2, h3, h4, hv, hround, hp⟩ :=
      handlerCtx_start (s.ctxOf (.handler (th / 8) 0)) d r row 0 (j.rounds.getD 0 0) s.freeCtr s.cycle.toNat
    refine ⟨t, hexec, hmem, hothers, ?_⟩
    rw [hctx]
    exact ⟨hrun, hpc, hbuf, h1, h2, h3, h4, hv, hround, hp, hrow, hstart⟩
  case complete =>
    intro hst hdrain hstep hlen hrows hrel hnet htracers
    obtain ⟨hgone, hqueue, hmem, hthread⟩ := State.walkComplete_solo hw hth
    refine ⟨_, execWalkJobComplete_quiet hw hth hst hdrain hstep hrows hrel hnet htracers, hgone, hqueue, hmem, fun e he => ?_⟩
    obtain ⟨hwake, hfind⟩ := Thread.find_jobDone he j.status j.faultAddr
    rw [← hthread] at hwake hfind
    exact ⟨hwake, _, hfind, rfl, WalkJob.status_fields hlen⟩

end Sys2Proof.Proofs

/-! # Host commands (O52) -/

namespace Sys2Proof.Machine

/-! ### Fields of bytes read from a memory (R7) -/

theorem Memory.readList_drop_take (m : Memory) (a n k j : Nat) (h : k + j ≤ n) : ((m.readList a n).drop k).take j = m.readList (a + k) j := by
  refine List.ext_getElem (by simp [Memory.length_readList]; omega) (fun i _ _ => ?_)
  simp [Memory.readList, Nat.add_assoc]

theorem leAt_readList (m : Memory) (a n k j : Nat) (h : k + j ≤ n) : leAt (m.readList a n) k j = leNat (m.readList (a + k) j) := by
  rw [leAt, Memory.readList_drop_take m a n k j h]

theorem Memory.getD_readList (m : Memory) (a : Nat) {n k : Nat} (h : k < n) : (m.readList a n).getD k 0 = m.read (a + k) := by
  rw [List.getD_eq_getElem _ _ (by rwa [Memory.length_readList])]
  simp [Memory.readList]

/-- The number in one byte is 0 where the byte is. -/
theorem leAt_one_eq_zero_iff (bs : List Byte) (k : Nat) : leAt bs k 1 = 0 ↔ bs.getD k 0 = 0 := by
  have hbyte : leAt bs k 1 = (bs.getD k 0).toNat := by
    rw [← leNat_byte, leNat_div_pow, ← Nat.pow_one 256, leNat_mod_pow, leAt]
  rw [hbyte, ← BitVec.toNat_inj]; rfl

/-- The words of bytes read from a memory are the numbers at their addresses. -/
theorem wordsOf_readList (m : Memory) (a n : Nat) :
    wordsOf (m.readList a (8 * n)) n = (List.range n).map (fun k => BitVec.ofNat 64 (leNat (m.readList (a + 8 * k) 8))) := by
  refine List.map_congr_left (fun k hk => ?_)
  have hk := List.mem_range.mp hk
  rw [leAt_readList _ _ _ _ _ (by omega)]

/-! ### The command ring (R432, R433) -/

section ring
open Sys2Proof.Claims

theorem HostPort.cmdAt_zero (p : HostPort) :
    p.cmdAt 0 = p.cmdbase.toNat / 2 ^ 12 * 2 ^ 12 + 64 * (p.cmdhead.toNat % (64 * 2 ^ (p.cmdbase.toNat % 16))) := by
  have hlt := p.cmdbase.isLt
  have hbits : bitsOf p.cmdbase.toNat 63 12 = p.cmdbase.toNat / 2 ^ 12 := Nat.mod_eq_of_lt (by omega)
  rw [HostPort.cmdAt, hbits, HostPort.ringSize, Nat.add_zero]; rfl

theorem commandField_eq (s : State) (port o n : Nat) : commandField s port o n = leNat (s.hostMem.readList ((s.port port).cmdAt 0 + o) n) := by
  rw [HostPort.cmdAt_zero]; rfl

/-- A field of a command is the number in its bytes. -/
theorem leAt_cmdBytes (s : State) (port o n : Nat) (h : o + n ≤ 64 := by omega) : leAt (s.cmdBytes port 0) o n = commandField s port o n := by
  rw [commandField_eq, State.cmdBytes, leAt_readList _ _ _ _ _ h]

theorem bodyUses_iff (op k : Nat) : bodyUses op k = true ↔ ∃ r ∈ bodyOf op, r.1 ≤ k ∧ k < r.1 + r.2 := by
  unfold bodyUses bodyOf
  split <;> simp <;> omega

/-- A command's frame is refused for a byte that is not 0, outside the operation, its tag, its body's fields and its status. -/
theorem frameBad_iff (op : Nat) (bs : List Byte) :
    frameBad op bs = true ↔ ∃ k, 1 ≤ k ∧ k < 63 ∧ (k < 4 ∨ 8 ≤ k) ∧ (∀ r ∈ bodyOf op, k < r.1 ∨ r.1 + r.2 ≤ k) ∧ bs.getD k 0 ≠ 0 := by
  have huse (k : Nat) : bodyUses op k = false ↔ ∀ r ∈ bodyOf op, k < r.1 ∨ r.1 + r.2 ≤ k := by
    rw [← Bool.not_eq_true, bodyUses_iff]
    push Not
    exact forall₂_congr fun r _ => by omega
  simp only [frameBad, List.any_eq_true, List.mem_range, Bool.and_eq_true, Bool.not_eq_true', huse, decide_eq_true_eq, decide_eq_false_iff_not, bne_iff_ne]
  refine exists_congr fun k => ?_
  constructor
  · rintro ⟨h63, ⟨⟨h1, htag⟩, hbody⟩, hne⟩
    exact ⟨h1, h63, by omega, hbody, hne⟩
  · rintro ⟨h1, h63, htag, hbody, hne⟩
    exact ⟨h63, ⟨⟨h1, by omega⟩, hbody⟩, hne⟩

/-- An operation other than end launch does not wait. -/
theorem State.endWaits_of_op {s : State} {port k : Nat} (h : leAt (s.cmdBytes port k) 0 1 ≠ 6) : s.endWaits port k = false := by
  simp [State.endWaits, h]

section head
variable {s : State} {port op : Nat} {body : List (Nat × Nat)} (hat : commandAt s port op body)
include hat

theorem op_of_commandAt : leAt (s.cmdBytes port 0) 0 1 = op := by
  obtain ⟨-, -, -, -, -, -, -, -, -, -, hop, -⟩ := hat
  rwa [State.cmdBytes, HostPort.cmdAt_zero]

theorem finished_of_commandAt : (s.port port).finished = [] := by
  obtain ⟨-, -, -, hfin, -⟩ := hat
  exact hfin

theorem portHeld_of_commandAt : s.portHeld port = false := by
  obtain ⟨-, -, -, -, hfree, -⟩ := hat
  exact portHeld_of_portFree hfree

/-- The service core looks among the commands that wait in the ring for the first that it can handle. -/
theorem cmdPlace_of_commandAt :
    s.cmdPlace port = (List.range (min ((s.port port).cmdtail.toNat - (s.port port).cmdhead.toNat) (s.port port).ringSize)).find? (fun k => !s.endWaits port k) := by
  obtain ⟨hport, hrun, hgo, hfin, -, hres, hsize, hlt, hnear, htail, -⟩ := hat
  have hwait : (s.port port).waiting = (s.port port).cmdtail.toNat - (s.port port).cmdhead.toNat := by
    rw [HostPort.waiting]; omega
  have hbits : bitsOf (s.port port).cmdbase.toNat 11 4 = 0 := hres
  have henabled : port < 4 ∧ s.bootStage = 2 ∧ (s.port port).stopped = false ∧ (s.port port).cmdbase.toNat % 16 ≤ 8 ∧ bitsOf (s.port port).cmdbase.toNat 11 4 = 0 ∧
      (s.port port).cmdtail.toNat - (s.port port).cmdhead.toNat < 2 ^ 31 := ⟨hport, hrun, hgo, hsize, hbits, by omega⟩
  simp only [State.cmdPlace, hwait, if_pos henabled, hfin, List.any_nil, Bool.and_false, Bool.not_false, Bool.true_and]

/-- The places from which the service core takes commands: the first, and the second where two commands wait. -/
theorem places_of_commandAt : ∃ n, min ((s.port port).cmdtail.toNat - (s.port port).cmdhead.toNat) (s.port port).ringSize = n + 1 ∧
    ((s.port port).cmdhead.toNat + 1 < (s.port port).cmdtail.toNat → 1 ≤ n) := by
  obtain ⟨-, -, -, -, -, -, -, hlt, -⟩ := hat
  have hring : 2 ≤ (s.port port).ringSize := by
    have := Nat.two_pow_pos ((s.port port).cmdbase.toNat % 16)
    rw [HostPort.ringSize]; omega
  exact ⟨min ((s.port port).cmdtail.toNat - (s.port port).cmdhead.toNat) (s.port port).ringSize - 1, by omega, by omega⟩

/-- The command at CMDHEAD is handled next, unless it is an end launch that waits. -/
theorem cmdPlace_head (hw : s.endWaits port 0 = false) : s.cmdPlace port = some 0 := by
  obtain ⟨n, hn, -⟩ := places_of_commandAt hat
  rw [cmdPlace_of_commandAt hat, hn, List.range_succ_eq_map, List.find?_cons_of_pos (by simp [hw])]

/-- A command behind an end launch that waits is handled next (R434). -/
theorem cmdPlace_second (hmore : (s.port port).cmdhead.toNat + 1 < (s.port port).cmdtail.toNat) (hw : s.endWaits port 0 = true)
    (hw1 : s.endWaits port 1 = false) : s.cmdPlace port = some 1 := by
  obtain ⟨n, hn, hone⟩ := places_of_commandAt hat
  obtain ⟨m, rfl⟩ := Nat.exists_eq_add_of_le (hone hmore)
  rw [cmdPlace_of_commandAt hat, hn, Nat.add_comm 1 m, List.range_succ_eq_map, List.find?_cons_of_neg (by simp [hw]), List.range_succ_eq_map, List.map_cons,
    List.find?_cons_of_pos (by simp [hw1])]

/-- An operation at CMDHEAD whose frame holds a reserved byte that is not 0 completes with status 0x01. -/
theorem cmdOp_reserved (hbad : frameBad op (s.cmdBytes port 0) = true) (f : Nat → List Byte → Out) : cmdOp op port s f = .next (s.complete port 0 0x01) := by
  have hw : s.endWaits port 0 = false := by
    by_cases h6 : op = 6
    · subst h6; simp [State.endWaits, hbad]
    · exact State.endWaits_of_op (op_of_commandAt hat ▸ h6)
  simp only [cmdOp, cmdPlace_head hat hw, portHeld_of_commandAt hat, op_of_commandAt hat, hbad, Bool.false_eq_true, ne_eq, not_true, or_self, if_false, if_true]

end head

section body
variable {s : State} {port op : Nat} (hat : commandAt s port op (bodyOf op))
include hat

/-- The bytes outside a command's body are 0. -/
theorem frameBad_of_commandAt : frameBad op (s.cmdBytes port 0) = false := by
  obtain ⟨-, -, -, -, -, -, -, -, -, -, -, hzero⟩ := hat
  rw [← Bool.not_eq_true, frameBad_iff]
  rintro ⟨k, h1, h63, htag, hout, hne⟩
  rw [State.cmdBytes, HostPort.cmdAt_zero] at hne
  exact hne (hzero k h1 h63 htag hout)

/-- What an operation does that stands at CMDHEAD with a frame in order, and does not wait. -/
theorem cmdOp_head (hw : s.endWaits port 0 = false) (f : Nat → List Byte → Out) :
    cmdOp op port s f = f 0 (s.cmdBytes port 0) := by
  simp only [cmdOp, cmdPlace_head hat hw, portHeld_of_commandAt hat, op_of_commandAt hat, frameBad_of_commandAt hat, Bool.false_eq_true, ne_eq, not_true, or_self,
    if_false]

/-- What an operation other than end launch does that stands at CMDHEAD with a frame in order. -/
theorem cmdOp_eq (hop : op ≠ 6) (f : Nat → List Byte → Out) : cmdOp op port s f = f 0 (s.cmdBytes port 0) :=
  cmdOp_head hat (State.endWaits_of_op ((op_of_commandAt hat).symm ▸ hop)) f

end body

/-! ### What an operation leaves of the rings -/

/-- From one state to another the ports raised MSI-X vectors and did nothing else. -/
def State.ringsKept (s t : State) : Prop := ∀ q, t.port q = { s.port q with msix := (t.port q).msix }

theorem State.ringsKept_of_ports {s t : State} (h : t.ports = s.ports) : s.ringsKept t := fun q => by
  rw [State.port, State.port, h]

theorem State.ringsKept_refl (s : State) : s.ringsKept s := State.ringsKept_of_ports rfl

theorem State.ringsKept.trans {r s t : State} (h : r.ringsKept s) (h' : s.ringsKept t) : r.ringsKept t := fun q => by
  have hq := h' q
  rw [h q] at hq
  exact hq

/-- A fold of updates that each keep the rings. -/
theorem State.ringsKept_foldl {α : Type} (f : State → α → State) (hf : ∀ (s : State) a, s.ringsKept (f s a)) (l : List α) (s : State) : s.ringsKept (l.foldl f s) :=
  List.foldlRecOn (motive := s.ringsKept) _ _ s.ringsKept_refl (fun t ht a _ => ht.trans (hf t a))

/-- An MSI-X vector is raised at a port. -/
theorem State.ringsKept_msix (s : State) (port : Nat) (v : Nat) : s.ringsKept (s.mapPort port (fun p => { p with msix := p.msix ++ [v] })) := fun q => by
  rw [State.port_mapPort]
  split
  · next h => rw [h]
  · rfl

/-- The command at CMDHEAD completes on a state that an operation left, with nothing done behind it. -/
theorem completedWith_of_complete {s r : State} {port op status : Nat} {body : List (Nat × Nat)} {o : Out} (hat : commandAt s port op body) (hkept : s.ringsKept r)
    (ho : o = .next (r.complete port 0 status)) : completedWith port status s r o := by
  have hport := hkept port
  have hfin : (r.port port).finished = [] := by rw [hport]; exact finished_of_commandAt hat
  have hcmd : (r.port port).cmdAt 0 = (s.port port).cmdAt 0 := by rw [hport]; rfl
  have hhead : (r.port port).cmdhead = (s.port port).cmdhead := by rw [hport]
  have hdone : r.complete port 0 status = r.completeHead port status := by
    rw [State.complete, if_pos rfl, hfin]; rfl
  refine ⟨_, ho, ?_, ?_, fun q hq => ?_⟩
  · rw [hdone, State.completeHead, hcmd, HostPort.cmdAt_zero]; rfl
  · rw [hdone, State.completeHead, State.port_mapPort, if_pos rfl, ← hhead]; rfl
  · rw [hdone, State.completeHead, State.port_mapPort, if_neg hq]; rfl

end ring

/-! ### What a host write leaves as it was (R253, R276, R322) -/

/-- From one state to another only memory, its poison and tags, and the sheets changed, and of the sheets neither the ASID tables' places nor, where none held a
plate, that they hold none. -/
def State.storesOnly (s t : State) : Prop :=
  t = { s with mem := t.mem, memPoison := t.memPoison, tags := t.tags, sheets := t.sheets } ∧ (∀ h, (t.sheet h).asidtab = (s.sheet h).asidtab) ∧
    (s.noPlates → t.noPlates)

theorem State.storesOnly_refl (s : State) : s.storesOnly s := ⟨rfl, fun _ => rfl, id⟩

theorem State.storesOnly.trans {r s t : State} (h : r.storesOnly s) (h' : s.storesOnly t) : r.storesOnly t := by
  obtain ⟨hs, htab, hp⟩ := h
  obtain ⟨ht, htab', hp'⟩ := h'
  rw [hs] at ht
  exact ⟨ht, fun k => (htab' k).trans (htab k), hp' ∘ hp⟩

theorem State.storesOnly_foldl {α : Type} (f : State → α → State) (hf : ∀ (s : State) a, s.storesOnly (f s a)) (l : List α) (s : State) : s.storesOnly (l.foldl f s) :=
  List.foldlRecOn (motive := s.storesOnly) _ _ s.storesOnly_refl (fun t ht a _ => ht.trans (hf t a))

theorem State.storesOnly.noPlates {s t : State} (h : s.storesOnly t) (hp : s.noPlates) : t.noPlates := by
  obtain ⟨-, -, hkeep⟩ := h
  exact hkeep hp

/-- A change of memory, its poison and its tags. -/
theorem State.storesOnly_of_sheets {s t : State} (h : t = { s with mem := t.mem, memPoison := t.memPoison, tags := t.tags }) : s.storesOnly t := by
  have hsheets : t.sheets = s.sheets := by rw [h]
  refine ⟨?_, fun k => by rw [State.sheet, State.sheet, hsheets], State.noPlates_of_sheets hsheets⟩
  rw [hsheets]; exact h

theorem State.storesOnly_mapSheet (s : State) (n : Nat) (f : Sheet → Sheet) (htab : ∀ h, (f h).asidtab = h.asidtab) (hp : ∀ h, (f h).plates = h.plates) :
    s.storesOnly (s.mapSheet n f) := by
  refine ⟨rfl, fun m => ?_, State.noPlates_mapSheet hp⟩
  rw [State.sheet_mapSheet]
  split
  · next h => rw [htab, h]
  · rfl

theorem State.storesOnly_setTag (s : State) (line : Nat) (x : BitVec 32) : s.storesOnly (s.setTag line x) := State.storesOnly_of_sheets rfl

theorem State.storesOnly_storeLine (s : State) (line : Nat) (mask : LineMask) (data : LineData) : s.storesOnly (s.storeLine line mask data) := by
  refine State.storesOnly_foldl _ (fun t k => ?_) _ _
  split
  · refine State.storesOnly_of_sheets ?_
    unfold State.storeByte
    dsimp only
    split <;> rfl
  · exact t.storesOnly_refl

theorem State.storesOnly_pageWritten (s : State) (pa : Nat) : s.storesOnly (s.pageWritten pa) := by
  have hdrop (mask : BitVec 32) : s.storesOnly (s.dropReplicas pa mask) := by
    refine State.storesOnly_foldl _ (fun t k => ?_) _ _
    split
    · exact t.storesOnly_mapSheet _ _ (fun _ => rfl) (fun _ => rfl)
    · exact t.storesOnly_refl
  have hpage (t : State) (r : PageRec) : t.storesOnly (t.setPage pa r) := t.storesOnly_mapSheet _ _ (fun _ => rfl) (fun _ => rfl)
  unfold State.pageWritten
  dsimp only
  split_ifs
  · exact (hdrop _).trans (hpage _ _)
  · exact hpage _ _
  · exact s.storesOnly_refl

theorem State.storesOnly_countUnbacked (s : State) (pa : Nat) : s.storesOnly (s.countUnbacked pa) := by
  unfold State.countUnbacked
  split
  · exact s.storesOnly_mapSheet _ _ (fun _ => rfl) (fun _ => rfl)
  · exact s.storesOnly_refl

section noPlates
variable {s : State} (hp : s.noPlates)
include hp

/-- Where no plate exists, a write changes memory and the sheets' records of it alone. -/
theorem State.storesOnly_performBytes (pa : Nat) (bs : List Byte) : s.storesOnly (s.performBytes pa bs) := by
  unfold State.performBytes State.performWrite State.afterWrite
  split
  · have hstored (line : Nat) (mask : LineMask) (data : LineData) (x : BitVec 32) : s.storesOnly (((s.storeLine line mask data).setTag line x).pageWritten line) :=
      ((s.storesOnly_storeLine _ _ _).trans (State.storesOnly_setTag _ _ _)).trans (State.storesOnly_pageWritten _ _)
    rw [State.invalidatePlates_noPlates _ ((hstored _ _ _ _).noPlates hp)]
    exact hstored _ _ _ _
  · exact s.storesOnly_countUnbacked _

theorem State.storesOnly_performSpan (pa : Nat) (bs : List Byte) (n : Nat) : s.storesOnly (s.performSpan pa bs n) := by
  induction n generalizing s pa bs with
  | zero => exact s.storesOnly_refl
  | succ n ih =>
    rw [State.performSpan]
    split
    · exact s.storesOnly_refl
    · have hfirst := State.storesOnly_performBytes hp pa (bs.take (256 - pa % 256))
      exact hfirst.trans (ih (hfirst.noPlates hp) _ _)

theorem State.storesOnly_hostWrite (pa : Nat) (bs : List Byte) : s.storesOnly (s.hostWrite pa bs) := by
  refine (State.storesOnly_performSpan hp pa bs _).trans (State.storesOnly_foldl _ (fun t l => ?_) _ _)
  split
  · exact t.storesOnly_setTag _ _
  · exact t.storesOnly_refl

end noPlates

theorem State.ringsKept_of_storesOnly {s t : State} (h : s.storesOnly t) : s.ringsKept t := by
  obtain ⟨ht, -⟩ := h
  exact State.ringsKept_of_ports (by rw [ht])

/-! ### The lines of a host access (R253, R322) -/

/-- The lines of a range of backed bytes are backed. -/
theorem State.region_of_mem_paLines {s : State} {pa n : Nat} (h0 : 0 < n) (hh : ∀ k, k < n → s.region (pa + k) = .hbm) {l : Nat} (hl : l ∈ paLines pa n) : s.region l = .hbm := by
  obtain ⟨k, hk, rfl⟩ := List.mem_map.mp hl
  have hk := List.mem_range.mp hk
  obtain ⟨j, hj, hline⟩ : ∃ j, j < n ∧ (pa + j) / 256 = pa / 256 + k := ⟨(pa / 256 + k) * 256 - pa, by omega, by omega⟩
  have hhbm := State.region_line_hbm (hh j hj)
  rwa [hline] at hhbm

theorem line_mem_paLines {pa n x : Nat} (h1 : pa ≤ x) (h2 : x < pa + n) : x / 256 * 256 ∈ paLines pa n :=
  List.mem_map.mpr ⟨x / 256 - pa / 256, List.mem_range.mpr (by omega), by rw [Nat.add_sub_cancel' (Nat.div_le_div_right h1)]⟩

/-- The tags of backed lines that are cleared one after the other are 0. -/
theorem State.tagOf_foldl_clear (ls : List Nat) (s : State) (hb : ∀ l ∈ ls, s.region l = .hbm) (x : Nat) (hx : x ∈ ls ∨ s.tagOf x = 0) :
    (ls.foldl (fun (s : State) l => if s.backed l then s.setTag l 0 else s) s).tagOf x = 0 := by
  induction ls generalizing s with
  | nil => exact hx.resolve_left List.not_mem_nil
  | cons l ls ih =>
    rw [List.foldl_cons, if_pos (State.backed_hbm (hb l List.mem_cons_self))]
    refine ih _ (fun m hm => State.region_hbm_of _ (hb m (List.mem_cons_of_mem _ hm))) ?_
    have htag : (s.setTag l 0).tagOf x = if x = l then 0 else s.tagOf x := Map.get_set _ _ _ _ _
    by_cases hxl : x = l
    · exact Or.inr (by rw [htag, if_pos hxl])
    · rw [htag, if_neg hxl]
      exact hx.imp_left (fun hx => (List.mem_cons.mp hx).resolve_left hxl)

/-- A host write of backed memory leaves tag 0 in each line that it writes (R253). -/
theorem State.tagOf_hostWrite {s : State} {pa : Nat} {bs : List Byte} (hh : ∀ k, k < bs.length → s.region (pa + k) = .hbm) {x : Nat} (h1 : pa ≤ x)
    (h2 : x < pa + bs.length) : (s.hostWrite pa bs).tagOf (x / 256 * 256) = 0 :=
  State.tagOf_foldl_clear _ _ (fun _ hl => State.region_hbm_of _ (State.region_of_mem_paLines (by omega) hh hl)) _ (Or.inl (line_mem_paLines h1 h2))

/-- A host read of backed memory gives the bytes and changes nothing (R322). -/
theorem State.hostRead_eq {s : State} {pa n : Nat} (h0 : 0 < n) (hc : paCfg pa = false) (hh : ∀ k, k < n → s.region (pa + k) = .hbm) :
    s.hostRead pa n = (s.mem.readList pa n, s) := by
  have hcount : (paLines pa n).foldl (fun (s : State) l => s.countUnbacked l) s = s := by
    refine List.foldlRecOn (motive := fun t : State => t = s) _ _ rfl (fun t ht l hl => ?_)
    rw [ht, State.countUnbacked, if_neg (by simp [State.region_of_mem_paLines h0 hh hl])]
  rw [State.hostRead, if_neg (by simp [hc]), State.homeBytes_hbm hh, hcount]

/-! ### Write and read (R434) -/

section access
open Sys2Proof.Claims

theorem State.hostFails_eq_false {s : State} (h : s.hostErr = []) (a n : Nat) : s.hostFails a n = false := by rw [State.hostFails, h, List.any_nil]

theorem anyMoving_of_plainModule {s : State} (h : plainModule s) (pa n : Nat) : s.anyMoving pa n = false := by
  simp [State.anyMoving, moving_of_plainModule h]

/-- Operations 1 and 2 at CMDHEAD complete with the status of their checks, where these find something. -/
theorem access_refused {s : State} {port pa len c : Nat} {i : Instr} (hi : commandAt s port 1 (bodyOf 1) ∧ i = .cmdWrite port ∨ commandAt s port 2 (bodyOf 2) ∧ i = .cmdRead port)
    (hpa : commandField s port 8 8 = pa) (hlen : commandField s port 0x18 4 = len) (hc : s.accessStatus port pa len = some c) :
    completedWith port c s s (exec i s) := by
  subst hpa hlen
  rw [← leAt_cmdBytes s port 8 8, ← leAt_cmdBytes s port 0x18 4] at hc
  rcases hi with ⟨hat, rfl⟩ | ⟨hat, rfl⟩
  · refine completedWith_of_complete hat s.ringsKept_refl ?_
    rw [exec_cmdWrite, execCmdWrite, cmdOp_eq hat (by decide)]
    simp only [hc]
  · refine completedWith_of_complete hat s.ringsKept_refl ?_
    rw [exec_cmdRead, execCmdRead, cmdOp_eq hat (by decide)]
    simp only [hc]

theorem State.accessStatus_range {s : State} {port pa len : Nat} (h : 2 ^ 52 ≤ pa ∨ len = 0 ∨ 2 ^ 20 < len) : s.accessStatus port pa len = some 0x1B :=
  if_pos (by tauto)

theorem State.accessStatus_misaligned {s : State} {port pa len : Nat} (hc : paCfg pa = true) (h : pa % 8 ≠ 0 ∨ len % 8 ≠ 0) : s.accessStatus port pa len = some 0x1B :=
  if_pos (by tauto)

section inRange
variable {s : State} {port pa len : Nat} (hpa : pa < 2 ^ 52) (h0 : 0 < len) (hlen : len ≤ 2 ^ 20)
include hpa h0 hlen

theorem State.accessStatus_nonsecure (hc : paCfg pa = true) (ha : pa % 8 = 0 ∧ len % 8 = 0) (hsec : (s.port port).secure = false) :
    s.accessStatus port pa len = some 0x08 := by
  rw [State.accessStatus, if_neg (by omega), if_pos (by simp [hc, hsec])]

theorem State.accessStatus_memory (hc : paCfg pa = false) : s.accessStatus port pa len = none := by
  rw [State.accessStatus, if_neg (by simp [hc]; omega), if_neg (by simp [hc])]

end inRange

section memory
variable {s : State} {port : Nat} (hplain : plainModule s) (hc : paCfg (commandField s port 8 8) = false) (hpa : commandField s port 8 8 < 2 ^ 52)
  (h0 : 0 < commandField s port 0x18 4) (hlen : commandField s port 0x18 4 ≤ 2 ^ 20)
include hplain hc hpa h0 hlen

/-- A write command on memory of a plain module is a host write of the bytes at its source. -/
theorem execCmdWrite_memory (hat : commandAt s port 1 (bodyOf 1)) :
    execCmdWrite port s =
      .next ((s.hostWrite (commandField s port 8 8) (s.hostMem.readList (commandField s port 0x10 8) (commandField s port 0x18 4))).complete port 0 0) := by
  obtain ⟨herr, -⟩ := id hplain
  rw [execCmdWrite, cmdOp_eq hat (by decide)]
  simp only [leAt_cmdBytes s port 8 8, leAt_cmdBytes s port 0x10 8, leAt_cmdBytes s port 0x18 4,
    State.accessStatus_memory hpa h0 hlen hc, State.hostFails_eq_false herr, hc, hostBreach_of_plainModule hplain, anyMoving_of_plainModule hplain,
    Bool.false_eq_true, if_false]

/-- A read command on backed memory of a plain module writes its bytes to host memory. -/
theorem execCmdRead_memory (hat : commandAt s port 2 (bodyOf 2)) (hh : ∀ k, k < commandField s port 0x18 4 → s.region (commandField s port 8 8 + k) = .hbm) :
    execCmdRead port s =
      .next (({ s with hostMem := s.hostMem.writeList (commandField s port 0x10 8) (s.mem.readList (commandField s port 8 8) (commandField s port 0x18 4)) } : State).complete port 0 0) := by
  rw [execCmdRead, cmdOp_eq hat (by decide)]
  simp only [leAt_cmdBytes s port 8 8, leAt_cmdBytes s port 0x10 8, leAt_cmdBytes s port 0x18 4,
    State.accessStatus_memory hpa h0 hlen hc, hc, hostBreach_of_plainModule hplain, anyMoving_of_plainModule hplain, Bool.and_false,
    Bool.false_eq_true, if_false, State.hostRead_eq h0 hc hh]

end memory
end access

/-! ### Create launch (R230, R273, R335, R410, R434) -/

/-- In the module at the origin of the fabric a legend's coordinates are the module's own (R411). -/
theorem localLegend_zero {lg : List Byte} (h : 6 ≤ lg.length) : localLegend 0 lg = lg := by
  have hfield (k : Nat) (hk : k + 2 ≤ lg.length) : leBytes 2 (leAt lg k 2) = (lg.drop k).take 2 := by
    have hlen : ((lg.drop k).take 2).length = 2 := by simp; omega
    have hbytes := leBytes_leNat ((lg.drop k).take 2)
    rwa [hlen] at hbytes
  have hx := hfield 2 (by omega)
  have hy := hfield 4 (by omega)
  calc localLegend 0 lg = lg.take 2 ++ leBytes 2 (leAt lg 2 2) ++ leBytes 2 (leAt lg 4 2) ++ lg.drop 6 := rfl
    _ = lg.take 2 ++ ((lg.drop 2).take 2 ++ ((lg.drop 4).take 2 ++ lg.drop 6)) := by rw [hx, hy, List.append_assoc, List.append_assoc]
    _ = lg := by
      rw [show lg.drop 6 = (lg.drop 4).drop 2 by rw [List.drop_drop], List.take_append_drop, show lg.drop 4 = (lg.drop 2).drop 2 by rw [List.drop_drop],
        List.take_append_drop, List.take_append_drop]

theorem lowestFree_of_none {n : Nat} (h : 0 < n) (used : Nat → Bool) (hu : used 0 = false) : lowestFree n used = some 0 := by
  obtain ⟨m, rfl⟩ := Nat.exists_eq_add_of_lt h
  rw [lowestFree, Nat.zero_add, List.range_succ_eq_map, List.find?_cons_of_pos (by simp [hu])]

/-- A launch that loses no rank leaves its sheets as they are (R423). -/
theorem State.loseRanks_zero (s : State) (l : Launch) : s.loseRanks 0 l = s := by
  have hnone : (List.range (min 64 (l.w * l.h))).filter (fun r => (0 : Word).getLsbD r && decide (l.sheetOfRank r < 32)) = [] := by simp
  rw [State.loseRanks, hnone, List.foldl_nil]

/-- The address of a sheet's ASID table entry for ASID 0 (R273). -/
def State.asidEntry (s : State) (h : Nat) : Nat := (s.sheet h).asidtab.toNat / 2 ^ 15 % 2 ^ 37 * 2 ^ 15

theorem State.storesOnly.asidEntry {s t : State} (h : s.storesOnly t) (k : Nat) : t.asidEntry k = s.asidEntry k := by
  obtain ⟨-, htab, -⟩ := h
  rw [State.asidEntry, State.asidEntry, htab]

/-- An entry lies in backed memory where its first byte does: it does not cross a boundary of 2^15 bytes. -/
theorem State.region_asidEntry {s : State} {h k : Nat} (hh : s.region (s.asidEntry h) = .hbm) (hk : k < 8) (t : State) : t.region (s.asidEntry h + k) = .hbm := by
  have haligned : s.asidEntry h % 32768 = 0 := Nat.mul_mod_left _ _
  generalize s.asidEntry h = e at hh haligned ⊢
  obtain ⟨hm, hc, ho⟩ := (s.region_eq_hbm_iff _).mp hh
  simp only [paModule, paCfg, paOff, beq_eq_false_iff_ne] at hm hc ho
  refine (t.region_eq_hbm_iff _).mpr ⟨?_, ?_, ?_⟩
  · simp only [paModule]; omega
  · simp only [paCfg, beq_eq_false_iff_ne]; omega
  · simp only [paOff]; omega

/-- The entry of ASID 0 is written in the table of each of a list of sheets: every entry holds the bytes, and no other byte of memory changed. Two sheets that share
a table share the entry. -/
theorem State.foldl_asidEntry (bs : List Byte) (hlen : bs.length = 8) (hs : List Nat) {s : State} (hwf : s.mem.wf = true) (hp : s.noPlates)
    (hh : ∀ h ∈ hs, s.region (s.asidEntry h) = .hbm) :
    let t := hs.foldl (fun (s : State) h => s.performBytes (s.asidEntry h) bs) s
    s.storesOnly t ∧ t.mem.wf = true ∧
      ∀ x, ((∃ h ∈ hs, s.asidEntry h ≤ x ∧ x < s.asidEntry h + 8) → t.mem.read x = bs.getD (x % 2 ^ 15) 0) ∧
        ((∀ h ∈ hs, x < s.asidEntry h ∨ s.asidEntry h + 8 ≤ x) → t.mem.read x = s.mem.read x) := by
  induction hs generalizing s with
  | nil => exact ⟨s.storesOnly_refl, hwf, fun x => ⟨by simp, fun _ => rfl⟩⟩
  | cons h hs ih =>
    have hentry : s.asidEntry h % 2 ^ 15 = 0 := Nat.mul_mod_left _ _
    have hregion := hh h List.mem_cons_self
    have hne : bs ≠ [] := List.length_pos_iff.mp (by omega)
    have hfirst := State.storesOnly_performBytes hp (s.asidEntry h) bs
    obtain ⟨uwf, uplates, uread⟩ := State.performBytes_hbm hwf hp hne (pa := s.asidEntry h) (by omega) (fun k hk => State.region_asidEntry hregion (by omega) s)
    have hsame := hfirst.asidEntry
    obtain ⟨tonly, twf, tread⟩ := ih uwf uplates (fun k hk => by rw [hsame]; exact State.region_hbm_of _ (hh k (List.mem_cons_of_mem _ hk)))
    simp only [hsame] at tread
    refine ⟨hfirst.trans tonly, twf, fun x => ?_⟩
    obtain ⟨tin, tout⟩ := tread x
    have hu := uread x
    rw [hlen] at hu
    constructor
    · rintro ⟨k, hk, hx⟩
      by_cases hlater : ∃ k ∈ hs, s.asidEntry k ≤ x ∧ x < s.asidEntry k + 8
      · exact tin hlater
      · rw [List.foldl_cons, tout (fun j hj => by by_contra hx'; exact hlater ⟨j, hj, by omega, by omega⟩)]
        obtain rfl : k = h := (List.mem_cons.mp hk).resolve_right (fun hk => hlater ⟨k, hk, hx⟩)
        rw [hu, if_pos hx]
        congr 1; omega
    · intro hx
      rw [List.foldl_cons, tout (fun j hj => hx j (List.mem_cons_of_mem _ hj)), hu, if_neg (by have := hx h List.mem_cons_self; omega)]

/-- Routing tables are loaded into a list of sheets, and nothing else of the state changes (R410). -/
theorem State.foldl_setRouting (id : Nat) (f : Nat → List ((Nat × Nat) × RouteOut)) (hs : List Nat) (s : State) :
    let t := hs.foldl (fun (s : State) h => s.mapSheet h (fun k => { k with routing := k.routing.set id (f h) })) s
    t = { s with sheets := t.sheets } ∧ ∀ h, h ∈ hs ∨ (s.sheet h).routing.get? id = some (f h) → (t.sheet h).routing.get? id = some (f h) := by
  induction hs generalizing s with
  | nil => exact ⟨rfl, fun h hh => hh.resolve_left List.not_mem_nil⟩
  | cons k hs ih =>
    obtain ⟨ht, hget⟩ := ih (s.mapSheet k (fun h => { h with routing := h.routing.set id (f k) }))
    refine ⟨ht, fun h hh => hget h ?_⟩
    rw [State.sheet_mapSheet]
    by_cases hk : h = k
    · subst hk; right; simp
    · rw [if_neg hk]
      exact hh.imp_left (fun hh => (List.mem_cons.mp hh).resolve_left hk)

section create
open Sys2Proof.Claims

/-- The launch that a create command with one legend names on the module at the origin of the fabric. -/
def namedLaunch (s : State) (port : Nat) : Launch :=
  { live := true, x := commandField s port 0x24 2, y := commandField s port 0x26 2, w := commandField s port 0x28 2, h := commandField s port 0x2A 2, asid := 0,
    secure := decide (commandField s port 0x21 1 = 1), legends := [s.hostMem.readList (commandField s port 8 8) 128], qcfgs := [], drained := [], port := port }

/-- A launch enters the state under a number. -/
def State.setLaunch (id : Nat) (l : Launch) (s : State) : State := { s with launches := s.launches.set id l }

/-- The state that the creation of a launch as number 0 leaves, but for its entry in the ring: the launch, its ASID table entries and its routing tables. -/
def State.launched (s : State) (l : Launch) (table : Nat) : State := ((s.setLaunch 0 l).enterAsid l table).loadRoutes 0 l

theorem State.enterAsid_zero {l : Launch} (h : l.asid = 0) (table : Nat) (s : State) : s.enterAsid l table =
    ((List.range 32).filter (fun h => l.covers h)).foldl (fun (s : State) h => s.performBytes (s.asidEntry h) (leBytes 8 (2 ^ 63 + table))) s := by
  simp only [State.enterAsid, h, bitsOf, State.asidEntry, Nat.mul_zero, Nat.add_zero, Nat.reduceAdd, Nat.reduceSub]

theorem mem_coveredSheets (l : Launch) (h : Nat) : h ∈ (List.range 32).filter (fun h => l.covers h) ↔ h < 32 ∧ l.covers h = true := by simp

section launched
variable {s : State} {l : Launch} {table : Nat} (hasid : l.asid = 0) (hwf : s.mem.wf = true) (hp : s.noPlates)
  (hh : ∀ h, l.covers h = true → s.region (s.asidEntry h) = .hbm)
include hasid hwf hp hh

/-- The tables' entries of a launch that is created, and the memory around them (R273). -/
theorem State.enterAsid_spec :
    let t := (s.setLaunch 0 l).enterAsid l table
    (s.setLaunch 0 l).storesOnly t ∧
      (∀ h, h < 32 → l.covers h = true → t.mem.readList (s.asidEntry h) 8 = leBytes 8 (2 ^ 63 + table)) ∧
      ∀ x, (∀ h, l.covers h = true → x < s.asidEntry h ∨ s.asidEntry h + 8 ≤ x) → t.mem.read x = s.mem.read x := by
  have hspec := State.foldl_asidEntry (leBytes 8 (2 ^ 63 + table)) (length_leBytes _ _) ((List.range 32).filter (fun h => l.covers h)) (s := s.setLaunch 0 l)
    hwf hp (fun h hm => State.region_hbm_of _ (hh h ((mem_coveredSheets l h).mp hm).2))
  rw [← State.enterAsid_zero hasid] at hspec
  obtain ⟨honly, -, hread⟩ := hspec
  refine ⟨honly, fun h h32 hc => ?_, fun x hx => ?_⟩
  · refine List.ext_getElem (by simp [Memory.length_readList]) (fun k hk hk' => ?_)
    obtain ⟨hin, -⟩ := hread (s.asidEntry h + k)
    have hk8 : k < 8 := by simpa using hk'
    have hmod : (s.asidEntry h + k) % 2 ^ 15 = k := Nat.mul_add_mod_of_lt (Nat.lt_trans hk8 (by decide))
    simp only [Memory.readList, List.getElem_map, List.getElem_range]
    rw [hin ⟨h, (mem_coveredSheets l h).mpr ⟨h32, hc⟩, Nat.le_add_right _ _, Nat.add_lt_add_left hk8 _⟩, hmod, List.getD_eq_getElem]
  · obtain ⟨-, hout⟩ := hread x
    exact hout (fun h hm => hx h ((mem_coveredSheets l h).mp hm).2)

/-- What a launch's creation leaves: its ASID table entries in memory, its routing tables in the sheets of its rectangle, and everything else. -/
theorem State.launched_spec (htable : table < 2 ^ 51) :
    let t := s.launched l table
    (t.launches = s.launches.set 0 l ∧ t.cores = s.cores ∧ t.threads = s.threads ∧ t.ctxs = s.ctxs ∧ t.net = s.net ∧ t.hostMem = s.hostMem ∧ t.ports = s.ports) ∧
      (∀ h, h < 32 → l.covers h = true → leNat (t.mem.readList (s.asidEntry h) 8) = 2 ^ 63 + table ∧ (t.sheet h).routing.get? 0 = some (l.routing h)) ∧
      ∀ x, (∀ h, l.covers h = true → x < s.asidEntry h ∨ s.asidEntry h + 8 ≤ x) → t.mem.read x = s.mem.read x := by
  intro t
  obtain ⟨⟨uonly, -⟩, uentry, uout⟩ := State.enterAsid_spec (table := table) hasid hwf hp hh
  obtain ⟨tonly, trout⟩ := State.foldl_setRouting 0 l.routing ((List.range 32).filter (fun h => l.covers h)) ((s.setLaunch 0 l).enterAsid l table)
  have ht : t = { (s.setLaunch 0 l).enterAsid l table with sheets := t.sheets } := tonly
  have hmem : t.mem = ((s.setLaunch 0 l).enterAsid l table).mem := by rw [ht]
  refine ⟨by rw [ht, uonly]; exact ⟨rfl, rfl, rfl, rfl, rfl, rfl, rfl⟩, fun h h32 hc => ⟨?_, trout h (Or.inl ((mem_coveredSheets l h).mpr ⟨h32, hc⟩))⟩, fun x hx => ?_⟩
  · rw [hmem, uentry h h32 hc, leNat_leBytes, Nat.mod_eq_of_lt (by omega)]
  · rw [hmem, uout x hx]

end launched

theorem State.tableRead_zero (s : State) (table va : Nat) (secure : Bool) : s.tableRead table va secure 0 = (.ok [], s) := rfl

/-- Launch number 0 and ASID 0 are returned in the command at an address. -/
def State.returnIds (base : Nat) (s : State) : State :=
  { s with hostMem := (s.hostMem.writeList (base + 0x2C) (leBytes 2 0)).writeList (base + 0x2E) (leBytes 2 0) }

section checks
variable {s : State} {port : Nat} (hat : commandAt s port 3 (bodyOf 3))
include hat

/-- A create command whose fields are outside their limits is refused. -/
theorem execCmdCreateLaunch_limits (h : commandField s port 0x10 8 % 2048 ≠ 0 ∨ commandField s port 0x20 1 = 0 ∨ 64 < commandField s port 0x20 1 ∨
      2 ≤ commandField s port 0x21 1 ∨ 1024 < commandField s port 0x22 2) : execCmdCreateLaunch port s = .next (s.complete port 0 0x1B) := by
  rw [execCmdCreateLaunch, cmdOp_eq hat (by decide), leAt_cmdBytes s port 0x10 8, leAt_cmdBytes s port 0x20 1, leAt_cmdBytes s port 0x21 1, leAt_cmdBytes s port 0x22 2]
  refine if_pos ?_
  omega

variable (htable : commandField s port 0x10 8 % 2048 = 0) (hlow : commandField s port 0x10 8 < 2 ^ 51) (hnp : commandField s port 0x22 2 = 0)
include htable hlow hnp

/-- A non-secure function that asks for a secure launch is refused (R370). -/
theorem execCmdCreateLaunch_world (h1 : 1 ≤ commandField s port 0x20 1) (h64 : commandField s port 0x20 1 ≤ 64) (hw : commandField s port 0x21 1 = 1)
    (hsec : (s.port port).secure = false) : execCmdCreateLaunch port s = .next (s.complete port 0 0x09) := by
  rw [execCmdCreateLaunch, cmdOp_eq hat (by decide), leAt_cmdBytes s port 0x10 8, leAt_cmdBytes s port 0x20 1, leAt_cmdBytes s port 0x21 1, leAt_cmdBytes s port 0x22 2]
  refine (if_neg ?_).trans (if_pos ?_)
  · omega
  · exact ⟨hw, hsec⟩

variable (hn : commandField s port 0x20 1 = 1) (hworld : commandField s port 0x21 1 < 2) (hsec : commandField s port 0x21 1 = 1 → (s.port port).secure = true)
  (herr : s.hostErr = []) (hgrid : s.grid = 0) {lg : List Byte} (hlg : s.hostMem.readList (commandField s port 8 8) 128 = lg) (hok : legendOk lg = true)
  (hq : leAt lg 0x0A 1 = 0) (hx : leAt lg 2 2 = commandField s port 0x24 2) (hy : leAt lg 4 2 = commandField s port 0x26 2) (hw : leAt lg 6 2 = commandField s port 0x28 2)
  (hh : leAt lg 8 2 = commandField s port 0x2A 2) (hw1 : 1 ≤ commandField s port 0x28 2) (hh1 : 1 ≤ commandField s port 0x2A 2)
  (hwx : commandField s port 0x24 2 + commandField s port 0x28 2 ≤ 8) (hhy : commandField s port 0x26 2 + commandField s port 0x2A 2 ≤ 4)
  (hroutes : s.routesOk (namedLaunch s port) = true) (hdead : ∀ o ∈ s.launches, o.2.live = false) (hplain : plainModule s) (hlost : s.lxlost = 0)

include hn hworld hsec herr hgrid hlg hok hq hx hy hw hh hw1 hh1 hwx hhy hroutes hdead hplain hlost in
/-- A create command of one legend, without phasers and queue configurations, whose checks pass on a module without live launches, creates launch 0 with ASID 0. -/
theorem execCmdCreateLaunch_created :
    execCmdCreateLaunch port s =
      .next (((s.launched (namedLaunch s port) (commandField s port 0x10 8)).returnIds ((s.port port).cmdAt 0)).complete port 0 0) := by
  rw [execCmdCreateLaunch, cmdOp_eq hat (by decide), leAt_cmdBytes s port 8 8, leAt_cmdBytes s port 0x10 8, leAt_cmdBytes s port 0x20 1, leAt_cmdBytes s port 0x21 1,
    leAt_cmdBytes s port 0x22 2, leAt_cmdBytes s port 0x24 2, leAt_cmdBytes s port 0x26 2, leAt_cmdBytes s port 0x28 2,
    leAt_cmdBytes s port 0x2A 2, hn, hnp, hgrid]
  refine (if_neg (by omega)).trans ((if_neg (by rintro ⟨h1, h2⟩; simp [hsec h1] at h2)).trans ((if_neg (by simp [State.hostFails_eq_false herr])).trans ?_))
  extract_lets +onlyGivenNames global legends first list nq l inside
  have hglobal : global = [lg] := by simp [global, hlg]
  have hlegends : legends = [lg] := by
    rw [show legends = global.map (localLegend 0) from rfl, hglobal, List.map_singleton, localLegend_zero (by rw [← hlg, Memory.length_readList]; omega)]
  have hfirst : first = lg := by simp [first, hlegends]
  have hnq : nq = 0 := by rw [← hq, ← hfirst]
  have hlist : list = [] := rfl
  have hl : l = namedLaunch s port := by
    simp only [l, hlegends, ← hlg]; rfl
  have hinside : inside lg = true := decide_eq_true (by simp [hx, hy, hw, hh]; omega)
  have hgrid0 : inGrid 0 (commandField s port 0x24 2) (commandField s port 0x26 2) (commandField s port 0x28 2) (commandField s port 0x2A 2) = true :=
    decide_eq_true (by simp; omega)
  have hfree (k : Nat) : s.sheetFree k = true := List.all_eq_true.mpr (fun o ho => by simp [hdead o ho])
  have hnone : s.launches.filter (fun (o : Nat × Launch) => o.2.live) = [] := List.filter_eq_nil_iff.mpr (fun o ho => by simp [hdead o ho])
  have hstill (l : Launch) : s.asidMoving l = false := by simp [State.asidMoving, moving_of_plainModule hplain]
  clear_value global legends first list nq l inside
  subst hnq hlist hl hfirst hlegends hglobal
  refine (if_neg (by rw [hgrid0]; simp [hok, hinside, hq])).trans ((if_neg (by simp [hfree, hroutes])).trans ?_)
  rw [Nat.mul_zero, State.tableRead_zero]
  refine (if_neg (by simp [hstill])).trans ((if_neg (by simp)).trans ?_)
  rw [hnone, lowestFree_of_none (by omega) _ rfl, lowestFree_of_none (by omega) _ rfl]
  dsimp -zeta only [State.makePhasers]
  extract_lets l s1 s3 base ring ring'
  have hl : l = namedLaunch s port := rfl
  have hs1 : s1 = s.setLaunch 0 (namedLaunch s port) := rfl
  have hs3 : s3 = s.launched (namedLaunch s port) (commandField s port 0x10 8) := by
    simp only [s3, hl, hs1, hlost, State.loseRanks_zero, State.launched]
  clear_value s3
  rw [← hs3]; rfl

end checks
end create

/-! ### Reads through a sheet's tables (R273, R276, R278) -/

/-- From one state to another only the sheets changed, and of a sheet neither its items nor its page moves. -/
def State.readsOnly (s t : State) : Prop :=
  t = { s with sheets := t.sheets } ∧ ∀ h, (t.sheet h).items = (s.sheet h).items ∧ (t.sheet h).moves = (s.sheet h).moves

theorem State.readsOnly_refl (s : State) : s.readsOnly s := ⟨rfl, fun _ => ⟨rfl, rfl⟩⟩

theorem State.readsOnly.trans {r s t : State} (h : r.readsOnly s) (h' : s.readsOnly t) : r.readsOnly t := by
  obtain ⟨hs, hkeep⟩ := h
  obtain ⟨ht, hkeep'⟩ := h'
  rw [hs] at ht
  refine ⟨ht, fun k => ?_⟩
  obtain ⟨hi, hm⟩ := hkeep k
  obtain ⟨hi', hm'⟩ := hkeep' k
  exact ⟨hi'.trans hi, hm'.trans hm⟩

theorem State.readsOnly_foldl {α : Type} (f : State → α → State) (hf : ∀ (s : State) a, s.readsOnly (f s a)) (l : List α) (s : State) : s.readsOnly (l.foldl f s) :=
  List.foldlRecOn (motive := s.readsOnly) _ _ s.readsOnly_refl (fun t ht a _ => ht.trans (hf t a))

theorem State.readsOnly_mapSheet (s : State) (n : Nat) (f : Sheet → Sheet) (hf : ∀ h, (f h).items = h.items ∧ (f h).moves = h.moves) : s.readsOnly (s.mapSheet n f) := by
  refine ⟨rfl, fun m => ?_⟩
  rw [State.sheet_mapSheet]
  split
  · next h => rw [h]; exact hf _
  · exact ⟨rfl, rfl⟩

theorem State.readsOnly_countUnbacked (s : State) (pa : Nat) : s.readsOnly (s.countUnbacked pa) := by
  unfold State.countUnbacked
  split
  · exact s.readsOnly_mapSheet _ _ (fun _ => ⟨rfl, rfl⟩)
  · exact s.readsOnly_refl

theorem State.readsOnly_walked (s : State) (sheet asid va : Nat) : s.readsOnly (s.walked sheet asid va) := by
  unfold State.walked
  dsimp only
  split
  · exact s.readsOnly_refl
  · exact State.readsOnly_foldl _ (fun t a => t.readsOnly_countUnbacked a) _ s

theorem State.readsOnly_remoteRead (s : State) (sheet line : Nat) : s.readsOnly (s.remoteRead sheet line) := by
  have hpage (r : PageRec) : s.readsOnly (s.setPage line r) := s.readsOnly_mapSheet _ _ (fun _ => ⟨rfl, rfl⟩)
  have hreplica (p : Prop) [Decidable p] (r r' : PageRec) (x : LineData × BitVec 32 × Option WinTag) :
      s.readsOnly (if p then (s.setPage line r').mapSheet sheet (fun h => { h with replicas := h.replicas.set line x }) else s.setPage line r) := by
    split
    · exact (hpage r').trans (State.readsOnly_mapSheet _ _ _ (fun _ => ⟨rfl, rfl⟩))
    · exact hpage r
  unfold State.remoteRead
  split
  · exact hreplica _ _ _ _
  · exact s.readsOnly_refl

theorem State.readsOnly_readLine (s : State) (sheet line : Nat) : s.readsOnly (s.readLine sheet line).2 := by
  unfold State.readLine
  split
  · exact s.readsOnly_refl
  · dsimp only
    have htag (w : Option Window) : s.readsOnly (match w with
        | some w => s.mapSheet (paSheet line) (fun h => { h with llcTags := h.llcTags.set line (w.tagOf line) })
        | none => s) := by
      cases w with
      | none => exact s.readsOnly_refl
      | some w => exact s.readsOnly_mapSheet _ _ (fun _ => ⟨rfl, rfl⟩)
    split
    · exact (htag _).trans (State.readsOnly_remoteRead _ _ _)
    · exact htag _

theorem State.readsOnly_readPiece (s : State) (sheet asid va n : Nat) (secure : Bool) : s.readsOnly (s.readPiece sheet asid va n secure).2 := by
  have hwalked := s.readsOnly_walked sheet asid va
  unfold State.readPiece
  dsimp only
  split
  · exact hwalked
  · exact hwalked
  · split
    · exact hwalked
    · exact hwalked.trans ((State.readsOnly_countUnbacked _ _).trans (State.readsOnly_readLine _ _ _))

theorem State.readsOnly_readPieces (sheet asid : Nat) (secure : Bool) (l : List (Nat × Nat)) (s : State) : s.readsOnly (s.readPieces sheet asid secure l).2 := by
  induction l generalizing s with
  | nil => exact s.readsOnly_refl
  | cons p rest ih =>
    have hfirst := s.readsOnly_readPiece sheet asid p.1 p.2 secure
    rw [State.readPieces]
    split
    · next hp => rw [hp] at hfirst; exact hfirst
    · next u hp =>
      rw [hp] at hfirst
      have hrest := hfirst.trans (ih u)
      split
      · next hr => rw [hr] at hrest; exact hrest
      · next hr => rw [hr] at hrest; exact hrest

/-- A read of bytes through a sheet's tables leaves items and page moves. -/
theorem State.readsOnly_readVa (s : State) (sheet asid va n : Nat) (secure : Bool) : s.readsOnly (s.readVa sheet asid va n secure).2 :=
  State.readsOnly_readPieces _ _ _ _ _

/-- No page of the module moves (R278). -/
def State.noMoves (s : State) : Prop := ∀ h, (s.sheet h).moves = []

theorem State.readsOnly.noMoves {s t : State} (h : s.readsOnly t) (hs : s.noMoves) : t.noMoves := fun k => by
  obtain ⟨-, hkeep⟩ := h
  obtain ⟨-, hm⟩ := hkeep k
  rw [hm, hs k]

section noMoves
variable {s : State} (hs : s.noMoves)
include hs

theorem State.moving_of_noMoves (pa : Nat) : s.moving pa = false := by rw [State.moving, hs, List.any_nil]

theorem State.walkFrom_ne_nack (acc : Access) (table va k : Nat) : s.walkFrom acc table va k ≠ .nack := by
  induction k generalizing table
  all_goals
    rw [State.walkFrom, State.moving_of_noMoves hs, if_neg Bool.false_ne_true]
    split
    · nofun
    split
    · nofun
    split
    · split <;> nofun
  case zero => nofun
  case succ _ ih _ _ _ =>
    split
    · nofun
    · exact ih _

theorem State.pageWalk_ne_nack (sheet asid va : Nat) (acc : Access) : s.pageWalk sheet asid va acc ≠ .nack := by
  rw [State.pageWalk, State.moving_of_noMoves hs, if_neg Bool.false_ne_true]
  split
  · nofun
  split
  · nofun
  split
  · nofun
  · exact State.walkFrom_ne_nack hs _ _ _ _

omit hs in
theorem State.checkLeaf_ne_nack {acc : Access} {secure : Bool} {x : Xlat} (h : x ≠ .nack) : s.checkLeaf acc secure x ≠ .nack := by
  unfold State.checkLeaf
  split
  · split <;> nofun
  · exact h

/-- Where no page moves, a read does not have to be tried again. -/
theorem State.readPiece_answers (sheet asid va n : Nat) (secure : Bool) : (s.readPiece sheet asid va n secure).1 ≠ .error none := by
  unfold State.readPiece
  dsimp only
  split
  · nofun
  · next h => exact absurd h (State.checkLeaf_ne_nack (State.pageWalk_ne_nack hs _ _ _ _))
  · rw [State.moving_of_noMoves hs, if_neg Bool.false_ne_true]; nofun

theorem State.readPieces_answers (sheet asid : Nat) (secure : Bool) (l : List (Nat × Nat)) : (s.readPieces sheet asid secure l).1 ≠ .error none := by
  induction l generalizing s with
  | nil => nofun
  | cons p rest ih =>
    have hfirst := State.readPiece_answers hs sheet asid p.1 p.2 secure
    have hkept := s.readsOnly_readPiece sheet asid p.1 p.2 secure
    rw [State.readPieces]
    split
    · next hp => rw [hp] at hfirst; exact hfirst
    · next u hp =>
      rw [hp] at hkept
      have hrest := ih (hkept.noMoves hs)
      split
      · next hr => rw [hr] at hrest; exact hrest
      · nofun

end noMoves

/-! ### The final state of an item, and the end of a launch (R332, R342, R345, R434) -/

/-- The end of a launch raises MSI-X vector 2 and changes nothing else of a port. -/
theorem State.ringsKept_endLaunch (s : State) (l : Nat) : s.ringsKept (s.endLaunch l) := by
  unfold State.endLaunch
  exact (State.ringsKept_of_ports rfl).trans (State.ringsKept_msix _ _ _)

theorem State.ringsKept_launchEndCheck (s : State) (l : Nat) : s.ringsKept (s.launchEndCheck l) := by
  unfold State.launchEndCheck
  split
  · exact s.ringsKept_endLaunch l
  · exact s.ringsKept_refl

theorem State.ringsKept_notifyHost (s : State) (it : Item) (status : Nat) : s.ringsKept (s.notifyHost it status) := by
  unfold State.notifyHost
  split
  · exact s.ringsKept_refl
  · refine State.ringsKept.trans ?_ (State.ringsKept_msix _ _ _)
    split
    · exact s.ringsKept_refl
    · exact State.ringsKept_of_ports rfl

theorem State.ringsKept_addCounter (s : State) (sheet launch idx : Nat) (d : Int) : s.ringsKept (s.addCounter sheet launch idx d) := by
  have hgate (t : State) : t.ringsKept (t.gateRelease sheet launch idx) := by
    unfold State.gateRelease
    split
    · exact State.ringsKept_of_ports rfl
    · exact t.ringsKept_refl
  exact (State.ringsKept_of_ports rfl).trans (hgate _)

theorem State.ringsKept_lxAbort (s : State) (home idx why : Nat) : s.ringsKept (s.lxAbort home idx why) := by
  unfold State.lxAbort
  dsimp only
  split <;> exact State.ringsKept_of_ports rfl

theorem State.ringsKept_finalItem (s : State) (sheet i status : Nat) : s.ringsKept (s.finalItem sheet i status) := by
  have hdone (t : State) (p : Prop) [Decidable p] (l c : Nat) : t.ringsKept (if p then t else t.addCounter sheet l c (-1)) := by
    split
    · exact t.ringsKept_refl
    · exact t.ringsKept_addCounter _ _ _ _
  have habort (t : State) (x : Option Nat) (acked : Bool) :
      t.ringsKept (match x with | some id => if acked || (t.lxOf id).isNone then t else t.lxAbort (lxHome id) (id % 4096) 2 | none => t) := by
    cases x with
    | none => exact t.ringsKept_refl
    | some id =>
      dsimp only
      split
      · exact t.ringsKept_refl
      · exact t.ringsKept_lxAbort _ _ _
  unfold State.finalItem
  dsimp only
  split
  · exact s.ringsKept_refl
  · refine ((((State.ringsKept_of_ports ?_).trans (hdone _ _ _ _)).trans (State.ringsKept_notifyHost _ _ _)).trans (habort _ _ _)).trans (State.ringsKept_launchEndCheck _ _)
    rfl

/-! ### Intake of the host's item (R338, R340, R434) -/

theorem State.readsOnly_itemShape (s : State) (sheet : Nat) (it : Item) : s.readsOnly (s.itemShape sheet it).2 := by
  have hread := s.readsOnly_readVa sheet (s.launch it.launch).asid it.shapeVa.toNat 64 (s.launch it.launch).secure
  unfold State.itemShape
  split
  · exact s.readsOnly_refl
  · dsimp only
    split
    · next h => rw [h] at hread; exact hread
    · next h => rw [h] at hread; exact hread

theorem State.itemShape_answers {s : State} (hs : s.noMoves) (sheet : Nat) (it : Item) : (s.itemShape sheet it).1 ≠ .error none := by
  have hread := State.readPieces_answers hs sheet (s.launch it.launch).asid (s.launch it.launch).secure (spanReads it.shapeVa.toNat 64 (64 / 256 + 2))
  unfold State.itemShape
  split
  · nofun
  · dsimp only
    split
    · nofun
    · next c _ h =>
      cases c with
      | none => exact absurd (congrArg Prod.fst h) hread
      | some c => nofun

/-- The checks of a submission that brings its words leave items and page moves. -/
theorem State.readsOnly_intakeCheck (s : State) (sheet : Nat) {b : Submission} (hb : b.words ≠ []) (order : Nat) : s.readsOnly (s.intakeCheck sheet b order).2 := by
  have hwords : s.itemWords sheet b = (.ok b.words, s) := if_pos hb
  have hshape := s.readsOnly_itemShape sheet (b.item b.words order)
  simp only [State.intakeCheck, hwords]
  split
  · exact s.readsOnly_refl
  · split
    · next h => rw [h] at hshape; exact hshape
    · next h => rw [h] at hshape; exact hshape
    · next h => rw [h] at hshape; exact hshape

theorem State.intakeCheck_answers {s : State} (hs : s.noMoves) (sheet : Nat) {b : Submission} (hb : b.words ≠ []) (order : Nat) : (s.intakeCheck sheet b order).1 ≠ .error () := by
  have hwords : s.itemWords sheet b = (.ok b.words, s) := if_pos hb
  have hshape := State.itemShape_answers hs sheet (b.item b.words order)
  simp only [State.intakeCheck, hwords]
  split
  · nofun
  · split
    · next h => exact absurd (congrArg Prod.fst h) hshape
    · nofun
    · nofun

theorem State.ringsKept_enter (s : State) (sheet : Nat) (it : Item) (find : Option Nat) : s.ringsKept (s.enter sheet it find).2 := by
  unfold State.enter
  split
  · exact (State.ringsKept_of_ports rfl).trans (State.ringsKept_finalItem _ _ _ _)
  · dsimp only
    split
    · exact (State.ringsKept_of_ports rfl).trans (State.ringsKept_finalItem _ _ _ _)
    · exact State.ringsKept_of_ports rfl

/-- An intake keeps the rings. -/
theorem State.ringsKept_intake {s r : State} {sheet c : Nat} {b : Submission} (hb : b.words ≠ []) (h : s.intake sheet b = (.ok c, r)) : s.ringsKept r := by
  have hcheck := s.readsOnly_intakeCheck sheet hb (s.sheet sheet).nextItem
  unfold State.intake at h
  split at h
  · nomatch h
  split at h
  · nomatch h
  next it find t ht =>
    have hchecked : s.readsOnly t := by rw [ht] at hcheck; exact hcheck
    obtain ⟨honly, -⟩ := hchecked
    have hports : t.ports = s.ports := by rw [honly]
    dsimp only at h
    split at h
    · nomatch h
    · obtain ⟨-, rfl⟩ := Prod.mk.inj h
      exact (State.ringsKept_of_ports hports).trans (State.ringsKept_enter _ _ _ _)

/-- Where every ready pool has room and no page moves, an intake answers (R340, R343). -/
theorem State.intake_answers {s : State} (hpool : ∀ h, (s.sheet h).pool < Config.poolSize) (hs : s.noMoves) (sheet : Nat) {b : Submission} (hb : b.words ≠ []) :
    ∃ c r, s.intake sheet b = (.ok c, r) := by
  have hcheck := s.readsOnly_intakeCheck sheet hb (s.sheet sheet).nextItem
  have hanswers := State.intakeCheck_answers hs sheet hb (s.sheet sheet).nextItem
  rw [State.intake, if_neg (by have := hpool sheet; omega)]
  split
  · next h => exact absurd (congrArg Prod.fst h) hanswers
  · next it find t h =>
    rw [h] at hcheck
    obtain ⟨-, hkeep⟩ := hcheck
    have hroom (k : Nat) : (t.sheet k).pool < Config.poolSize := by
      obtain ⟨hitems, -⟩ := hkeep k
      have hk := hpool k
      rwa [Sheet.pool, hitems]
    dsimp only
    rw [if_neg (by have := hroom (t.itemHome it sheet); omega)]
    exact ⟨_, _, rfl⟩

/-! ### Submit item (R411, R434) -/

/-- A rank names no sheet where its place lies outside the module (R411). -/
theorem Launch.sheetOfRank_outside_iff (l : Launch) (r : Nat) : 32 ≤ l.sheetOfRank r ↔ 8 ≤ l.x + r % l.w ∨ 4 ≤ l.y + r / l.w := by
  unfold Launch.sheetOfRank
  dsimp only
  split <;> omega

theorem Launch.sheetOfRank_inside {l : Launch} {r : Nat} (hx : l.x + r % l.w < 8) (hy : l.y + r / l.w < 4) :
    l.sheetOfRank r = (l.y + r / l.w) * 8 + (l.x + r % l.w) := if_pos ⟨hx, hy⟩

section submit
open Sys2Proof.Claims

/-- The submission that a submit command hands on: the words of the host's item, its world, and whom to notify (R434). -/
def hostSubmission (s : State) (port : Nat) : Submission :=
  { Submission.ofVa 0 (commandField s port 0x18 2) with
    words := (List.range 16).map (fun k => BitVec.ofNat 64 (leNat (s.hostMem.readList (commandField s port 8 8 + 8 * k) 8))),
    system := decide (commandField s port 0x1B 1 = 1), notify := some (port, commandField s port 0x10 8, commandField s port 4 4) }

theorem hostSubmission_words (s : State) (port : Nat) : (hostSubmission s port).words ≠ [] :=
  List.ne_nil_of_length_pos (by simp [hostSubmission])

/-- The checks of a submit command on its launch, its rank and its flags pass. -/
theorem submit_admitted {l : Launch} {rank flags : Nat} (hlive : l.live = true) (hin : rank < l.w * l.h) (hx : l.x + rank % l.w < 8) (hy : l.y + rank / l.w < 4)
    (hf : flags < 2) : ¬(l.live = false ∨ l.w * l.h ≤ rank ∨ 32 ≤ l.sheetOfRank rank ∨ 2 ≤ flags) := by
  rw [Launch.sheetOfRank_outside_iff, hlive]
  simp only [Bool.true_eq_false, false_or]
  omega

variable {s : State} {port : Nat} (hat : commandAt s port 4 (bodyOf 4)) {l : Launch} (hl : s.launch (commandField s port 0x18 2) = l) {rank : Nat}
  (hrank : commandField s port 0x1A 1 = rank)
include hat hl hrank

/-- A submit command is refused for a launch that does not live, a rank outside its rectangle or the module, and reserved flags. -/
theorem execCmdSubmitItem_refused
    (h : l.live = false ∨ l.w * l.h ≤ rank ∨ 8 ≤ l.x + rank % l.w ∨ 4 ≤ l.y + rank / l.w ∨ 2 ≤ commandField s port 0x1B 1) :
    execCmdSubmitItem port s = .next (s.complete port 0 0x1B) := by
  rw [execCmdSubmitItem, cmdOp_eq hat (by decide), leAt_cmdBytes s port 0x18 2, leAt_cmdBytes s port 0x1A 1, leAt_cmdBytes s port 0x1B 1]
  subst hl hrank
  refine if_pos ?_
  rw [Launch.sheetOfRank_outside_iff]
  tauto

variable (hlive : l.live = true) (hin : rank < l.w * l.h) (hx : l.x + rank % l.w < 8) (hy : l.y + rank / l.w < 4)
include hlive hin hx hy

/-- A system item from a non-secure function is refused. -/
theorem execCmdSubmitItem_world (hf : commandField s port 0x1B 1 = 1) (hsec : (s.port port).secure = false) :
    execCmdSubmitItem port s = .next (s.complete port 0 0x08) := by
  rw [execCmdSubmitItem, cmdOp_eq hat (by decide), leAt_cmdBytes s port 0x18 2, leAt_cmdBytes s port 0x1A 1, leAt_cmdBytes s port 0x1B 1]
  subst hl hrank
  exact (if_neg (submit_admitted hlive hin hx hy (by omega))).trans (if_pos ⟨hf, hsec⟩)

/-- The host's item goes to the dispatcher of its rank's sheet, and the command completes with what the intake answers. -/
theorem execCmdSubmitItem_taken (hf : commandField s port 0x1B 1 < 2) (hsec : commandField s port 0x1B 1 = 1 → (s.port port).secure = true) (herr : s.hostErr = [])
    {c : Nat} {r : State} (hr : s.intake ((l.y + rank / l.w) * 8 + (l.x + rank % l.w)) (hostSubmission s port) = (.ok c, r)) :
    execCmdSubmitItem port s = .next (r.complete port 0 c) := by
  rw [execCmdSubmitItem, cmdOp_eq hat (by decide), leAt_cmdBytes s port 8 8, leAt_cmdBytes s port 0x10 8, leAt_cmdBytes s port 0x18 2, leAt_cmdBytes s port 0x1A 1,
    leAt_cmdBytes s port 0x1B 1, leAt_cmdBytes s port 4 4]
  subst hl hrank
  refine (if_neg (submit_admitted hlive hin hx hy hf)).trans ((if_neg (by rintro ⟨h1, h2⟩; simp [hsec h1] at h2)).trans
    ((if_neg (by simp [State.hostFails_eq_false herr])).trans ?_))
  extract_lets sheet
  have hsheet : sheet = _ := Launch.sheetOfRank_inside hx hy
  rw [hsheet, show 128 = 8 * 16 from rfl, wordsOf_readList, Bool.beq_eq_decide_eq]
  unfold hostSubmission at hr
  rw [hr]

end submit

/-! ### Wake task (R243, R434) -/

section wake
open Sys2Proof.Claims

/-- The thread at the address of a slot of the module (R243). -/
theorem threadOfAddr_slot {a : Nat} (h : a < 2 ^ 22) : threadOfAddr (BitVec.ofNat 64 a) = a / 64 * 8 + a % 8 := by
  rw [threadOfAddr, toNat_ofNat_of_lt (by omega)]
  omega

variable {s : State} {port a : Nat} {k : Nat} (hplace : s.cmdPlace port = some k) (hheld : s.portHeld port = false)
  (hop : leAt (s.cmdBytes port k) 0 1 = 5) (hframe : frameBad 5 (s.cmdBytes port k) = false) (ha : leAt (s.cmdBytes port k) 0x20 8 = a)
include hplace hheld hop hframe ha

/-- What a wake command does that is handled from its place in the ring. -/
theorem execCmdWakeTask_eq : execCmdWakeTask port s =
    if 2 ^ 22 ≤ a ∨ a / 8 % 8 ≠ 0 ∨ (s.launch (leAt (s.cmdBytes port k) 0x18 2)).live = false ∨ (s.thread (threadOfAddr (BitVec.ofNat 64 a))).st = .empty ∨
        (s.thread (threadOfAddr (BitVec.ofNat 64 a))).launch ≠ leAt (s.cmdBytes port k) 0x18 2 then .next (s.complete port k 0x1B)
    else .next ((s.mapThread (threadOfAddr (BitVec.ofNat 64 a)) (fun t => { t with wake := true })).complete port k 0) := by
  subst ha
  simp only [execCmdWakeTask, cmdOp, hplace, hheld, hop, hframe, Bool.false_eq_true, ne_eq, not_true, or_self, if_false]

/-- A wake command for an address that is no slot, or holds no task of the launch, is refused. -/
theorem execCmdWakeTask_refused {id : Nat} (hid : leAt (s.cmdBytes port k) 0x18 2 = id)
    (h : 2 ^ 22 ≤ a ∨ a / 8 % 8 ≠ 0 ∨ (s.launch id).live = false ∨
      (a < 2 ^ 22 ∧ ((s.thread (a / 64 * 8 + a % 8)).st = .empty ∨ (s.thread (a / 64 * 8 + a % 8)).launch ≠ id))) :
    execCmdWakeTask port s = .next (s.complete port k 0x1B) := by
  rw [execCmdWakeTask_eq hplace hheld hop hframe ha, hid, if_pos]
  rcases h with h | h | h | ⟨hlt, h⟩
  · exact Or.inl h
  · exact Or.inr (Or.inl h)
  · exact Or.inr (Or.inr (Or.inl h))
  · rw [threadOfAddr_slot hlt]
    exact Or.inr (Or.inr (Or.inr h))

/-- A wake command sets the wake bit of the task at its address. -/
theorem execCmdWakeTask_wakes {id : Nat} (hid : leAt (s.cmdBytes port k) 0x18 2 = id) (hlt : a < 2 ^ 22) (hslot : a / 8 % 8 = 0) (hlive : (s.launch id).live = true)
    (hst : (s.thread (a / 64 * 8 + a % 8)).st ≠ .empty) (hlaunch : (s.thread (a / 64 * 8 + a % 8)).launch = id) :
    execCmdWakeTask port s = .next ((s.mapThread (a / 64 * 8 + a % 8) (fun t => { t with wake := true })).complete port k 0) := by
  rw [execCmdWakeTask_eq hplace hheld hop hframe ha, hid, threadOfAddr_slot hlt, if_neg]
  rintro (h | h | h | h | h)
  · omega
  · exact h hslot
  · simp [hlive] at h
  · exact hst h
  · exact h hlaunch

end wake

/-! ### What the failing of a launch leaves of the rings (R348, R361, R368) -/

/-- From one state to another the host's ports stay as they are. -/
def State.samePorts (s t : State) : Prop := t.ports = s.ports

theorem State.samePorts.trans {r s t : State} (h : r.samePorts s) (h' : s.samePorts t) : r.samePorts t := Eq.trans h' h

theorem State.samePorts_foldl {α : Type} (f : State → α → State) (hf : ∀ (s : State) a, s.samePorts (f s a)) (l : List α) (s : State) : s.samePorts (l.foldl f s) :=
  List.foldlRecOn (motive := s.samePorts) _ _ rfl (fun t ht a _ => State.samePorts.trans ht (hf t a))

theorem State.samePorts_ite (s : State) (p : Prop) [Decidable p] {t u : State} (ht : s.samePorts t) (hu : s.samePorts u) : s.samePorts (if p then t else u) := by
  split
  · exact ht
  · exact hu

theorem State.samePorts_countLate (s : State) (cl : Nat) : s.samePorts (s.countLate cl) := rfl

theorem State.samePorts_mapThread (s : State) (th : Nat) (f : Thread → Thread) : s.samePorts (s.mapThread th f) := rfl

theorem State.samePorts_mapCluster (s : State) (cl : Nat) (f : Cluster → Cluster) : s.samePorts (s.mapCluster cl f) := rfl

theorem State.samePorts_pass (s : State) (src dst : Nat) (c : Option Nat) : s.samePorts (s.pass src dst c) :=
  s.samePorts_ite _ (State.samePorts_foldl _ (fun t r => t.samePorts_countLate r) _ _) rfl

theorem State.samePorts_closeRoute (s : State) (c : CtxId) : s.samePorts (s.closeRoute c) := by
  have hflush (t : State) (r : Route) : t.samePorts (t.flushPass c r) := by
    unfold State.flushPass
    split
    · exact State.samePorts_foldl _ (fun u _ => u.samePorts_pass _ _ _) _ _
    · rfl
  unfold State.closeRoute
  extract_lets r u
  have hu : s.samePorts u := rfl
  refine State.samePorts_ite _ _ hu ?_
  extract_lets
  exact (hu.trans (hflush u r)).trans (State.samePorts_mapThread _ _ _)

theorem State.samePorts_clearRun (s : State) (th : Nat) : s.samePorts (s.clearRun th) := by
  have hrec (t : State) : t.samePorts (t.dropRec th) := by
    unfold State.dropRec
    split <;> rfl
  have hplate (t : State) : t.samePorts (t.unpinPlate th) := by
    unfold State.unpinPlate
    split <;> rfl
  unfold State.clearRun
  extract_lets core post table t u waits v w x mine y z
  have hu : s.samePorts u := (((s.samePorts_closeRoute _).trans (State.samePorts_closeRoute _ _)).trans (hrec _)).trans (hplate _)
  have hv : s.samePorts v := State.samePorts_ite _ _ (hu.trans (State.samePorts_mapCluster _ _ _)) hu
  have hz : v.samePorts z := by simp only [State.samePorts, z, y, x, w, State.mapCore_ports, State.setCtx_ports]
  exact State.samePorts_ite _ _ (hv.trans hz) ((hv.trans hz).trans (State.samePorts_mapCluster _ _ _))

theorem State.samePorts_unplace (s : State) (th : Nat) : s.samePorts (s.unplace th) := by
  have hslot : (s.clearRun th).samePorts (s.unplace th) := by simp only [State.samePorts, State.unplace, State.mapItem, State.freeSlot, State.mapSheet_ports, State.setThread_ports]
  exact (s.samePorts_clearRun th).trans hslot

theorem State.samePorts_walkComplete (s : State) (cl job : Nat) : s.samePorts (s.walkComplete cl job) := by
  unfold State.walkComplete
  split
  · rfl
  · exact (State.samePorts_foldl _ (fun t th => t.samePorts_mapThread th _) _ s).trans (State.samePorts_mapCluster _ _ _)

theorem State.samePorts_walkCancel (s : State) (cl job : Nat) : s.samePorts (s.walkCancel cl job) := by
  have hmirror (j : WalkJob) (ks : List Nat) : s.samePorts (ks.foldl (fun (s : State) k => s.mirror j k) (s.setWalk cl job j)) := by
    rw [State.foldl_mirror_frame]; rfl
  unfold State.walkCancel
  split
  · rfl
  · split
    · rfl
    · split
      · rfl
      · rfl
      · exact State.samePorts_ite _ _ ((hmirror _ _).trans (State.samePorts_walkComplete _ _ _)) (hmirror _ _)

theorem State.samePorts_endTracers (s : State) (asid : Nat) : s.samePorts (s.endTracers asid) := rfl

theorem State.ringsKept_failItem (s : State) (sheet i cause : Nat) : s.ringsKept (s.failItem sheet i cause) := by
  have hfree : s.samePorts ((s.item sheet i).threads.foldl (fun s th => s.unplace th) s) := State.samePorts_foldl _ (fun t th => t.samePorts_unplace th) _ _
  exact (State.ringsKept_of_ports (hfree.trans rfl)).trans (State.ringsKept_finalItem _ _ _ _)

theorem State.ringsKept_failQueued (s : State) (sheet cause : Nat) (b : Submission) : s.ringsKept (s.failQueued sheet cause b) := by
  have hwords : s.readsOnly (s.itemWords sheet b).2 := by
    have hread := s.readsOnly_readVa sheet (s.launch b.launch).asid b.itemVa.toNat 128 (s.launch b.launch).secure
    unfold State.itemWords
    split
    · exact s.readsOnly_refl
    · dsimp only
      split
      · next h => rw [h] at hread; exact hread
      · next h => rw [h] at hread; exact hread
  obtain ⟨honly, -⟩ := hwords
  have hports : (s.itemWords sheet b).2.ports = s.ports := by rw [honly]
  have hfinal (u : State) (i status : Nat) (hu : u.ports = s.ports) : s.ringsKept (u.finalItem sheet i status) :=
    (State.ringsKept_of_ports hu).trans (State.ringsKept_finalItem _ _ _ _)
  unfold State.failQueued
  extract_lets i r it t
  have ht : s.ringsKept t := hfinal _ _ _ hports
  split
  · exact ht.trans (State.ringsKept_of_ports rfl)
  · exact ht

/-- The failing of a launch raises MSI-X vectors and changes nothing else of a port (R368). -/
theorem State.ringsKept_failLaunch (s : State) (l cause : Nat) : s.ringsKept (s.failLaunch l cause) := by
  unfold State.failLaunch
  extract_lets asid ids jobs t queued u v w
  have hcancel := State.samePorts_foldl (fun (x : State) (p : Nat × Nat) => x.walkCancel p.1 p.2) (fun x p => x.samePorts_walkCancel _ _) jobs s
  have ht : s.ringsKept t := State.ringsKept_of_ports (hcancel.trans (State.samePorts_endTracers _ _))
  have hu : s.ringsKept u := ht.trans (State.ringsKept_of_ports rfl)
  have hv : s.ringsKept v := hu.trans (State.ringsKept_foldl (fun (x : State) (p : Nat × Submission) => x.failQueued p.1 cause p.2) (fun x p => x.ringsKept_failQueued _ _ _) _ _)
  have hw : s.ringsKept w := hv.trans (State.ringsKept_foldl (fun (x : State) (p : Nat × Nat) => x.failItem p.1 p.2 cause) (fun x p => x.ringsKept_failItem _ _ _) _ _)
  split
  · exact hw.trans (State.ringsKept_endLaunch _ _)
  · exact hw

/-! ### End launch (R50, R332, R434) -/

theorem State.launch_endLaunch_dead (s : State) (l : Nat) : ((s.endLaunch l).launch l).live = false := by
  rw [State.endLaunch, State.launch, State.mapPort_launches, Map.get_set_same]

/-- A launch that fails has ended (R368). -/
theorem State.launch_failLaunch_dead (s : State) (l cause : Nat) : ((s.failLaunch l cause).launch l).live = false := by
  unfold State.failLaunch
  extract_lets asid ids jobs t queued u v w
  split
  · exact w.launch_endLaunch_dead l
  · next h => exact Bool.eq_false_iff.mpr h

/-- A launch whose items are all final and that waits for no intake and no aborted transaction is not busy (R332, R422). -/
theorem State.launchBusy_eq_false {s : State} {l : Nat}
    (h : ∀ k ∈ s.sheets, (∀ j ∈ k.2.items, j.2.launch = l → j.2.st = .final) ∧ (∀ b ∈ k.2.intakeQ, b.launch ≠ l) ∧
      ∀ x ∈ k.2.lxs, x.2.launch = l → x.2.live = true → x.2.st ≠ 4) : s.launchBusy l = false := by
  refine List.any_eq_false.mpr (fun k hk => ?_)
  obtain ⟨hitems, hqueue, hlxs⟩ := h k hk
  simp only [Bool.or_eq_true, List.any_eq_true, decide_eq_true_eq, not_or, not_exists, not_and]
  exact ⟨⟨fun j hj hl hst => hst (hitems j hj hl), fun b hb => hqueue b hb⟩, fun x hx hl hlive => hlxs x hx hl hlive⟩

section endLaunch
open Sys2Proof.Claims

variable {s : State} {port id : Nat} (hat : commandAt s port 6 (bodyOf 6)) (hid : commandField s port 0x18 2 = id)
include hat hid

/-- An end launch at CMDHEAD waits where it carries no FORCE and its launch is busy (R434). -/
theorem endWaits_head : s.endWaits port 0 = (decide (commandField s port 0x1B 1 = 0) && (s.launch id).live && s.launchBusy id) := by
  have hop := op_of_commandAt hat
  have hframe := frameBad_of_commandAt hat
  rw [State.endWaits, leAt_cmdBytes s port 0x18 2, leAt_cmdBytes s port 0x1B 1, hop, hframe, hid, Bool.beq_eq_decide_eq (commandField s port 0x1B 1)]
  rfl

variable (hsome : (s.launches.get? id).isSome = true)
include hsome

/-- What an end launch does that does not wait. -/
theorem execCmdEndLaunch_eq (hw : s.endWaits port 0 = false) : execCmdEndLaunch port s =
    if 2 ≤ commandField s port 0x1B 1 then .next (s.complete port 0 0x1B)
    else if (s.launch id).live = false then .next (s.complete port 0 0)
    else if commandField s port 0x1B 1 = 1 then .next ((s.failLaunch id 0x14).complete port 0 0)
    else if s.launchBusy id then .fault .notEnabled
    else .next ((s.launchEndCheck id).complete port 0 0) := by
  have hnone : (s.launches.get? id).isNone = false := by simpa using hsome
  rw [execCmdEndLaunch, cmdOp_head hat hw, leAt_cmdBytes s port 0x18 2, leAt_cmdBytes s port 0x1B 1, hid]
  simp only [hnone, Bool.false_eq_true, false_or]

theorem execCmdEndLaunch_flags (hf : 2 ≤ commandField s port 0x1B 1) : execCmdEndLaunch port s = .next (s.complete port 0 0x1B) := by
  have hw : s.endWaits port 0 = false := by rw [endWaits_head hat hid]; simp; omega
  rw [execCmdEndLaunch_eq hat hid hsome hw, if_pos hf]

theorem execCmdEndLaunch_ended (hf : commandField s port 0x1B 1 < 2) (hdead : (s.launch id).live = false) : execCmdEndLaunch port s = .next (s.complete port 0 0) := by
  have hw : s.endWaits port 0 = false := by rw [endWaits_head hat hid, hdead]; simp
  rw [execCmdEndLaunch_eq hat hid hsome hw, if_neg (by omega), if_pos hdead]

/-- With FORCE the launch fails with cause 0x14 (R434). -/
theorem execCmdEndLaunch_forced (hf : commandField s port 0x1B 1 = 1) (hlive : (s.launch id).live = true) :
    execCmdEndLaunch port s = .next ((s.failLaunch id 0x14).complete port 0 0) := by
  have hw : s.endWaits port 0 = false := by rw [endWaits_head hat hid, hf]; rfl
  rw [execCmdEndLaunch_eq hat hid hsome hw, if_neg (by omega), if_neg (by simp [hlive]), if_pos hf]

/-- Without FORCE a launch that is not busy ends (R332). -/
theorem execCmdEndLaunch_ends (hf : commandField s port 0x1B 1 = 0) (hlive : (s.launch id).live = true) (hbusy : s.launchBusy id = false) :
    execCmdEndLaunch port s = .next ((s.endLaunch id).complete port 0 0) := by
  have hw : s.endWaits port 0 = false := by rw [endWaits_head hat hid, hbusy, Bool.and_false]
  have hend : s.launchEndCheck id = s.endLaunch id := if_pos (by simp [hlive, hbusy])
  rw [execCmdEndLaunch_eq hat hid hsome hw, if_neg (by omega), if_neg (by simp [hlive]), if_neg (by omega), if_neg (by simp [hbusy]), hend]

end endLaunch

/-- A command that is done behind another waits for it in the list of those that are finished (R432). -/
theorem complete_behind {s : State} {port : Nat} (hfin : (s.port port).finished = []) {k : Nat} (hk : k ≠ 0) (status : Nat) :
    s.complete port k status = s.mapPort port (fun p => { p with finished := [((p.cmdhead.toNat + k) % 2 ^ 32, status)] }) := by
  rw [State.complete, if_neg hk, State.mapPort, hfin]; rfl

/-! ### Attest (R440) -/

/-- The reply of R440 begins with the nonce, the digest of the running image and IDENT. -/
theorem State.attestReply_head (s : State) (port : Nat) (nonce : List Byte) :
    ∃ rest, s.attestReply port nonce = nonce ++ (s.bootDigest ++ (leBytes 8 (identOf port).toNat ++ rest)) := by
  unfold State.attestReply
  simp only [List.append_assoc]
  exact ⟨_, rfl⟩

theorem toNat_identOf (port : Nat) : (identOf port).toNat = 0x5359 * 2 ^ 48 + 0x9632 * 2 ^ 32 + Config.stepping.toNat * 2 ^ 16 + port % 4 := by
  have hstep := Config.stepping.isLt
  rw [identOf, toNat_ofNat_of_lt (by omega)]

/-- The fields at the beginning of the reply, and where the digest has its 48 bytes IDENT behind it. -/
theorem State.attestReply_fields (s : State) (port : Nat) {nonce : List Byte} (hn : nonce.length = 48) :
    let bs := s.attestReply port nonce
    bs.take 48 = nonce ∧ (s.bootDigest.length = 48 → (bs.drop 48).take 48 = s.bootDigest ∧ leNat ((bs.drop 0x60).take 8) = (identOf port).toNat) := by
  intro bs
  obtain ⟨rest, hreply⟩ := s.attestReply_head port nonce
  have hbs : bs = nonce ++ (s.bootDigest ++ (leBytes 8 (identOf port).toNat ++ rest)) := hreply
  have hdrop : bs.drop 48 = s.bootDigest ++ (leBytes 8 (identOf port).toNat ++ rest) := by rw [hbs, ← hn, List.drop_left]
  refine ⟨by rw [hbs, ← hn, List.take_left], fun hd => ⟨?_, ?_⟩⟩
  · rw [hdrop, ← hd, List.take_left]
  · have hident : bs.drop 0x60 = leBytes 8 (identOf port).toNat ++ rest := by
      rw [show 0x60 = 48 + 48 from rfl, ← List.drop_drop, hdrop, ← hd, List.drop_left]
    have hlen : (leBytes 8 (identOf port).toNat).length = 8 := length_leBytes _ _
    rw [hident, List.take_left' hlen, leNat_leBytes]
    exact Nat.mod_eq_of_lt (identOf port).isLt

open Sys2Proof.Claims in
/-- An attest command writes its reply to host memory. -/
theorem execCmdAttest_replies {s : State} {port : Nat} (hat : commandAt s port 7 (bodyOf 7)) (herr : s.hostErr = []) :
    let reply := s.attestReply port (s.hostMem.readList (commandField s port 8 8) 48)
    execCmdAttest port s = .next (({ s with hostMem := s.hostMem.writeList (commandField s port 0x10 8) reply } : State).complete port 0 0) := by
  rw [execCmdAttest, cmdOp_eq hat (by decide), leAt_cmdBytes s port 8 8, leAt_cmdBytes s port 0x10 8]
  exact if_neg (by simp [State.hostFails_eq_false herr])

/-! ### Reserved bytes and operations outside 1 to 7 (R432, R433) -/

section refused
open Sys2Proof.Claims

/-- Each of the operations 1 to 7 shares the checks of the frame. -/
theorem exec_command {op port : Nat} {i : Instr} (s : State)
    (hi : (op, i) ∈ [(1, Instr.cmdWrite port), (2, .cmdRead port), (3, .cmdCreateLaunch port), (4, .cmdSubmitItem port), (5, .cmdWakeTask port), (6, .cmdEndLaunch port),
      (7, .cmdAttest port)]) : ∃ f, exec i s = cmdOp op port s f := by
  simp only [List.mem_cons, Prod.mk.injEq, List.not_mem_nil, or_false] at hi
  rcases hi with ⟨rfl, rfl⟩ | ⟨rfl, rfl⟩ | ⟨rfl, rfl⟩ | ⟨rfl, rfl⟩ | ⟨rfl, rfl⟩ | ⟨rfl, rfl⟩ | ⟨rfl, rfl⟩
  · rw [exec_cmdWrite, execCmdWrite]; exact ⟨_, rfl⟩
  · rw [exec_cmdRead, execCmdRead]; exact ⟨_, rfl⟩
  · rw [exec_cmdCreateLaunch, execCmdCreateLaunch]; exact ⟨_, rfl⟩
  · rw [exec_cmdSubmitItem, execCmdSubmitItem]; exact ⟨_, rfl⟩
  · rw [exec_cmdWakeTask, execCmdWakeTask]; exact ⟨_, rfl⟩
  · rw [exec_cmdEndLaunch, execCmdEndLaunch]; exact ⟨_, rfl⟩
  · rw [exec_cmdAttest, execCmdAttest]; exact ⟨_, rfl⟩

/-- A byte that the operation does not use and that is not 0 makes a command's frame bad. -/
theorem frameBad_of_byte {s : State} {port op k : Nat} (h1 : 1 ≤ k) (h63 : k < 63) (htag : k < 4 ∨ 8 ≤ k) (hout : ∀ r ∈ bodyOf op, k < r.1 ∨ r.1 + r.2 ≤ k)
    (hne : commandField s port k 1 ≠ 0) : frameBad op (s.cmdBytes port 0) = true := by
  rw [← leAt_cmdBytes s port k 1, Ne, leAt_one_eq_zero_iff] at hne
  exact (frameBad_iff op _).mpr ⟨k, h1, h63, htag, hout, hne⟩

theorem execCmdInvalidOp_completes {s : State} {port op : Nat} {body : List (Nat × Nat)} (hat : commandAt s port op body) (hop : op = 0 ∨ 8 ≤ op) :
    execCmdInvalidOp port s = .next (s.complete port 0 0x01) := by
  have hplace := cmdPlace_head hat (State.endWaits_of_op (by rw [op_of_commandAt hat]; omega))
  simp only [execCmdInvalidOp, hplace, op_of_commandAt hat]
  exact if_neg (by omega)

end refused
end Sys2Proof.Machine

namespace Sys2Proof.Proofs
open Sys2Proof.Machine Sys2Proof.Claims

/-! ### The settled statement of host commands -/

/-- Settles O52, from what each operation does to the command at the head of a port's ring (R432 to R434, R440). -/
theorem hostCommandsComplete : Obligations.HostCommandsComplete := by
  unfold Obligations.HostCommandsComplete
  intro s port f pa len id
  have hsame := s.ringsKept_refl
  refine ⟨?reserved, ?invalid, ?access, ?write, ?read, ?create, ?submit, ?wake, ?endLaunch, ?attest⟩
  case reserved =>
    rintro op - - hat ⟨k, h1, h63, htag, hout, hne⟩ i hi
    obtain ⟨g, hg⟩ := exec_command s hi
    exact completedWith_of_complete hat hsame (hg.trans (cmdOp_reserved hat (frameBad_of_byte h1 h63 htag hout hne) g))
  case invalid => exact fun op hop hat => completedWith_of_complete hat hsame (execCmdInvalidOp_completes hat hop)
  case access =>
    intro i hi
    refine ⟨fun h => access_refused hi rfl rfl (State.accessStatus_range h), fun hpa h0 hlen hc => ⟨?_, ?_⟩⟩
    · exact fun ha hsec => access_refused hi rfl rfl (State.accessStatus_nonsecure hpa h0 hlen hc ha hsec)
    · exact fun h => access_refused hi rfl rfl (State.accessStatus_misaligned hc h)
  case write =>
    intro hat hplain hc hpa h0 hlen hh hwf
    have hp := noPlates_of_plainModule hplain
    have hbytes : (s.hostMem.readList (f 0x10 8) len).length = len := Memory.length_readList _ _ _
    have honly := State.storesOnly_hostWrite hp pa (s.hostMem.readList (f 0x10 8) len)
    have hwrote := State.hostWrite_hbm hwf hp (pa := pa) (bs := s.hostMem.readList (f 0x10 8) len) (by rwa [hbytes])
    have hdone := completedWith_of_complete hat (State.ringsKept_of_storesOnly honly) (execCmdWrite_memory hplain hc hpa h0 hlen hat)
    obtain ⟨hframe, -⟩ := honly
    refine ⟨_, hdone, by rw [hframe], by rw [hframe], by rw [hframe], fun k hk => ?_, fun x hx => ?_, fun x h1 h2 => ?_⟩
    · obtain ⟨-, -, hread⟩ := hwrote
      rw [hread, hbytes, if_pos ⟨Nat.le_add_right _ _, Nat.add_lt_add_left hk _⟩, Nat.add_sub_cancel_left, Memory.getD_readList _ _ hk]
    · exact read_of_wroteBytes_outside hwrote (by rwa [hbytes])
    · exact State.tagOf_hostWrite (by rwa [hbytes]) h1 (by rwa [hbytes])
  case read =>
    intro hat hplain hc hpa h0 hlen hh
    exact ⟨{ s with hostMem := s.hostMem.writeList (f 0x10 8) (s.mem.readList pa len) },
      completedWith_of_complete hat (State.ringsKept_of_ports rfl) (execCmdRead_memory hplain hc hpa h0 hlen hat hh), rfl, rfl⟩
  case create =>
    intro hat
    refine ⟨fun h => ?limits, fun htable hlow h1 h64 hw hnp hsec => ?world, ?created⟩
    case limits => exact completedWith_of_complete hat hsame (execCmdCreateLaunch_limits hat h)
    case world => exact completedWith_of_complete hat hsame (execCmdCreateLaunch_world hat htable hlow hnp h1 h64 hw hsec)
    case created =>
      intro htable hlow hn hworld hsec hnp herr hgrid lg l hok hq hx hy hw hh hw1 hh1 hwx hhy hroutes hdead hplain hlost hwf entry hentry
      have hexec : execCmdCreateLaunch port s = .next (((s.launched l (f 0x10 8)).returnIds ((s.port port).cmdAt 0)).complete port 0 0) :=
        execCmdCreateLaunch_created hat htable hlow hnp hn hworld hsec herr hgrid rfl hok hq hx hy hw hh hw1 hh1 hwx hhy hroutes hdead hplain hlost
      have hspec := State.launched_spec (l := l) (table := f 0x10 8) rfl hwf (noPlates_of_plainModule hplain) hentry hlow
      generalize s.launched l (f 0x10 8) = t at hexec hspec
      obtain ⟨⟨hlaunches, hcores, hthreads, hctxs, hnet, hhost, hports⟩, hin, hout⟩ := hspec
      refine ⟨t.returnIds ((s.port port).cmdAt 0), completedWith_of_complete hat (State.ringsKept_of_ports hports) hexec, ?_, hcores, hthreads, hctxs, hnet, hin, hout, ?_⟩
      · show t.launches.get Launch.none 0 = l
        rw [hlaunches, Map.get_set_same]
      · rw [State.returnIds, hhost]
  case submit =>
    intro hat l col row
    refine ⟨fun h => ?refused, fun hlive hin hx hy hf hsec => ?world, fun hlive hin hx hy hf hsec herr => ?taken⟩
    case refused => exact completedWith_of_complete hat hsame (execCmdSubmitItem_refused hat (l := l) rfl rfl h)
    case world => exact completedWith_of_complete hat hsame (execCmdSubmitItem_world hat (l := l) rfl rfl hlive hin hx hy hf hsec)
    case taken =>
      intro sh taken
      have hwords := hostSubmission_words s port
      have htaken (c : Nat) (r : State) (hr : taken = (.ok c, r)) : completedWith port c s r (exec (.cmdSubmitItem port) s) :=
        completedWith_of_complete hat (State.ringsKept_intake hwords hr) (execCmdSubmitItem_taken hat (l := l) rfl rfl hlive hin hx hy hf hsec herr hr)
      refine ⟨htaken, fun hpool hmoves => ?_⟩
      have hno : s.noMoves := fun h => Map.get_of_forall (P := fun k : Sheet => k.moves = []) rfl hmoves h
      obtain ⟨c, r, hr⟩ := State.intake_answers hpool hno sh hwords
      exact ⟨c, r, hr, htaken c r hr⟩
  case wake =>
    intro hat a th
    have hop := op_of_commandAt hat
    have hplace := cmdPlace_head hat (State.endWaits_of_op (by rw [hop]; decide))
    have hheld := portHeld_of_commandAt hat
    have hframe := frameBad_of_commandAt hat
    have ha := leAt_cmdBytes s port 0x20 8
    have hid := leAt_cmdBytes s port 0x18 2
    exact ⟨fun h => completedWith_of_complete hat hsame (execCmdWakeTask_refused hplace hheld hop hframe ha hid h),
      fun hlt hslot hlive hst hlaunch => completedWith_of_complete hat (State.ringsKept_of_ports rfl)
        (execCmdWakeTask_wakes hplace hheld hop hframe ha hid hlt hslot hlive hst hlaunch)⟩
  case endLaunch =>
    intro hat hsome
    refine ⟨fun hf => ?flags, fun hf hdead => ?ended, fun hf hlive => ⟨?forced, s.launch_failLaunch_dead id 0x14⟩, fun hf hlive hdone => ?ends, ?behind⟩
    case flags => exact completedWith_of_complete hat hsame (execCmdEndLaunch_flags hat rfl hsome hf)
    case ended => exact completedWith_of_complete hat hsame (execCmdEndLaunch_ended hat rfl hsome hf hdead)
    case forced => exact completedWith_of_complete hat (s.ringsKept_failLaunch id 0x14) (execCmdEndLaunch_forced hat rfl hsome hf hlive)
    case ends =>
      obtain ⟨hmem, -, -, hsheets⟩ := State.endLaunch_frame id s
      have hexec := execCmdEndLaunch_ends hat rfl hsome hf hlive (State.launchBusy_eq_false hdone)
      refine ⟨s.endLaunch id, completedWith_of_complete hat (s.ringsKept_endLaunch id) hexec, s.launch_endLaunch_dead id, hmem, fun h => ?_⟩
      obtain ⟨hplates, hwindows, -⟩ := hsheets h
      exact ⟨hplates, hwindows⟩
    case behind =>
      intro p bs a th hf hlive hbusy hmore hop hframe hlt hslot hid hst hlaunch
      have hwaits : s.endWaits port 0 = true := by
        rw [endWaits_head hat rfl, hlive, hbusy, Bool.and_true, Bool.and_true]
        exact decide_eq_true hf
      have hplace := cmdPlace_second hat hmore hwaits (State.endWaits_of_op (by rw [hop]; decide))
      have hexec := execCmdWakeTask_wakes hplace (portHeld_of_commandAt hat) hop hframe rfl hid hlt hslot hlive hst hlaunch
      exact hexec.trans (congrArg Host.Outcome.next
        (complete_behind (s := s.mapThread th (fun t => { t with wake := true })) (finished_of_commandAt hat) Nat.one_ne_zero 0))
  case attest =>
    intro hat herr
    obtain ⟨hnonce, hdigest⟩ := s.attestReply_fields port (Memory.length_readList s.hostMem pa 48)
    exact ⟨_, completedWith_of_complete hat (State.ringsKept_of_ports rfl) (execCmdAttest_replies hat herr), hnonce,
      fun hd => toNat_identOf port ▸ hdigest hd⟩

end Sys2Proof.Proofs

/-! # Registers read back what was written (O28) -/

namespace Sys2Proof.Machine

/-! ### Reads and writes of scalar, vector and window registers (R55, R57, R96) -/

@[simp] theorem State.reg_zero (s : State) : s.reg 0 = 0 := rfl

@[simp] theorem Ctx.setReg_zero (k : Ctx) (v : Word) : k.setReg 0 v = k := rfl

theorem Ctx.setReg_frame (k : Ctx) (r : BitVec 5) (v : Word) : k.setReg r v = { k with x := (k.setReg r v).x } := by
  unfold Ctx.setReg
  split <;> rfl

@[simp] theorem State.setReg_cur (s : State) (r : BitVec 5) (v : Word) : (s.setReg r v).cur = s.cur := rfl

theorem State.ctx_setReg (s : State) (r : BitVec 5) (v : Word) : (s.setReg r v).ctx = s.ctx.setReg r v := s.ctx_upd _

theorem State.vset_register (s : State) {r : Nat} (k : Nat) (v : VReg) (h : r < 24) :
    s.vset r k v = s.upd (fun c => { c with v := c.v.set r v }) := if_pos h

theorem State.vset_window (s : State) {r : Nat} (k : Nat) (v : VReg) (h : 24 ≤ r) :
    s.vset r k v = s.mapQueue s.threadId (r - 24) (fun q => { q with slots := q.slots.set (q.prodSlot k) v }) := if_neg (by omega)

theorem State.vold_register (s : State) {r : Nat} (k : Nat) (h : r < 24) : s.vold r k = s.ctx.v.get 0 r := if_pos h

theorem State.vold_window (s : State) {r : Nat} (k : Nat) (h : 24 ≤ r) :
    s.vold r k = (s.queue (r - 24)).slots.get 0 ((s.queue (r - 24)).prodSlot k) := if_neg (by omega)

theorem State.vsrc_window (s : State) {r : Nat} (k : Nat) (h : 24 ≤ r) :
    s.vsrc r k = (s.queue (r - 24)).slots.get 0 ((s.queue (r - 24)).consSlot k) := if_neg (by omega)

/-- The queues of the thread in focus do not depend on its contexts. -/
@[simp] theorem State.queue_upd (s : State) (f : Ctx → Ctx) (q : Nat) : (s.upd f).queue q = s.queue q := rfl

@[simp] theorem State.threadId_mapQueue (s : State) (th q : Nat) (f : Queue → Queue) : (s.mapQueue th q f).threadId = s.threadId := rfl

theorem State.queue_mapQueue_same (s : State) {q : Nat} (f : Queue → Queue) (h : q < (s.thread s.threadId).queues.length) :
    (s.mapQueue s.threadId q f).queue q = f (s.queue q) := by
  simp only [State.queue, State.threadId_mapQueue]
  simp [State.mapQueue, State.thread_mapThread, List.getD_eq_getElem?_getD, h]

theorem State.queue_mapQueue_other (s : State) {p q : Nat} (f : Queue → Queue) (h : p ≠ q) :
    (s.mapQueue s.threadId q f).queue p = s.queue p := by
  simp only [State.queue, State.threadId_mapQueue]
  simp [State.mapQueue, State.thread_mapThread, List.getD_eq_getElem?_getD, h.symm]

end Sys2Proof.Machine

namespace Sys2Proof.Proofs
open Sys2Proof.Machine

/-! ### The settled statement of registers -/

theorem scalarRegistersReadBack : Claims.ScalarRegistersReadBack := by
  intro s d r v
  refine ⟨rfl, s.ctx_upd _, s.reg_setReg d r v, rfl, fun c hc => s.ctxOf_upd_other _ hc, ?_⟩
  rw [State.ctx_setReg]
  exact s.ctx.setReg_frame d v

theorem vectorRegistersReadBack : Claims.VectorRegistersReadBack := by
  refine ⟨fun s r k v hr => ?register, fun s r k v hr hlen => ?window⟩
  case register =>
    rw [State.vset_register s k v hr]
    refine ⟨?_, fun q n hq hne => ?_, fun q n hq => ?_, rfl, fun c hc => s.ctxOf_upd_other _ hc, ?_⟩
    · rw [State.vold_register _ _ hr, State.ctx_upd, Map.get_set_same]
    · rw [State.vold_register _ _ hq, State.vold_register _ _ hq, State.ctx_upd, Map.get_set_other _ _ _ hne]
    · rw [State.vsrc_window _ _ hq, State.vsrc_window _ _ hq, State.queue_upd]
    · rw [State.ctx_upd]
  case window =>
    rw [State.vset_window s k v hr]
    have hsame := State.queue_mapQueue_same s (fun q => { q with slots := q.slots.set (q.prodSlot k) v }) hlen
    refine ⟨?_, rfl, fun t ht => ?_, fun q hq => State.queue_mapQueue_other s _ hq, fun n hn => ?_, ?_⟩
    · rw [State.vold_window _ _ hr, hsame]
      exact Map.get_set_same _ _ _ _
    · rw [State.mapQueue, State.thread_mapThread, if_neg ht]
    · rw [hsame]
      exact Map.get_set_other _ _ _ hn
    · rw [hsame]

/-- Settles O28, from reading a register, a vector register and a window's slot after a write of one (R55, R57, R96). -/
theorem registersReadBack : Obligations.RegistersReadBack := ⟨scalarRegistersReadBack, vectorRegistersReadBack⟩

end Sys2Proof.Proofs

/-! # Comparisons and predicate instructions (O8) -/

namespace Sys2Proof.Machine
open Sys2Proof.Claims

/-! ### Immediates (R76, R85) -/

/-- SignExt of a field held in a word is the field's sign extension. -/
theorem signExt_ofNat {n : Nat} (x : BitVec n) (h0 : 0 < n) (h : n ≤ 64) : signExt (BitVec.ofNat 64 x.toNat) n = x.signExtend 64 := by
  have hx : BitVec.ofNat 64 x.toNat = x.setWidth 64 := BitVec.eq_of_toNat_eq (by simp)
  rw [hx]
  refine BitVec.eq_of_getLsbD_eq fun i hi => ?_
  have hmsb : (x.setWidth 64 <<< (64 - n)).msb = x.msb := by
    rw [BitVec.msb_eq_getLsbD_last, BitVec.msb_eq_getLsbD_last, BitVec.getLsbD_shiftLeft, BitVec.getLsbD_setWidth, show 64 - 1 - (64 - n) = n - 1 by omega]
    simp [show n - 1 < 64 by omega, show ¬(63 < 64 - n) by omega]
  rw [signExt, BitVec.getLsbD_sshiftRight, BitVec.getLsbD_signExtend, hmsb, BitVec.getLsbD_shiftLeft, BitVec.getLsbD_setWidth]
  by_cases hin : i < n
  · simp [hi, hin, show ¬64 ≤ i by omega, show 64 - n + i < 64 by omega]
  · simp [hi, hin, show ¬64 ≤ i by omega, show ¬64 - n + i < 64 by omega]

theorem toNat_append_field {n : Nat} (h : BitVec 22) (x : BitVec n) : (h ++ x).toNat = h.toNat * 2 ^ n + x.toNat := by
  rw [BitVec.toNat_append, Nat.shiftLeft_eq, Nat.mul_comm, Nat.two_pow_add_eq_or_of_lt x.isLt]

/-- The immediate of a field: sign-extended, or after an IMMX hint with the bits of the hint above it (R85). -/
theorem State.imm_eq (s : State) {n : Nat} (x : BitVec n) (h0 : 0 < n) (h : n ≤ 42) :
    s.imm n x = match s.ctx.hints.immx with | none => x.signExtend 64 | some y => (y ++ x).signExtend 64 := by
  unfold State.imm
  cases s.ctx.hints.immx with
  | none => exact signExt_ofNat x h0 (by omega)
  | some y =>
    show signExt (BitVec.ofNat 64 (y.toNat * 2 ^ n + x.toNat)) (22 + n) = _
    rw [← toNat_append_field]
    exact signExt_ofNat (y ++ x) (by omega) (by omega)

theorem State.imm_immediate8 (s : State) (x : BitVec 8) : s.imm 8 x = immediate8 s x := s.imm_eq x (by decide) (by decide)

/-! ### Writes of predicates (R52, R56) -/

/-- A state in which a predicate of the context in focus has taken the bits of a function, of which the A side holds the first alone, and nothing else has changed. -/
def State.wrotePred (s : State) (p : BitVec 4) (bit : Nat → Bool) (r : State) : Prop :=
  r = { s with ctxs := r.ctxs } ∧ (∀ x, x ≠ s.cur → r.ctxOf x = s.ctxOf x) ∧ r.ctx = { s.ctx with p := r.ctx.p } ∧
    (∀ q, q ≠ p → r.pred q = s.pred q) ∧ ∀ k, k < 512 → (r.pred p).getLsbD k = (bit k && (!s.cur.isA || decide (k = 0)))

theorem State.pred_setPred_same (s : State) (p : BitVec 4) (v : Pred) : (s.setPred p v).pred p = if s.cur.isA then v &&& 1 else v := by
  rw [State.pred, State.setPred, State.ctx_upd]
  exact Vector.getElem_set_self _

theorem State.pred_setPred_other (s : State) {p q : BitVec 4} (v : Pred) (h : q ≠ p) : (s.setPred p v).pred q = s.pred q := by
  rw [State.pred, State.setPred, State.ctx_upd]
  exact Vector.getElem_set_ne p.isLt q.isLt fun e => h (BitVec.eq_of_toNat_eq e.symm)

theorem State.wrotePred_setPred (s : State) (p : BitVec 4) (v : Pred) : s.wrotePred p v.getLsbD (s.setPred p v) := by
  refine ⟨rfl, fun x hx => s.ctxOf_upd_other _ hx, ?_, fun q hq => s.pred_setPred_other v hq, fun k hk => ?_⟩
  · rw [State.setPred, State.ctx_upd]
  · rw [State.pred_setPred_same]
    cases s.cur.isA <;> simp

theorem State.wrotePred.congr {s r : State} {p : BitVec 4} {f g : Nat → Bool} (h : s.wrotePred p f r) (hfg : ∀ k, k < 512 → f k = g k) : s.wrotePred p g r := by
  obtain ⟨hstate, hother, hctx, hpreds, hbits⟩ := h
  exact ⟨hstate, hother, hctx, hpreds, fun k hk => hfg k hk ▸ hbits k hk⟩

theorem getLsbD_predOf (b : Bool) {k : Nat} (hk : k < 512) : (predOf b).getLsbD k = b := by
  cases b
  · exact BitVec.getLsbD_zero
  · exact (BitVec.getLsbD_allOnes ..).trans (decide_eq_true hk)

/-- A predicate written by a scalar instruction, with the word completed. -/
theorem completes_setPred (s : State) (p : BitVec 4) {v : Pred} {bit : Nat → Bool} (h : ∀ k, k < 512 → v.getLsbD k = bit k) :
    ∃ r, Completes r (done (s.setPred p v)) ∧ s.wrotePred p bit r :=
  ⟨_, completes_done _, (s.wrotePred_setPred p v).congr h⟩

/-! ### Conditions (R107) -/

theorem Cond.holds_eq (a b : Word) : Cond.eq.holds a b = decide (a = b) := rfl
theorem Cond.holds_ne (a b : Word) : Cond.ne.holds a b = decide (a ≠ b) := by simp [Cond.holds, bne, BEq.beq]
theorem Cond.holds_lt (a b : Word) : Cond.lt.holds a b = decide (a.toInt < b.toInt) := rfl
theorem Cond.holds_ltn (a b : Word) : Cond.ltn.holds a b = decide (a.toNat < b.toNat) := rfl
theorem Cond.holds_ge (a b : Word) : Cond.ge.holds a b = decide (b.toInt ≤ a.toInt) := by
  simp [Cond.holds, BitVec.slt, ← decide_not]
theorem Cond.holds_gen (a b : Word) : Cond.gen.holds a b = decide (b.toNat ≤ a.toNat) := by
  simp [Cond.holds, BitVec.ult, ← decide_not]

/-- A comparison of the table of R107 is the model's condition on its operands. -/
theorem exec_comparison {i : Instr} {g : Guard} {p : BitVec 4} {c : State → Bool} (h : comparison i = some (g, p, c)) (s : State) :
    exec i s = issueScalar i g s (fun s => done (s.setPred p (predOf (c s)))) := by
  unfold comparison at h
  split at h <;> cases h
  case h_1 => simp only [← Cond.holds_eq]; rfl
  case h_2 => simp only [← Cond.holds_ne]; rfl
  case h_3 => simp only [← Cond.holds_lt]; rfl
  case h_4 => simp only [← Cond.holds_ltn]; rfl
  case h_5 => simp only [← Cond.holds_ge]; rfl
  case h_6 => simp only [← Cond.holds_gen]; rfl
  case h_7 => simp only [← Cond.holds_eq, ← State.imm_immediate8]; rfl
  case h_8 => simp only [← Cond.holds_ne, ← State.imm_immediate8]; rfl
  case h_9 => simp only [← Cond.holds_lt, ← State.imm_immediate8]; rfl
  case h_10 => simp only [← Cond.holds_ltn, ← State.imm_immediate8]; rfl
  case h_11 => simp only [← Cond.holds_ge, ← State.imm_immediate8]; rfl
  case h_12 => simp only [← Cond.holds_gen, ← State.imm_immediate8]; rfl

/-! ### Predicate operations (R110) -/

theorem getLsbD_ones_mul {w n lo k : Nat} (hk : k < w) : (BitVec.ofNat w (ones n * 2 ^ lo)).getLsbD k = decide (lo ≤ k ∧ k < lo + n) := by
  rw [ones, BitVec.getLsbD_ofNat, Nat.testBit_mul_two_pow, Nat.testBit_two_pow_sub_one]
  simp only [hk, decide_true, Bool.true_and, ← Bool.decide_and]
  exact decide_eq_decide.mpr (by omega)

/-- PMOVS gives each bit of the scalar to the 32 bits of its row. -/
theorem getLsbD_spread (x : Word) {k : Nat} (hk : k < 512) : (spread x).getLsbD k = x.getLsbD (k / 32) := by
  have hfold (rows : List Nat) (v : Pred) :
      (rows.foldl (fun (v : Pred) i => if x.getLsbD i then v ||| BitVec.ofNat 512 (ones 32 * 2 ^ (32 * i)) else v) v).getLsbD k =
        (v.getLsbD k || (decide (k / 32 ∈ rows) && x.getLsbD (k / 32))) := by
    induction rows generalizing v with
    | nil => simp
    | cons i rest ih =>
      rw [List.foldl_cons, ih]
      by_cases hi : k / 32 = i
      · have hin : decide (32 * i ≤ k ∧ k < 32 * i + 32) = true := decide_eq_true (by omega)
        subst hi
        cases hx : x.getLsbD (k / 32) <;> simp [getLsbD_ones_mul hk, hin]
      · have hin : decide (32 * i ≤ k ∧ k < 32 * i + 32) = false := decide_eq_false (by omega)
        cases hx : x.getLsbD i <;> simp [hi, getLsbD_ones_mul hk, hin]
  have hzero : (0 : Pred).getLsbD k = false := BitVec.getLsbD_zero
  rw [spread, hfold, hzero, Bool.false_or, decide_eq_true (List.mem_range.mpr (by omega)), Bool.true_and]

/-- A predicate operation of the table of R110 writes a predicate of its bits. -/
theorem exec_predicateValue {i : Instr} {g : Guard} {p : BitVec 4} {bit : State → Nat → Bool} (h : predicateValue i = some (g, p, bit)) :
    ∃ v : State → Pred, (∀ s, exec i s = issueScalar i g s (fun s => done (s.setPred p (v s)))) ∧ ∀ s k, k < 512 → (v s).getLsbD k = bit s k := by
  unfold predicateValue at h
  split at h <;> cases h
  case h_1 => exact ⟨_, fun _ => rfl, fun s k _ => BitVec.getLsbD_and⟩
  case h_2 => exact ⟨_, fun _ => rfl, fun s k _ => BitVec.getLsbD_or⟩
  case h_3 => exact ⟨_, fun _ => rfl, fun s k _ => BitVec.getLsbD_xor⟩
  case h_4 => exact ⟨_, fun _ => rfl, fun s k hk => by simp [hk]⟩
  case h_5 => exact ⟨_, fun _ => rfl, fun s k hk => by simp [hk]⟩
  case h_6 => exact ⟨_, fun _ => rfl, fun s k hk => (BitVec.getLsbD_allOnes ..).trans (decide_eq_true hk)⟩
  case h_7 => exact ⟨_, fun _ => rfl, fun s k _ => BitVec.getLsbD_zero⟩
  case h_8 => exact ⟨_, fun _ => rfl, fun s k hk => getLsbD_spread _ hk⟩

/-! ### Counts of bits (R56, R110) -/

/-- The rows and columns of a shape in row-major order, by the position of an element. -/
theorem Shape.elems_eq (h : Shape) (hc : 0 < h.cols) : h.elems = (List.range (h.rows * h.cols)).map (fun k => (k / h.cols, k % h.cols)) := by
  have hrows (n : Nat) : (List.range n).flatMap (fun i => (List.range h.cols).map (fun j => (i, j))) =
      (List.range (n * h.cols)).map (fun k => (k / h.cols, k % h.cols)) := by
    induction n with
    | zero => simp
    | succ n ih =>
      rw [List.range_succ, List.flatMap_append, ih, Nat.succ_mul, List.range_add, List.map_append, List.map_map]
      congr 1
      rw [List.flatMap_singleton]
      refine List.map_congr_left fun j hj => ?_
      have hj := List.mem_range.mp hj
      simp [Nat.mul_add_div hc, Nat.div_eq_of_lt hj, Nat.mod_eq_of_lt hj, Nat.mul_comm n]
  exact hrows h.rows

theorem State.cols_pos (s : State) : 0 < s.shape.cols := by
  unfold State.shape
  split
  · decide
  · exact Nat.succ_pos _

theorem State.counted_eq (s : State) (p : BitVec 4) : s.counted p = countedBits s p := by
  unfold State.counted countedBits
  split
  · rfl
  · show s.shape.elems.map _ = _
    rw [s.shape.elems_eq s.cols_pos, List.map_map]
    rfl

/-- The index of the first set bit. -/
theorem firstIndex_id (l : List Bool) : firstIndex l id = if true ∈ l then some (l.idxOf true) else none := by
  induction l with
  | nil => rfl
  | cons b rest ih =>
    cases b
    · rw [firstIndex, ih]
      by_cases h : true ∈ rest <;> simp [h]
    · simp [firstIndex]

theorem any_id_eq (l : List Bool) : l.any id = decide (true ∈ l) := by
  rw [Bool.eq_iff_iff, List.any_eq_true, decide_eq_true_eq]
  simp

theorem all_id_eq (l : List Bool) : l.all id = !decide (false ∈ l) := by
  rw [Bool.eq_iff_iff, List.all_eq_true, ← decide_not, decide_eq_true_eq]
  simp

theorem length_filter_id_eq (l : List Bool) : (l.filter id).length = l.count true := by
  rw [List.count, List.countP_eq_length_filter]
  exact congrArg (fun f => (l.filter f).length) (funext fun b => by cases b <;> rfl)

/-- PANY to PFIRST write a value of the counted bits. -/
theorem exec_predicateCount {i : Instr} {g : Guard} {d : BitVec 5} {v : State → Word} (h : predicateCount i = some (g, d, v)) :
    ∃ w : State → Word, (∀ s, exec i s = issueScalar i g s (fun s => done (s.setReg d (w s)))) ∧ ∀ s, w s = v s := by
  unfold predicateCount at h
  split at h <;> cases h
  case h_1 => exact ⟨_, fun _ => rfl, fun s => by simp only [State.counted_eq, any_id_eq, decide_eq_true_eq]⟩
  case h_2 => exact ⟨_, fun _ => rfl, fun s => by simp only [State.counted_eq, all_id_eq, Bool.not_eq_true', decide_eq_false_iff_not, ite_not]⟩
  case h_3 => exact ⟨_, fun _ => rfl, fun s => by simp only [State.counted_eq, length_filter_id_eq]⟩
  case h_4 a =>
    refine ⟨_, fun _ => rfl, fun s => ?_⟩
    rw [State.counted_eq, firstIndex_id]
    split <;> simp_all

end Sys2Proof.Machine

namespace Sys2Proof.Proofs
open Sys2Proof.Machine

/-! ### The settled statement of comparisons and predicate instructions -/

theorem comparisonsWriteTheirPredicate : Claims.ComparisonsWriteTheirPredicate := by
  intro i g p c s hi hissues hg
  rw [exec_comparison hi, issueScalar_of_issues hissues hg]
  exact completes_setPred s p fun k hk => getLsbD_predOf _ hk

theorem predicateInstructionsWriteTheirResult : Claims.PredicateInstructionsWriteTheirResult := by
  refine ⟨fun i g p bit s hi hissues hg => ?predicate, fun i g d v s hi hissues hg => ?count⟩
  case predicate =>
    obtain ⟨v, hexec, hbits⟩ := exec_predicateValue hi
    rw [hexec, issueScalar_of_issues hissues hg]
    exact completes_setPred s p (hbits s)
  case count =>
    obtain ⟨w, hexec, hw⟩ := exec_predicateCount hi
    rw [hexec, issueScalar_of_issues hissues hg, hw]
    exact completes_done _

/-- Settles O8, from the predicate or the count that each comparison and predicate instruction of the tables of R107 and R110 writes. -/
theorem scalarPredicatesAreWritten : Obligations.ScalarPredicatesAreWritten := ⟨comparisonsWriteTheirPredicate, predicateInstructionsWriteTheirResult⟩

end Sys2Proof.Proofs

/-! # The side table (O10) -/

namespace Sys2Proof.Machine
open Sys2Proof.Claims

/-! ### Where a group issues (R62, R64, R68) -/

theorem privileged_iff {c : CtxId} (hc : c.isSurveyor = false) (i : Instr) :
    privileged c i = true ↔ groupOf i = .eret ∨ groupOf i = .surveyor ∨ ∃ n, controlNumber i = some n ∧ 0x200 ≤ n := by
  have hnumber : (controlNumber i).any (fun n => decide (0x200 ≤ n)) = true ↔ ∃ n, controlNumber i = some n ∧ 0x200 ≤ n := by
    cases controlNumber i <;> simp
  rw [privileged, hc, Bool.not_false, Bool.true_and, Bool.or_eq_true, hnumber]
  cases groupOf i <;> simp

/-- The groups that only surveyor cores issue are privileged, so a group that is not privileged elsewhere is none of them. -/
theorem groupOf_of_unprivileged {c : CtxId} (hc : c.isSurveyor = false) {i : Instr} (h : privileged c i = false) : groupOf i ≠ .eret ∧ groupOf i ≠ .surveyor := by
  have hp := (privileged_iff hc i).not.mp (by simp [h])
  exact ⟨fun he => hp (.inl he), fun hs => hp (.inr (.inl hs))⟩

section marks
variable {g : Group} (hword : g ≠ .event) (hhint : g ≠ .hint) (heret : g ≠ .eret) (hsys : g ≠ .surveyor)
include hword hhint heret hsys

theorem legalIn_c_iff (th : Nat) : legalIn (.task th .c) g = true ↔ g ∈ onCSide := by
  cases g <;> simp [legalIn, onCSide, CtxId.isTask, CtxId.isA, CtxId.isHandler] at *

theorem legalIn_handler_iff (core k : Nat) : legalIn (.handler core k) g = true ↔ g ∈ inHandlers := by
  cases g <;> simp [legalIn, inHandlers, CtxId.isTask, CtxId.isA, CtxId.isHandler] at *

theorem legalIn_a_iff (th : Nat) : legalIn (.task th .a) g = true ↔ g ∈ onASide := by
  cases g <;> simp [legalIn, onASide, CtxId.isTask, CtxId.isA, CtxId.isHandler] at *

end marks

/-- A context with C-side registers is on the wrong side for a group that it may not issue, and for nothing else. -/
theorem wrongSide_eq_false_iff_of_not_isA {c : CtxId} (hc : c.isA = false) (i : Instr) : wrongSide c i = false ↔ legalIn c (groupOf i) = true := by
  simp [wrongSide, hc]

theorem heldByC_eq_false_iff (n : Nat) : heldByC n = false ↔ n ∉ [1, 2, 3, 5, 6] := by simp [heldByC]

/-- The A side names no register of the C side, and no vector register but a queue window (R62, R64). -/
theorem wrongSide_a_eq_false_iff (th : Nat) (i : Instr) : wrongSide (.task th .a) i = false ↔
    legalIn (.task th .a) (groupOf i) = true ∧ (∀ n ∈ controlNumber i, n ∉ [1, 2, 3, 5, 6]) ∧ ∀ r ∈ (opndsOf i).vectors, 24 ≤ r := by
  have hnumber : (controlNumber i).any heldByC = false ↔ ∀ n ∈ controlNumber i, n ∉ [1, 2, 3, 5, 6] := by
    rw [Option.any_eq_false]
    exact forall₂_congr fun n _ => heldByC_eq_false_iff n
  have hvectors : (opndsOf i).vectors.any (fun r => decide (r < 24)) = false ↔ ∀ r ∈ (opndsOf i).vectors, 24 ≤ r := by
    simp
  rw [wrongSide, ← hnumber, ← hvectors]
  simp [CtxId.isA]

end Sys2Proof.Machine

namespace Sys2Proof.Proofs
open Sys2Proof.Machine

/-! ### The settled statement of the side table -/

/-- Settles O10, from the groups that each kind of context may issue (R62, R64, R68). -/
theorem groupsIssueWhereTheSideTableMarksThem : Obligations.GroupsIssueWhereTheSideTableMarksThem := by
  intro i th core k hword hhint
  refine ⟨fun c hc => privileged_iff hc i, fun hp => ?_, fun hp => ?_, fun hp => ?_⟩
  all_goals obtain ⟨heret, hsys⟩ := groupOf_of_unprivileged rfl hp
  · rw [wrongSide_eq_false_iff_of_not_isA rfl, legalIn_c_iff hword hhint heret hsys]
  · rw [wrongSide_eq_false_iff_of_not_isA rfl, legalIn_handler_iff hword hhint heret hsys]
  · rw [wrongSide_a_eq_false_iff, legalIn_a_iff hword hhint heret hsys]

end Sys2Proof.Proofs

/-! # The start of a task (O58) -/

namespace Sys2Proof.Machine
open Sys2Proof.Claims

/-! ### What a start leaves (R53, R344) -/

theorem State.item_of_readsOnly {s t : State} (h : s.readsOnly t) (sheet i : Nat) : t.item sheet i = s.item sheet i := by
  obtain ⟨-, hkeep⟩ := h
  obtain ⟨hitems, -⟩ := hkeep sheet
  rw [State.item, State.item, hitems]

/-- A side as a start leaves it: the values of R53, but for whether and where it runs, and the words that a leader has sent it. -/
def Ctx.isFresh (k : Ctx) : Prop := k = { Ctx.init with run := k.run, pc := k.pc, grp := k.grp, since := k.since, hop := k.hop }

/-- The thread of a member as its start leaves it (R53, R348). -/
def State.startedThread (s : State) (th : Nat) : Thread :=
  let t := s.thread th
  let it := s.item t.itemSheet t.item
  { t with st := .pre, post := false, queues := (s.launch t.launch).queuesOf t.qcfg, ovf := it.ovf.contains t.rank, started := s.cycle.toNat, wake := false,
           prio := it.prio }

theorem State.invalidateClean_mem (s : State) (core : Nat) (f : L1Entry → Bool) (c : Nat) : ((s.invalidateClean core f).core c).mem = (s.core c).mem := by
  rw [State.invalidateClean, State.core_mapCore]
  split
  · next h => rw [h]
  · rfl

/-- A member's thread and sides as its start leaves them, before the acquire of the start (R53, R72). -/
def State.begunTask (th : Nat) (s : State) : State :=
  let entry := (s.item (s.thread th).itemSheet (s.thread th).item).entryC
  let t := (s.setThread th (s.startedThread th)).setCtx (.task th .c)
    { Ctx.init with run := .running, pc := entry, grp := entry, since := s.cycle.toNat, hop := (s.ctxOf (.task th .c)).hop }
  t.setCtx (.task th .a) { Ctx.init with since := s.cycle.toNat, hop := (t.ctxOf (.task th .a)).hop }

theorem State.startTask_eq (s : State) (th : Nat) :
    ∃ b : Bool, s.startTask th = if b then (s.begunTask th).invalidateClean (coreOfThread th) (fun e => e.kind == 0 && !e.imm) else s.begunTask th := ⟨_, rfl⟩

/-- The acquire of a start changes the L1d of its core alone. -/
theorem State.startTask_frame (s : State) (th : Nat) :
    let t := s.begunTask th
    let u := s.startTask th
    u.ctxs = t.ctxs ∧ u.threads = t.threads ∧ (∀ c, (u.core c).mem = (t.core c).mem) ∧ u.mem = t.mem := by
  obtain ⟨b, hb⟩ := s.startTask_eq th
  intro t u
  rw [show u = _ from hb]
  cases b
  · exact ⟨rfl, rfl, fun _ => rfl, rfl⟩
  · exact ⟨rfl, rfl, t.invalidateClean_mem _ _, rfl⟩

/-- What a start leaves: both sides fresh, the C side running at entry_c and the A side idle, and every byte of memory. -/
theorem State.startTask_spec (s : State) (th : Nat) :
    let u := s.startTask th
    (∀ side, (u.ctxOf (.task th side)).isFresh) ∧ (u.ctxOf (.task th .c)).run = .running ∧
      (u.ctxOf (.task th .c)).pc = (s.item (s.thread th).itemSheet (s.thread th).item).entryC ∧ (u.ctxOf (.task th .a)).run = .idle ∧
      u.thread th = s.startedThread th ∧ (∀ c, (u.core c).mem = (s.core c).mem) ∧ u.mem = s.mem := by
  obtain ⟨hctxs, hthreads, hcores, hmem⟩ := s.startTask_frame th
  have hctx (c : CtxId) : (s.startTask th).ctxOf c = (s.begunTask th).ctxOf c := congrArg (fun m => Map.get Ctx.init m c) hctxs
  have hc := (hctx (.task th .c)).trans ((State.ctxOf_setCtx_other _ _ (by simp)).trans (State.ctxOf_setCtx_same _ _ _))
  have ha := (hctx (.task th .a)).trans (State.ctxOf_setCtx_same _ _ _)
  refine ⟨fun side => ?_, congrArg Ctx.run hc, congrArg Ctx.pc hc, congrArg Ctx.run ha, ?_, hcores, hmem⟩
  · cases side
    · rw [ha]; rfl
    · rw [hc]; rfl
  · exact (congrArg (fun m => Map.get Thread.init m th) hthreads).trans (Map.get_set_same _ _ _ _)

/-- Putting bytes into a local memory changes one core alone, so what a start reads stays. -/
theorem State.startedThread_of_readsOnly {s v : State} (h : s.readsOnly v) (core off th : Nat) (bs : List Byte) :
    (v.putLocal core off bs).startedThread th = s.startedThread th ∧ (v.putLocal core off bs).thread th = s.thread th ∧
      ∀ sheet i, (v.putLocal core off bs).item sheet i = s.item sheet i := by
  have hitem : ∀ sheet i, (v.putLocal core off bs).item sheet i = s.item sheet i := fun sheet i => (State.item_of_readsOnly h sheet i :)
  obtain ⟨honly, -⟩ := h
  have hthread : (v.putLocal core off bs).thread th = s.thread th := by rw [honly]; rfl
  have hlaunch (l : Nat) : (v.putLocal core off bs).launch l = s.launch l := by rw [honly]; rfl
  have hcycle : (v.putLocal core off bs).cycle = s.cycle := by rw [honly]; rfl
  refine ⟨?_, hthread, hitem⟩
  unfold State.startedThread
  simp only [hthread, hitem, hlaunch, hcycle]

/-- A start happens once the input has been read, and begins with the bytes in the member's local memory. -/
theorem execInputCopyDone_next {s u : State} {th : Nat} (h : execInputCopyDone th s = .next u) :
    ∃ bs v, s.readsOnly v ∧
      u = (v.putLocal (coreOfThread th) (v.item (s.thread th).itemSheet (s.thread th).item).linputOff bs).startTask th := by
  have hread : s.readsOnly (s.readInput th).2 := s.readsOnly_readVa _ _ _ _ _
  unfold execInputCopyDone at h
  dsimp only at h
  split at h
  · nomatch h
  · split at h
    · nomatch h
    · next bs v hv =>
      rw [hv] at hread
      obtain ⟨rfl⟩ := h
      exact ⟨bs, v, hread, rfl⟩

/-- The registers of a fresh side (R53, R61, R62). -/
theorem Ctx.isFresh.registers {k : Ctx} (h : k.isFresh) :
    (∀ r, k.reg r = 0) ∧ (∀ p : BitVec 4, k.p[p.toNat] = 0) ∧ k.v = [] ∧ k.hints = Hints.none ∧ k.buf = [] := by
  rw [h]
  refine ⟨fun r => ?_, fun p => Vector.getElem_replicate _, rfl, rfl, rfl⟩
  unfold Ctx.reg
  split
  · rfl
  · exact Vector.getElem_replicate _

/-- What CRD reads on a fresh side (R61, R62). -/
theorem State.controlRead_of_isFresh {v : State} (h : v.ctx.isFresh) :
    v.controlRead 0x001 = 1 ∧ v.controlRead 0x003 = 0x7F0 ∧ ∀ n, n ∈ [0x002, 0x005, 0x006, 0x007, 0x009, 0x00D] → v.controlRead n = 0 := by
  unfold State.controlRead
  rw [h]
  refine ⟨rfl, rfl, fun n hn => ?_⟩
  simp only [List.mem_cons, List.not_mem_nil, or_false] at hn
  rcases hn with rfl | rfl | rfl | rfl | rfl | rfl <;> rfl

end Sys2Proof.Machine

namespace Sys2Proof.Proofs
open Sys2Proof.Machine

/-! ### The settled statement of the start of a task -/

/-- Settles O58, from what a start leaves of both sides and of the thread (R53, R61, R62). -/
theorem taskStartLeavesTheValuesOfTheSpec : Obligations.TaskStartLeavesTheValuesOfTheSpec := by
  intro s u th side hexec v
  rw [exec_inputCopyDone] at hexec
  obtain ⟨bs, w, hread, rfl⟩ := execInputCopyDone_next hexec
  obtain ⟨-, hthread, hitem⟩ := State.startedThread_of_readsOnly hread (coreOfThread th) (w.item (s.thread th).itemSheet (s.thread th).item).linputOff th bs
  obtain ⟨hfresh, hrun, hpc, hidle, -⟩ := State.startTask_spec (w.putLocal (coreOfThread th) (w.item (s.thread th).itemSheet (s.thread th).item).linputOff bs) th
  have hctx : v.ctx.isFresh := hfresh side
  obtain ⟨hregs, hpreds, hvec, hhints, hbuf⟩ := hctx.registers
  obtain ⟨hseed, hshape, hzero⟩ := State.controlRead_of_isFresh hctx
  refine ⟨hregs, hpreds, fun n hn => ?_, hseed, hshape, hzero, hhints, hbuf, hrun, ?_, hidle, fun hside => ?_⟩
  · rw [State.vsrc, if_pos hn, hvec]; rfl
  · rw [hpc, hthread, hitem]
  · have hv : v.ctx.vshape = 0x7F0 := hshape
    subst hside
    have hshape : v.shape = shapeOf v.ctx.vshape := rfl
    rw [hshape, hv]
    exact ⟨rfl, rfl, rfl⟩

end Sys2Proof.Proofs

/-! # Instructions that their guard does not select, and those that wait on a window (O12) -/

namespace Sys2Proof.Machine
open Sys2Proof.Claims

/-! ### Instructions that execute wholly or not at all (R75) -/

/-- The outcome is that of an instruction that executes wholly or not at all, on its own guard. -/
def IssuesScalar (i : Instr) (s : State) (o : Out) : Prop := ∃ body, o = issueScalar i (guardOf i) s body

theorem issuesScalar_intro (i : Instr) (s : State) (body : State → Out) : IssuesScalar i s (issueScalar i (guardOf i) s body) := ⟨_, rfl⟩

/-- Every instruction whose guard names no elements executes wholly or not at all, but for the control registers, whose number counts whatever the guard is. -/
theorem exec_issuesScalar (i : Instr) (s : State) (hword : groupOf i ≠ .event) (hguard : guardsElements i = false) (hcontrol : controlNumber i = none) :
    IssuesScalar i s (exec i s) := by
  cases i
  case crd | cwr => nomatch hcontrol
  case vadd | vsub | vmul | vmin | vmax | vabs | vneg | vand | vor | vxor | vshl | vshr | vsar | vfma | vfms | vadds | vsubs | vmuls | vmins | vmaxs |
      vfmas | vexp2 | vlog2 | vrcp | vrsq | vsqrt | vtanh | vcvt | vscale | vrsum | vrmax | vrmin | vcsum | vcmax | vramax | vcmpEq | vcmpNe | vcmpLt |
      vcmpLe | vcmpGt | vcmpGe | vcmpUn | scan | scanx | vprune | vprunes | vrng | vmov | vsplat | vins | vbrow | vbcol | vzero | viota | vshuf | ldv | stv
      | pmerge | immxHint | repHint | ordHint | locHint | mcompHint | qwHint | rndHint =>
    nomatch hguard
  case illegalInstruction | jobQueueGrant | walkJobAccept | walkLoadDone | walkStep | walkStepEnd | walkSuspend | handlerStart | walkJobComplete |
      tracerGrant | tracerJobStart | tracerPart | tracerSig | tracerSuspend | appendReadyAdd | tracerJobComplete | streamStart | streamSlotPublish |
      streamSuspend | pmergeResult | homeWrite | homeAtomic | ackReceive | nackRetry | tlbMissWalk | tlbHcSpill | llcFill | pageEpochBoundary | wcfgWrite |
      windowEnChangeDone | atlasWrite | repctlWrite | stqcfgWrite | svitemWrite | plctlFlush | plctlKind | lxlostWrite | securityRegionWrite |
      surveyorRegWrite | itemIntake | dispatchCycle | printEntryIssue | inputCopyDone | inputCopyFault | taskEndComplete | governorTick | deadlockSweep |
      surveyorTrap | watchdogExpire | softErrorCorrected | softErrorUncorrected | latePacketRecord | packetForward | routeOpen | portItemArrive |
      routeCloseFlit | turnGroupStart | turnGroupRetrain | compassSpawn | compassSeal | compassPopq | compassIndexWrite | compassIntailWrite | lxCommit |
      sheetLost | cmdbaseWrite | cmdtailWrite | hostRegWrite | cmdWrite | cmdRead | cmdCreateLaunch | cmdSubmitItem | cmdWakeTask | cmdEndLaunch |
      cmdAttest | cmdInvalidOp | statusWrite | bootVerifyDone | moduleReset | thermalThrottle | thermalStop | sleepuWake | bar2WindowAccess |
      meridianLinkTraining | junctionTemperatureFall =>
    exact absurd rfl hword
  case add | sub | and | or | xor | andn | shl | shr | sar | min | max | minn | maxn | addw | subw | clz | ctz | popc | sext8 | sext16 | sext32 | zext32 |
      mul | mulh | mulhn | mulw | div | divn | rem | remn | addi | andi | ori | xori | shli | shri | sari | cmpiEq | cmpiNe | cmpiLt | cmpiLtn | cmpiGe |
      cmpiGen | cmpEq | cmpNe | cmpLt | cmpLtn | cmpGe | cmpGen =>
    simp only [exec_add, execAdd, exec_sub, execSub, exec_and, execAnd, exec_or, execOr, exec_xor, execXor, exec_andn, execAndn, exec_shl, execShl,
      exec_shr, execShr, exec_sar, execSar, exec_min, execMin, exec_max, execMax, exec_minn, execMinn, exec_maxn, execMaxn, exec_addw, execAddw, exec_subw,
      execSubw, exec_clz, execClz, exec_ctz, execCtz, exec_popc, execPopc, exec_sext8, execSext8, exec_sext16, execSext16, exec_sext32, execSext32,
      exec_zext32, execZext32, exec_mul, execMul, exec_mulh, execMulh, exec_mulhn, execMulhn, exec_mulw, execMulw, exec_div, execDiv, exec_divn, execDivn,
      exec_rem, execRem, exec_remn, execRemn, exec_addi, execAddi, exec_andi, execAndi, exec_ori, execOri, exec_xori, execXori, exec_shli, execShli,
      exec_shri, execShri, exec_sari, execSari, exec_cmpiEq, execCmpiEq, exec_cmpiNe, execCmpiNe, exec_cmpiLt, execCmpiLt, exec_cmpiLtn, execCmpiLtn,
      exec_cmpiGe, execCmpiGe, exec_cmpiGen, execCmpiGen, exec_cmpEq, execCmpEq, exec_cmpNe, execCmpNe, exec_cmpLt, execCmpLt, exec_cmpLtn, execCmpLtn,
      exec_cmpGe, execCmpGe, exec_cmpGen, execCmpGen, aluOp]
    exact issuesScalar_intro _ _ _
  case lea | pand | por | pxor | pandn | pnot | pset | pclr | pmovs | pany | pall | pcnt | pfirst | sel | jump | jumpLink | jumpReg | jumpLinkReg | nop |
      endTask | commit | yield | park | trap | eret | brk | hret | astart | await | iflush =>
    simp only [exec_lea, execLea, exec_pand, execPand, exec_por, execPor, exec_pxor, execPxor, exec_pandn, execPandn, exec_pnot, execPnot, exec_pset,
      execPset, exec_pclr, execPclr, exec_pmovs, execPmovs, exec_pany, execPany, exec_pall, execPall, exec_pcnt, execPcnt, exec_pfirst, execPfirst,
      exec_sel, execSel, exec_jump, execJump, exec_jumpLink, execJumpLink, exec_jumpReg, execJumpReg, exec_jumpLinkReg, execJumpLinkReg, exec_nop, execNop,
      exec_endTask, execEndTask, exec_commit, execCommit, exec_yield, execYield, exec_park, execPark, exec_trap, execTrap, exec_eret, execEret, exec_brk,
      execBrk, exec_hret, execHret, exec_astart, execAstart, exec_await, execAwait, exec_iflush, execIflush, aluOp, predOp]
    exact issuesScalar_intro _ _ _
  case ld | st | amoadd | amoand | amoor | amoxor | amomin | amomax | amominn | amomaxn | amoswap | amocas | amofadd | amostag | fence | waitack | pfetch |
      cclean | cinval | cflush | acqinv =>
    simp only [exec_ld, execLd, exec_st, execSt, exec_amoadd, execAmoadd, exec_amoand, execAmoand, exec_amoor, execAmoor, exec_amoxor, execAmoxor,
      exec_amomin, execAmomin, exec_amomax, execAmomax, exec_amominn, execAmominn, exec_amomaxn, execAmomaxn, exec_amoswap, execAmoswap, exec_amocas,
      execAmocas, exec_amofadd, execAmofadd, exec_amostag, execAmostag, exec_fence, execFence, exec_waitack, execWaitack, exec_pfetch, execPfetch,
      exec_cclean, execCclean, exec_cinval, execCinval, exec_cflush, execCflush, exec_acqinv, execAcqinv, amoOp, cleanOp]
    exact issuesScalar_intro _ _ _
  case vext | vshape | smerge | smergez | smcount | vcompact =>
    simp only [exec_vext, execVext, exec_vshape, execVshape, exec_smerge, execSmerge, exec_smergez, execSmergez, exec_smcount, execSmcount, exec_vcompact,
      execVcompact, smergeOp]
    exact issuesScalar_intro _ _ _
  case qcfg | qpub | qadv | qfill | sstr | istr | sclose | sstat | spsend | spsendv | spclose | sprecv | sprecvv | spstat =>
    simp only [exec_qcfg, execQcfg, exec_qpub, execQpub, exec_qadv, execQadv, exec_qfill, execQfill, exec_sstr, execSstr, exec_istr, execIstr, exec_sclose,
      execSclose, exec_sstat, execSstat, exec_spsend, execSpsend, exec_spsendv, execSpsendv, exec_spclose, execSpclose, exec_sprecv, execSprecv,
      exec_sprecvv, execSprecvv, exec_spstat, execSpstat, startStream, sendItem, recvItem]
    exact issuesScalar_intro _ _ _
  case mwalk | mwalkg | mprog | mcancel | mnode | gang | jwait | jpoll | tcopy | tgather | tscatter | tscadd | tfill | sleepu =>
    simp only [exec_mwalk, execMwalk, exec_mwalkg, execMwalkg, exec_mprog, execMprog, exec_mcancel, execMcancel, exec_mnode, execMnode, exec_gang,
      execGang, exec_jwait, execJwait, exec_jpoll, execJpoll, exec_tcopy, execTcopy, exec_tgather, execTgather, exec_tscatter, execTscatter, exec_tscadd,
      execTscadd, exec_tfill, execTfill, exec_sleepu, execSleepu, walkIssue, trcOp]
    exact issuesScalar_intro _ _ _
  case phreg | phdrop | phsig | phwait | phnext | phread | phnew | phfree | tspawn | tdep | tctr | tshape | targ | tself | tlate =>
    simp only [exec_phreg, execPhreg, exec_phdrop, execPhdrop, exec_phsig, execPhsig, exec_phwait, execPhwait, exec_phnext, execPhnext, exec_phread,
      execPhread, exec_phnew, execPhnew, exec_phfree, execPhfree, exec_tspawn, execTspawn, exec_tdep, execTdep, exec_tctr, execTctr, exec_tshape,
      execTshape, exec_targ, execTarg, exec_tself, execTself, exec_tlate, execTlate, phaserOp]
    exact issuesScalar_intro _ _ _
  case pgld | pdrop | pstat | pnorec | lturn | lstat | lquiet | gpush | rpop | lxbegin | lxack | lxend | lxstat | tlbinv | freeze | thaw | pgmove | cspare
      | world =>
    simp only [exec_pgld, execPgld, exec_pdrop, execPdrop, exec_pstat, execPstat, exec_pnorec, execPnorec, exec_lturn, execLturn, exec_lstat, execLstat,
      exec_lquiet, execLquiet, exec_gpush, execGpush, exec_rpop, execRpop, exec_lxbegin, execLxbegin, exec_lxack, execLxack, exec_lxend, execLxend,
      exec_lxstat, execLxstat, exec_tlbinv, execTlbinv, exec_freeze, execFreeze, exec_thaw, execThaw, exec_pgmove, execPgmove, exec_cspare, execCspare,
      exec_world, execWorld, plateOp, committedOp]
    exact issuesScalar_intro _ _ _

/-! ### The control registers, whose number counts whatever the guard is (R63, R123, log 145) -/

section
variable {g : Guard} {a : BitVec 5} {c : BitVec 10} {s : State}

/-- A read that its guard does not select completes without an effect where the number stands. -/
theorem execCrd_unselected (hissues : Issues (.crd g a c) s) (hguard : s.selected g = false) (hstands : numberStands (.crd g a c) s) : execCrd g a c s = done s := by
  have hread := hstands
  unfold execCrd
  rw [issue_of_issues hissues]
  cases hcur : s.cur with
  | task th side => simp [hguard]
  | handler co h => simp [hguard]
  | surveyor sheet k =>
    by_cases hlow : c.toNat < 0x200
    · simp [hguard, hlow]
    · obtain ⟨v, hv⟩ := Option.isSome_iff_exists.1 (hread sheet k hcur (by omega))
      simp [hguard, hlow, hv]

/-- A read of a surveyor core's register whose number is not assigned raises 0x01. -/
theorem execCrd_unassigned {sheet k : Nat} (hissues : Issues (.crd g a c) s) (hcur : s.cur = .surveyor sheet k) (hhigh : 0x200 ≤ c.toNat)
    (hnone : s.svRead sheet k c.toNat = none) : execCrd g a c s = raise0 1 s := by
  have hnlow : ¬ c.toNat < 0x200 := by omega
  unfold execCrd
  rw [issue_of_issues hissues]
  simp [hcur, hnlow, hnone]

/-- A write whose number alone raises a cause raises it, whatever the guard is. -/
theorem execCwr_of_numberFault {e : Nat} (hissues : Issues (.cwr g a c) s) (hfault : s.numberFault c.toNat = some e) : execCwr g a c s = raise0 e s := by
  unfold execCwr
  rw [issue_of_issues hissues]
  simp only [hfault]

/-- A write that its guard does not select completes without an effect where the number stands. -/
theorem execCwr_unselected (hissues : Issues (.cwr g a c) s) (hguard : s.selected g = false) (hstands : s.numberFault c.toNat = none) : execCwr g a c s = done s := by
  unfold execCwr
  rw [issue_of_issues hissues]
  simp only [hstands, hguard, Bool.not_false, if_true]

end

/-- The read-only registers below 0x200 raise 0x08. -/
theorem State.numberFault_readOnly {s : State} {n : Nat} (h : n ∈ [0x000, 0x004, 0x008, 0x010, 0x012]) : s.numberFault n = some 0x08 := by
  have hn : n = 0 ∨ n = 4 ∨ n = 8 ∨ n = 0x10 ∨ n = 0x12 := by simpa using h
  simp only [State.numberFault, hn, if_true]

/-- A number of 0x200 or above that is not assigned raises 0x01 on a surveyor core. -/
theorem State.numberFault_unassigned {s : State} {sheet k n : Nat} (hcur : s.cur = .surveyor sheet k) (hhigh : 0x200 ≤ n) (hnone : s.svRead sheet k n = none) :
    s.numberFault n = some 0x01 := by
  have hlow : ¬ (n = 0 ∨ n = 4 ∨ n = 8 ∨ n = 0x10 ∨ n = 0x12) := by omega
  have hnlow : ¬ n < 0x200 := by omega
  simp [State.numberFault, hlow, hnlow, hcur, hnone]

/-- An instruction that is not selected completes without an effect where its number stands. -/
theorem exec_unselected (i : Instr) (s : State) (hword : groupOf i ≠ .event) (hguard : guardsElements i = false) (hissues : Issues i s)
    (hunselected : s.selected (guardOf i) = false) (hstands : numberStands i s) : exec i s = done s := by
  cases hcontrol : controlNumber i with
  | none =>
    obtain ⟨body, hbody⟩ := exec_issuesScalar i s hword hguard hcontrol
    rw [hbody, issueScalar_unselected hissues hunselected]
  | some n =>
    cases i
    case crd => exact execCrd_unselected hissues hunselected hstands
    case cwr => exact execCwr_unselected hissues hunselected hstands
    all_goals nomatch hcontrol

end Sys2Proof.Machine

namespace Sys2Proof.Proofs
open Sys2Proof.Machine

/-- An instruction that is not selected has no effect, but for the cause of a control register's number (R75, R63, R123). -/
theorem unselectedInstructionHasNoEffect : Claims.AnUnselectedInstructionHasNoEffect := by
  intro i s hword hguard hissues hunselected
  refine ⟨fun hstands => ?_, ?_, ?_⟩
  · rw [exec_unselected i s hword hguard hissues hunselected hstands]
    exact completes_done s
  · rintro g a c rfl hreadOnly
    exact execCwr_of_numberFault hissues (State.numberFault_readOnly hreadOnly)
  · rintro g d a c h k (rfl | rfl) hcur hhigh hnone
    · exact execCrd_unassigned hissues hcur hhigh hnone
    · exact execCwr_of_numberFault hissues (State.numberFault_unassigned hcur hhigh hnone)

/-- An instruction with a queue window that lacks slots waits (R96). -/
theorem queueWindowsWait : Claims.QueueWindowsWait := by
  intro i s w hword hhint hissue hrep hwait
  rw [exec_waitsOnWindow i s w hword hhint hissue hrep hwait]
  exact waits_block w s

/-- Settles O12, from the outcome of every instruction that executes wholly or not at all and that of a window that lacks slots. -/
theorem unselectedAndWaitingInstructionsChangeNothing : Obligations.UnselectedAndWaitingInstructionsChangeNothing :=
  ⟨unselectedInstructionHasNoEffect, queueWindowsWait⟩

end Sys2Proof.Proofs

/-! # The order of the checks at issue (O9) -/

namespace Sys2Proof.Machine
open Sys2Proof.Claims

/-! ### Checks 2 to 6 (R69, R87) -/

section
variable {i : Instr} {s : State}

theorem issueFault_reserved (h : i.wellFormed = false) : issueFault i s = some 0x01 := by simp [issueFault, h]

theorem issueFault_privilege (hformed : i.wellFormed = true) (h : privileged s.cur i = true) : issueFault i s = some 0x08 := by simp [issueFault, hformed, h]

theorem issueFault_side (hformed : i.wellFormed = true) (hprivilege : privileged s.cur i = false) (h : wrongSide s.cur i = true) :
    issueFault i s = some 0x03 := by
  simp [issueFault, hformed, hprivilege, h]

theorem issueFault_repZero (hformed : i.wellFormed = true) (hprivilege : privileged s.cur i = false) (hside : wrongSide s.cur i = false) (h : s.repZero = true) :
    issueFault i s = none := by
  simp [issueFault, hformed, hprivilege, hside, h]

theorem issueFault_allotment (hformed : i.wellFormed = true) (hprivilege : privileged s.cur i = false) (hside : wrongSide s.cur i = false)
    (hrep : s.repZero = false) (h : s.beyondAllotment i = true) : issueFault i s = some 0x04 := by
  simp [issueFault, hformed, hprivilege, hside, hrep, h]

theorem issueFault_misuse (hformed : i.wellFormed = true) (hprivilege : privileged s.cur i = false) (hside : wrongSide s.cur i = false)
    (hrep : s.repZero = false) (hallotment : s.beyondAllotment i = false) (h : s.misuse i = true) : issueFault i s = some 0x0A := by
  simp [issueFault, hformed, hprivilege, hside, hrep, hallotment, h]

/-- A group with no repetition left completes with no effect behind its checks (R87). -/
theorem exec_repZero (hword : groupOf i ≠ .event) (hhint : groupOf i ≠ .hint) (hfault : issueFault i s = none) (hrep : s.repZero = true) : exec i s = done s := by
  obtain ⟨body, hbody⟩ := exec_issuesAs i s hword hhint
  rw [hbody, issue, hfault]
  simp only [hrep, if_true]

/-- A group with no repetition left has no further one. -/
theorem State.repeats_of_repZero (h : s.repZero = true) : s.repeats = false := by
  cases hr : s.ctx.hints.rep with
  | none => simp [State.repZero, hr] at h
  | some r =>
    have hcount : r.count ≤ s.ctx.repDone := by simpa [State.repZero, hr] using h
    simp only [State.repeats, hr, Bool.and_eq_false_iff, decide_eq_false_iff_not]
    right; omega

end

/-- A group that completes after its last repetition clears REPCNT (R89). -/
theorem Ctx.complete_repcnt {k : Ctx} {pc : Word} {counted : Bool} {r : RepHint} (hrep : k.hints.rep = some r) (hlast : ¬ k.repDone + 1 < r.count)
    (hword : isHintWord (k.buf.headD 0) = false) : (k.complete pc counted).repcnt = 0 := by
  simp only [Ctx.complete, hrep, hlast, hword, Bool.false_eq_true, if_false]

/-- A group with no repetition left clears REPCNT when it completes (R87, R89). -/
theorem done_repcnt {s t : State} (hrep : s.repZero = true) (hword : isHintWord (s.ctx.buf.headD 0) = false) (ht : done s = .next t) : t.ctx.repcnt = 0 := by
  obtain rfl : s.retire = t := Host.Outcome.next.inj ht
  obtain ⟨hop, hctx⟩ := State.retireTo_ctx (s.ctx.pc + 4) s
  cases hr : s.ctx.hints.rep with
  | none => simp [State.repZero, hr] at hrep
  | some r =>
    have hcount : r.count ≤ s.ctx.repDone := by simpa [State.repZero, hr] using hrep
    rw [State.retire, hctx]
    exact Ctx.complete_repcnt (r := r) hr (by simp only; omega) hword

/-! ### Hint words (R81) -/

theorem kindOf_payloadOf_split {h : BitVec 32} (hh : isHintWord h = true) :
    (RawWord.split h).maj = 63 ∧ (RawWord.split h).e * 8 + (RawWord.split h).n * 4 + (RawWord.split h).g / 4 = kindOf h ∧
      (RawWord.split h).g % 4 * 2 ^ 20 + (RawWord.split h).body = payloadOf h := by
  have hmaj : h.toNat / 2 ^ 26 = 63 := by simpa [isHintWord] using hh
  refine ⟨hmaj, ?_, ?_⟩
  · simp only [RawWord.split, kindOf]; omega
  · simp only [RawWord.split, payloadOf]; omega

/-- A hint word decodes by its kind and payload. -/
theorem decode_hintWord {h : BitVec 32} {i : Instr} (hh : isHintWord h = true) (hi : decode h = .ok i) : decodeHint (kindOf h) (payloadOf h) = some i := by
  obtain ⟨hmaj, hkind, hpayload⟩ := kindOf_payloadOf_split hh
  rw [decode, decodeRaw, if_pos hmaj, hkind, hpayload] at hi
  split at hi
  · next j hj => rw [hj]; exact congrArg some (Except.ok.inj hi)
  · nomatch hi

/-- The instruction of a legal word decodes and is well formed. -/
theorem legalWord_eq_some {w : BitVec 32} {i : Instr} (h : legalWord w = some i) : decode w = .ok i ∧ i.wellFormed = true := by
  unfold legalWord at h
  split at h
  · next j hj =>
    split at h
    · next hformed => obtain rfl := Option.some.inj h; exact ⟨hj, hformed⟩
    · nomatch h
  · nomatch h

/-! ### What an instruction takes (R84, R88, R95) -/

/-- The groups that accept a kind are those of R84's column. -/
theorem takesKind_of_mem {kind : Nat} {aSide : Bool} {g : Group} (h : kind ∈ accepts aSide g) : takesKind kind aSide g := by
  cases g <;> cases aSide <;> simp [accepts] at h <;> rcases h with rfl | rfl | rfl | rfl | rfl <;> simp [takesKind]

theorem Opnd.mayStep_of_steppable {o : Opnd} (h : o.steppable = true) : mayStep o := by
  cases o with
  | none => nomatch h
  | scalar r => exact .inl ⟨r, rfl⟩
  | src r => exact .inr ⟨r, .inl rfl, of_decide_eq_true h⟩
  | dst r => exact .inr ⟨r, .inr rfl, of_decide_eq_true h⟩

theorem Opnd.namesWindow_of_isWindow {o : Opnd} (h : o.isWindow = true) : namesWindow o := by
  cases o with
  | none => nomatch h
  | scalar r => nomatch h
  | src r => exact ⟨r, .inl rfl, of_decide_eq_true h⟩
  | dst r => exact ⟨r, .inr rfl, of_decide_eq_true h⟩

theorem wellFormed_ordHint (k s : BitVec 3) : (Instr.ordHint k s).wellFormed = decide (k.toNat ≤ 4 ∧ s.toNat ≤ 6) := rfl
theorem wellFormed_rndHint (r : BitVec 3) : (Instr.rndHint r).wellFormed = decide (r.toNat ≤ 5) := rfl

theorem loadStore_cases {i : Instr} (h : groupOf i = .loadStore) : (∃ g d b z p o, i = .ld g d b z p o) ∨ ∃ g d b z p o, i = .st g d b z p o := by
  cases i
  case ld g d b z p o => exact .inl ⟨g, d, b, z, p, o, rfl⟩
  case st g d b z p o => exact .inr ⟨g, d, b, z, p, o, rfl⟩
  all_goals nomatch h

theorem tile_cases {i : Instr} (h : groupOf i = .tile) : (∃ g d b p s t, i = .ldv g d b p s t) ∨ ∃ g d b p s, i = .stv g d b p s := by
  cases i
  case ldv g d b p s t => exact .inl ⟨g, d, b, p, s, t, rfl⟩
  case stv g d b p s => exact .inr ⟨g, d, b, p, s, rfl⟩
  all_goals nomatch h

/-- The instructions that take an ORD kind: an atomic takes all, a load no release, a store no acquire, and neither takes both (R84). -/
theorem ordKinds_of_ordKindOk {aSide : Bool} {i : Instr} {n : Nat} (htakes : takesKind 2 aSide (groupOf i)) (hok : ordKindOk i n = true) :
    (n = 3 → groupOf i = .amo) ∧ (n = 1 → groupOf i = .amo ∨ (∃ g d b z p o, i = .ld g d b z p o) ∨ ∃ g d b p s t, i = .ldv g d b p s t) ∧
      (n = 2 → groupOf i = .amo ∨ (∃ g d b z p o, i = .st g d b z p o) ∨ ∃ g d b p s, i = .stv g d b p s) := by
  have hgroup : groupOf i = .loadStore ∨ groupOf i = .tile ∨ groupOf i = .amo := by simpa [takesKind] using htakes
  rcases hgroup with h | h | h
  · rcases loadStore_cases h with ⟨g, d, b, z, p, o, rfl⟩ | ⟨g, d, b, z, p, o, rfl⟩
    · have hn : n = 0 ∨ n = 1 ∨ n = 4 := by simpa [or_assoc] using (show (n == 0 || n == 1 || n == 4) = true from hok)
      exact ⟨by omega, fun _ => .inr (.inl ⟨g, d, b, z, p, o, rfl⟩), by omega⟩
    · have hn : n = 0 ∨ n = 2 ∨ n = 4 := by simpa [or_assoc] using (show (n == 0 || n == 2 || n == 4) = true from hok)
      exact ⟨by omega, by omega, fun _ => .inr (.inl ⟨g, d, b, z, p, o, rfl⟩)⟩
  · rcases tile_cases h with ⟨g, d, b, p, s, t, rfl⟩ | ⟨g, d, b, p, s, rfl⟩
    · have hn : n = 0 ∨ n = 1 ∨ n = 4 := by simpa [or_assoc] using (show (n == 0 || n == 1 || n == 4) = true from hok)
      exact ⟨by omega, fun _ => .inr (.inr ⟨g, d, b, p, s, t, rfl⟩), by omega⟩
    · have hn : n = 0 ∨ n = 2 ∨ n = 4 := by simpa [or_assoc] using (show (n == 0 || n == 2 || n == 4) = true from hok)
      exact ⟨by omega, by omega, fun _ => .inr (.inr ⟨g, d, b, p, s, rfl⟩)⟩
  · exact ⟨fun _ => h, fun _ => .inl h, fun _ => .inl h⟩

/-- The number of a field of a payload. -/
theorem toNat_field (x lo width : Nat) : (field x lo width).toNat = x / 2 ^ lo % 2 ^ width := BitVec.toNat_ofNat _ _

theorem field_eq_zero_iff (x lo width : Nat) : field x lo width = 0 ↔ x / 2 ^ lo % 2 ^ width = 0 := by
  rw [← BitVec.toNat_inj, toNat_field]; simp

/-- A hint that decodes to a well-formed one is not reserved, and where an instruction accepts it, it suits that instruction. -/
theorem hint_suits {kind payload : Nat} {h : Instr} (hrange : payload < 2 ^ 22) (hdecode : decodeHint kind payload = some h) (hformed : h.wellFormed = true) :
    ¬reservedHint kind payload ∧ ∀ aSide i, acceptsHint aSide i h = true → suits aSide i kind payload := by
  unfold decodeHint at hdecode
  split at hdecode
  · obtain rfl := Option.some.inj hdecode
    refine ⟨by simp [reservedHint], fun aSide i haccept => ?_⟩
    have htakes : 0 ∈ accepts aSide (groupOf i) := by simpa [acceptsHint] using haccept
    exact ⟨takesKind_of_mem htakes, by simp, by simp, by simp⟩
  · split at hdecode
    · next hfree =>
      obtain rfl := Option.some.inj hdecode
      refine ⟨by simp only [reservedHint]; omega, fun aSide i haccept => ?_⟩
      simp only [acceptsHint, Bool.and_eq_true, Bool.or_eq_true, beq_iff_eq, field_eq_zero_iff, List.contains_iff_mem] at haccept
      obtain ⟨⟨⟨htakes, hd⟩, ha⟩, hb⟩ := haccept
      refine ⟨takesKind_of_mem htakes, by simp, fun _ => ⟨fun h => ?_, fun h => ?_, fun h => ?_⟩, by simp⟩
      · exact Opnd.mayStep_of_steppable (hd.resolve_left h)
      · exact Opnd.mayStep_of_steppable (ha.resolve_left h)
      · exact Opnd.mayStep_of_steppable (hb.resolve_left h)
    · nomatch hdecode
  · split at hdecode
    · next hfree =>
      obtain rfl := Option.some.inj hdecode
      have hvalues : payload / 2 ^ 3 % 2 ^ 3 ≤ 4 ∧ payload / 2 ^ 0 % 2 ^ 3 ≤ 6 := by simpa only [wellFormed_ordHint, toNat_field, decide_eq_true_eq] using hformed
      refine ⟨by simp only [reservedHint]; omega, fun aSide i haccept => ?_⟩
      simp only [acceptsHint, Bool.and_eq_true, List.contains_iff_mem, toNat_field] at haccept
      obtain ⟨htakes, hkinds⟩ := haccept
      exact ⟨takesKind_of_mem htakes, fun _ => ordKinds_of_ordKindOk (takesKind_of_mem htakes) hkinds, by simp, by simp⟩
    · nomatch hdecode
  · split at hdecode
    · next hfree =>
      obtain rfl := Option.some.inj hdecode
      refine ⟨by simp only [reservedHint]; omega, fun aSide i haccept => ?_⟩
      have htakes : 3 ∈ accepts aSide (groupOf i) := by simpa [acceptsHint] using haccept
      exact ⟨takesKind_of_mem htakes, by simp, by simp, by simp⟩
    · nomatch hdecode
  · split at hdecode
    · next hfree =>
      obtain rfl := Option.some.inj hdecode
      refine ⟨by simp only [reservedHint]; omega, fun aSide i haccept => ?_⟩
      have htakes : 4 ∈ accepts aSide (groupOf i) := by simpa [acceptsHint] using haccept
      exact ⟨takesKind_of_mem htakes, by simp, by simp, by simp⟩
    · nomatch hdecode
  · split at hdecode
    · next hfree =>
      obtain rfl := Option.some.inj hdecode
      refine ⟨by simp only [reservedHint]; omega, fun aSide i haccept => ?_⟩
      simp only [acceptsHint, Bool.and_eq_true, Bool.or_eq_true, beq_iff_eq, field_eq_zero_iff, List.contains_iff_mem] at haccept
      obtain ⟨⟨⟨htakes, hd⟩, ha⟩, hb⟩ := haccept
      refine ⟨takesKind_of_mem htakes, by simp, by simp, fun _ => ⟨fun h => ?_, fun h => ?_, fun h => ?_⟩⟩
      · exact Opnd.namesWindow_of_isWindow (hd.resolve_right (by omega))
      · exact Opnd.namesWindow_of_isWindow (ha.resolve_right (by omega))
      · exact Opnd.namesWindow_of_isWindow (hb.resolve_right (by omega))
    · nomatch hdecode
  · split at hdecode
    · next hfree =>
      obtain rfl := Option.some.inj hdecode
      have hvalue : payload / 2 ^ 0 % 2 ^ 3 ≤ 5 := by simpa only [wellFormed_rndHint, toNat_field, decide_eq_true_eq] using hformed
      refine ⟨by simp only [reservedHint]; omega, fun aSide i haccept => ?_⟩
      have htakes : 6 ∈ accepts aSide (groupOf i) := by simpa [acceptsHint] using haccept
      exact ⟨takesKind_of_mem htakes, by simp, by simp, by simp⟩
    · nomatch hdecode
  · nomatch hdecode

/-! ### The check of a group (R82, R83) -/

theorem takeWhile_hints {hs : List (BitVec 32)} {w : BitVec 32} (hhints : ∀ h ∈ hs, isHintWord h = true) (hword : isHintWord w = false) :
    (hs ++ [w]).takeWhile isHintWord = hs := by
  rw [List.takeWhile_append_of_pos hhints, List.takeWhile_cons_of_neg (by simp [hword]), List.append_nil]

/-- A group that is not bad is one that R83 lets issue. -/
theorem legalGroup_of_not_bad {aSide : Bool} {hs : List (BitVec 32)} {w : BitVec 32} (hnonempty : hs ≠ []) (hhints : ∀ h ∈ hs, isHintWord h = true)
    (hword : isHintWord w = false) (hbad : groupBad aSide (hs ++ [w]) = false) : legalGroup aSide hs w := by
  have hisEmpty : hs.isEmpty = false := by simpa using hnonempty
  rw [groupBad, takeWhile_hints hhints hword, List.drop_left] at hbad
  simp only [hisEmpty, Bool.false_eq_true, if_false] at hbad
  cases hlegal : legalWord w with
  | none => simp [hlegal] at hbad
  | some i =>
    obtain ⟨hi, hformed⟩ := legalWord_eq_some hlegal
    simp only [hlegal, Bool.or_eq_false_iff, Bool.not_eq_false', decide_eq_true_eq, List.any_eq_false] at hbad
    obtain ⟨hnodup, hall⟩ := hbad
    have heach : ∀ h ∈ hs, ¬reservedHint (kindOf h) (payloadOf h) ∧ suits aSide i (kindOf h) (payloadOf h) := by
      intro h hmem
      have hsuit := hall h hmem
      cases hh : legalWord h with
      | none => simp [hh] at hsuit
      | some hint =>
        obtain ⟨hdecode, hhformed⟩ := legalWord_eq_some hh
        have ⟨hfree, hsuits⟩ := hint_suits (Nat.mod_lt _ (by decide)) (decode_hintWord (hhints h hmem) hdecode) hhformed
        exact ⟨hfree, hsuits aSide i (by simpa [hh] using hsuit)⟩
    exact ⟨hnodup, fun h hmem => (heach h hmem).1, i, hi, hformed, fun h hmem => (heach h hmem).2⟩

/-- A fetched group that R83 does not let issue raises 0x02 at its first hint, with HINT. -/
theorem State.fill_of_illegalGroup {s u : State} {hs : List (BitVec 32)} {w : BitVec 32} (hempty : s.ctx.buf = []) (hfollower : s.isFollower = false)
    (hnonempty : hs ≠ []) (hhints : ∀ h ∈ hs, isHintWord h = true) (hword : isHintWord w = false)
    (hfetch : (s.upd (fun k => k.begin k.pc [])).fetchGroup s.ctx.pc.toNat 4 = .ok (hs ++ [w]) u) (hillegal : ¬legalGroup u.cur.isA hs w) :
    s.fill = .inl (.next (u.raiseAt 0x02 none true)) := by
  have hbad : groupBad u.cur.isA (hs ++ [w]) = true := by
    by_contra hgood
    exact hillegal (legalGroup_of_not_bad hnonempty hhints hword (by simpa using hgood))
  have hfetch' : (s.upd (fun k => k.begin s.ctx.pc [])).fetchGroup s.ctx.pc.toNat 4 = .ok (hs ++ [w]) u := hfetch
  simp only [State.fill, hempty, hfollower, hfetch', hbad, ne_eq, not_true_eq_false, Bool.false_eq_true, if_false, if_true]

end Sys2Proof.Machine

namespace Sys2Proof.Proofs
open Sys2Proof.Machine

/-- Settles O9, from the outcome of each check at issue and from the reading of a group's hints by kind and payload. -/
theorem checksAtIssueRunInOrder : Obligations.ChecksAtIssueRunInOrder := by
  refine ⟨fun v u hs w => ?_, fun i s hword => ⟨fun hformed => ?_, fun hformed hprivilege => ?_, fun hformed hprivilege hside => ?_,
    fun hformed hprivilege hside hhint hrep => ?_, fun hformed hprivilege hside hrep hallotment => ?_,
    fun hformed hprivilege hside hrep hallotment hmisuse => ?_⟩⟩
  · intro s hempty hfollower hnonempty hhints hnotHint hfetch hillegal
    rw [State.prepare, State.fill_of_illegalGroup hempty hfollower hnonempty hhints hnotHint hfetch hillegal]
  · exact exec_of_issueFault i s 0x01 hword (issueFault_reserved hformed)
  · exact exec_of_issueFault i s 0x08 hword (issueFault_privilege hformed hprivilege)
  · exact exec_of_issueFault i s 0x03 hword (issueFault_side hformed hprivilege hside)
  · have hdone := exec_repZero hword hhint (issueFault_repZero hformed hprivilege hside hrep) hrep
    exact ⟨hdone, fun t ht hnotHint => done_repcnt hrep hnotHint (hdone ▸ ht)⟩
  · exact exec_of_issueFault i s 0x04 hword (issueFault_allotment hformed hprivilege hside hrep hallotment)
  · exact exec_of_issueFault i s 0x0A hword (issueFault_misuse hformed hprivilege hside hrep hallotment hmisuse)

end Sys2Proof.Proofs

/-! # The control registers of tasks and handlers (O18) -/

namespace Sys2Proof.Machine
open Sys2Proof.Claims

/-! ### Fields of a word -/

theorem bitsAt_ofNat {a : Nat} (hi lo : Nat) (ha : a < 2 ^ 64) : bitsAt (BitVec.ofNat 64 a) hi lo = a / 2 ^ lo % 2 ^ (hi + 1 - lo) := by
  rw [bitsAt, BitVec.toNat_ofNat, Nat.mod_eq_of_lt ha]

theorem bitsAt_or (x y : Word) (hi lo : Nat) : bitsAt (x ||| y) hi lo = bitsAt x hi lo ||| bitsAt y hi lo := by
  simp only [bitsAt, BitVec.toNat_or, ← Nat.shiftRight_eq_div_pow, Nat.shiftRight_or_distrib, Nat.or_mod_two_pow]

/-- A mask that covers a field leaves it. -/
theorem bitsAt_and_of_ones {x y : Word} {hi lo : Nat} (hmask : bitsAt y hi lo = 2 ^ (hi + 1 - lo) - 1) : bitsAt (x &&& y) hi lo = bitsAt x hi lo := by
  have hand : bitsAt (x &&& y) hi lo = bitsAt x hi lo &&& bitsAt y hi lo := by
    simp only [bitsAt, BitVec.toNat_and, ← Nat.shiftRight_eq_div_pow, Nat.shiftRight_and_distrib, Nat.and_mod_two_pow]
  rw [hand, hmask, Nat.and_two_pow_sub_one_eq_mod, bitsAt, Nat.mod_mod]

theorem getLsbD_ofNat_div {a k : Nat} (hk : k < 64) : (BitVec.ofNat 64 a).getLsbD k = decide (a / 2 ^ k % 2 = 1) := by
  rw [BitVec.getLsbD_ofNat, Nat.testBit_eq_decide_div_mod_eq]; simp [hk]

/-- No bit stands above the first n exactly where the number is below 2^n. -/
theorem and_not_ones_eq_zero_iff (v : Word) (n : Nat) : v &&& ~~~(BitVec.ofNat 64 (2 ^ n - 1)) = 0 ↔ v.toNat < 2 ^ n := by
  constructor
  · intro h
    refine Nat.lt_pow_two_of_testBit _ fun i hi => ?_
    by_cases hi64 : i < 64
    · have hones : (BitVec.ofNat 64 (2 ^ n - 1)).getLsbD i = false := by
        rw [BitVec.getLsbD_ofNat, Nat.testBit_two_pow_sub_one]; simp [Nat.not_lt.2 hi]
      have hbit : (v &&& ~~~(BitVec.ofNat 64 (2 ^ n - 1))).getLsbD i = false := by rw [h]; exact BitVec.getLsbD_zero
      have hv : v.getLsbD i = false := by simpa only [BitVec.getLsbD_and, BitVec.getLsbD_not, hones, hi64, decide_true, Bool.not_false, Bool.and_true] using hbit
      exact hv
    · exact BitVec.getLsbD_of_ge v i (by omega)
  · intro h
    refine BitVec.eq_of_getLsbD_eq fun i hi => ?_
    by_cases hin : i < n
    · simp [hi, BitVec.getLsbD_ofNat, Nat.testBit_two_pow_sub_one, hin]
    · have hzero : v.getLsbD i = false := Nat.testBit_lt_two_pow (Nat.lt_of_lt_of_le h (Nat.pow_le_pow_right (by decide) (by omega)))
      simp [hzero]

/-! ### What CRD reads (R62, R65, R66) -/

theorem exec_crd_reads {s : State} {g : Guard} {d : BitVec 5} {c : BitVec 10} (hguard : s.selected g = true) (hissues : Issues (.crd g d c) s)
    (hcur : s.cur.isSurveyor = false) : exec (.crd g d c) s = done (s.setReg d (s.controlRead c.toNat)) := by
  rw [exec_crd, execCrd, issue_of_issues hissues]
  cases hc : s.cur with
  | task th side => simp [hguard]
  | handler core k => simp [hguard]
  | surveyor sheet k => rw [hc] at hcur; nomatch hcur

theorem State.controlRead_sideRegister {n : Nat} {v : State → Word} (s : State) (h : sideRegister n = some v) : s.controlRead n = v s := by
  unfold sideRegister at h
  split at h <;> cases h <;> rfl

theorem State.controlRead_threadRegister {s : State} {n th : Nat} {side : Side} {v : Thread → Word} (hcur : s.cur = .task th side)
    (h : threadRegister n = some v) : s.controlRead n = v (s.thread th) := by
  unfold threadRegister at h
  split at h <;> cases h <;> simp [State.controlRead, State.threadReg, hcur]

theorem State.controlRead_allot (s : State) : s.controlRead 4 = s.allotReg := rfl
theorem State.controlRead_tstat (s : State) : s.controlRead 8 = s.tstatReg := rfl
theorem State.controlRead_self (s : State) : s.controlRead 0x10 = s.selfReg := rfl

/-- The fields of TSTAT (R65). -/
theorem State.tstatReg_fields {s : State} {th : Nat} {side : Side} (hcur : s.cur = .task th side) :
    s.tstatReg.getLsbD 0 = (s.thread th).post ∧ s.tstatReg.getLsbD 1 = (s.thread th).ovf ∧ bitsAt s.tstatReg 3 2 = (s.thread th).plate % 4 ∧
      s.tstatReg.getLsbD 4 = (s.thread th).late ∧ s.tstatReg.getLsbD 5 = (s.thread th).rerun ∧ bitsAt s.tstatReg 63 6 = 0 := by
  have hplate : (s.thread th).plate % 4 < 4 := Nat.mod_lt _ (by decide)
  simp only [State.tstatReg, hcur]
  generalize (s.thread th).plate % 4 = plate at hplate ⊢
  generalize (s.thread th).post = post
  generalize (s.thread th).ovf = ovf
  generalize (s.thread th).late = late
  generalize (s.thread th).rerun = rerun
  refine ⟨?_, ?_, ?_, ?_, ?_, ?_⟩
  case refine_3 | refine_6 =>
    rw [bitsAt_ofNat _ _ (by split <;> split <;> split <;> split <;> omega)]
    split <;> split <;> split <;> split <;> omega
  all_goals
    rw [getLsbD_ofNat_div (by decide)]
    cases post <;> cases ovf <;> cases late <;> cases rerun <;> simp <;> omega

/-- A task's side: the bits of its slot, which side it is, no handler bit, and its place in its team (R66). -/
theorem State.selfReg_task {s : State} {th : Nat} {side : Side} (hcur : s.cur = .task th side) :
    s.selfReg = BitVec.ofNat 64 (th / 8 / 2048 * 2 ^ 17 + th / 64 % 256 * 2 ^ 9 + th / 8 % 8 * 2 ^ 6 + 0 + th % 8) |||
      BitVec.ofNat 64 ((s.thread th).member % 65536 * 2 ^ 32 + (if (s.thread th).follow.isSome then 1 else 0) * 32 + 0 + (if side = .c then 1 else 0) * 8) := by
  simp only [State.selfReg, hcur]
  cases side <;> rfl

/-- A handler: the bits of its slot with its handler bit apart, and the place of its walk's issuer (R54, R66). -/
theorem State.selfReg_handler {s : State} {core k : Nat} (hcur : s.cur = .handler core k) :
    s.selfReg = (BitVec.ofNat 64 (core / 2048 * 2 ^ 17 + core / 8 % 256 * 2 ^ 9 + core % 8 * 2 ^ 6 + 16 + k) &&& ~~~(16 : Word)) |||
      BitVec.ofNat 64 ((s.memberOf s.cur).member % 65536 * 2 ^ 32 + (if (s.memberOf s.cur).follow then 1 else 0) * 32 + 16 + 8) := by
  simp only [State.selfReg, hcur]
  rfl

/-- The fields of the place of a slot: sheet h, cluster q, core r and slot number t. -/
theorem place_fields {h q r t : Nat} (hh : h < 32) (hq : q < 256) (hr : r < 8) (ht : t < 32) :
    let p : Word := BitVec.ofNat 64 (h * 2 ^ 17 + q * 2 ^ 9 + r * 2 ^ 6 + t)
    bitsAt p 2 0 = t % 8 ∧ p.getLsbD 3 = decide (t / 8 % 2 = 1) ∧ p.getLsbD 4 = decide (t / 16 = 1) ∧ p.getLsbD 5 = false ∧ bitsAt p 8 6 = r ∧
      bitsAt p 16 9 = q ∧ bitsAt p 21 17 = h ∧ bitsAt p 47 32 = 0 ∧ bitsAt p 63 48 = 0 := by
  intro p
  have hrange : h * 2 ^ 17 + q * 2 ^ 9 + r * 2 ^ 6 + t < 2 ^ 64 := by omega
  simp only [p, bitsAt_ofNat _ _ hrange, getLsbD_ofNat_div (show 3 < 64 by decide), getLsbD_ofNat_div (show 4 < 64 by decide),
    getLsbD_ofNat_div (show 5 < 64 by decide), decide_eq_decide, decide_eq_false_iff_not]
  refine ⟨?_, ?_, ?_, ?_, ?_, ?_, ?_, ?_, ?_⟩ <;> omega

/-- The other fields of SELF: the member m, and the bits of a follower, a handler and a C side. -/
theorem self_fields {m f b c : Nat} (hm : m < 2 ^ 16) (hf : f < 2) (hb : b < 2) (hc : c < 2) :
    let w : Word := BitVec.ofNat 64 (m * 2 ^ 32 + f * 32 + b * 16 + c * 8)
    bitsAt w 2 0 = 0 ∧ w.getLsbD 3 = decide (c = 1) ∧ w.getLsbD 4 = decide (b = 1) ∧ w.getLsbD 5 = decide (f = 1) ∧ bitsAt w 8 6 = 0 ∧
      bitsAt w 16 9 = 0 ∧ bitsAt w 21 17 = 0 ∧ bitsAt w 47 32 = m ∧ bitsAt w 63 48 = 0 := by
  intro w
  have hrange : m * 2 ^ 32 + f * 32 + b * 16 + c * 8 < 2 ^ 64 := by omega
  simp only [w, bitsAt_ofNat _ _ hrange, getLsbD_ofNat_div (show 3 < 64 by decide), getLsbD_ofNat_div (show 4 < 64 by decide),
    getLsbD_ofNat_div (show 5 < 64 by decide), decide_eq_decide]
  refine ⟨?_, ?_, ?_, ?_, ?_, ?_, ?_, ?_, ?_⟩ <;> omega

/-- A flag as the model writes it into a field. -/
theorem flag_lt_two (p : Prop) [Decidable p] : (if p then 1 else 0) < 2 := by split <;> decide
theorem flag_eq_one_iff (p : Prop) [Decidable p] : (if p then 1 else 0) = 1 ↔ p := by split <;> simp_all

/-- The fields of SELF in a task (R66). -/
theorem State.selfReg_task_fields {s : State} {th : Nat} {side : Side} (hcur : s.cur = .task th side) (hth : th < 2 ^ 19) :
    bitsAt s.selfReg 2 0 = th % 8 ∧ s.selfReg.getLsbD 3 = decide (side = .c) ∧ s.selfReg.getLsbD 4 = false ∧
      s.selfReg.getLsbD 5 = (s.thread th).follow.isSome ∧ bitsAt s.selfReg 8 6 = th / 8 % 8 ∧ bitsAt s.selfReg 16 9 = th / 64 % 256 ∧
      bitsAt s.selfReg 21 17 = th / 2 ^ 14 ∧ bitsAt s.selfReg 47 32 = (s.thread th).member % 2 ^ 16 ∧ bitsAt s.selfReg 63 48 = 0 := by
  have hself : s.selfReg = BitVec.ofNat 64 (th / 8 / 2048 * 2 ^ 17 + th / 64 % 256 * 2 ^ 9 + th / 8 % 8 * 2 ^ 6 + th % 8) |||
      BitVec.ofNat 64 ((s.thread th).member % 65536 * 2 ^ 32 + (if (s.thread th).follow.isSome then 1 else 0) * 32 + 0 * 16 + (if side = .c then 1 else 0) * 8) := by
    cases hfollow : (s.thread th).follow.isSome <;> cases side <;>
      simp [State.selfReg, hcur, State.memberOf, State.threadOf, Thread.self, addrOf, CtxId.isHandler, CtxId.isA, hfollow]
  obtain ⟨p0, p3, p4, p5, p6, p9, p17, p32, p48⟩ := place_fields (h := th / 8 / 2048) (q := th / 64 % 256) (r := th / 8 % 8) (t := th % 8)
    (by omega) (by omega) (by omega) (by omega)
  obtain ⟨w0, w3, w4, w5, w6, w9, w17, w32, w48⟩ := self_fields (m := (s.thread th).member % 65536) (b := 0) (Nat.mod_lt _ (by decide))
    (flag_lt_two ((s.thread th).follow.isSome = true)) (by decide) (flag_lt_two (side = .c))
  simp only [hself, bitsAt_or, BitVec.getLsbD_or, p0, p3, p4, p5, p6, p9, p17, p32, p48, w0, w3, w4, w5, w6, w9, w17, w32, w48, flag_eq_one_iff,
    Nat.or_zero, Nat.zero_or, Bool.false_or, Bool.decide_eq_true, true_and, and_true]
  refine ⟨by omega, ?_, ?_, by omega, rfl⟩
  · have h3 : ¬ th % 8 / 8 % 2 = 1 := by omega
    simp only [h3, decide_false, Bool.false_or]
  · have h4 : ¬ th % 8 / 16 = 1 := by omega
    simp [h4]

/-- The fields of SELF in a handler (R54, R66). -/
theorem State.selfReg_handler_fields {s : State} {core k : Nat} (hcur : s.cur = .handler core k) (hcore : core < 2 ^ 16) (hk : k < 2) :
    bitsAt s.selfReg 2 0 = k ∧ s.selfReg.getLsbD 3 = true ∧ s.selfReg.getLsbD 4 = true ∧ bitsAt s.selfReg 8 6 = core % 8 ∧
      bitsAt s.selfReg 16 9 = core / 8 % 256 ∧ bitsAt s.selfReg 21 17 = core / 2048 := by
  have hself : s.selfReg = (BitVec.ofNat 64 (core / 2048 * 2 ^ 17 + core / 8 % 256 * 2 ^ 9 + core % 8 * 2 ^ 6 + (16 + k)) &&& ~~~(16 : Word)) |||
      BitVec.ofNat 64 ((s.memberOf s.cur).member % 65536 * 2 ^ 32 + (if (s.memberOf s.cur).follow then 1 else 0) * 32 + 1 * 16 + 1 * 8) := by
    simp [State.selfReg, hcur, addrOf, CtxId.isHandler, CtxId.isA, Nat.add_assoc]
  obtain ⟨p0, p3, p4, p5, p6, p9, p17, p32, p48⟩ := place_fields (h := core / 2048) (q := core / 8 % 256) (r := core % 8) (t := 16 + k)
    (by omega) (by omega) (by omega) (by omega)
  obtain ⟨w0, w3, w4, w5, w6, w9, w17, w32, w48⟩ := self_fields (m := (s.memberOf s.cur).member % 65536) (b := 1) (c := 1) (Nat.mod_lt _ (by decide))
    (flag_lt_two ((s.memberOf s.cur).follow = true)) (by decide) (by decide)
  have hmask : bitsAt (~~~(16 : Word)) 2 0 = 2 ^ 3 - 1 ∧ bitsAt (~~~(16 : Word)) 8 6 = 2 ^ 3 - 1 ∧ bitsAt (~~~(16 : Word)) 16 9 = 2 ^ 8 - 1 ∧
      bitsAt (~~~(16 : Word)) 21 17 = 2 ^ 5 - 1 := by decide
  obtain ⟨m0, m6, m9, m17⟩ := hmask
  simp only [hself, bitsAt_or, BitVec.getLsbD_or, bitsAt_and_of_ones m0, bitsAt_and_of_ones m6, bitsAt_and_of_ones m9, bitsAt_and_of_ones m17,
    p0, p6, p9, p17, w0, w3, w4, w6, w9, w17, Nat.or_zero, decide_true, Bool.or_true, and_true]
  omega

/-! ### What CWR writes (R62, R63, R67) -/

/-- The shapes that the model takes are those that R61 admits. -/
theorem shapeOk_iff (v : Word) : shapeOk v = true ↔ legalShape v := by
  rw [shapeOk, decide_eq_true_iff]
  rfl

/-- The registers that a task cannot write at all (R62). -/
def readOnlyControls : List Nat := [0x000, 0x004, 0x008, 0x010, 0x012]

theorem mem_readOnlyControls {n : Nat} : n ∈ readOnlyControls ↔ n = 0 ∨ n = 4 ∨ n = 8 ∨ n = 0x10 ∨ n = 0x12 := by simp [readOnlyControls]

/-- Below PRIO's check, a value without reserved bits raises no cause. -/
theorem State.controlFault_eq_none {n : Nat} {v : Word} (s : State) (hreadOnly : n ∉ readOnlyControls) (hshape : n ≠ 3) (hprio : n ≠ 0x11)
    (hreserved : v &&& controlReserved n = 0) (hround : n = 2 → v.toNat % 8 < 6) : s.controlFault n v = none := by
  rw [mem_readOnlyControls] at hreadOnly
  have hround' : ¬ (n = 2 ∧ 6 ≤ v.toNat % 8) := fun ⟨h2, h6⟩ => Nat.not_lt.2 h6 (hround h2)
  simp only [State.controlFault, hreadOnly, hshape, hprio, hreserved, hround', ne_eq, not_true_eq_false, false_and, or_self, if_false]

/-- A reserved bit of a register raises 0x01. -/
theorem State.controlFault_reserved {n : Nat} {v : Word} (s : State) (hreadOnly : n ∉ readOnlyControls) (hshape : n ≠ 3)
    (hreserved : v &&& controlReserved n ≠ 0 ∨ (n = 2 ∧ 6 ≤ v.toNat % 8)) : s.controlFault n v = some 0x01 := by
  rw [mem_readOnlyControls] at hreadOnly
  simp only [State.controlFault, hreadOnly, hshape, hreserved, if_false, if_true]

theorem and_roundReserved (v : Word) : v &&& controlReserved 0x002 = 0 ↔ v.toNat < 8 := and_not_ones_eq_zero_iff v 3
theorem and_mconsReserved (v : Word) : v &&& controlReserved 0x005 = 0 ↔ v.toNat < 2 ^ 30 := and_not_ones_eq_zero_iff v 30
theorem and_repcntReserved (v : Word) : v &&& controlReserved 0x007 = 0 ↔ v.toNat < 2 ^ 9 := and_not_ones_eq_zero_iff v 9
theorem and_causeReserved (v : Word) : v &&& controlReserved 0x009 = 0 ↔ v.toNat < 2 ^ 10 := and_not_ones_eq_zero_iff v 10
theorem and_prioReserved (v : Word) : v &&& controlReserved 0x011 = 0 ↔ v.toNat < 16 := and_not_ones_eq_zero_iff v 4

/-- A value that a register takes sets no reserved bit and is a rounding mode that R61 assigns. -/
theorem stored_isSome_iff (n : Nat) (v : Word) : (stored n v).isSome = true ↔
    n ∈ [0x001, 0x002, 0x005, 0x006, 0x007, 0x009, 0x00A, 0x00B, 0x00C, 0x00D] ∧ v &&& controlReserved n = 0 ∧ (n = 2 → v.toNat < 6) := by
  unfold stored
  split
  case h_2 =>
    rw [and_roundReserved]
    split <;> simp <;> omega
  case h_3 =>
    rw [and_mconsReserved]
    split <;> simp <;> omega
  case h_5 =>
    rw [and_repcntReserved]
    split <;> simp <;> omega
  case h_6 =>
    rw [and_causeReserved]
    split <;> simp <;> omega
  case h_11 => simp_all
  all_goals simp [controlReserved]

/-- A value that a register takes raises no cause. -/
theorem State.controlFault_of_stored {n : Nat} {v x : Word} (s : State) (h : stored n v = some x) : s.controlFault n v = none := by
  obtain ⟨hn, hreserved, hround⟩ := (stored_isSome_iff n v).1 (by simp [h])
  have hothers : n ∉ readOnlyControls ∧ n ≠ 3 ∧ n ≠ 0x11 := by
    simp only [List.mem_cons, List.not_mem_nil, or_false] at hn
    rw [mem_readOnlyControls]; omega
  obtain ⟨hreadOnly, hshape, hprio⟩ := hothers
  exact s.controlFault_eq_none hreadOnly hshape hprio hreserved (fun h2 => by have := hround h2; omega)

/-- A value that one of these registers does not take sets a reserved bit, or is a rounding mode that R61 reserves. -/
theorem State.controlFault_of_not_stored {n : Nat} {v : Word} (s : State) (hn : n ∈ [0x002, 0x005, 0x007, 0x009]) (h : stored n v = none) :
    s.controlFault n v = some 0x01 := by
  have hnot := (stored_isSome_iff n v).not.1 (by simp [h])
  simp only [List.mem_cons, List.not_mem_nil, or_false] at hn hnot
  have hothers : n ∉ readOnlyControls ∧ n ≠ 3 := by rw [mem_readOnlyControls]; omega
  obtain ⟨hreadOnly, hshape⟩ := hothers
  refine s.controlFault_reserved hreadOnly hshape ?_
  by_cases hreserved : v &&& controlReserved n = 0
  · right
    rcases hn with rfl | hn
    · have := (and_roundReserved v).1 hreserved
      have hmode : ¬ v.toNat < 6 := fun hlt => hnot ⟨by simp, hreserved, fun _ => hlt⟩
      exact ⟨rfl, by omega⟩
    · exact absurd ⟨by omega, hreserved, by omega⟩ hnot
  · exact .inl hreserved

/-- The registers that a context holds itself (R62). -/
def Ctx.controlField (n : Nat) (k : Ctx) : Option Word :=
  match n with
  | 0x001 => some k.seed
  | 0x002 => some k.round
  | 0x003 => some k.vshape
  | 0x005 => some k.mcons
  | 0x006 => some k.scanout
  | 0x007 => some k.repcnt
  | 0x009 => some k.cause
  | 0x00D => some k.faultva
  | _ => none

theorem State.controlRead_of_field {s : State} {n : Nat} {x : Word} (h : s.ctx.controlField n = some x) : s.controlRead n = x := by
  unfold Ctx.controlField at h
  split at h <;> cases h <;> rfl

theorem State.controlRead_upd_other {s : State} {f : Ctx → Ctx} {n : Nat} (h : s.ctx.controlField n = none) : (s.upd f).controlRead n = s.controlRead n := by
  unfold State.controlRead
  split
  case h_2 | h_3 | h_4 | h_6 | h_7 | h_8 | h_10 | h_14 => nomatch h
  all_goals rfl

/-- A write of a context that leaves a register's field leaves what CRD reads of it. -/
theorem State.controlRead_upd {s : State} {f : Ctx → Ctx} {n : Nat} (h : (f s.ctx).controlField n = s.ctx.controlField n) :
    (s.upd f).controlRead n = s.controlRead n := by
  cases hx : s.ctx.controlField n with
  | none => exact State.controlRead_upd_other hx
  | some x => rw [State.controlRead_of_field hx, State.controlRead_of_field (by rw [State.ctx_upd, h, hx])]

/-- The registers for traps, which a write of a task leaves in its thread (R62, R360). -/
def Thread.withTraps (epca epcc utvec : Word) (t : Thread) : Thread := { t with epca := epca, epcc := epcc, utvec := utvec }

/-- A write of a thread's registers for traps leaves what CRD reads of every other register. -/
theorem State.controlRead_withTraps {s : State} {th : Nat} {side : Side} (hcur : s.cur = .task th side) {n : Nat} (hn : n ∉ [0x00A, 0x00B, 0x00C])
    (epca epcc utvec : Word) : (s.mapThread th (Thread.withTraps epca epcc utvec)).controlRead n = s.controlRead n := by
  have hthread : (s.mapThread th (Thread.withTraps epca epcc utvec)).thread th = Thread.withTraps epca epcc utvec (s.thread th) := by
    rw [State.thread_mapThread, if_pos rfl]
  have hcur' : (s.mapThread th (Thread.withTraps epca epcc utvec)).cur = .task th side := hcur
  unfold State.controlRead
  split
  case h_11 | h_12 | h_13 => simp at hn
  case h_5 => simp only [State.allotReg, hcur, hcur', hthread, Thread.withTraps]
  case h_9 => simp only [State.tstatReg, hcur, hcur', hthread, Thread.withTraps]
  case h_15 =>
    have hmember : (s.mapThread th (Thread.withTraps epca epcc utvec)).memberOf (.task th side) = s.memberOf (.task th side) := by
      change ((s.mapThread th (Thread.withTraps epca epcc utvec)).thread th).self = (s.thread th).self
      rw [hthread]; rfl
    unfold State.selfReg
    rw [hcur, hcur']
    dsimp only
    rw [hmember]
  case h_16 | h_17 => simp only [State.threadReg, hcur, hcur', hthread, Thread.withTraps]
  all_goals rfl

theorem State.controlRead_epca {s : State} {th : Nat} {side : Side} (hcur : s.cur = .task th side) : s.controlRead 0x00A = (s.thread th).epca :=
  State.controlRead_threadRegister hcur rfl
theorem State.controlRead_epcc {s : State} {th : Nat} {side : Side} (hcur : s.cur = .task th side) : s.controlRead 0x00B = (s.thread th).epcc :=
  State.controlRead_threadRegister hcur rfl
theorem State.controlRead_utvec {s : State} {th : Nat} {side : Side} (hcur : s.cur = .task th side) : s.controlRead 0x00C = (s.thread th).utvec :=
  State.controlRead_threadRegister hcur rfl

/-- A write of one of the registers for traps: that register is written, and CRD reads every other one as before. -/
theorem State.controlRead_mapThread_withTraps {s : State} {th : Nat} {side : Side} (hcur : s.cur = .task th side) (epca epcc utvec : Word) (n : Nat) :
    (s.mapThread th (Thread.withTraps epca epcc utvec)).controlRead n =
      if n = 0x00A then epca else if n = 0x00B then epcc else if n = 0x00C then utvec else s.controlRead n := by
  have hthread : (s.mapThread th (Thread.withTraps epca epcc utvec)).thread th = Thread.withTraps epca epcc utvec (s.thread th) := by
    rw [State.thread_mapThread, if_pos rfl]
  have hcur' : (s.mapThread th (Thread.withTraps epca epcc utvec)).cur = .task th side := hcur
  by_cases hA : n = 0x00A
  · rw [if_pos hA, hA, State.controlRead_epca hcur', hthread]; rfl
  by_cases hB : n = 0x00B
  · rw [if_neg hA, if_pos hB, hB, State.controlRead_epcc hcur', hthread]; rfl
  by_cases hC : n = 0x00C
  · rw [if_neg hA, if_neg hB, if_pos hC, hC, State.controlRead_utvec hcur', hthread]; rfl
  · rw [if_neg hA, if_neg hB, if_neg hC, State.controlRead_withTraps hcur (by simp [hA, hB, hC])]

/-- What a write that passes the checks leaves: the register reads as the value it takes, every other one as before, and the registers, predicates and vectors of
the context stay. -/
def State.wroteControl (n : Nat) (x : Word) (s r : State) : Prop :=
  r.controlRead n = x ∧ (∀ m, m ≠ n → r.controlRead m = s.controlRead m) ∧ r.ctx.x = s.ctx.x ∧ r.ctx.p = s.ctx.p ∧ r.ctx.v = s.ctx.v ∧
    r = { s with ctxs := r.ctxs, threads := r.threads }

theorem State.wroteControl_upd {s : State} {f : Ctx → Ctx} {n : Nat} {x : Word} (hfield : (f s.ctx).controlField n = some x)
    (hothers : ∀ m, m ≠ n → (f s.ctx).controlField m = s.ctx.controlField m) (hx : (f s.ctx).x = s.ctx.x) (hp : (f s.ctx).p = s.ctx.p)
    (hv : (f s.ctx).v = s.ctx.v) : s.wroteControl n x (s.upd f) :=
  ⟨State.controlRead_of_field (by rw [State.ctx_upd, hfield]), fun m hm => State.controlRead_upd (hothers m hm), by rw [State.ctx_upd, hx],
    by rw [State.ctx_upd, hp], by rw [State.ctx_upd, hv], rfl⟩


/-- A context with one of its control registers written. -/
def Ctx.writeControl (n : Nat) (x : Word) (k : Ctx) : Ctx :=
  match n with
  | 0x001 => { k with seed := x }
  | 0x002 => { k with round := x }
  | 0x005 => { k with mcons := x }
  | 0x006 => { k with scanout := x }
  | 0x007 => { k with repcnt := x }
  | 0x009 => { k with cause := x }
  | 0x00D => { k with faultva := x }
  | _ => k

/-- The rest of the context stays where one of its control registers is written. -/
theorem State.wroteControl_writeControl {s : State} {n : Nat} {x : Word} (hn : n ∈ [0x001, 0x002, 0x005, 0x006, 0x007, 0x009, 0x00D]) :
    s.wroteControl n x (s.upd (Ctx.writeControl n x)) := by
  simp only [List.mem_cons, List.not_mem_nil, or_false] at hn
  rcases hn with rfl | rfl | rfl | rfl | rfl | rfl | rfl
  all_goals
    refine State.wroteControl_upd rfl (fun m hm => ?_) rfl rfl rfl
    unfold Ctx.controlField
    split <;> simp [Ctx.writeControl] at hm ⊢

theorem State.controlWrite_epca {s : State} {th : Nat} {side : Side} (hcur : s.cur = .task th side) (v : Word) :
    s.controlWrite 0x00A v = s.mapThread th (Thread.withTraps (v &&& ~~~3) (s.thread th).epcc (s.thread th).utvec) := by
  simp only [State.controlWrite, State.setThreadReg, hcur]; rfl
theorem State.controlWrite_epcc {s : State} {th : Nat} {side : Side} (hcur : s.cur = .task th side) (v : Word) :
    s.controlWrite 0x00B v = s.mapThread th (Thread.withTraps (s.thread th).epca (v &&& ~~~3) (s.thread th).utvec) := by
  simp only [State.controlWrite, State.setThreadReg, hcur]; rfl
theorem State.controlWrite_utvec {s : State} {th : Nat} {side : Side} (hcur : s.cur = .task th side) (v : Word) :
    s.controlWrite 0x00C v = s.mapThread th (Thread.withTraps (s.thread th).epca (s.thread th).epcc (v &&& ~~~3)) := by
  simp only [State.controlWrite, State.setThreadReg, hcur]; rfl

/-- A write of one register for traps that leaves the two others. -/
theorem State.wroteControl_withTraps {s : State} {th : Nat} {side : Side} (hcur : s.cur = .task th side) {n : Nat} {x epca epcc utvec : Word}
    (hn : (s.mapThread th (Thread.withTraps epca epcc utvec)).controlRead n = x) (hA : n = 0x00A ∨ epca = (s.thread th).epca)
    (hB : n = 0x00B ∨ epcc = (s.thread th).epcc) (hC : n = 0x00C ∨ utvec = (s.thread th).utvec) :
    s.wroteControl n x (s.mapThread th (Thread.withTraps epca epcc utvec)) := by
  refine ⟨hn, fun m hm => ?_, rfl, rfl, rfl, rfl⟩
  rw [State.controlRead_mapThread_withTraps hcur]
  split
  · next h => subst h; rw [hA.resolve_left (Ne.symm hm), State.controlRead_epca hcur]
  · split
    · next h => subst h; rw [hB.resolve_left (Ne.symm hm), State.controlRead_epcc hcur]
    · split
      · next h => subst h; rw [hC.resolve_left (Ne.symm hm), State.controlRead_utvec hcur]
      · rfl

/-- A write of a value that the register takes leaves that value, and nothing else changes that CRD reads. -/
theorem State.wroteControl_of_stored {s : State} {th : Nat} {side : Side} {n : Nat} {v x : Word} (hcur : s.cur = .task th side) (h : stored n v = some x) :
    s.wroteControl n x (s.controlWrite n v) := by
  unfold stored at h
  split at h
  case h_1 | h_4 | h_10 => cases h; exact State.wroteControl_writeControl (by simp)
  case h_2 | h_3 | h_5 | h_6 =>
    split at h
    · cases h; exact State.wroteControl_writeControl (by simp)
    · nomatch h
  case h_7 =>
    cases h; rw [State.controlWrite_epca hcur]
    exact State.wroteControl_withTraps hcur (by rw [State.controlRead_mapThread_withTraps hcur]; rfl) (.inl rfl) (.inr rfl) (.inr rfl)
  case h_8 =>
    cases h; rw [State.controlWrite_epcc hcur]
    exact State.wroteControl_withTraps hcur (by rw [State.controlRead_mapThread_withTraps hcur]; rfl) (.inr rfl) (.inl rfl) (.inr rfl)
  case h_9 =>
    cases h; rw [State.controlWrite_utvec hcur]
    exact State.wroteControl_withTraps hcur (by rw [State.controlRead_mapThread_withTraps hcur]; rfl) (.inr rfl) (.inr rfl) (.inl rfl)
  case h_11 => nomatch h

/-! ### The issue of CWR (R63, R123) -/

section
variable {s : State} {g : Guard} {a : BitVec 5} {c : BitVec 10} {th : Nat} {side : Side}

theorem State.numberFault_task (hcur : s.cur = .task th side) {n : Nat} (h : n ∉ readOnlyControls) : s.numberFault n = none := by
  rw [mem_readOnlyControls] at h
  simp only [State.numberFault, h, hcur, if_false, ite_self]

theorem exec_cwr_writes (hguard : s.selected g = true) (hissues : Issues (.cwr g a c) s) (hcur : s.cur = .task th side) (hn : c.toNat ∉ readOnlyControls)
    (hfault : s.controlFault c.toNat (s.reg a) = none) : exec (.cwr g a c) s = done (s.controlWrite c.toNat (s.reg a)) := by
  rw [exec_cwr, execCwr, issue_of_issues hissues]
  simp [State.numberFault_task hcur hn, hguard, hcur, hfault]

theorem exec_cwr_raises {e : Nat} (hguard : s.selected g = true) (hissues : Issues (.cwr g a c) s) (hcur : s.cur = .task th side)
    (hn : c.toNat ∉ readOnlyControls) (hfault : s.controlFault c.toNat (s.reg a) = some e) : exec (.cwr g a c) s = raise0 e s := by
  rw [exec_cwr, execCwr, issue_of_issues hissues]
  simp [State.numberFault_task hcur hn, hguard, hcur, hfault]

end

theorem State.controlFault_vshape (s : State) (v : Word) : s.controlFault 0x003 v = if shapeOk v then none else some 0x1B := by
  simp [State.controlFault]

/-- PRIO takes four bits, at most its present value (R67). -/
theorem State.controlFault_prio {s : State} {th : Nat} {side : Side} (hcur : s.cur = .task th side) (hprio : (s.thread th).prio < 16) (v : Word) :
    s.controlFault 0x011 v = if 16 ≤ v.toNat then some 0x01 else if (s.thread th).prio < v.toNat then some 0x08 else none := by
  have hread : (s.controlRead 0x011).toNat = (s.thread th).prio := by
    rw [State.controlRead_threadRegister hcur rfl, BitVec.toNat_ofNat]; omega
  by_cases hv : v.toNat < 16
  · have hnv : ¬ 16 ≤ v.toNat := by omega
    simp [State.controlFault, (and_prioReserved v).2 hv, hread, hnv]
  · have hreserved : v &&& controlReserved 0x011 ≠ 0 := (and_prioReserved v).not.2 hv
    rw [if_pos (by omega)]
    exact s.controlFault_reserved (by decide) (by decide) (.inl hreserved)

theorem State.controlWrite_prio {s : State} {th : Nat} {side : Side} (hcur : s.cur = .task th side) (v : Word) :
    s.controlWrite 0x011 v = s.mapThread th (fun t => { t with prio := v.toNat }) := by
  simp only [State.controlWrite, State.setThreadReg, hcur]

end Sys2Proof.Machine

namespace Sys2Proof.Proofs
open Sys2Proof.Machine Sys2Proof.Claims

/-- CRD reads the registers of a side, of a thread and of the module (R62, R65, R66, R123). -/
theorem controlRegistersAreRead : Claims.ControlRegistersAreRead := by
  intro s g d c hguard hissues hcur
  rw [exec_crd_reads hguard hissues hcur]
  refine ⟨fun v hv => ?_, fun th side v hth hv => ?_, fun th side hth hc => ?_, fun core k hco hc => ?_, fun th side hth hc => ?_,
    fun th side hth hrange hc => ?_, fun core k hco hcore hk hc => ?_⟩
  · rw [State.controlRead_sideRegister s hv]
    exact completes_done _
  · rw [State.controlRead_threadRegister hth hv]
    exact completes_done _
  · rw [hc, State.controlRead_allot, State.allotReg, hth]
    exact completes_done _
  · rw [hc, State.controlRead_allot, State.allotReg, hco]
    exact completes_done _
  · rw [hc, State.controlRead_tstat]
    exact ⟨_, completes_done _, State.tstatReg_fields hth⟩
  · rw [hc, State.controlRead_self]
    exact ⟨_, completes_done _, State.selfReg_task_fields hth hrange⟩
  · rw [hc, State.controlRead_self]
    exact ⟨_, completes_done _, State.selfReg_handler_fields hco hcore hk⟩

/-- CWR writes what a register takes, and raises the cause of what it does not (R61 to R63, R67, R123). -/
theorem controlRegistersTakeLegalValues : Claims.ControlRegistersTakeLegalValues := by
  intro s g a c th side hguard hissues hcur hprio n v
  have hwrites := exec_cwr_writes hguard hissues hcur
  have hraises := fun e => exec_cwr_raises (e := e) hguard hissues hcur
  have hshape : n = 0x003 → c.toNat ∉ readOnlyControls ∧ s.controlFault c.toNat v = if shapeOk v then none else some 0x1B := fun hn =>
    have hc : c.toNat = 0x003 := hn
    ⟨by rw [hc]; decide, by rw [hc]; exact s.controlFault_vshape v⟩
  have hprioFault : n = 0x011 → c.toNat ∉ readOnlyControls ∧
      s.controlFault c.toNat v = if 16 ≤ v.toNat then some 0x01 else if (s.thread th).prio < v.toNat then some 0x08 else none := fun hn =>
    have hc : c.toNat = 0x011 := hn
    ⟨by rw [hc]; decide, by rw [hc]; exact State.controlFault_prio hcur hprio v⟩
  refine ⟨fun x hx => ?_, fun hn hlegal => ?_, fun hn hillegal => ?_, fun hn hv hle => ?_, fun hn hv hlt => ?_, fun hn => ?_, fun hn hnone => ?_, fun hn hv => ?_⟩
  · obtain ⟨hread, hothers, hframe⟩ := State.wroteControl_of_stored hcur hx
    have hmem := ((stored_isSome_iff n v).1 (by simp [hx])).1
    have hnot : c.toNat ∉ readOnlyControls := by
      rw [mem_readOnlyControls]; simp only [List.mem_cons, List.not_mem_nil, or_false] at hmem; omega
    rw [hwrites hnot (s.controlFault_of_stored hx)]
    exact ⟨_, completes_done _, hread, fun m _ hm => hothers m hm, hframe⟩
  · obtain ⟨hnot, hfault⟩ := hshape hn
    rw [hwrites hnot (by rw [hfault, if_pos ((shapeOk_iff v).2 hlegal)]), show c.toNat = 0x003 from hn]
    exact completes_done _
  · obtain ⟨hnot, hfault⟩ := hshape hn
    exact hraises _ hnot (by rw [hfault, if_neg ((shapeOk_iff v).not.2 hillegal)])
  · obtain ⟨hnot, hfault⟩ := hprioFault hn
    rw [hwrites hnot (by rw [hfault, if_neg (by omega), if_neg (by omega)]), show c.toNat = 0x011 from hn, State.controlWrite_prio hcur]
    exact completes_done _
  · obtain ⟨hnot, hfault⟩ := hprioFault hn
    exact hraises _ hnot (by rw [hfault, if_neg (by omega), if_pos hlt])
  · exact execCwr_of_numberFault hissues (State.numberFault_readOnly hn)
  · have hnot : c.toNat ∉ readOnlyControls := by
      rw [mem_readOnlyControls]; simp only [List.mem_cons, List.not_mem_nil, or_false] at hn; omega
    exact hraises _ hnot (s.controlFault_of_not_stored hn hnone)
  · obtain ⟨hnot, hfault⟩ := hprioFault hn
    exact hraises _ hnot (by rw [hfault, if_pos hv])

/-- Settles O18, from what CRD reads of each register and what a write of each leaves. -/
theorem controlRegistersAreReadAndWritten : Obligations.ControlRegistersAreReadAndWritten :=
  ⟨controlRegistersAreRead, controlRegistersTakeLegalValues⟩

end Sys2Proof.Proofs

/-! # Transfers and the control group (O15) -/

namespace Sys2Proof.Machine
open Sys2Proof.Claims

/-! ### Control transfers (R73, R111, R112) -/

/-- A taken transfer goes to its target, and in a follower to the next word. -/
theorem completesAt_jumpTo (t : Word) (r : State) : CompletesAt (if r.isFollower then r.ctx.pc + 4 else t) r (r.jumpTo t) := by
  unfold State.jumpTo
  split
  · exact completes_done r
  · exact completesAt_retireTo t r

@[simp] theorem State.isFollower_setReg (s : State) (d : BitVec 5) (v : Word) : (s.setReg d v).isFollower = s.isFollower := rfl

theorem State.pc_setReg (s : State) (d : BitVec 5) (v : Word) : (s.setReg d v).ctx.pc = s.ctx.pc := by
  rw [State.ctx_setReg, Ctx.setReg_frame]

/-- A taken transfer that writes the link. -/
theorem completesAt_jumpTo_link (t : Word) (s : State) :
    CompletesAt (if s.isFollower then s.ctx.pc + 4 else t) (s.setReg 31 (s.ctx.pc + 4)) ((s.setReg 31 (s.ctx.pc + 4)).jumpTo t) := by
  have h := completesAt_jumpTo t (s.setReg 31 (s.ctx.pc + 4))
  rwa [State.isFollower_setReg, State.pc_setReg] at h

theorem State.jumpTarget_eq (s : State) (o : BitVec 20) : s.jumpTarget o = s.ctx.pc + o.signExtend 64 * 4 := by
  rw [State.jumpTarget, signExt_ofNat o (by decide) (by decide)]

section
variable {s : State} {g : Guard} {o : BitVec 20} {a : BitVec 5} (hguard : s.selected g = true)
include hguard

theorem exec_jump_selected (h : Issues (.jump g o) s) : exec (.jump g o) s = s.jumpTo (s.ctx.pc + o.signExtend 64 * 4) := by
  rw [exec_jump, execJump, issueScalar_of_issues h hguard, State.jumpTarget_eq]

theorem exec_jumpLink_selected (h : Issues (.jumpLink g o) s) :
    exec (.jumpLink g o) s = (s.setReg 31 (s.ctx.pc + 4)).jumpTo (s.ctx.pc + o.signExtend 64 * 4) := by
  rw [exec_jumpLink, execJumpLink, issueScalar_of_issues h hguard, State.jumpTarget_eq]

theorem exec_jumpReg_selected (h : Issues (.jumpReg g a) s) :
    exec (.jumpReg g a) s = if (s.reg a).toNat % 4 ≠ 0 ∧ s.isFollower = false then raise 5 (s.reg a) s else s.jumpTo (s.reg a) := by
  rw [exec_jumpReg, execJumpReg, issueScalar_of_issues h hguard]

theorem exec_jumpLinkReg_selected (h : Issues (.jumpLinkReg g a) s) :
    exec (.jumpLinkReg g a) s =
      if (s.reg a).toNat % 4 ≠ 0 ∧ s.isFollower = false then raise 5 (s.reg a) s else (s.setReg 31 (s.ctx.pc + 4)).jumpTo (s.reg a) := by
  rw [exec_jumpLinkReg, execJumpLinkReg, issueScalar_of_issues h hguard]

end

/-! ### The commit of a task (R115) -/

theorem State.commit_task {s : State} {th : Nat} {side : Side} (hcur : s.cur = .task th side) : s.commit = s.commitThread th := by
  rw [State.commit, hcur]

theorem State.commitThread_of_post {s : State} {th : Nat} (h : (s.thread th).post = true) : s.commitThread th = s := by
  rw [State.commitThread]; exact if_pos h

@[simp] theorem State.thread_mapCtx (s : State) (c : CtxId) (f : Ctx → Ctx) (th : Nat) : (s.mapCtx c f).thread th = s.thread th := rfl

/-- A commit leaves its task after commit and its log empty. -/
theorem State.commitThread_pre {s : State} {th : Nat} (h : (s.thread th).post = false) :
    ((s.commitThread th).thread th).post = true ∧ ((s.commitThread th).thread th).soLog = [] := by
  have hpost : ¬ (s.thread th).post = true := by simp [h]
  rw [State.commitThread, if_neg hpost]
  simp only [State.thread_mapCtx, State.thread_mapThread, if_true, and_self]

theorem State.post_commitThread (s : State) (th : Nat) : ((s.commitThread th).thread th).post = true := by
  cases h : (s.thread th).post with
  | true => rw [State.commitThread_of_post h, h]
  | false => exact (State.commitThread_pre h).1

/-! ### What the completion of a word leaves (R72, R82) -/

theorem State.retireTo_frame (pc : Word) (s : State) : s.retireTo pc = { s with ctxs := (s.retireTo pc).ctxs } := by
  obtain ⟨t, ht, hframe, -⟩ := completesAt_retireTo pc s
  rwa [← Host.Outcome.next.inj ht] at hframe

theorem State.retire_frame (s : State) : s.retire = { s with ctxs := s.retire.ctxs } := s.retireTo_frame _

theorem State.retire_ctx (s : State) : s.retire.ctx.held = s.ctx.held ∧ s.retire.ctx.pc = if s.repeats then s.ctx.pc else s.ctx.pc + 4 := by
  obtain ⟨t, ht, -, hheld, -, -, -, hpc⟩ := completes_done s
  have hretire : s.retire = t := Host.Outcome.next.inj ht
  rw [hretire]
  exact ⟨hheld, hpc⟩

theorem State.retire_ctxOf_other (s : State) {c : CtxId} (hc : c ≠ s.cur) : (s.retire.ctxOf c).unhopped = (s.ctxOf c).unhopped := by
  obtain ⟨t, ht, -, -, hothers, -⟩ := completes_done s
  have hretire : s.retire = t := Host.Outcome.next.inj ht
  rw [hretire]
  exact hothers c hc

theorem Ctx.x_of_held {k k' : Ctx} (h : k.held = k'.held) : k.x = k'.x := by
  have hx := congrArg Ctx.x h
  exact hx

theorem State.threadId_task {s : State} {th : Nat} {side : Side} (hcur : s.cur = .task th side) : s.threadId = th := by
  simp only [State.threadId, State.threadOf, hcur]

/-! ### YIELD and PARK (R117, R118) -/

section
variable {s : State} {g : Guard} {th : Nat} {side : Side} (hguard : s.selected g = true) (hcur : s.cur = .task th side)
include hguard hcur

/-- A YIELD records itself and the other contexts of its front end that are ready. -/
theorem exec_yield_selected (h : Issues (.yield g) s) :
    exec (.yield g) s =
      .next (s.retire.upd (fun k => { k with yielded := s.cur :: (frontCtxs (coreOfThread th) side).filter (fun c => c ≠ s.cur && s.ready c) })) := by
  have hcore : s.coreId = coreOfThread th := by rw [State.coreId, hcur]
  have hside : (if s.cur.isA then Side.a else Side.c) = side := by rw [hcur]; cases side <;> rfl
  rw [exec_yield, execYield, issueScalar_of_issues h hguard]
  simp only [hcore, hside]

theorem exec_park_awake (h : Issues (.park g) s) (hwake : (s.thread th).wake = true) :
    exec (.park g) s = done (s.mapThread th (fun t => { t with wake := false })) := by
  have hth := State.threadId_task hcur
  rw [exec_park, execPark, issueScalar_of_issues h hguard, hth, if_pos hwake]

theorem exec_park_asleep (h : Issues (.park g) s) (hwake : (s.thread th).wake = false) : exec (.park g) s = .next (s.block (sync 7 0 .wake)) := by
  have hth := State.threadId_task hcur
  rw [exec_park, execPark, issueScalar_of_issues h hguard, hth, if_neg (by simp [hwake])]

end

/-! ### END and HRET (R116, R121) -/

section
variable {s : State} {g : Guard} (hguard : s.selected g = true)
include hguard

theorem exec_endTask_a {th : Nat} (hcur : s.cur = .task th .a) (h : Issues (.endTask g) s) :
    exec (.endTask g) s = .next (s.retire.mapCtx (.task th .a) (fun k => { k.startClose with run := .ended, hop := [] })) := by
  rw [exec_endTask, execEndTask, issueScalar_of_issues h hguard]
  simp only [hcur]

theorem exec_endTask_c {th : Nat} (hcur : s.cur = .task th .c) (h : Issues (.endTask g) s) :
    exec (.endTask g) s = .next (((s.commitThread th).retire.mapThread th (fun t => { t with st := .ending })).mapCtx (.task th .c)
      (fun k => { k.startClose with run := .ended, hop := [], wait := some (sync 8 0 .endWaits) })) := by
  rw [exec_endTask, execEndTask, issueScalar_of_issues h hguard]
  simp only [hcur]

theorem exec_hret_handler {core k : Nat} (hcur : s.cur = .handler core k) (h : Issues (.hret g) s) : exec (.hret g) s = .next (s.endHandler core k false) := by
  rw [exec_hret, execHret, issueScalar_of_issues h hguard]
  simp only [hcur]

end

/-- The handler has left its context, which is free (R121). -/
def State.leftHandler (core k : Nat) (s : State) : State :=
  ({ s with handlers := s.handlers.del (core, k) } : State).mapCtx (.handler core k) (fun k => { Ctx.init with run := .idle, ackRecord := k.ackRecord })

theorem State.run_leftHandler (s : State) (core k : Nat) : ((s.leftHandler core k).ctxOf (.handler core k)).run = .idle := by
  rw [State.leftHandler, State.ctxOf_mapCtx_same]

/-- A state differs from another in clusters and cores alone. -/
def State.onlyWalks (s t : State) : Prop := t = { s with clusters := t.clusters, cores := t.cores }

theorem State.onlyWalks_trans {r s t : State} (h1 : r.onlyWalks s) (h2 : s.onlyWalks t) : r.onlyWalks t := by
  unfold State.onlyWalks at *
  rw [h1] at h2; exact h2

theorem State.onlyWalks_setWalk (s : State) (cl job : Nat) (j : WalkJob) : s.onlyWalks (s.setWalk cl job j) := rfl

theorem State.onlyWalks_mirror_or_not (s : State) (p : Prop) [Decidable p] (j : WalkJob) (row : Nat) : s.onlyWalks (if p then s else s.mirror j row) := by
  unfold State.onlyWalks
  split
  · rfl
  · rw [s.mirror_frame]

/-- What stays as it is behind the end of a handler: only clusters and local memories change, by its row. -/
theorem State.endHandler_frame {s : State} {core k : Nat} {h : Handler} (hh : s.handlers.get? (core, k) = some h) (faulted : Bool) :
    (s.leftHandler core k).onlyWalks (s.endHandler core k faulted) := by
  unfold State.endHandler
  simp only [hh]
  split
  · rfl
  · split
    · rfl
    · exact State.onlyWalks_trans (State.onlyWalks_setWalk _ _ _ _) (State.onlyWalks_mirror_or_not _ _ _ _)

theorem State.walk?_mirror (s : State) (j : WalkJob) (row cl job : Nat) : (s.mirror j row).walk? cl job = s.walk? cl job := by
  rw [s.mirror_frame]; rfl

theorem State.walk?_mapCtx (s : State) (c : CtxId) (f : Ctx → Ctx) (cl job : Nat) : (s.mapCtx c f).walk? cl job = s.walk? cl job := rfl
theorem State.walk?_withHandlers (s : State) (hs : Map (Nat × Nat) Handler) (cl job : Nat) : ({ s with handlers := hs } : State).walk? cl job = s.walk? cl job := rfl

/-- The end of the last handler of a row that no handler has faulted drains the row (R121). -/
theorem State.endHandler_row {s : State} {core k : Nat} {h : Handler} {j : WalkJob} {r : WalkRow} (hh : s.handlers.get? (core, k) = some h)
    (hj : s.walk? h.cl h.job = some j) (hr : j.rows[h.row]? = some r) (hdone : ∀ n < j.descs.length, n = h.slice ∨ n ∈ r.hdone) (hst : r.st = 0) :
    (((s.endHandler core k false).walk? h.cl h.job).bind (fun j => j.rows[h.row]?)).map WalkRow.st = some 1 := by
  obtain ⟨hrow, hrowEq⟩ := List.getElem?_eq_some_iff.1 hr
  have hgone : (List.range j.descs.length).filter
      (fun k => (r.hdone ++ [h.slice]).contains k || (false || r.st == 2) && !r.hstart.contains k) = List.range j.descs.length := by
    refine List.filter_eq_self.2 fun n hn => ?_
    rcases hdone n (List.mem_range.1 hn) with rfl | hmem
    · simp
    · simp [hmem]
  unfold State.endHandler
  simp only [hh, State.walk?_mapCtx, State.walk?_withHandlers, hj, hr, hgone]
  simp only [List.length_range, hst, decide_true, Bool.false_eq_true, and_self, if_true, if_false, Nat.one_ne_zero, State.walk?_mirror,
    State.walk?_setWalk_same, Option.bind_some, List.getElem?_set_self hrow, Option.map_some]

/-! ### ASTART and AWAIT (R120) -/

/-- The A side of a thread as ASTART leaves it. -/
def Ctx.astarted (entry s1 : Word) (now : Nat) (k : Ctx) : Ctx :=
  { (({ Ctx.init with run := .running, pc := entry, grp := entry, since := now } : Ctx).setReg 1 s1) with hop := k.hop }

/-- The state that ASTART leaves before its own word completes. -/
def State.astarted (th : Nat) (s1 : Word) (s : State) : State :=
  (s.mapThread th (fun t => { t with aStarted := true })).mapCtx (.task th .a) (Ctx.astarted (s.itemOf s.cur).entryA s1 s.cycle.toNat)

theorem State.aStarted_astarted (s : State) (th : Nat) (s1 : Word) : ((s.astarted th s1).thread th).aStarted = true := by
  rw [State.astarted, State.thread_mapCtx, State.thread_mapThread, if_pos rfl]

theorem Ctx.astarted_fields (entry s1 : Word) (now : Nat) (k : Ctx) :
    let a := k.astarted entry s1 now
    a.run = .running ∧ a.pc = entry ∧ a.buf = [] ∧ (∀ r, a.reg r = if r = 1 then s1 else 0) ∧ a.p = Ctx.init.p ∧ a.cause = 0 := by
  refine ⟨rfl, rfl, rfl, fun r => ?_, rfl, rfl⟩
  have hreg : (k.astarted entry s1 now).reg r = (({ Ctx.init with run := .running, pc := entry, grp := entry, since := now } : Ctx).setReg 1 s1).reg r := rfl
  rw [hreg, Ctx.reg_setReg]
  by_cases h : r = 1
  · simp [h]
  · rw [if_neg (fun hr => h hr.1), if_neg h]
    unfold Ctx.reg
    split
    · rfl
    · exact Vector.getElem_replicate _

section
variable {s : State} {g : Guard} {th : Nat} (hguard : s.selected g = true) (hcur : s.cur = .task th .c)
include hguard hcur

theorem exec_astart_starts {a : BitVec 5} (h : Issues (.astart g a) s) (hfirst : (s.thread th).aStarted = false) (hentry : (s.itemOf s.cur).entryA ≠ 0) :
    exec (.astart g a) s = done (s.astarted th (s.reg a)) := by
  have hth := State.threadId_task hcur
  have hcond : ¬ ((s.thread th).aStarted = true ∨ (s.itemOf s.cur).entryA = 0) := not_or.2 ⟨by simp [hfirst], hentry⟩
  rw [exec_astart, execAstart, issueScalar_of_issues h hguard]
  simp only [hth, hcond, if_false]
  rfl

theorem exec_astart_skips {a : BitVec 5} (h : Issues (.astart g a) s) (hskip : (s.thread th).aStarted = true ∨ (s.itemOf s.cur).entryA = 0) :
    exec (.astart g a) s = done s := by
  have hth := State.threadId_task hcur
  rw [exec_astart, execAstart, issueScalar_of_issues h hguard]
  simp only [hth, hskip, if_true]

theorem exec_await_selected (h : Issues (.await g) s) : exec (.await g) s = if s.aIdle th then done s else .next (s.block (sync 8 0 .aIdle)) := by
  rw [exec_await, execAwait, issueScalar_of_issues h hguard, State.threadId_task hcur]

end

/-! ### IFLUSH and ERET (R122, R364) -/

theorem State.writeBackAll_clean {s : State} {core : Nat} (o : Origin) (f : L1Entry → Bool) (h : ∀ e ∈ (s.core core).l1, e.dirty = 0) :
    s.writeBackAll core o f = (true, 0, s) := by
  have hnone : (s.core core).l1.filter (fun e => f e && decide (e.dirty ≠ 0)) = [] := List.filter_eq_nil_iff.2 fun e he => by simp [h e he]
  rw [State.writeBackAll, hnone, List.foldl_nil]

/-- A release with no dirty line and no packet on its way is over at once (R312). -/
theorem State.release_settled {s : State} (scope : Nat) (hclean : ∀ e ∈ (s.core s.coreId).l1, e.dirty = 0) (hnet : s.net = []) (hstage : s.ctx.stage = 0) :
    s.release scope = .ok () (s.upd (fun k => { k with stage := 3 })) := by
  have hunsettled : s.unsettled = [] := by rw [State.unsettled, hnet]; rfl
  have hwrite : ∀ asid, (if 2 ≤ scope then s.writeBackAll s.coreId (.side s.cur) (fun e => e.asid == asid) else (true, 0, s)) = (true, 0, s) := fun asid => by
    rw [State.writeBackAll_clean _ _ hclean, ite_self]
  simp only [State.release, hstage, hwrite, hunsettled, Bool.not_true, Bool.false_eq_true, if_false, show ¬ 3 ≤ 0 by decide,
    OfNat.zero_ne_ofNat]

/-- What holds of the completion on a state holds on another one that differs in how far its word has come. -/
theorem completesAt_of_held {pc : Word} {r r' : State} {o : Out} (h : CompletesAt pc r' o) (hframe : r' = { r with ctxs := r'.ctxs })
    (hheld : r'.ctx.held = r.ctx.held) (hothers : ∀ c, c ≠ r.cur → r'.ctxOf c = r.ctxOf c) (hrepeats : r'.repeats = r.repeats) (hpc : r'.ctx.pc = r.ctx.pc) :
    CompletesAt pc r o := by
  obtain ⟨t, ht, htframe, htheld, htothers, hwait, hstage, htpc⟩ := h
  have hcur : r'.cur = r.cur := by rw [hframe]
  refine ⟨t, ht, State.onlyCtxs_trans hframe htframe, htheld.trans hheld, fun c hc => ?_, hwait, hstage, ?_⟩
  · rw [htothers c (by rwa [hcur]), hothers c hc]
  · rw [htpc, hrepeats, hpc]

theorem State.ctxOf_mapCore (s : State) (c : Nat) (f : Core → Core) (x : CtxId) : (s.mapCore c f).ctxOf x = s.ctxOf x := rfl
theorem State.ctx_mapCore (s : State) (c : Nat) (f : Core → Core) : (s.mapCore c f).ctx = s.ctx := rfl

theorem exec_iflush_settled {s : State} {g : Guard} (hguard : s.selected g = true) (h : Issues (.iflush g) s)
    (hclean : ∀ e ∈ (s.core s.coreId).l1, e.dirty = 0) (hnet : s.net = []) (hstage : s.ctx.stage = 0) :
    exec (.iflush g) s = done ((s.upd (fun k => { k with stage := 3 })).mapCore s.coreId (fun k => { k with ilines := [] })) := by
  rw [exec_iflush, execIflush, issueScalar_of_issues h hguard, State.release_settled 2 hclean hnet hstage]
  rfl

theorem exec_eret_surveyor {s : State} {g : Guard} {sheet k : Nat} (hguard : s.selected g = true) (hcur : s.cur = .surveyor sheet k) (h : Issues (.eret g) s) :
    exec (.eret g) s = .next (s.eretState sheet k) := by
  rw [exec_eret, execEret, issueScalar_of_issues h hguard]
  simp only [hcur]

end Sys2Proof.Machine

namespace Sys2Proof.Proofs
open Sys2Proof.Machine

theorem transfersGoToTheirTarget : Claims.TransfersGoToTheirTarget := by
  intro s g o a hguard far goes
  have htaken : ∀ {t : Word}, t.toNat % 4 = 0 ∨ s.isFollower = true → ¬ (t.toNat % 4 ≠ 0 ∧ s.isFollower = false) := by
    rintro t (h | h) ⟨h4, hf⟩
    · exact h4 h
    · rw [h] at hf; nomatch hf
  refine ⟨fun h => ?_, fun h => ?_, fun h ht => ?_, fun h ht => ?_, fun h4 hf => ⟨fun h => ?_, fun h => ?_⟩⟩
  · rw [exec_jump_selected hguard h]
    exact completesAt_jumpTo far s
  · rw [exec_jumpLink_selected hguard h]
    exact completesAt_jumpTo_link far s
  · rw [exec_jumpReg_selected hguard h, if_neg (htaken ht)]
    exact completesAt_jumpTo (s.reg a) s
  · rw [exec_jumpLinkReg_selected hguard h, if_neg (htaken ht)]
    exact completesAt_jumpTo_link (s.reg a) s
  · rw [exec_jumpReg_selected hguard h, if_pos ⟨h4, hf⟩]
  · rw [exec_jumpLinkReg_selected hguard h, if_pos ⟨h4, hf⟩]

theorem nopCommitYieldAndParkComplete : Claims.NopCommitYieldAndParkComplete := by
  intro s g hguard
  refine ⟨fun h => ?_, fun th side hcur h => ?_, fun th side _ hpost => State.commitThread_of_post hpost, fun th side _ hpre => State.commitThread_pre hpre,
    fun th side hcur h => ?_, fun th side hcur h => ⟨fun hwake => ?_, fun hwake => ?_⟩⟩
  · rw [exec_nop, execNop, issueScalar_of_issues h hguard]
    exact completes_done s
  · rw [exec_commit, execCommit, issueScalar_of_issues h hguard, State.commit_task hcur]
    exact completes_done _
  · obtain ⟨hheld, hpc⟩ := s.retire_ctx
    refine ⟨_, exec_yield_selected hguard hcur h, ?_, fun c => ?_, ?_, State.onlyCtxs_trans s.retire_frame (State.onlyCtxs_upd _ _)⟩
    · rw [State.ctx_upd]; exact hpc
    · rw [State.ctx_upd]
      simp only [List.mem_cons, List.mem_filter, Bool.and_eq_true, decide_eq_true_eq]
    · rw [State.ctx_upd]
      have hx := Ctx.x_of_held hheld
      exact hx
  · rw [exec_park_awake hguard hcur h hwake]
    exact completes_done _
  · rw [exec_park_asleep hguard hcur h hwake]
    exact waits_block _ s

theorem endAndHretEndTheirSide : Claims.EndAndHretEndTheirSide := by
  intro s g hguard
  refine ⟨fun th hcur h => ?_, fun th hcur h => ?_, fun core k hd hcur hh h => ?_⟩
  · have hctx := State.ctxOf_mapCtx_same s.retire (.task th .a) (fun k => { k.startClose with run := .ended, hop := [] })
    refine ⟨_, exec_endTask_a hguard hcur h, ?_, ?_, State.onlyCtxs_trans s.retire_frame rfl⟩
    · rw [hctx]
    · rw [State.aIdle, hctx]
  · refine ⟨_, exec_endTask_c hguard hcur h, ?_, ?_, ?_, ?_, ?_⟩
    · rw [State.ctxOf_mapCtx_same]
    · rw [State.thread_mapCtx, State.thread_mapThread, if_pos rfl]
    · rw [State.thread_mapCtx, State.thread_mapThread, if_pos rfl, State.retire_frame]
      exact s.post_commitThread th
    · exact (congrArg State.mem (s.commitThread th).retire_frame : (s.commitThread th).retire.mem = _)
    · exact (congrArg State.net (s.commitThread th).retire_frame : (s.commitThread th).retire.net = _)
  · have hframe := State.endHandler_frame hh false
    refine ⟨_, exec_hret_handler hguard hcur h, ?_, ?_, ?_, fun j r hj hr hdone hst => State.endHandler_row hh hj hr hdone hst⟩
    · rw [hframe]; exact Map.get?_del_same _ _
    · rw [hframe]; exact s.run_leftHandler core k
    · rw [hframe]; rfl

theorem astartAndAwaitRunTheASide : Claims.AstartAndAwaitRunTheASide := by
  intro s g a th hguard hcur
  refine ⟨fun h hfirst hentry => ?_, fun h hskip => ?_, fun h hidle => ?_, fun h hbusy => ?_⟩
  · have hne : CtxId.task th .a ≠ s.cur := by rw [hcur]; exact fun h => by cases h
    have hctx : (s.astarted th (s.reg a)).ctx = s.ctx := State.ctxOf_mapCtx_other _ _ hne.symm
    obtain ⟨hheld, hpc⟩ := (s.astarted th (s.reg a)).retire_ctx
    have hside := Ctx.eq_of_unhopped ((s.astarted th (s.reg a)).retire_ctxOf_other hne)
    have hstart : (s.astarted th (s.reg a)).ctxOf (.task th .a) = _ := State.ctxOf_mapCtx_same _ _ _
    obtain ⟨hrun, hentryPc, hbuf, hregs, hpreds, hcause⟩ :=
      Ctx.astarted_fields (s.itemOf s.cur).entryA (s.reg a) s.cycle.toNat ((s.mapThread th (fun t => { t with aStarted := true })).ctxOf (.task th .a))
    have hframe := (s.astarted th (s.reg a)).retire_frame
    refine ⟨_, exec_astart_starts hguard hcur h hfirst hentry, ?_⟩
    rw [hstart] at hside
    intro k
    have hk : k = _ := hside
    rw [hk]
    refine ⟨hrun, hentryPc, hbuf, hregs, hpreds, hcause, ?_, hheld.trans (by rw [hctx]), ?_, ?_⟩
    · rw [hframe]
      exact s.aStarted_astarted th (s.reg a)
    · rw [hpc, State.repeats, State.repeats, hctx]
    · rw [hframe]; rfl
  · rw [exec_astart_skips hguard hcur h hskip]
    exact completes_done s
  · rw [exec_await_selected hguard hcur h, if_pos hidle]
    exact completes_done s
  · rw [exec_await_selected hguard hcur h, if_neg (by simp [hbusy])]
    exact waits_block _ s

theorem iflushAndEretComplete : Claims.IflushAndEretComplete := by
  intro s g hguard
  refine ⟨fun h hclean hnet hstage => ?_, fun sheet k hcur h => ?_⟩
  · rw [exec_iflush_settled hguard h hclean hnet hstage]
    have hctx : ((s.upd (fun k => { k with stage := 3 })).mapCore s.coreId (fun k => { k with ilines := [] })).ctx = { s.ctx with stage := 3 } := by
      rw [State.ctx_mapCore, State.ctx_upd]
    have hold : (s.mapCore s.coreId (fun k => { k with ilines := [] })).ctx = s.ctx := State.ctx_mapCore _ _ _
    have hcompletes := completes_done ((s.upd (fun k => { k with stage := 3 })).mapCore s.coreId (fun k => { k with ilines := [] }))
    rw [Completes, hctx] at hcompletes
    refine completesAt_of_held hcompletes rfl ?_ (fun c hc => ?_) ?_ ?_
    · rw [hctx, hold]; rfl
    · rw [State.ctxOf_mapCore, State.ctxOf_mapCore, State.ctxOf_upd_other s _ hc]
    · rw [State.repeats, State.repeats, hctx, hold]
    · rw [hctx, hold]
  · rw [exec_eret_surveyor hguard hcur h, State.eretState, show ∀ n : Nat, 2 * n + n = 3 * n by omega]
    exact completesAt_retireTo _ _

/-- Settles O15, from the outcome of each control instruction and from what the completion of a word leaves. -/
theorem controlInstructionsComplete : Obligations.ControlInstructionsComplete :=
  ⟨transfersGoToTheirTarget, nopCommitYieldAndParkComplete, endAndHretEndTheirSide, astartAndAwaitRunTheASide, iflushAndEretComplete⟩

end Sys2Proof.Proofs

/-! # Element moves and the VSHAPE instruction (O26) -/

namespace Sys2Proof.Machine
open Sys2Proof.Claims

/-! ### Bytes of a register (R57) -/

theorem testBit_getBytes {w : Nat} (v : BitVec w) (off n i : Nat) : (getBytes v off n).testBit i = (decide (i < 8 * n) && v.getLsbD (8 * off + i)) := by
  rw [getBytes, Nat.testBit_mod_two_pow, Nat.testBit_div_two_pow, BitVec.getLsbD, Nat.add_comm]

/-- A write of bytes: its own bits take the value, and every other bit stays. -/
theorem getLsbD_setBytes {w : Nat} (v : BitVec w) (off n x : Nat) {k : Nat} (hk : k < w) :
    (setBytes v off n x).getLsbD k = if 8 * off ≤ k ∧ k < 8 * off + 8 * n then x.testBit (k - 8 * off) else v.getLsbD k := by
  rw [setBytes, BitVec.getLsbD_or, BitVec.getLsbD_and, BitVec.getLsbD_not, getLsbD_ones_mul hk, BitVec.getLsbD_ofNat, Nat.testBit_mul_two_pow,
    Nat.testBit_mod_two_pow]
  by_cases hin : 8 * off ≤ k ∧ k < 8 * off + 8 * n
  · obtain ⟨hlo, hhi⟩ := hin
    have hbyte : k - 8 * off < 8 * n := by omega
    simp [hk, hlo, hhi, hbyte]
  · rw [if_neg hin]
    have hout : ¬ (8 * off ≤ k ∧ k - 8 * off < 8 * n) := by omega
    rcases not_and_or.1 hout with h | h <;> simp [hk, hin, h]

theorem getBytes_setBytes_same {w : Nat} (v : BitVec w) {off n : Nat} (x : Nat) (hfit : 8 * (off + n) ≤ w) :
    getBytes (setBytes v off n x) off n = x % 2 ^ (8 * n) := by
  refine Nat.eq_of_testBit_eq fun i => ?_
  rw [testBit_getBytes, Nat.testBit_mod_two_pow]
  by_cases hi : i < 8 * n
  · rw [getLsbD_setBytes v off n x (by omega), if_pos (by omega), show 8 * off + i - 8 * off = i by omega]
  · simp [hi]

theorem getBytes_setBytes_other {w : Nat} (v : BitVec w) {off n k m : Nat} (x : Nat) (hfit : 8 * (k + m) ≤ w) (hout : k + m ≤ off ∨ off + n ≤ k) :
    getBytes (setBytes v off n x) k m = getBytes v k m := by
  refine Nat.eq_of_testBit_eq fun i => ?_
  rw [testBit_getBytes, testBit_getBytes]
  by_cases hi : i < 8 * m
  · rw [getLsbD_setBytes v off n x (by omega), if_neg (by omega)]
  · simp [hi]

theorem getBytes_lt {w : Nat} (v : BitVec w) (off n : Nat) : getBytes v off n < 2 ^ (8 * n) := Nat.mod_lt _ (Nat.two_pow_pos _)

theorem elA_lt (s : State) (a : BitVec 5) (i j : Nat) : elA s a i j < 2 ^ (8 * s.shape.esize) := getBytes_lt _ _ _

/-- The signed value of n bits, as a word. -/
theorem signExt_of_lt {n x : Nat} (h0 : 0 < n) (h64 : n ≤ 64) (hx : x < 2 ^ n) :
    signExt (BitVec.ofNat 64 x) n = if 2 ^ (n - 1) ≤ x then BitVec.ofInt 64 ((x : Int) - 2 ^ n) else BitVec.ofNat 64 x := by
  have hto : (BitVec.ofNat n x).toNat = x := by rw [BitVec.toNat_ofNat, Nat.mod_eq_of_lt hx]
  have hext := signExt_ofNat (BitVec.ofNat n x) h0 h64
  rw [hto] at hext
  rw [hext, BitVec.signExtend, BitVec.toInt_eq_toNat_cond, hto]
  have hpow : 2 ^ n = 2 * 2 ^ (n - 1) := by rw [← Nat.pow_succ', Nat.succ_eq_add_one, Nat.sub_add_cancel h0]
  by_cases h : 2 ^ (n - 1) ≤ x
  · rw [if_pos h, if_neg (by omega)]; push_cast; rfl
  · rw [if_neg h, if_pos (by omega), BitVec.ofInt_natCast]

/-! ### The elements of a shape (R61, R219) -/

theorem Shape.position_eq (h : Shape) (x : Word) : h.position x =
    if x.toNat < 512 ∧ bitsAt x 8 5 < h.rows ∧ bitsAt x 4 0 < h.cols then some (bitsAt x 8 5, bitsAt x 4 0) else none := by
  have hj : bitsAt x 4 0 = x.toNat % 32 := by rw [bitsAt]; simp
  rw [hj]; rfl

theorem Shape.mem_elems (h : Shape) (i j : Nat) : (i, j) ∈ h.elems ↔ i < h.rows ∧ j < h.cols := by
  simp [Shape.elems]

theorem mem_executing {s : State} {g : Guard} {i j : Nat} (hi : i < s.shape.rows) (hj : j < s.shape.cols) :
    (i, j) ∈ executing s g ↔ s.executes g (s.shape.offset i j) = true := by
  rw [executing, List.mem_filter]
  exact and_iff_right ((s.shape.mem_elems i j).2 ⟨hi, hj⟩)

/-- A shape has at most 16 rows (R61). -/
theorem State.rows_le (s : State) : s.shape.rows ≤ 16 := by
  unfold State.shape
  split
  · exact Nat.le_refl 16
  · have : bitsOf s.ctx.vshape.toNat 7 4 < 2 ^ (7 + 1 - 4) := Nat.mod_lt _ (Nat.two_pow_pos _)
    exact this

/-- An element of a shape whose columns fit a row lies in its register. -/
theorem Shape.offset_fits {h : Shape} (hrows : h.rows ≤ 16) (hcols : h.cols * h.esize ≤ 32) {i j : Nat} (hi : i < h.rows) (hj : j < h.cols) :
    8 * (h.offset i j + h.esize) ≤ 4096 := by
  have hrow : (j + 1) * h.esize ≤ h.cols * h.esize := Nat.mul_le_mul_right _ hj
  rw [Nat.succ_mul] at hrow
  simp only [Shape.offset]; omega

/-! ### VEXT, VINS and VSHAPE (R219, R222) -/

section
variable {s : State} {g : Guard} {d a b : BitVec 5}

theorem exec_vext_inside (h : Issues (.vext g d a b) s) (hguard : s.selected g = true) {i j : Nat} (hpos : s.shape.position (s.reg b) = some (i, j)) :
    exec (.vext g d a b) s = done (s.setReg d (if isSignedInt s.shape.ty then signExt (BitVec.ofNat 64 (elA s a i j)) (8 * s.shape.esize)
      else BitVec.ofNat 64 (elA s a i j))) := by
  rw [exec_vext, execVext, issueScalar_of_issues h hguard]
  simp only [hpos]
  rfl

theorem exec_vext_outside (h : Issues (.vext g d a b) s) (hguard : s.selected g = true) (hpos : s.shape.position (s.reg b) = none) :
    exec (.vext g d a b) s = raise0 0x1B s := by
  rw [exec_vext, execVext, issueScalar_of_issues h hguard]
  simp only [hpos]

/-- The register that VINS leaves. -/
def State.inserted (g : Guard) (d a : BitVec 5) (i j : Nat) (s : State) : VReg :=
  let old := s.vold d.toNat s.qwD.2
  if s.executes g (s.shape.offset i j) then s.shape.put old i j ((s.reg a).toNat % 2 ^ (8 * s.shape.esize)) else if s.zeroFill then s.shape.put old i j 0 else old

theorem exec_vins_inside (h : Issues (.vins g d a b) s) {i j : Nat} (hpos : s.shape.position (s.reg b) = some (i, j)) :
    exec (.vins g d a b) s = done (s.vset d.toNat s.qwD.2 (s.inserted g d a i j)) := by
  rw [exec_vins, execVins, issue_of_issues h]
  simp only [hpos]
  rfl

theorem exec_vins_outside (h : Issues (.vins g d a b) s) (hpos : s.shape.position (s.reg b) = none) : exec (.vins g d a b) s = raise0 0x1B s := by
  rw [exec_vins, execVins, issue_of_issues h]
  simp only [hpos]

theorem exec_vshape_selected (h : Issues (.vshape g d a) s) (hguard : s.selected g = true) :
    exec (.vshape g d a) s =
      if shapeOk (s.reg a) then done ((s.setReg d s.ctx.vshape).upd (fun k => { k with vshape := s.reg a })) else raise0 0x1B s := by
  rw [exec_vshape, execVshape, issueScalar_of_issues h hguard]

/-- VINS writes its element, zeroes it, or leaves it, and leaves every other byte. -/
theorem State.inserted_spec {i j : Nat} (hcols : s.shape.cols * s.shape.esize ≤ 32) (hi : i < s.shape.rows) (hj : j < s.shape.cols) :
    let old := s.vold d.toNat s.qwD.2
    let v := s.inserted g d a i j
    let at8 := s.shape.offset i j
    getBytes v at8 s.shape.esize = (if s.executes g at8 then (s.reg a).toNat % 2 ^ (8 * s.shape.esize) else if s.zeroFill then 0 else getBytes old at8 s.shape.esize) ∧
      ∀ k, k < 512 → k < at8 ∨ at8 + s.shape.esize ≤ k → getBytes v k 1 = getBytes old k 1 := by
  intro old v at8
  have hfit : 8 * (at8 + s.shape.esize) ≤ 4096 := Shape.offset_fits s.rows_le hcols hi hj
  have hput : ∀ x, getBytes (s.shape.put old i j x) at8 s.shape.esize = x % 2 ^ (8 * s.shape.esize) ∧
      ∀ k, k < 512 → k < at8 ∨ at8 + s.shape.esize ≤ k → getBytes (s.shape.put old i j x) k 1 = getBytes old k 1 := fun x =>
    ⟨getBytes_setBytes_same old x hfit, fun k hk hout => getBytes_setBytes_other old x (by omega) (by omega)⟩
  by_cases hexec : s.executes g at8 = true
  · have hv : v = s.shape.put old i j ((s.reg a).toNat % 2 ^ (8 * s.shape.esize)) := if_pos hexec
    rw [hv, if_pos hexec]
    exact ⟨by rw [(hput _).1, Nat.mod_mod], (hput _).2⟩
  · by_cases hzero : s.zeroFill = true
    · have hv : v = s.shape.put old i j 0 := (if_neg hexec).trans (if_pos hzero)
      rw [hv, if_neg hexec, if_pos hzero]
      exact ⟨by rw [(hput _).1, Nat.zero_mod], (hput _).2⟩
    · have hv : v = old := (if_neg hexec).trans (if_neg hzero)
      rw [hv, if_neg hexec, if_neg hzero]
      exact ⟨rfl, fun _ _ _ => rfl⟩

end

/-- The bits of an element of an I type. -/
theorem esize_of_signed {h : Shape} (hty : 6 ≤ h.ty ∧ h.ty ≤ 8) : 0 < 8 * h.esize ∧ 8 * h.esize ≤ 64 := by
  obtain ⟨hlo, hhi⟩ := hty
  unfold Shape.esize
  interval_cases h.ty <;> decide

end Sys2Proof.Machine

namespace Sys2Proof.Proofs
open Sys2Proof.Machine Sys2Proof.Claims

/-- Settles O26, from the element that a position names, the bytes that a write of an element leaves, and the shapes of R61. -/
theorem elementMovesAndVshape : Obligations.ElementMovesAndVshape := by
  intro s g d a b hcols i j inside e x
  have hinside : inside → s.shape.position (s.reg b) = some (i, j) := fun h => by rw [Shape.position_eq]; exact if_pos h
  have houtside : ¬ inside → s.shape.position (s.reg b) = none := fun h => by rw [Shape.position_eq]; exact if_neg h
  refine ⟨fun h hguard hin => ?_, fun h hguard hout => exec_vext_outside h hguard (houtside hout), fun h hin => ?_,
    fun h hout => exec_vins_outside h (houtside hout), fun h hguard hlegal => ?_, fun h hguard hillegal => ?_⟩
  · rw [exec_vext_inside h hguard (hinside hin)]
    have hvalue : (if isSignedInt s.shape.ty then signExt (BitVec.ofNat 64 (elA s a i j)) (8 * s.shape.esize) else BitVec.ofNat 64 (elA s a i j)) =
        if 6 ≤ s.shape.ty ∧ s.shape.ty ≤ 8 ∧ 2 ^ (8 * e - 1) ≤ x then BitVec.ofInt 64 ((x : Int) - 2 ^ (8 * e)) else BitVec.ofNat 64 x := by
      by_cases hty : 6 ≤ s.shape.ty ∧ s.shape.ty ≤ 8
      · obtain ⟨h0, h64⟩ := esize_of_signed hty
        have hsigned : isSignedInt s.shape.ty = true := decide_eq_true hty
        rw [if_pos hsigned, signExt_of_lt h0 h64 (elA_lt s a i j)]
        simp only [hty, true_and]
        rfl
      · have hsigned : ¬ isSignedInt s.shape.ty = true := fun h => hty (of_decide_eq_true h)
        rw [if_neg hsigned, if_neg (fun h => hty ⟨h.1, h.2.1⟩)]
    rw [hvalue]
    exact completes_done _
  · have hpos := hinside hin
    obtain ⟨-, hi, hj⟩ := hin
    obtain ⟨hsame, hothers⟩ := State.inserted_spec (g := g) (d := d) (a := a) hcols hi hj
    refine ⟨_, ?_, ?_, hothers⟩
    · rw [exec_vins_inside h hpos]
      exact completes_done _
    · simp only [mem_executing hi hj]
      exact hsame
  · rw [exec_vshape_selected h hguard, if_pos ((shapeOk_iff _).2 hlegal)]
    exact completes_done _
  · rw [exec_vshape_selected h hguard, if_neg ((shapeOk_iff _).not.2 hillegal)]

end Sys2Proof.Proofs

/-! # The surveyor's registers and the surveyor trap (O50) -/

namespace Sys2Proof.Machine
open Sys2Proof.Claims

/-! ### A memory with some of its cells dropped -/

theorem Memory.above_of_mem {m : Memory} {n : Nat} {f : Host.Cell → Bool} (h : Memory.above m n) : Memory.above (m.filter f) n :=
  fun c hc => h c (List.mem_of_mem_filter hc)

/-- Dropping cells by their addresses makes those addresses read 0, and no other. -/
theorem Memory.read_filter {m : Memory} (h : m.wf = true) (f : Nat → Bool) (a : Nat) :
    Memory.read (m.filter (fun c => f c.1)) a = if f a then m.read a else 0 := by
  induction m with
  | nil => simp [Memory.read]
  | cons c rest ih =>
    have ih := ih (Memory.wf_tail h)
    have habove := Memory.wf_above h
    rw [List.filter_cons, Memory.read]
    by_cases hc : f c.1 = true
    · rw [if_pos hc, Memory.read]
      by_cases hac : c.1 = a
      · subst hac; simp [hc]
      · rw [if_neg hac, if_neg hac, ih]
        split <;> simp
    · rw [if_neg hc, ih]
      by_cases hac : c.1 = a
      · subst hac; simp [hc]
      · rw [if_neg hac]
        by_cases hlt : a < c.1
        · rw [if_pos hlt, Memory.read_of_above habove (by omega)]
        · rw [if_neg hlt]

/-! ### The values that the surveyor's registers take (R63, R270) -/

section
variable {s : State} {sh k : Nat} (v : Word)

theorem State.svWrite_unassigned {n : Nat} (h : s.svRead sh k n = none) : s.svWrite sh k n v = .error 1 := by
  simp [State.svWrite, h]

theorem State.svWrite_svec : s.svWrite sh k 0x200 v = .ok (s.mapSheet sh (fun h => { h with svec := h.svec.set k (v &&& ~~~3) })) := by
  simp [State.svWrite, State.svRead, svReserved]
theorem State.svWrite_sepc : s.svWrite sh k 0x201 v = .ok (s.mapSheet sh (fun h => { h with sepc := h.sepc.set k (v &&& ~~~3) })) := by
  simp [State.svWrite, State.svRead, svReserved]
theorem State.svWrite_sstat : s.svWrite sh k 0x202 v = if v &&& svReserved 0x202 ≠ 0 then .error 1 else
    .ok (s.mapSheet sh (fun h => { h with sstat := h.sstat.set k v })) := rfl
theorem State.svWrite_evbase : s.svWrite sh k 0x203 v = if v &&& svReserved 0x203 ≠ 0 then .error 1 else if 6 ≤ v.toNat % 16 then .error 1 else
    .ok (s.mapSheet sh (fun h => { h with evbase := v })) := rfl
theorem State.svWrite_evhead : s.svWrite sh k 0x204 v = if v &&& svReserved 0x204 ≠ 0 then .error 1 else .ok s := rfl
theorem State.svWrite_svitem : s.svWrite sh k 0x206 v = .ok (s.svitemWrite sh v) := by simp [State.svWrite, State.svRead, svReserved]
theorem State.svWrite_svsub : s.svWrite sh k 0x207 v = if v &&& svReserved 0x207 ≠ 0 then .error 1 else
    if v.toNat / 2 ^ 63 = 1 ∧ v.toNat / 2 ^ 17 % 32 ≠ sh then .error 1 else .ok (s.mapSheet sh (fun h => { h with svsub := v })) := rfl
theorem State.svWrite_asidtab : s.svWrite sh k 0x210 v = if v &&& svReserved 0x210 ≠ 0 then .error 1 else
    .ok (s.mapSheet sh (fun h => { h with asidtab := v })) := rfl
theorem State.svWrite_shadow : s.svWrite sh k 0x211 v = if v &&& svReserved 0x211 ≠ 0 then .error 1 else
    .ok (s.mapSheet sh (fun h => { h with shadow := v })) := rfl
theorem State.svWrite_atlas : s.svWrite sh k 0x212 v = if v &&& svReserved 0x212 ≠ 0 then .error 1 else if 9 ≤ v.toNat then .error 1 else
    .ok (s.setAtlas sh v) := rfl
theorem State.svWrite_repctl : s.svWrite sh k 0x213 v = if v &&& svReserved 0x213 ≠ 0 then .error 1 else if v.toNat / 256 % 32 < 16 then .error 1 else
    .ok (s.mapSheet sh (fun h => { h with repctl := v })) := rfl
theorem State.svWrite_dlbase : s.svWrite sh k 0x218 v = if v &&& svReserved 0x218 ≠ 0 then .error 1 else
    .ok (s.mapSheet sh (fun h => { h with dlbase := v })) := rfl
theorem State.svWrite_latectl : s.svWrite sh k 0x240 v = if v &&& svReserved 0x240 ≠ 0 then .error 1 else
    .ok (s.mapSheet sh (fun h => { h with latectl := v })) := rfl
theorem State.svWrite_plctl : s.svWrite sh k 0x248 v = if v &&& svReserved 0x248 ≠ 0 then .error 1 else
    .ok (if v.toNat % 2 = 1 then (if v.toNat / 2 % 2 = 1 then s.bumpKgen else s).flushPlates sh else if v.toNat / 2 % 2 = 1 then s.bumpKgen else s) := rfl
theorem State.svWrite_lxlost : s.svWrite sh k 0x251 v = if v &&& svReserved 0x251 ≠ 0 then .error 1 else .ok (s.lxlostWrite v) := rfl

end

/-- The numbers of STQCFG (R346). -/
theorem State.svWrite_stqcfg {s : State} {sh k st : Nat} (v : Word) (h1 : 1 ≤ st) (h16 : st < 16) :
    s.svWrite sh k (0x220 + 2 * (st - 1)) v = if v &&& 0xFC00000000000000 ≠ 0 then .error 1 else
      if bitsOf v.toNat 29 15 < bitsOf v.toNat 14 0 ∨ 16384 < bitsOf v.toNat 29 15 then .error 1 else
      .ok (s.mapSheet sh (fun h => { h with stqcfg := h.stqcfg.set st v, quota := h.quota.set st (bitsOf v.toNat 14 0) })) := by
  interval_cases st <;> rfl

/-! ### CRD and CWR of a surveyor core (R63) -/

section
variable {s : State} {g : Guard} {d a : BitVec 5} {c : BitVec 10} {sh k : Nat}

theorem exec_crd_surveyor {v : Word} (hguard : s.selected g = true) (hissues : Issues (.crd g d c) s) (hcur : s.cur = .surveyor sh k) (hhigh : 0x200 ≤ c.toNat)
    (hread : s.svRead sh k c.toNat = some v) : exec (.crd g d c) s = done (s.setReg d v) := by
  have hnlow : ¬ c.toNat < 0x200 := by omega
  rw [exec_crd, execCrd, issue_of_issues hissues]
  simp [hcur, hnlow, hread, hguard]

/-- A write of a surveyor core has the outcome of the register's own write: its cause, or its state. -/
theorem exec_cwr_surveyor (hguard : s.selected g = true) (hissues : Issues (.cwr g a c) s) (hcur : s.cur = .surveyor sh k) (hhigh : 0x200 ≤ c.toNat) :
    (∀ e, s.svWrite sh k c.toNat (s.reg a) = .error e → exec (.cwr g a c) s = raise0 e s) ∧
      ∀ r, s.svWrite sh k c.toNat (s.reg a) = .ok r → exec (.cwr g a c) s = done r := by
  have hnlow : ¬ c.toNat < 0x200 := by omega
  have hlow : ¬ (c.toNat = 0 ∨ c.toNat = 4 ∨ c.toNat = 8 ∨ c.toNat = 0x10 ∨ c.toNat = 0x12) := by omega
  rw [exec_cwr, execCwr, issue_of_issues hissues]
  by_cases hnone : (s.svRead sh k c.toNat).isNone = true
  · have hfault : s.numberFault c.toNat = some 1 := by simp only [State.numberFault, hlow, hnlow, hcur, hnone, if_true, if_false]
    have hwrite : s.svWrite sh k c.toNat (s.reg a) = .error 1 := by simp only [State.svWrite, hnone, if_true]
    simp [hfault, hwrite]
  · have hsome : (s.svRead sh k c.toNat).isNone = false := Bool.eq_false_of_not_eq_true hnone
    by_cases hro : c.toNat = 0x249 ∨ (0x220 ≤ c.toNat ∧ c.toNat ≤ 0x23D ∧ c.toNat % 2 = 1)
    · have hfault : s.numberFault c.toNat = some 8 := by simp only [State.numberFault, hlow, hnlow, hcur, hsome, hro, Bool.false_eq_true, if_true, if_false]
      have hwrite : s.svWrite sh k c.toNat (s.reg a) = .error 8 := by simp only [State.svWrite, hsome, hro, Bool.false_eq_true, if_true, if_false]
      simp [hfault, hwrite]
    · have hfault : s.numberFault c.toNat = none := by simp only [State.numberFault, hlow, hnlow, hcur, hsome, hro, Bool.false_eq_true, if_false]
      refine ⟨fun e he => ?_, fun r hr => ?_⟩
      · simp [hfault, hguard, hcur, hnlow, he]
      · simp [hfault, hguard, hcur, hnlow, hr]

end

/-- The numbers between the registers are not assigned. -/
theorem State.svRead_unassigned (s : State) (sh k : Nat) {n : Nat} (h : n ∈ [0x208, 0x214, 0x219, 0x23E, 0x241, 0x24A, 0x252, 0x3FF]) :
    s.svRead sh k n = none := by
  simp only [List.mem_cons, List.not_mem_nil, or_false] at h
  rcases h with rfl | rfl | rfl | rfl | rfl | rfl | rfl | rfl <;> rfl

theorem State.svWrite_readOnly (s : State) (sh k : Nat) (v : Word) {n : Nat} (h : n ∈ [0x221, 0x23D, 0x249]) : s.svWrite sh k n v = .error 8 := by
  simp only [List.mem_cons, List.not_mem_nil, or_false] at h
  rcases h with rfl | rfl | rfl <;> rfl

theorem State.svRead_svec (s : State) (sh k : Nat) : s.svRead sh k 0x200 = some ((s.sheet sh).svec.get 0 k) := rfl
theorem State.svRead_sepc (s : State) (sh k : Nat) : s.svRead sh k 0x201 = some ((s.sheet sh).sepc.get 0 k) := rfl
theorem State.svRead_sstat (s : State) (sh k : Nat) : s.svRead sh k 0x202 = some ((s.sheet sh).sstat.get 0 k) := rfl

/-- The low two bits of an address are dropped. -/
theorem clear_low_bits (v : Word) : v &&& ~~~3 = BitVec.ofNat 64 (v.toNat / 4 * 4) := by
  refine BitVec.eq_of_getLsbD_eq fun i hi => ?_
  have hones : (3 : Word) = BitVec.ofNat 64 (2 ^ 2 - 1) := rfl
  have hmul : v.toNat / 4 * 4 = v.toNat / 2 ^ 2 * 2 ^ 2 := rfl
  rw [hones, hmul, BitVec.getLsbD_and, BitVec.getLsbD_not, BitVec.getLsbD_ofNat, BitVec.getLsbD_ofNat, Nat.testBit_two_pow_sub_one, Nat.testBit_mul_two_pow,
    Nat.testBit_div_two_pow]
  by_cases h2 : i < 2
  · simp [h2]
  · have hsub : i - 2 + 2 = i := by omega
    simp [h2, hi, hsub, Nat.not_lt.1 h2, BitVec.getLsbD]

/-- EVHEAD: the count of the records, and of the drops above it (R363). -/
theorem State.svRead_evhead (s : State) (sh k : Nat) : ∃ w, s.svRead sh k 0x204 = some w ∧ bitsAt w 31 0 = (s.sheet sh).evhead.toNat ∧
    bitsAt w 63 32 = (s.sheet sh).drops.toNat := by
  have hdrops := (s.sheet sh).drops.isLt
  have hhead := (s.sheet sh).evhead.isLt
  have hfits : (s.sheet sh).drops.toNat * 2 ^ 32 + (s.sheet sh).evhead.toNat < 2 ^ 64 := by omega
  refine ⟨_, rfl, ?_, ?_⟩
  · rw [bitsAt_ofNat _ _ hfits]; omega
  · rw [bitsAt_ofNat _ _ hfits]; omega

/-- PLGEN: WGEN, and KGEN above it (R396). -/
theorem State.svRead_plgen (s : State) (sh k : Nat) : ∃ w, s.svRead sh k 0x249 = some w ∧ bitsAt w 15 0 = s.wgen.toNat ∧ bitsAt w 63 16 = s.kgen.toNat := by
  have hk := s.kgen.isLt
  have hw := s.wgen.isLt
  have hfits : s.kgen.toNat * 2 ^ 16 + s.wgen.toNat < 2 ^ 64 := by omega
  refine ⟨_, rfl, ?_, ?_⟩
  · rw [bitsAt_ofNat _ _ hfits]; omega
  · rw [bitsAt_ofNat _ _ hfits]; omega

/-- Values without a reserved bit. -/
theorem and_sstatReserved (v : Word) : v &&& svReserved 0x202 = 0 ↔ v.toNat < 2 ^ 2 := and_not_ones_eq_zero_iff v 2
theorem and_evheadReserved (v : Word) : v &&& svReserved 0x204 = 0 ↔ v.toNat < 2 ^ 48 := and_not_ones_eq_zero_iff v 48
theorem and_atlasReserved (v : Word) : v &&& svReserved 0x212 = 0 ↔ v.toNat < 2 ^ 4 := and_not_ones_eq_zero_iff v 4
theorem and_repctlReserved (v : Word) : v &&& svReserved 0x213 = 0 ↔ v.toNat < 2 ^ 13 := and_not_ones_eq_zero_iff v 13
theorem and_stqcfgReserved (v : Word) : v &&& 0xFC00000000000000 = 0 ↔ v.toNat < 2 ^ 58 := and_not_ones_eq_zero_iff v 58
theorem and_lxlostReserved (v : Word) : v &&& svReserved 0x251 = 0 ↔ v.toNat < 2 ^ 32 := and_not_ones_eq_zero_iff v 32

/-- A value that the two checks of a register refuse, the one or the other, raises 0x01. -/
theorem refused_by_second {α : Type} {p q : Prop} [Decidable p] [Decidable q] {x : Except Nat α} (h : q) :
    (if p then .error 1 else if q then .error 1 else x) = .error 1 := by
  rw [if_pos h, ite_self]

/-! ### The registers that hold a written value as it stands -/

theorem State.svRead_stored {s : State} {sh k n : Nat} {w : Word × Word} (h : storedRegister n (s.sheet sh) = some w) : s.svRead sh k n = some w.1 := by
  unfold storedRegister at h
  split at h <;> cases h <;> rfl

theorem State.svWrite_stored_reserved {s : State} {sh k n : Nat} {v : Word} {w : Word × Word} (h : storedRegister n (s.sheet sh) = some w)
    (hv : v &&& w.2 ≠ 0) : s.svWrite sh k n v = .error 1 := by
  unfold storedRegister at h
  split at h <;> cases h <;> exact if_pos hv

/-- A sheet with a written value in one of these registers. -/
def Sheet.store (n : Nat) (v : Word) (h : Sheet) : Sheet :=
  match n with
  | 0x203 => { h with evbase := v }
  | 0x207 => { h with svsub := v }
  | 0x210 => { h with asidtab := v }
  | 0x211 => { h with shadow := v }
  | 0x218 => { h with dlbase := v }
  | 0x240 => { h with latectl := v }
  | _ => h

/-- A legal value of such a register is stored. -/
theorem State.svWrite_stored {s : State} {sh k n : Nat} {v : Word} {w : Word × Word} (h : storedRegister n (s.sheet sh) = some w) (hv : v &&& w.2 = 0)
    (hring : n = 0x203 → v.toNat % 16 < 6) (hpin : n = 0x207 → v.toNat / 2 ^ 63 = 0 ∨ v.toNat / 2 ^ 17 % 32 = sh) :
    s.svWrite sh k n v = .ok (s.mapSheet sh (Sheet.store n v)) := by
  unfold storedRegister at h
  split at h
  case h_1 =>
    cases h
    have hlog : ¬ 6 ≤ v.toNat % 16 := by have := hring rfl; omega
    exact (if_neg (not_not.2 hv)).trans (if_neg hlog)
  case h_2 =>
    cases h
    have hhere : ¬ (v.toNat / 2 ^ 63 = 1 ∧ v.toNat / 2 ^ 17 % 32 ≠ sh) := by have := hpin rfl; omega
    exact (if_neg (not_not.2 hv)).trans (if_neg hhere)
  case h_7 => nomatch h
  all_goals cases h; exact if_neg (not_not.2 hv)

theorem storedRegister_store_same {n : Nat} {v : Word} {h : Sheet} {w : Word × Word} (hw : storedRegister n h = some w) :
    storedRegister n (h.store n v) = some (v, w.2) := by
  unfold storedRegister at hw
  split at hw <;> cases hw <;> rfl

theorem storedRegister_store_other {n m : Nat} (hm : m ≠ n) (v : Word) (h : Sheet) : storedRegister m (h.store n v) = storedRegister m h := by
  unfold Sheet.store
  split
  case h_7 => rfl
  all_goals
    unfold storedRegister
    split <;> simp at hm ⊢


/-! ### Flushes, the atlas store and the generations (R269, R395, R396) -/

/-- No sheet has a plate. -/
def State.noPlate (s : State) : Prop := ∀ h, (s.sheet h).plates = []

theorem State.noPlate_of_sheets {s : State} (h : ∀ p ∈ s.sheets, p.2.plates = []) : s.noPlate := fun n => by
  have hget : ∀ m : Map Nat Sheet, (∀ p ∈ m, p.2.plates = []) → (m.get Sheet.init n).plates = [] := by
    intro m
    induction m with
    | nil => exact fun _ => rfl
    | cons p rest ih =>
      intro hall
      rw [Map.get]
      split
      · exact hall p List.mem_cons_self
      · exact ih (fun q hq => hall q (List.mem_cons_of_mem _ hq))
  exact hget s.sheets h

/-- Without plates a flush changes the sheets alone, and leaves none. -/
theorem State.flushPlates_noPlate {s : State} (sh : Nat) (h : s.noPlate) : onlySheets s (s.flushPlates sh) ∧ (s.flushPlates sh).noPlate := by
  have habandon : s.abandonAll [sh] = s := by simp [State.abandonAll, h sh]
  rw [State.flushPlates, habandon]
  refine ⟨rfl, fun n => ?_⟩
  rw [State.sheet_mapSheet]
  split
  · simp [h sh]
  · exact h n

theorem onlySheets_mapSheet (s : State) (sh : Nat) (f : Sheet → Sheet) : onlySheets s (s.mapSheet sh f) := rfl

theorem onlySheets_trans {r s t : State} (h1 : onlySheets r s) (h2 : onlySheets s t) : onlySheets r t := by
  unfold onlySheets at *
  rw [h1] at h2; exact h2

/-- Without plates, KGEN is all that a new kind generation changes outside the sheets. -/
theorem State.bumpKgen_noPlate {s : State} (h : s.noPlate) : onlySheets { s with kgen := s.kgen + 1 } s.bumpKgen := by
  have hstart : ({ s with kgen := s.kgen + 1 } : State).noPlate := h
  have hbase : onlySheets { s with kgen := s.kgen + 1 } { s with kgen := s.kgen + 1 } := rfl
  have hfold := List.foldlRecOn (motive := fun t : State => onlySheets { s with kgen := s.kgen + 1 } t ∧ t.noPlate) s.sheetIds
    (fun s h => s.flushPlates h) ⟨hbase, hstart⟩ (fun t ht n _ => ⟨onlySheets_trans ht.1 (State.flushPlates_noPlate n ht.2).1, (State.flushPlates_noPlate n ht.2).2⟩)
  exact hfold.1

/-- The atlas store takes its new size: an address between the two sizes reads 0, and one outside the store reads as before. -/
theorem State.setAtlas_spec {s : State} {sh : Nat} {v : Word} (hv : v.toNat < 9) (hold : (s.sheet sh).atlas.toNat < 9) (hwf : s.mem.wf = true) :
    ((s.setAtlas sh v).sheet sh).atlas = v ∧
      (∀ x, sh * 2 ^ 36 + 0xE00000000 + (s.sheet sh).atlas.toNat * 2 ^ 26 ≤ x → x < sh * 2 ^ 36 + 0xE00000000 + v.toNat * 2 ^ 26 → (s.setAtlas sh v).mem.read x = 0) ∧
      ∀ x, x < sh * 2 ^ 36 + 0xE00000000 ∨ sh * 2 ^ 36 + 0xE00000000 + 2 ^ 29 ≤ x → (s.setAtlas sh v).mem.read x = s.mem.read x := by
  have ha : (s.sheet sh).atlas.toNat % 16 = (s.sheet sh).atlas.toNat := Nat.mod_eq_of_lt (by omega)
  have hb : v.toNat % 16 = v.toNat := Nat.mod_eq_of_lt (by omega)
  have hread : ∀ x, (s.setAtlas sh v).mem.read x = _ := fun x => Memory.read_filter hwf (fun x => !decide
    (sh * 2 ^ 36 + 0xE00000000 + min ((s.sheet sh).atlas.toNat % 16) (v.toNat % 16) * 2 ^ 26 ≤ x ∧
      x < sh * 2 ^ 36 + 0xE00000000 + max ((s.sheet sh).atlas.toNat % 16) (v.toNat % 16) * 2 ^ 26)) x
  refine ⟨?_, fun x hlo hhi => ?_, fun x hout => ?_⟩
  · rw [State.setAtlas, State.sheet_mapSheet, if_pos rfl]
  · rw [hread, ha, hb]
    have hgone : sh * 2 ^ 36 + 0xE00000000 + min (s.sheet sh).atlas.toNat v.toNat * 2 ^ 26 ≤ x ∧
        x < sh * 2 ^ 36 + 0xE00000000 + max (s.sheet sh).atlas.toNat v.toNat * 2 ^ 26 := by omega
    rw [decide_eq_true hgone]; rfl
  · rw [hread, ha, hb]
    have hkept : ¬ (sh * 2 ^ 36 + 0xE00000000 + min (s.sheet sh).atlas.toNat v.toNat * 2 ^ 26 ≤ x ∧
        x < sh * 2 ^ 36 + 0xE00000000 + max (s.sheet sh).atlas.toNat v.toNat * 2 ^ 26) := by omega
    rw [decide_eq_false hkept]; rfl

/-! ### Submissions of the surveyor and lost ranks (R367, R423) -/

theorem State.svitemWrite_refused {s : State} {sh : Nat} (v : Word)
    (h : ∀ l ∈ s.launches, l.2.live = true → l.2.asid ≠ bitsAt (s.sheet sh).svsub 59 48 ∨ l.2.covers sh = false) :
    s.svitemWrite sh v = s.mapSheet sh (fun h => { h with svitem := 0x1B }) := by
  have hnone : s.launchOfAsid sh (bitsOf (s.sheet sh).svsub.toNat 59 48) = none := by
    rw [State.launchOfAsid, Option.map_eq_none_iff, List.find?_eq_none]
    intro l hl
    cases hlive : l.2.live with
    | false => simp
    | true =>
      rcases h l hl hlive with hasid | hcovers
      · have hne : ¬ l.2.asid = bitsOf (s.sheet sh).svsub.toNat 59 48 := hasid
        simp [hne]
      · simp [hcovers]
  simp only [State.svitemWrite, hnone]

/-- The submission that a write of SVITEM makes. -/
def State.surveyorSubmission (sh l : Nat) (v : Word) (s : State) : Submission :=
  { Submission.ofVa v l with
    system := true, svitem := true,
    pin := if (s.sheet sh).svsub.toNat / 2 ^ 63 = 1 then some (threadOfAddr (BitVec.ofNat 64 (s.sheet sh).svsub.toNat)) else none }

theorem State.svitemWrite_submits {s : State} {sh l : Nat} {lk : Launch} (v : Word) (hlaunches : s.launches = [(l, lk)]) (hlive : lk.live = true)
    (hasid : lk.asid = bitsAt (s.sheet sh).svsub 59 48) (hcovers : lk.covers sh = true) :
    s.svitemWrite sh v = (s.submit sh (s.surveyorSubmission sh l v)).mapSheet sh (fun h => { h with svitem := 0xFF }) := by
  have hasid' : lk.asid = bitsOf (s.sheet sh).svsub.toNat 59 48 := hasid
  have hsome : s.launchOfAsid sh (bitsOf (s.sheet sh).svsub.toNat 59 48) = some l := by
    simp [State.launchOfAsid, hlaunches, hlive, hasid', hcovers]
  simp only [State.svitemWrite, hsome]
  rfl

theorem State.lxlostWrite_idle {s : State} (v : Word) (h : ∀ l ∈ s.launches, l.2.live = false) : s.lxlostWrite v = { s with lxlost := v } := by
  have hnone : s.launches.filter (fun p => p.2.live) = [] := List.filter_eq_nil_iff.2 fun l hl => by simp [h l hl]
  rw [State.lxlostWrite, hnone]
  rfl

/-! ### Writes of the device (R397, log 69) -/

section
variable {s t : State} {sh k n : Nat} {v : Word} (hsheet : sh < 32) (hcore : k < 4)
include hsheet hcore

theorem svEvent_ok (h : s.svWrite sh k n v = .ok t) : svEvent sh k n v s = .next t := by
  have hplace : ¬ (32 ≤ sh ∨ 4 ≤ k) := by omega
  simp only [svEvent, hplace, if_false, h]

theorem svEvent_error {e : Nat} (h : s.svWrite sh k n v = .error e) : svEvent sh k n v s = .next s := by
  have hplace : ¬ (32 ≤ sh ∨ 4 ≤ k) := by omega
  simp only [svEvent, hplace, if_false, h]

end

theorem exec_surveyorRegWrite_event {s : State} {sh k n : Nat} {v : Word} (hlow : 0x200 ≤ n) (hhigh : n < 0x400) (hown : n ∉ [0x206, 0x212, 0x213, 0x248, 0x251])
    (hstage : ¬ (0x220 ≤ n ∧ n ≤ 0x23D ∧ n % 2 = 0)) : exec (.surveyorRegWrite sh k n v) s = svEvent sh k n v s := by
  have hrow : ownRow n = false := by
    simp only [List.mem_cons, List.not_mem_nil, or_false] at hown
    rw [ownRow, decide_eq_false_iff_not]; omega
  have hnumber : ¬ (n < 0x200 ∨ 0x400 ≤ n) := by omega
  rw [exec_surveyorRegWrite, execSurveyorRegWrite, hrow]
  simp [hnumber]

theorem exec_stqcfgWrite_event {s : State} {sh st : Nat} {v : Word} (h1 : 1 ≤ st) (h16 : st < 16) :
    exec (.stqcfgWrite sh st v) s = svEvent sh 0 (0x220 + 2 * (st - 1)) v s := by
  rw [exec_stqcfgWrite, execStqcfgWrite, if_neg (by omega)]

/-! ### The surveyor trap (R364) -/

/-- The lowest-numbered core that accepts event interrupts. -/
theorem find_accepting {f : Nat → Word} {k : Nat} (hk : k < 4) (hbelow : ∀ m, m < k → f m % 2 = 0) (haccepts : f k % 2 = 1) :
    (List.range 4).find? (fun k => (f k).toNat % 2 == 1) = some k := by
  have hodd : (f k).toNat % 2 = 1 := by simpa using congrArg BitVec.toNat haccepts
  have heven : ∀ m, m < k → (f m).toNat % 2 = 0 := fun m hm => by simpa using congrArg BitVec.toNat (hbelow m hm)
  rw [List.find?_range_eq_some]
  exact ⟨by simpa using hodd, List.mem_range.2 hk, fun m hm => by simp [heven m hm]⟩

theorem exec_surveyorTrap_takes {s : State} {sh k : Nat} (hk : k < 4) (hbelow : ∀ m, m < k → (s.sheet sh).sstat.get 0 m % 2 = 0)
    (haccepts : (s.sheet sh).sstat.get 0 k % 2 = 1) (hring : (s.sheet sh).evhead ≠ (s.sheet sh).evtail) (hrun : (s.ctxOf (.surveyor sh k)).run ≠ .stopped)
    (hgroup : (s.ctxOf (.surveyor sh k)).pc = (s.ctxOf (.surveyor sh k)).grp) (hrep : (s.ctxOf (.surveyor sh k)).repDone = 0)
    (hstage : (s.ctxOf (.surveyor sh k)).stage = 0) (hkeep : (s.ctxOf (.surveyor sh k)).keep = 0) : exec (.surveyorTrap sh) s = .next (s.surveyorTrap sh k) := by
  have hfind := find_accepting (f := fun m => (s.sheet sh).sstat.get 0 m) hk hbelow haccepts
  have hready : ¬ ((s.sheet sh).evhead = (s.sheet sh).evtail ∨ (s.ctxOf (.surveyor sh k)).run = .stopped ∨
      (s.ctxOf (.surveyor sh k)).pc ≠ (s.ctxOf (.surveyor sh k)).grp ∨ (s.ctxOf (.surveyor sh k)).repDone ≠ 0 ∨ (s.ctxOf (.surveyor sh k)).stage ≠ 0 ∨
      (s.ctxOf (.surveyor sh k)).keep ≠ 0) := by
    simp [hring, hrun, hgroup, hrep, hstage, hkeep]
  rw [exec_surveyorTrap, execSurveyorTrap]
  simp only [hfind, hready, if_false]

theorem State.sheet_mapCtx (s : State) (c : CtxId) (f : Ctx → Ctx) (h : Nat) : (s.mapCtx c f).sheet h = s.sheet h := rfl

theorem State.surveyorTrap_spec {s : State} {sh k : Nat} (haccepts : (s.sheet sh).sstat.get 0 k % 2 = 1) :
    let c := s.ctxOf (.surveyor sh k)
    let t := s.surveyorTrap sh k
    (t.sheet sh).sepc.get 0 k = c.grp ∧ (t.sheet sh).sstat.get 0 k = 2 ∧ (t.ctxOf (.surveyor sh k)).pc = (s.sheet sh).svec.get 0 k ∧
      (t.ctxOf (.surveyor sh k)).x = c.x ∧ t = { s with ctxs := t.ctxs, sheets := t.sheets } := by
  intro c t
  have hodd : ((s.sheet sh).sstat.get 0 k).toNat % 2 = 1 := by simpa using congrArg BitVec.toNat haccepts
  have hsheet : t.sheet sh = { s.sheet sh with sepc := (s.sheet sh).sepc.set k c.grp, sstat := (s.sheet sh).sstat.set k 2 } := by
    simp only [t, State.surveyorTrap, State.sheet_mapCtx, State.sheet_mapSheet, if_true, hodd]
    rfl
  have hctx : t.ctxOf (.surveyor sh k) = { (c.goTo ((s.sheet sh).svec.get 0 k)) with run := .running } := State.ctxOf_mapCtx_same _ _ _
  refine ⟨?_, ?_, ?_, ?_, rfl⟩
  · rw [hsheet]; exact Map.get_set_same _ _ _ _
  · rw [hsheet]; exact Map.get_set_same _ _ _ _
  · rw [hctx]; rfl
  · rw [hctx]; rfl

end Sys2Proof.Machine

namespace Sys2Proof.Proofs
open Sys2Proof.Machine Sys2Proof.Claims

/-- CRD of the surveyor's registers (R63, R270, R363, R396, R423). -/
theorem surveyorRegistersAreRead {s : State} {g : Guard} {d : BitVec 5} {c : BitVec 10} {sh k : Nat} (hcur : s.cur = .surveyor sh k)
    (hguard : s.selected g = true) (hhigh : 0x200 ≤ c.toNat) (hissues : Issues (.crd g d c) s) :
    let n := c.toNat
    let h := s.sheet sh
    (n ∈ [0x208, 0x214, 0x219, 0x23E, 0x241, 0x24A, 0x252, 0x3FF] → exec (.crd g d c) s = raise0 0x01 s) ∧
    (∀ w, storedRegister n h = some w → Completes (s.setReg d w.1) (exec (.crd g d c) s)) ∧
    (n = 0x204 → ∃ w : Word, Completes (s.setReg d w) (exec (.crd g d c) s) ∧ bitsAt w 31 0 = h.evhead.toNat ∧ bitsAt w 63 32 = h.drops.toNat) ∧
    (n = 0x249 → ∃ w : Word, Completes (s.setReg d w) (exec (.crd g d c) s) ∧ bitsAt w 15 0 = s.wgen.toNat ∧ bitsAt w 63 16 = s.kgen.toNat) ∧
    (n = 0x248 → Completes (s.setReg d 0) (exec (.crd g d c) s)) ∧ (n = 0x250 → Completes (s.setReg d s.lxremap) (exec (.crd g d c) s)) ∧
    (n = 0x251 → Completes (s.setReg d s.lxlost) (exec (.crd g d c) s)) ∧ (n = 0x206 → Completes (s.setReg d h.svitem) (exec (.crd g d c) s)) := by
  intro n h
  have hreads : ∀ {v : Word}, s.svRead sh k n = some v → Completes (s.setReg d v) (exec (.crd g d c) s) := fun hv => by
    rw [exec_crd_surveyor hguard hissues hcur hhigh hv]
    exact completes_done _
  refine ⟨fun hn => ?_, fun w hw => hreads (State.svRead_stored hw), fun hn => ?_, fun hn => ?_, fun hn => ?_, fun hn => ?_, fun hn => ?_, fun hn => ?_⟩
  · exact execCrd_unassigned hissues hcur hhigh (s.svRead_unassigned sh k hn)
  · obtain ⟨w, hw, hcount, hdrops⟩ := s.svRead_evhead sh k
    exact ⟨w, hreads (hn ▸ hw), hcount, hdrops⟩
  · obtain ⟨w, hw, hwgen, hkgen⟩ := s.svRead_plgen sh k
    exact ⟨w, hreads (hn ▸ hw), hwgen, hkgen⟩
  · exact hreads (by rw [hn]; rfl)
  · exact hreads (by rw [hn]; rfl)
  · exact hreads (by rw [hn]; rfl)
  · exact hreads (by rw [hn]; rfl)

/-- CWR of the surveyor's registers (R63, R269, R270, R277, R363, R364, R367). -/
theorem surveyorRegistersAreWritten {s : State} {g : Guard} {a : BitVec 5} {c : BitVec 10} {sh k : Nat} (hcur : s.cur = .surveyor sh k)
    (hguard : s.selected g = true) (hhigh : 0x200 ≤ c.toNat) (hissues : Issues (.cwr g a c) s) :
    let n := c.toNat
    let v := s.reg a
    let h := s.sheet sh
    (n ∈ [0x221, 0x23D, 0x249] → exec (.cwr g a c) s = raise0 0x08 s) ∧
    (n = 0x204 → (2 ^ 48 ≤ v.toNat → exec (.cwr g a c) s = raise0 0x01 s) ∧ (v.toNat < 2 ^ 48 → Completes s (exec (.cwr g a c) s))) ∧
    (n ∈ [0x208, 0x214, 0x219, 0x23E, 0x241, 0x24A, 0x252, 0x3FF] → exec (.cwr g a c) s = raise0 0x01 s) ∧
    (∀ w, storedRegister n h = some w → v &&& w.2 ≠ 0 → exec (.cwr g a c) s = raise0 0x01 s) ∧
    (n = 0x203 → 6 ≤ v.toNat % 16 → exec (.cwr g a c) s = raise0 0x01 s) ∧ (n = 0x212 → 9 ≤ v.toNat → exec (.cwr g a c) s = raise0 0x01 s) ∧
    (n = 0x213 → v.toNat / 2 ^ 8 % 32 < 16 → exec (.cwr g a c) s = raise0 0x01 s) ∧
    (n = 0x207 → v.toNat / 2 ^ 63 = 1 → v.toNat / 2 ^ 17 % 32 ≠ sh → exec (.cwr g a c) s = raise0 0x01 s) ∧
    (∀ w, storedRegister n h = some w → v &&& w.2 = 0 → (n = 0x203 → v.toNat % 16 < 6) → (n = 0x207 → v.toNat / 2 ^ 63 = 0 ∨ v.toNat / 2 ^ 17 % 32 = sh) →
      ∃ r : State, Completes r (exec (.cwr g a c) s) ∧ onlySheets s r ∧ (∃ u, storedRegister n (r.sheet sh) = some (v, u)) ∧
        (∀ m w', m ≠ n → storedRegister m h = some w' → storedRegister m (r.sheet sh) = some w') ∧ ∀ o, o ≠ sh → r.sheet o = s.sheet o) ∧
    (n = 0x200 ∨ n = 0x201 → ∃ r : State, Completes r (exec (.cwr g a c) s) ∧ onlySheets s r ∧ r.svRead sh k n = some (BitVec.ofNat 64 (v.toNat / 4 * 4))) ∧
    (n = 0x202 → v.toNat < 4 → ∃ r : State, Completes r (exec (.cwr g a c) s) ∧ onlySheets s r ∧ r.svRead sh k n = some v) := by
  intro n v h
  obtain ⟨herror, hok⟩ := exec_cwr_surveyor hguard hissues hcur hhigh
  have hcompletes : ∀ {r}, s.svWrite sh k n v = .ok r → Completes r (exec (.cwr g a c) s) := fun hr => by
    rw [hok _ hr]
    exact completes_done _
  refine ⟨fun hn => herror _ (s.svWrite_readOnly sh k v hn), fun hn => ⟨fun hv => herror _ ?_, fun hv => hcompletes ?_⟩,
    fun hn => herror _ (State.svWrite_unassigned v (s.svRead_unassigned sh k hn)), fun w hw hv => herror _ (State.svWrite_stored_reserved hw hv),
    fun hn hv => herror _ ?_, fun hn hv => herror _ ?_, fun hn hv => herror _ ?_, fun hn hv hsh => herror _ ?_, fun w hw hv hring hpin => ?_, fun hn => ?_,
    fun hn hv => ?_⟩
  · have hreserved : v &&& svReserved 0x204 ≠ 0 := (and_evheadReserved v).not.2 (by omega)
    change s.svWrite sh k n v = _
    rw [hn, State.svWrite_evhead, if_pos hreserved]
  · rw [hn, State.svWrite_evhead, if_neg (not_not.2 ((and_evheadReserved v).2 hv))]
  · change s.svWrite sh k n v = _
    rw [hn, State.svWrite_evbase]
    exact refused_by_second hv
  · change s.svWrite sh k n v = _
    rw [hn, State.svWrite_atlas]
    exact refused_by_second hv
  · change s.svWrite sh k n v = _
    rw [hn, State.svWrite_repctl]
    exact refused_by_second hv
  · change s.svWrite sh k n v = _
    rw [hn, State.svWrite_svsub]
    exact refused_by_second ⟨hv, hsh⟩
  · refine ⟨_, hcompletes (State.svWrite_stored hw hv hring hpin), onlySheets_mapSheet _ _ _, ⟨w.2, ?_⟩, fun m w' hm hw' => ?_, fun o ho => ?_⟩
    · rw [State.sheet_mapSheet, if_pos rfl]
      exact storedRegister_store_same hw
    · rw [State.sheet_mapSheet, if_pos rfl, storedRegister_store_other hm]
      exact hw'
    · rw [State.sheet_mapSheet, if_neg ho]
  · have hclear : v &&& ~~~3 = BitVec.ofNat 64 (v.toNat / 4 * 4) := clear_low_bits v
    rcases hn with hn | hn
    · have hw := State.svWrite_svec (s := s) (sh := sh) (k := k) v
      rw [← hn] at hw
      refine ⟨_, hcompletes hw, onlySheets_mapSheet _ _ _, ?_⟩
      rw [hn, State.svRead_svec, State.sheet_mapSheet, if_pos rfl, Map.get_set_same, hclear]
    · have hw := State.svWrite_sepc (s := s) (sh := sh) (k := k) v
      rw [← hn] at hw
      refine ⟨_, hcompletes hw, onlySheets_mapSheet _ _ _, ?_⟩
      rw [hn, State.svRead_sepc, State.sheet_mapSheet, if_pos rfl, Map.get_set_same, hclear]
  · have hfree : ¬ (v &&& svReserved 0x202 ≠ 0) := not_not.2 ((and_sstatReserved v).2 hv)
    have hw := State.svWrite_sstat (s := s) (sh := sh) (k := k) v
    rw [if_neg hfree, ← hn] at hw
    refine ⟨_, hcompletes hw, onlySheets_mapSheet _ _ _, ?_⟩
    rw [hn, State.svRead_sstat, State.sheet_mapSheet, if_pos rfl, Map.get_set_same]

/-- Settles O50, from the value and the write of each register of a surveyor core, and from the trap of the lowest-numbered core that accepts one. -/
theorem surveyorRegistersAndTraps : Obligations.SurveyorRegistersAndTraps := by
  refine ⟨fun s g d a c sh k hcur hguard hhigh => ⟨surveyorRegistersAreRead hcur hguard hhigh, surveyorRegistersAreWritten hcur hguard hhigh⟩,
    fun s sh k n v hsh hk => ⟨fun t hw hlow hn hown hstage => ?_, fun e hw hlow hn hown hstage => ?_, fun st h1 h16 hv hmin hmax => ?_, fun st h1 h16 hv => ?_,
      fun hv hmin => ?_, fun hv hold hwf => ?_, fun hplates => ?_, fun hnone => ?_, fun l lk hlaunches hlive hasid hcovers => ?_, fun hv hlive => ?_⟩,
    fun s sh k hk hbelow haccepts => ?_⟩
  · rw [exec_surveyorRegWrite_event hlow hn hown hstage]
    exact svEvent_ok hsh hk hw
  · rw [exec_surveyorRegWrite_event hlow hn hown hstage]
    exact svEvent_error hsh hk hw
  · have hfree : ¬ (v &&& 0xFC00000000000000 ≠ 0) := not_not.2 ((and_stqcfgReserved v).2 hv)
    have hlegal : ¬ (bitsOf v.toNat 29 15 < bitsOf v.toNat 14 0 ∨ 16384 < bitsOf v.toNat 29 15) :=
      not_or.2 ⟨Nat.not_lt.2 hmin, Nat.not_lt.2 hmax⟩
    have hw := State.svWrite_stqcfg (s := s) (sh := sh) (k := 0) v h1 h16
    rw [if_neg hfree, if_neg hlegal] at hw
    refine ⟨_, (exec_stqcfgWrite_event h1 h16).trans (svEvent_ok hsh (by decide) hw), onlySheets_mapSheet _ _ _, ?_, ?_⟩
    · rw [State.sheet_mapSheet, if_pos rfl, Map.get_set_same]
    · rw [State.sheet_mapSheet, if_pos rfl, Map.get_set_same]; rfl
  · have hw : s.svWrite sh 0 (0x220 + 2 * (st - 1)) v = .error 1 := by
      rw [State.svWrite_stqcfg v h1 h16]
      rcases hv with hv | hv
      · rw [if_pos ((and_stqcfgReserved v).not.2 (by omega))]
      · exact refused_by_second (.inl hv)
    rw [exec_stqcfgWrite_event h1 h16]
    exact svEvent_error hsh (by decide) hw
  · have hfree : ¬ (v &&& svReserved 0x213 ≠ 0) := not_not.2 ((and_repctlReserved v).2 hv)
    have hsize : ¬ v.toNat / 256 % 32 < 16 := by omega
    have hw := State.svWrite_repctl (s := s) (sh := sh) (k := 0) v
    rw [if_neg hfree, if_neg hsize] at hw
    refine ⟨_, svEvent_ok hsh (by decide) hw, onlySheets_mapSheet _ _ _, ?_⟩
    rw [State.sheet_mapSheet, if_pos rfl]
  · have hfree : ¬ (v &&& svReserved 0x212 ≠ 0) := not_not.2 ((and_atlasReserved v).2 (by omega))
    have hsize : ¬ 9 ≤ v.toNat := by omega
    have hw := State.svWrite_atlas (s := s) (sh := sh) (k := 0) v
    rw [if_neg hfree, if_neg hsize] at hw
    exact ⟨_, svEvent_ok hsh (by decide) hw, State.setAtlas_spec hv hold hwf⟩
  · have hnone := State.noPlate_of_sheets hplates
    have hkind : s.svWrite sh 0 0x248 2 = .ok s.bumpKgen := by rw [State.svWrite_plctl]; rfl
    have hflush : s.svWrite sh 0 0x248 1 = .ok (s.flushPlates sh) := by rw [State.svWrite_plctl]; rfl
    have hbump := State.bumpKgen_noPlate hnone
    obtain ⟨hframe, hempty⟩ := State.flushPlates_noPlate sh hnone
    refine ⟨⟨_, svEvent_ok hsh (by decide) hkind, ?_, ?_, ?_⟩, ⟨_, svEvent_ok hsh (by decide) hflush, ?_, ?_, hempty sh⟩⟩
    · rw [hbump]
    · rw [hbump]
    · rw [hbump]
    · rw [hframe]
    · rw [hframe]
  · have hw := State.svWrite_svitem (s := s) (sh := sh) (k := 0) v
    rw [State.svitemWrite_refused v hnone] at hw
    refine ⟨_, svEvent_ok hsh (by decide) hw, onlySheets_mapSheet _ _ _, ?_, ?_⟩
    · rw [State.sheet_mapSheet, if_pos rfl]
    · rw [State.sheet_mapSheet, if_pos rfl]
  · have hw := State.svWrite_svitem (s := s) (sh := sh) (k := 0) v
    rw [State.svitemWrite_submits v hlaunches hlive hasid hcovers] at hw
    refine ⟨_, s.surveyorSubmission sh l v, svEvent_ok hsh (by decide) hw, ?_, ?_, rfl, rfl, rfl, ?_⟩
    · rw [State.sheet_mapSheet, if_pos rfl]
    · rw [State.sheet_mapSheet, if_pos rfl, State.submit, State.sheet_mapSheet, if_pos rfl]
    · have hrange := (s.sheet sh).svsub.isLt
      simp only [State.surveyorSubmission]
      split
      · next h => simp only [reduceCtorEq, false_iff]; omega
      · next h => simp only [true_iff]; omega
  · have hfree : ¬ (v &&& svReserved 0x251 ≠ 0) := not_not.2 ((and_lxlostReserved v).2 hv)
    have hw := State.svWrite_lxlost (s := s) (sh := 0) (k := 0) v
    rw [if_neg hfree, State.lxlostWrite_idle v hlive] at hw
    exact svEvent_ok (by decide) (by decide) hw
  · intro c hring hrun hgroup hrep hstage hkeep
    exact ⟨_, exec_surveyorTrap_takes hk hbelow haccepts hring hrun hgroup hrep hstage hkeep, State.surveyorTrap_spec haccepts⟩

end Sys2Proof.Proofs

/-! # The dispatcher (O43) -/

namespace Sys2Proof.Machine
open Sys2Proof.Claims

/-! ### Items through an update of a sheet -/

theorem State.item_mapItem_same (s : State) (sheet i : Nat) (f : Item → Item) : (s.mapItem sheet i f).item sheet i = f (s.item sheet i) := by
  simp only [State.mapItem, State.item, State.sheet_mapSheet, if_true, Map.get_set_same]

theorem State.items_mapSheet {f : Sheet → Sheet} (hf : ∀ k, (f k).items = k.items) (s : State) (n h : Nat) : ((s.mapSheet n f).sheet h).items = (s.sheet h).items := by
  rw [State.sheet_mapSheet]
  split
  · next e => rw [hf, e]
  · rfl

theorem State.item_of_items {s t : State} {h : Nat} (hitems : (t.sheet h).items = (s.sheet h).items) (i : Nat) : t.item h i = s.item h i := by
  rw [State.item, State.item, hitems]

/-- A map whose entries change by a function that keeps their keys keeps a value that the function keeps. -/
theorem Map.get_map_of_fixed {K V : Type} [DecidableEq K] {f : K × V → K × V} (hk : ∀ p, (f p).1 = p.1) {d : V} {m : Map K V} {k : K}
    (hfix : (f (k, m.get d k)).2 = m.get d k) : Map.get d (m.map f) k = m.get d k := by
  induction m with
  | nil => rfl
  | cons p rest ih =>
    by_cases e : p.1 = k
    · subst e
      simpa [Map.get, hk] using hfix
    · simp only [Map.get, e, if_false] at hfix
      simpa [Map.get, hk, e] using ih hfix

/-! ### The end of a launch and the final state of an item (R332, R342, R345) -/

/-- From one state to another memory, the threads, the queues of intake and every item that is not held stay as they are. -/
def State.endsOnly (s t : State) : Prop :=
  t.mem = s.mem ∧ t.threads = s.threads ∧ ∀ h, (t.sheet h).intakeQ = (s.sheet h).intakeQ ∧ ∀ i, (s.item h i).st ≠ .held → t.item h i = s.item h i

theorem State.endsOnly_refl (s : State) : s.endsOnly s := ⟨rfl, rfl, fun _ => ⟨rfl, fun _ _ => rfl⟩⟩

theorem State.endsOnly.trans {r s t : State} (h : r.endsOnly s) (h' : s.endsOnly t) : r.endsOnly t := by
  obtain ⟨hmem, hth, hk⟩ := h
  obtain ⟨hmem', hth', hk'⟩ := h'
  refine ⟨hmem'.trans hmem, hth'.trans hth, fun n => ?_⟩
  obtain ⟨hq, hi⟩ := hk n
  obtain ⟨hq', hi'⟩ := hk' n
  refine ⟨hq'.trans hq, fun i hst => ?_⟩
  rw [hi' i (by rw [hi i hst]; exact hst), hi i hst]

theorem State.endsOnly_of_sheets {s t : State} (hmem : t.mem = s.mem) (hth : t.threads = s.threads)
    (h : ∀ n, (t.sheet n).intakeQ = (s.sheet n).intakeQ ∧ (t.sheet n).items = (s.sheet n).items) : s.endsOnly t := by
  refine ⟨hmem, hth, fun n => ?_⟩
  obtain ⟨hq, hi⟩ := h n
  exact ⟨hq, fun i _ => State.item_of_items hi i⟩

theorem State.endsOnly_mapSheet (s : State) (n : Nat) (f : Sheet → Sheet) (hf : ∀ k, (f k).intakeQ = k.intakeQ ∧ (f k).items = k.items) : s.endsOnly (s.mapSheet n f) := by
  refine State.endsOnly_of_sheets rfl rfl fun h => ?_
  rw [State.sheet_mapSheet]
  split
  · next e => rw [e]; exact hf _
  · exact ⟨rfl, rfl⟩

theorem State.endsOnly_setLx (s : State) (home idx : Nat) (t : Lx) : s.endsOnly (s.setLx home idx t) :=
  s.endsOnly_mapSheet home _ (fun _ => ⟨rfl, rfl⟩)

/-- The end of a launch leaves memory, the threads and, on every sheet, intake and the items (R332). -/
theorem State.launchEndCheck_frame (s : State) (l : Nat) :
    (s.launchEndCheck l).mem = s.mem ∧ (s.launchEndCheck l).threads = s.threads ∧
      ∀ h, ((s.launchEndCheck l).sheet h).intakeQ = (s.sheet h).intakeQ ∧ ((s.launchEndCheck l).sheet h).nextItem = (s.sheet h).nextItem ∧
        ((s.launchEndCheck l).sheet h).items = (s.sheet h).items := by
  unfold State.launchEndCheck
  split
  · refine ⟨rfl, rfl, fun h => ⟨?_, ?_, ?_⟩⟩
    all_goals simp only [State.sheet, State.endLaunch, State.mapPort]
    · refine Map.get_map_entries _ Sheet.intakeQ ?_ ?_ Sheet.init s.sheets h <;> intro _ <;> rfl
    · refine Map.get_map_entries _ Sheet.nextItem ?_ ?_ Sheet.init s.sheets h <;> intro _ <;> rfl
    · refine Map.get_map_entries _ Sheet.items ?_ ?_ Sheet.init s.sheets h <;> intro _ <;> rfl
  · exact ⟨rfl, rfl, fun _ => ⟨rfl, rfl, rfl⟩⟩

theorem State.endsOnly_launchEndCheck (s : State) (l : Nat) : s.endsOnly (s.launchEndCheck l) := by
  obtain ⟨hmem, hth, hk⟩ := s.launchEndCheck_frame l
  refine State.endsOnly_of_sheets hmem hth fun h => ?_
  obtain ⟨hq, -, hi⟩ := hk h
  exact ⟨hq, hi⟩

/-- A counter that reaches 0 releases held items alone (R342). -/
theorem State.endsOnly_gateRelease (s : State) (sheet launch idx : Nat) : s.endsOnly (s.gateRelease sheet launch idx) := by
  unfold State.gateRelease
  split
  · refine ⟨rfl, rfl, fun h => ?_⟩
    by_cases e : h = sheet
    · subst e
      simp only [State.item, State.sheet_mapSheet, if_true, true_and]
      refine fun i hst => Map.get_map_of_fixed (fun p => ?_) ?_
      · split <;> rfl
      · exact congrArg Prod.snd (if_neg fun hc => hst hc.2.2)
    · simp only [State.item, State.sheet_mapSheet, if_neg e, true_and, implies_true]
  · exact s.endsOnly_refl

theorem State.endsOnly_addCounter (s : State) (sheet launch idx : Nat) (d : Int) : s.endsOnly (s.addCounter sheet launch idx d) := by
  refine State.endsOnly.trans ?_ (State.endsOnly_gateRelease _ _ _ _)
  exact s.endsOnly_mapSheet _ _ (fun _ => ⟨rfl, rfl⟩)

theorem State.endsOnly_notifyHost (s : State) (it : Item) (status : Nat) : s.endsOnly (s.notifyHost it status) := by
  unfold State.notifyHost
  split
  · exact s.endsOnly_refl
  · dsimp only
    split <;> exact State.endsOnly_of_sheets rfl rfl fun _ => ⟨rfl, rfl⟩

theorem State.endsOnly_lxAbort (s : State) (home idx why : Nat) : s.endsOnly (s.lxAbort home idx why) := by
  unfold State.lxAbort
  dsimp only
  split
  · exact s.endsOnly_setLx _ _ _
  · exact s.endsOnly_refl

theorem State.finalItem_endsOnly {s : State} {sheet i : Nat} (status : Nat) (h : (s.item sheet i).st ≠ .final) :
    (s.mapItem sheet i (fun t => { t with st := .final, status := status })).endsOnly (s.finalItem sheet i status) := by
  have hdone (t : State) (p : Prop) [Decidable p] (l c : Nat) : t.endsOnly (if p then t else t.addCounter sheet l c (-1)) := by
    split
    · exact t.endsOnly_refl
    · exact t.endsOnly_addCounter _ _ _ _
  have hreserved (t : State) : t.endsOnly (t.mapSheet sheet (fun h => { h with reservations := h.reservations.filter (fun r => r.item ≠ i) })) :=
    t.endsOnly_mapSheet sheet _ (fun _ => ⟨rfl, rfl⟩)
  unfold State.finalItem
  extract_lets it t u v w x
  have hw : t.endsOnly w := ((hreserved t).trans (hdone u _ _ _)).trans (v.endsOnly_notifyHost it status)
  have hx : w.endsOnly x := by
    show w.endsOnly (match it.tile with | some id => _ | none => _)
    split
    · split
      · exact w.endsOnly_refl
      · exact w.endsOnly_lxAbort _ _ _
    · exact w.endsOnly_refl
  rw [if_neg h]
  exact (hw.trans hx).trans (x.endsOnly_launchEndCheck _)

/-- An item that is not final takes its final state and status; memory, the threads and the queues of intake stay (R345). -/
theorem State.finalItem_spec {s : State} {sheet i : Nat} (status : Nat) (h : (s.item sheet i).st ≠ .final) :
    let t := s.finalItem sheet i status
    t.mem = s.mem ∧ t.threads = s.threads ∧ (∀ n, (t.sheet n).intakeQ = (s.sheet n).intakeQ) ∧
      t.item sheet i = { s.item sheet i with st := .final, status := status } := by
  obtain ⟨hmem, hth, hk⟩ := State.finalItem_endsOnly status h
  refine ⟨hmem, hth, fun n => ?_, ?_⟩
  · obtain ⟨hq, -⟩ := hk n
    rw [hq, State.mapItem, State.sheet_mapSheet]
    split
    · next e => rw [e]
    · rfl
  · obtain ⟨-, hi⟩ := hk sheet
    have hset := s.item_mapItem_same sheet i (fun t => { t with st := .final, status := status })
    rw [hi i (by rw [hset]; nofun), hset]

/-! ### Intake (R338, R340, R342, R343) -/

section intake
variable {s : State} {sheet : Nat} {b : Submission}

theorem State.itemFinding_noEntry {s : State} {it : Item} (h : it.entryC = 0) : s.itemFinding it = some 0x1B := by
  unfold State.itemFinding
  simp [h]

theorem State.intakeCheck_finding {c : Nat} {ws : List Word} {order : Nat} (hb : s.itemWords sheet b = (.ok ws, s)) (h : s.itemFinding (b.item ws order) = some c) :
    s.intakeCheck sheet b order = (.ok (b.item ws order, some c), s) := by
  simp only [State.intakeCheck, hb, h]

/-- A team whose ranks fit into 16 bits, and of one member where the item names a slot, meets the last check of R340. -/
theorem Item.team_fits {it : Item} {team : List (Nat × Nat × Nat)} (hne : team ≠ []) (hfit : it.member + team.length ≤ 2 ^ 16) (hpin : it.pin = Option.none ∨ team.length = 1) :
    ¬ (65535 < it.member + (team.length - 1) ∨ (it.pin.isSome ∧ team.length ≠ 1)) := by
  have hlen := List.length_pos_iff.mpr hne
  rintro (hbig | ⟨hsome, hn⟩)
  · omega
  · rcases hpin with hp | hp
    · rw [hp] at hsome; nomatch hsome
    · exact hn hp

/-- An item without a finding and without a shape, whose members fit, passes the checks with its team (R336, R340). -/
theorem State.intakeCheck_passes {ws : List Word} {order : Nat} (hb : s.itemWords sheet b = (.ok ws, s)) (h : s.itemFinding (b.item ws order) = none)
    (hshape : (b.item ws order).shapeVa = 0)
    (hteam : let it := b.item ws order; let team := it.team (s.legendOf it); team ≠ [] ∧ it.member + team.length ≤ 2 ^ 16 ∧ (it.pin = none ∨ team.length = 1)) :
    s.intakeCheck sheet b order = (.ok ({ b.item ws order with members := (b.item ws order).team (s.legendOf (b.item ws order)) }, none), s) := by
  obtain ⟨hne, hfit, hpin⟩ := hteam
  have hread : s.itemShape sheet (b.item ws order) = (.ok 0, s) := if_pos hshape
  simp only [State.intakeCheck, hb, h, hread]
  exact congrArg (fun x => ((Except.ok (_, x), s) : Except Unit (Item × Option Nat) × State)) (if_neg (Item.team_fits hne hfit hpin))

/-- What an intake does, once the pool has room, with an item that fails its checks. -/
theorem State.intake_finding {it : Item} {c : Nat} {t : State} (hpool : (s.sheet sheet).pool < Config.poolSize)
    (h : s.intakeCheck sheet b (s.sheet sheet).nextItem = (.ok (it, some c), t)) : s.intake sheet b = (.ok (t.enter sheet it (some c)).1, (t.enter sheet it (some c)).2) := by
  unfold State.intake
  rw [if_neg (Nat.not_le.mpr hpool), h]
  exact if_neg (fun hc => nomatch hc.1)

/-- What an intake does with an item that passes its checks and stays on its sheet. -/
theorem State.intake_passes {it : Item} (hpool : (s.sheet sheet).pool < Config.poolSize) (hhome : s.itemHome it sheet = sheet)
    (h : s.intakeCheck sheet b (s.sheet sheet).nextItem = (.ok (it, none), s)) : s.intake sheet b = (.ok (s.enter sheet it none).1, (s.enter sheet it none).2) := by
  unfold State.intake
  rw [if_neg (Nat.not_le.mpr hpool), h]
  exact if_neg (fun hc => Nat.not_le.mpr hpool (hhome ▸ hc.2))

/-- An item takes the next number of a sheet. -/
def State.addItem (sheet : Nat) (it : Item) (s : State) : State :=
  s.mapSheet sheet (fun h => { h with nextItem := (s.sheet sheet).nextItem + 1, items := h.items.set (s.sheet sheet).nextItem it })

theorem State.addItem_spec (s : State) (sheet : Nat) (it : Item) :
    (s.addItem sheet it).item sheet (s.sheet sheet).nextItem = it ∧ ((s.addItem sheet it).sheet sheet).nextItem = (s.sheet sheet).nextItem + 1 ∧
      ∀ n, ((s.addItem sheet it).sheet n).intakeQ = (s.sheet n).intakeQ := by
  unfold State.addItem
  refine ⟨?_, ?_, fun n => ?_⟩
  · simp only [State.item, State.sheet_mapSheet, if_true, Map.get_set_same]
  · simp only [State.sheet_mapSheet, if_true]
  · rw [State.sheet_mapSheet]
    split
    · next e => rw [e]
    · rfl

/-- An item with a finding has its final state at once, with the finding's cause in its status (R340, R345). -/
theorem State.enter_finding {it : Item} (c : Nat) (hst : it.st ≠ .final) :
    let t := (s.enter sheet it (some c)).2
    t.item sheet (s.sheet sheet).nextItem = { it with st := .final, status := 768 + c } ∧ ∀ n, (t.sheet n).intakeQ = (s.sheet n).intakeQ := by
  obtain ⟨hitem, -, hadd⟩ := s.addItem_spec sheet it
  obtain ⟨-, -, hq, hfinal⟩ := State.finalItem_spec (768 + c) (hitem.symm ▸ hst : ((s.addItem sheet it).item sheet (s.sheet sheet).nextItem).st ≠ .final)
  rw [hitem] at hfinal
  exact ⟨hfinal, fun n => (hq n).trans (hadd n)⟩

/-- The state of an item that intake has checked: held while its gate counter is not 0, and otherwise ready (R342). -/
def State.gated (s : State) (sheet : Nat) (it : Item) : ItemState :=
  if it.gate ≠ 0 ∧ ((s.sheet sheet).counters.get (0, false) (it.launch, it.gate)).1 ≠ 0 then .held else .ready

theorem State.enter_passes {it : Item} (hhome : s.itemHome it sheet = sheet) (hmembers : it.members ≠ []) :
    (s.enter sheet it none).2 = s.addItem sheet { it with st := s.gated sheet it, order := (s.sheet sheet).nextItem } := by
  have hsome : it.members.isEmpty = false := by simpa using hmembers
  simp only [State.enter, hhome, hsome, Bool.false_and, Bool.false_eq_true, if_false, decide_eq_true_eq, State.addItem, State.gated]

end intake

/-- ITEM_INTAKE of a plain submission that the dispatcher takes in (R340, R343). -/
theorem execItemIntake_next {s t : State} {h c : Nat} {b : Submission} {rest : List Submission} (hlost : (s.sheet h).lost = false)
    (hq : (s.sheet h).intakeQ = b :: rest) (hsv : b.svitem = false) (hcombine : b.combine = none)
    (hin : (s.mapSheet h (fun k => { k with intakeQ := rest })).intake h b = (.ok c, t)) : execItemIntake h s = .next (t.launchEndCheck b.launch) := by
  simp only [execItemIntake, hq, hlost, hin, hsv, hcombine, Bool.false_eq_true, if_false]

/-- The words of a submission that brings sixteen are its item's. -/
theorem State.itemWords_given (s : State) (sheet : Nat) {b : Submission} (hb : b.words.length = 16) : s.itemWords sheet b = (.ok b.words, s) :=
  if_pos (fun h => by rw [h] at hb; nomatch hb)

end Sys2Proof.Machine

namespace Sys2Proof.Proofs
open Sys2Proof.Machine Sys2Proof.Claims

section intake
variable {s : State} {h : Nat} {b : Submission} {rest : List Submission} (hlost : (s.sheet h).lost = false) (hq : (s.sheet h).intakeQ = b :: rest)
  (hpool : (s.sheet h).pool < Config.poolSize) (hb : b.words.length = 16) (hsv : b.svitem = false) (hcombine : b.combine = none)
include hlost hq hpool hb hsv hcombine

/-- An item without an entry_c is rejected with cause 0x1B (R340, R345). -/
theorem intake_noEntry (hentry : (b.item b.words (s.sheet h).nextItem).entryC = 0) :
    ∃ t, exec (.itemIntake h) s = .next t ∧ (t.item h (s.sheet h).nextItem).st = .final ∧ (t.item h (s.sheet h).nextItem).status = 0x31B ∧
      (t.sheet h).intakeQ = rest := by
  let r := s.mapSheet h (fun k => { k with intakeQ := rest })
  have hsheet : r.sheet h = { s.sheet h with intakeQ := rest } := by simp only [r, State.sheet_mapSheet, if_true]
  have hnext : (r.sheet h).nextItem = (s.sheet h).nextItem := by rw [hsheet]
  have hcheck := State.intakeCheck_finding (r.itemWords_given h hb) (r.itemFinding_noEntry hentry)
  have hin := State.intake_finding (s := r) (sheet := h) (b := b) (by rw [hsheet]; exact hpool) (by rw [hnext]; exact hcheck)
  obtain ⟨hfinal, hintake⟩ := State.enter_finding (s := r) (sheet := h) (it := b.item b.words (s.sheet h).nextItem) 0x1B (by nofun)
  rw [hnext] at hfinal
  obtain ⟨-, -, hend⟩ := (r.enter h (b.item b.words (s.sheet h).nextItem) (some 0x1B)).2.launchEndCheck_frame b.launch
  obtain ⟨hqend, -, hitems⟩ := hend h
  have hitem := (State.item_of_items hitems (s.sheet h).nextItem).trans hfinal
  refine ⟨_, execItemIntake_next hlost hq hsv hcombine hin, ?_, ?_, ?_⟩
  · rw [hitem]
  · rw [hitem]
  · rw [hqend, hintake, hsheet]

/-- An item that passes the checks stands on its sheet with its team, held or ready (R336, R340, R342). -/
theorem intake_takes {lg : List Byte} (htile : b.tile = none) (hfind : s.itemFinding (b.item b.words (s.sheet h).nextItem) = none)
    (hshape : (b.item b.words (s.sheet h).nextItem).shapeVa = 0) (hlg : s.legendOf (b.item b.words (s.sheet h).nextItem) = lg) (hcovers : legendCovers lg h = true)
    (hteam : let it := b.item b.words (s.sheet h).nextItem
      it.team lg ≠ [] ∧ it.member + (it.team lg).length ≤ 2 ^ 16 ∧ (it.pin = none ∨ (it.team lg).length = 1)) :
    let it := b.item b.words (s.sheet h).nextItem
    let n := (s.sheet h).nextItem
    ∃ t, exec (.itemIntake h) s = .next t ∧ (t.sheet h).intakeQ = rest ∧
      t.item h n = { it with members := it.team lg, st := s.gated h it } ∧ (t.sheet h).nextItem = n + 1 ∧ t.mem = s.mem := by
  subst hlg
  intro it n
  let r := s.mapSheet h (fun k => { k with intakeQ := rest })
  have hsheet : r.sheet h = { s.sheet h with intakeQ := rest } := by simp only [r, State.sheet_mapSheet, if_true]
  have hnext : (r.sheet h).nextItem = n := by rw [hsheet]
  let placed : Item := { it with members := it.team (s.legendOf it) }
  have hcheck : r.intakeCheck h b n = (.ok (placed, none), r) := State.intakeCheck_passes (r.itemWords_given h hb) hfind hshape hteam
  have hhome : r.itemHome placed h = h := by
    have htile' : placed.tile.isSome = false := by rw [show placed.tile = b.tile from rfl, htile]; rfl
    have hcovers' : legendCovers (r.legendOf placed) h = true := hcovers
    simp only [State.itemHome, htile', hcovers', Bool.or_true, if_true]
  have hin := State.intake_passes (s := r) (sheet := h) (b := b) (by rw [hsheet]; exact hpool) hhome (by rw [hnext]; exact hcheck)
  obtain ⟨hne, -⟩ := hteam
  have hplaced : placed.members ≠ [] := hne
  have henter := State.enter_passes hhome hplaced
  have hgated : r.gated h placed = s.gated h it := by
    unfold State.gated
    rw [hsheet]
    rfl
  rw [hnext, hgated] at henter
  obtain ⟨hitem, hnext', hintake⟩ := r.addItem_spec h { placed with st := s.gated h it, order := n }
  rw [hnext] at hitem hnext'
  obtain ⟨hmem, -, hend⟩ := (r.enter h placed none).2.launchEndCheck_frame b.launch
  obtain ⟨hqend, hnend, hitems⟩ := hend h
  refine ⟨_, execItemIntake_next hlost hq hsv hcombine hin, ?_, ?_, ?_, ?_⟩
  · rw [hqend, henter, hintake, hsheet]
  · exact (State.item_of_items hitems n).trans ((congrArg (fun x : State => x.item h n) henter).trans hitem)
  · rw [hnend, henter, hnext']
  · rw [hmem, henter]
    rfl

end intake

end Sys2Proof.Proofs

namespace Sys2Proof.Machine
open Sys2Proof.Claims

/-! ### Dispatch (R331, R344) -/

theorem State.readyItems_none {s : State} {h : Nat} (hnone : ∀ p ∈ (s.sheet h).items, p.2.st ≠ .ready) : s.readyItems h = [] := by
  have hfilter : (s.sheet h).items.filter (fun p => decide (p.2.st = .ready)) = [] := List.filter_eq_nil_iff.mpr (by simpa using hnone)
  rw [State.readyItems, hfilter]
  rfl

theorem State.readyItems_single {s : State} {h i : Nat} {it : Item} (hitems : (s.sheet h).items = [(i, it)]) (hst : it.st = .ready) : s.readyItems h = [i] := by
  have hfilter : (s.sheet h).items.filter (fun p => decide (p.2.st = .ready)) = [(i, it)] := by rw [hitems]; exact List.filter_cons_of_pos (decide_eq_true hst)
  rw [State.readyItems, hfilter]
  rfl

/-- A team starts on its legend's rectangle or on the sheet of its item (R338). -/
theorem State.startOf_zone (s : State) (w : Want) :
    (s.startOf w).1 = .rect (legendSheets (s.legendOf (s.item w.sheet w.item))) ∨ (s.startOf w).1 = .sheet w.sheet := by
  unfold State.startOf
  dsimp only
  split
  · exact .inl rfl
  · exact .inr rfl

/-- An item may be placed while its own sheet and some sheet of its legend's rectangle are not drained of its launch (R366). -/
theorem State.itemDrained_false {s : State} {h i k : Nat} (hown : h ∉ (s.launch (s.item h i).launch).drained) (hk : k < 32)
    (hcovers : legendCovers (s.legendOf (s.item h i)) k = true) (hother : k ∉ (s.launch (s.item h i).launch).drained) : s.itemDrained h i = false := by
  unfold State.itemDrained
  rcases s.startOf_zone (s.wantOf h i) with hz | hz
  · have hmem : k ∈ legendSheets (s.legendOf (s.item h i)) := List.mem_filter.mpr ⟨List.mem_range.mpr hk, hcovers⟩
    simp only [hz]
    exact List.all_eq_false.mpr ⟨k, hmem, by simpa using hother⟩
  · simp only [hz]
    simpa using hown

/-- A late ready item of policy 0 of which no member has started is discarded with status 256 (R331). -/
theorem State.tryItem_late {s : State} {h i : Nat} (hst : (s.item h i).st = .ready) (hdrained : s.itemDrained h i = false)
    (hmembers : (s.item h i).members ≠ []) (hlate : s.lateNow (s.item h i) = true) : s.tryItem h i = (true, true, s.finalItem h i 256) := by
  have hsome : (s.item h i).members.isEmpty = false := by simpa using hmembers
  simp [State.tryItem, hst, hdrained, hsome, hlate]

theorem State.dispatch_none {s : State} {h : Nat} (hready : s.readyItems h = []) : s.dispatch h = (false, s) := by
  rw [State.dispatch, hready]
  rfl

/-- A dispatch cycle whose one ready item has no member left to place. -/
theorem State.dispatch_single {s t : State} {h i : Nat} (hready : s.readyItems h = [i]) (htry : s.tryItem h i = (true, true, t)) : s.dispatch h = (true, t) := by
  simp [State.dispatch, hready, htry]

theorem State.lateNow_of_late {s : State} {it : Item} (hlate : it.late = 0) (hdl : it.deadline ≠ 0) (hpast : it.deadline.toNat < s.cycle.toNat) (hended : it.ended = [])
    (hfree : ∀ m ∈ it.members, m.2.2 = 0) : s.lateNow it = true := by
  have hlt : it.deadline < s.cycle := hpast
  have hall : it.members.all (fun m => m.2.2 == 0) = true := List.all_eq_true.mpr fun m hm => beq_iff_eq.mpr (hfree m hm)
  rw [State.lateNow, hall, Bool.and_true]
  exact decide_eq_true ⟨hlate, hdl, hlt, hended⟩

end Sys2Proof.Machine

namespace Sys2Proof.Proofs
open Sys2Proof.Machine Sys2Proof.Claims

theorem dispatch_discardsLate {s : State} {h i : Nat} {it : Item} (hitems : (s.sheet h).items = [(i, it)]) (hst : it.st = .ready)
    (hown : h ∉ (s.launch it.launch).drained) (hother : ∃ k, k < 32 ∧ legendCovers (s.legendOf it) k = true ∧ k ∉ (s.launch it.launch).drained)
    (hmembers : it.members ≠ []) (hlate : s.lateNow it = true) :
    ∃ t, exec (.dispatchCycle h) s = .next t ∧ (t.item h i).st = .final ∧ (t.item h i).status = 256 := by
  have hitem : s.item h i = it := by rw [State.item, hitems]; exact if_pos rfl
  subst hitem
  obtain ⟨k, hk, hcovers, hopen⟩ := hother
  have hdrained := State.itemDrained_false hown hk hcovers hopen
  have hdispatch := State.dispatch_single (State.readyItems_single hitems hst) (State.tryItem_late hst hdrained hmembers hlate)
  obtain ⟨-, -, -, hfinal⟩ := State.finalItem_spec 256 (s := s) (sheet := h) (i := i) (by rw [hst]; nofun)
  refine ⟨s.finalItem h i 256, ?_, by rw [hfinal], by rw [hfinal]⟩
  rw [exec_dispatchCycle, execDispatchCycle, hdispatch]

end Sys2Proof.Proofs

namespace Sys2Proof.Machine
open Sys2Proof.Claims

/-! ### The governor and the watchdog (R346, R347, R362) -/

/-- The governor's stage changes the sheets alone. -/
theorem State.onlySheets_govern (s : State) (h st : Nat) : onlySheets s (s.govern h st) := by
  unfold State.govern
  dsimp only
  split
  · split
    · exact onlySheets_mapSheet _ _ _
    · rfl
  · rfl

theorem State.govern_idle {s : State} {h st : Nat} (hidle : s.stageReady h st ≤ bitsOf ((s.sheet h).stqcfg.get 0 st).toNat 57 44) : s.govern h st = s := by
  unfold State.govern
  exact if_neg fun hc => Nat.not_lt.mpr hidle hc.1

/-- One pass of the governor over the stages. -/
def State.governAll (h : Nat) (s : State) : State := ((List.range 15).map (· + 1)).foldl (fun (t : State) st => t.govern h st) s

theorem State.onlySheets_governAll (s : State) (h : Nat) : onlySheets s (s.governAll h) :=
  List.foldlRecOn (motive := onlySheets s) _ _ rfl (fun t ht st _ => onlySheets_trans ht (t.onlySheets_govern h st))

theorem State.governAll_idle {s : State} {h : Nat} (hidle : ∀ st, st < 16 → s.stageReady h st ≤ bitsOf ((s.sheet h).stqcfg.get 0 st).toNat 57 44) :
    s.governAll h = s :=
  List.foldlRecOn (motive := fun t => t = s) _ _ rfl fun t ht st hst => by
    obtain ⟨k, hk, rfl⟩ := List.mem_map.mp hst
    have hk := List.mem_range.mp hk
    rw [ht, State.govern_idle (hidle (k + 1) (by omega))]

theorem execGovernorTick_due {s : State} {h : Nat} (hdue : (s.sheet h).gov < s.cycle.toNat / 1024) :
    execGovernorTick h s = .next ((s.governAll h).mapSheet h (fun k => { k with gov := s.cycle.toNat / 1024 })) := by
  unfold execGovernorTick
  exact if_neg (Nat.not_le.mpr hdue)

theorem execWatchdogExpire_due {s : State} {th : Nat} {side : Side} (hready : s.ready (.task th side) = true) (hpost : (s.thread th).post = true)
    (hwords : 65536 ≤ (s.ctxOf (.task th side)).words) : execWatchdogExpire th side s = raise0 0x1C { s with cur := .task th side } := by
  have hdog : ({ s with cur := .task th side } : State).watchdog = true := by
    have hcounts : ({ s with cur := .task th side } : State).counts = true := hpost
    rw [State.watchdog, hcounts, Bool.true_and]
    exact decide_eq_true hwords
  simp only [execWatchdogExpire, hready, hdog, Bool.not_true, Bool.or_self, Bool.false_eq_true, if_false]

end Sys2Proof.Machine

namespace Sys2Proof.Proofs
open Sys2Proof.Machine Sys2Proof.Claims

theorem governor_ticks {s : State} {h : Nat} (hdue : (s.sheet h).gov < s.cycle.toNat / 1024) :
    ∃ t, exec (.governorTick h) s = .next t ∧ (t.sheet h).gov = s.cycle.toNat / 1024 ∧ t = { s with sheets := t.sheets } ∧
      ((∀ st, st < 16 → s.stageReady h st ≤ bitsAt ((s.sheet h).stqcfg.get 0 st) 57 44) → (t.sheet h).quota = (s.sheet h).quota) := by
  refine ⟨_, (exec_governorTick h s).trans (execGovernorTick_due hdue), ?_, ?_, fun hidle => ?_⟩
  · rw [State.sheet_mapSheet, if_pos rfl]
  · exact onlySheets_trans (s.onlySheets_governAll h) (onlySheets_mapSheet _ _ _)
  · rw [State.governAll_idle hidle, State.sheet_mapSheet, if_pos rfl]

end Sys2Proof.Proofs

namespace Sys2Proof.Machine
open Sys2Proof.Claims

/-! ### Records and spans leave items, sweeps and places (R353, R363) -/

/-- From one state to another the launches, every thread's item, and of every sheet the items and the last sweep stay as they are. -/
def State.keepsItems (s t : State) : Prop :=
  t.launches = s.launches ∧ (∀ th, (t.thread th).itemSheet = (s.thread th).itemSheet ∧ (t.thread th).item = (s.thread th).item) ∧
    ∀ h, (t.sheet h).items = (s.sheet h).items ∧ (t.sheet h).swept = (s.sheet h).swept

theorem State.keepsItems_refl (s : State) : s.keepsItems s := ⟨rfl, fun _ => ⟨rfl, rfl⟩, fun _ => ⟨rfl, rfl⟩⟩

theorem State.keepsItems.trans {r s t : State} (h : r.keepsItems s) (h' : s.keepsItems t) : r.keepsItems t := by
  obtain ⟨hl, hth, hk⟩ := h
  obtain ⟨hl', hth', hk'⟩ := h'
  refine ⟨hl'.trans hl, fun th => ⟨?_, ?_⟩, fun n => ⟨?_, ?_⟩⟩
  · exact (hth' th).1.trans (hth th).1
  · exact (hth' th).2.trans (hth th).2
  · exact (hk' n).1.trans (hk n).1
  · exact (hk' n).2.trans (hk n).2

/-- A fold of updates that each keep the items. -/
theorem State.keepsItems_foldl {α : Type} (f : State → α → State) (hf : ∀ (s : State) a, s.keepsItems (f s a)) (l : List α) (s : State) : s.keepsItems (l.foldl f s) :=
  List.foldlRecOn (motive := s.keepsItems) _ _ s.keepsItems_refl (fun t ht a _ => ht.trans (hf t a))

theorem State.keepsItems_mapSheet (s : State) (n : Nat) (f : Sheet → Sheet) (hf : ∀ k, (f k).items = k.items ∧ (f k).swept = k.swept) : s.keepsItems (s.mapSheet n f) := by
  refine ⟨rfl, fun _ => ⟨rfl, rfl⟩, fun h => ?_⟩
  rw [State.sheet_mapSheet]
  split
  · next e => rw [e]; exact hf _
  · exact ⟨rfl, rfl⟩

theorem State.keepsItems_setThread (s : State) (th : Nat) (t : Thread) (hsheet : t.itemSheet = (s.thread th).itemSheet) (hitem : t.item = (s.thread th).item) :
    s.keepsItems (s.setThread th t) := by
  refine ⟨rfl, fun n => ?_, fun _ => ⟨rfl, rfl⟩⟩
  rw [State.thread_setThread]
  split
  · next e => rw [e]; exact ⟨hsheet, hitem⟩
  · exact ⟨rfl, rfl⟩

theorem State.keepsItems_setTag (s : State) (line : Nat) (x : BitVec 32) : s.keepsItems (s.setTag line x) := s.keepsItems_refl

theorem State.keepsItems_storeLine (s : State) (line : Nat) (mask : LineMask) (data : LineData) : s.keepsItems (s.storeLine line mask data) := by
  refine State.keepsItems_foldl _ (fun t k => ?_) _ _
  split
  · unfold State.storeByte
    dsimp only
    split <;> exact t.keepsItems_refl
  · exact t.keepsItems_refl

theorem State.keepsItems_countUnbacked (s : State) (pa : Nat) : s.keepsItems (s.countUnbacked pa) := by
  unfold State.countUnbacked
  split
  · exact s.keepsItems_mapSheet _ _ (fun _ => ⟨rfl, rfl⟩)
  · exact s.keepsItems_refl

theorem State.keepsItems_pageWritten (s : State) (pa : Nat) : s.keepsItems (s.pageWritten pa) := by
  have hdrop (mask : BitVec 32) : s.keepsItems (s.dropReplicas pa mask) := by
    refine State.keepsItems_foldl _ (fun t k => ?_) _ _
    split
    · exact t.keepsItems_mapSheet _ _ (fun _ => ⟨rfl, rfl⟩)
    · exact t.keepsItems_refl
  have hpage (t : State) (r : PageRec) : t.keepsItems (t.setPage pa r) := t.keepsItems_mapSheet _ _ (fun _ => ⟨rfl, rfl⟩)
  unfold State.pageWritten
  dsimp only
  split_ifs
  · exact (hdrop _).trans (hpage _ _)
  · exact hpage _ _
  · exact s.keepsItems_refl

theorem State.keepsItems_writeRecord (s : State) (sheet : Nat) (e : EventRec) : s.keepsItems (s.writeRecord sheet e) := by
  unfold State.writeRecord
  dsimp only
  refine State.keepsItems.trans ?_ (State.keepsItems_mapSheet _ _ _ (fun _ => ⟨rfl, rfl⟩))
  split
  · exact ((s.keepsItems_storeLine _ _ _).trans (State.keepsItems_setTag _ _ _)).trans (State.keepsItems_pageWritten _ _)
  · exact s.keepsItems_countUnbacked _

theorem State.keepsItems_logEvent (s : State) (sheet : Nat) (e : EventRec) : s.keepsItems (s.logEvent sheet e) := by
  unfold State.logEvent
  split_ifs
  · exact s.keepsItems_mapSheet _ _ (fun _ => ⟨rfl, rfl⟩)
  · exact s.keepsItems_mapSheet _ _ (fun _ => ⟨rfl, rfl⟩)
  · exact s.keepsItems_writeRecord _ _

/-- A recording that a write abandons leaves its thread's item. -/
theorem State.keepsItems_abandonRec (s : State) (th code : Nat) : s.keepsItems (s.abandonRec th code) := by
  unfold State.abandonRec
  split
  · exact s.keepsItems_refl
  · refine State.keepsItems.trans ?_ (State.keepsItems_logEvent _ _ _)
    refine State.keepsItems.trans ?_ (State.keepsItems_mapSheet _ _ _ (fun _ => ⟨rfl, rfl⟩))
    exact s.keepsItems_setThread _ _ rfl rfl

theorem State.keepsItems_invalidatePlates (s : State) (pa : Nat) : s.keepsItems (s.invalidatePlates pa) := by
  refine State.keepsItems_foldl _ (fun t e => ?_) _ _
  have habandon (ps : List Plate) : t.keepsItems (ps.foldl (fun (u : State) p => u.abandonRec p.owner 14) t) :=
    State.keepsItems_foldl _ (fun u p => u.keepsItems_abandonRec p.owner 14) ps t
  dsimp only
  split
  · exact (habandon _).trans (State.keepsItems_mapSheet _ _ _ (fun _ => ⟨rfl, rfl⟩))
  · exact habandon _

theorem State.keepsItems_recordOf (s : State) (sheet cause flags : Nat) (source obj : Word) : s.keepsItems (s.recordOf sheet cause flags source obj) := by
  unfold State.recordOf State.record
  dsimp only
  split
  · exact s.keepsItems_logEvent _ _
  · exact (s.keepsItems_logEvent _ _).trans (State.keepsItems_invalidatePlates _ _)

theorem State.sameBlocks_performBytes (s : State) (pa : Nat) (bs : List Byte) : s.sameBlocks (s.performBytes pa bs) := by
  unfold State.performBytes State.performWrite State.afterWrite
  split
  · exact (((s.sameBlocks_storeLine _ _ _).trans (State.sameBlocks_setTag _ _ _)).trans (State.sameBlocks_pageWritten _ _)).trans (State.sameBlocks_invalidatePlates _ _)
  · exact s.sameBlocks_countUnbacked _

theorem State.keepsItems_performBytes (s : State) (pa : Nat) (bs : List Byte) : s.keepsItems (s.performBytes pa bs) := by
  unfold State.performBytes State.performWrite State.afterWrite
  split
  · exact (((s.keepsItems_storeLine _ _ _).trans (State.keepsItems_setTag _ _ _)).trans (State.keepsItems_pageWritten _ _)).trans (State.keepsItems_invalidatePlates _ _)
  · exact s.keepsItems_countUnbacked _

/-- A write line by line leaves what each of its writes leaves. -/
theorem State.performSpan_keeps (pa : Nat) (bs : List Byte) (n : Nat) (s : State) : s.keepsItems (s.performSpan pa bs n) ∧ s.sameBlocks (s.performSpan pa bs n) := by
  induction n generalizing s pa bs with
  | zero => exact ⟨s.keepsItems_refl, s.sameBlocks_refl⟩
  | succ n ih =>
    rw [State.performSpan]
    split
    · exact ⟨s.keepsItems_refl, s.sameBlocks_refl⟩
    · obtain ⟨hitems, hblocks⟩ := ih (pa + (256 - pa % 256)) (bs.drop (256 - pa % 256)) (s.performBytes pa (bs.take (256 - pa % 256)))
      exact ⟨(s.keepsItems_performBytes _ _).trans hitems, (s.sameBlocks_performBytes _ _).trans hblocks⟩

/-- The declaration of a deadlock writes its list and a record (R353). -/
theorem State.declare_keeps (sheet l : Nat) (s : State) : s.keepsItems (s.declare sheet l) ∧ s.sameBlocks (s.declare sheet l) := by
  unfold State.declare
  extract_lets k ws n bytes
  obtain ⟨hitems, hblocks⟩ := State.performSpan_keeps (s.sheet sheet).deadlockArea bytes 17 s
  exact ⟨hitems.trans (State.keepsItems_recordOf _ _ _ _ _ _), hblocks.trans (State.sameBlocks_recordOf _ _ _ _ _ _)⟩

/-! ### The deadlock sweep (R353) -/

/-- The launch whose rectangle a sheet sweeps. -/
def sweeps (h : Nat) (p : Nat × Launch) : Bool := decide (p.2.live = true ∧ p.2.origin = h ∧ p.2.drained = [])

theorem sweeps_eq (h : Nat) : (fun (p : Nat × Launch) => p.2.live && p.2.origin == h && p.2.drained.isEmpty) = sweeps h := by
  funext p
  unfold sweeps
  rw [Bool.eq_iff_iff]
  simp [and_assoc]

/-- A sheet after a sweep: the sweep is counted, and whether it found the rectangle at rest is kept. -/
def State.sweptBy (h : Nat) (quiet : Nat) (s : State) : State :=
  (s.mapSheet h (fun k => { k with swept := s.cycle.toNat / 65536 })).mapSheet h (fun k => { k with quiet := quiet })

theorem State.sheet_sweptBy (s : State) (h quiet : Nat) : (s.sweptBy h quiet).sheet h = { s.sheet h with swept := s.cycle.toNat / 65536, quiet := quiet } := by
  simp only [State.sweptBy, State.sheet_mapSheet, if_true]

section sweep
variable {s : State} {h : Nat} (hdue : (s.sheet h).swept < s.cycle.toNat / 65536)
include hdue

theorem execDeadlockSweep_none (hnone : s.launches.find? (sweeps h) = none) : execDeadlockSweep h s = .next (s.sweptBy h 0) := by
  simp only [execDeadlockSweep, if_neg (Nat.not_le.mpr hdue), sweeps_eq, hnone]
  rfl

/-- A sweep of a launch's rectangle: it counts, and it declares a deadlock at most where the rectangle was at rest at the sweep before too. -/
theorem execDeadlockSweep_some (hmoving : s.moving (s.sheet h).deadlockArea = false) {l : Nat} {k : Launch} (hsome : s.launches.find? (sweeps h) = some (l, k)) :
    ∃ quiet declared, execDeadlockSweep h s = .next (if declared = true then (s.sweptBy h quiet).declare h l else s.sweptBy h quiet) ∧
      (s.atRest l = false → quiet = 0 ∧ declared = false) ∧ (s.atRest l = true → (s.sheet h).quiet = 0 → quiet = 1 ∧ declared = false) := by
  simp only [execDeadlockSweep, if_neg (Nat.not_le.mpr hdue), sweeps_eq, hsome, hmoving]
  split_ifs with hrest hquiet hfault hbase
  · exact ⟨0, false, congrArg Host.Outcome.next (if_neg Bool.false_ne_true).symm, by simp, by simp at hrest; simp [hrest]⟩
  · exact ⟨1, false, congrArg Host.Outcome.next (if_neg Bool.false_ne_true).symm, by simp at hrest; simp [hrest], by simp⟩
  · nomatch hfault.2
  all_goals
    have hbefore : (s.sheet h).quiet ≠ 0 := fun e => hquiet (.inl e)
    simp only [Bool.not_eq_true', Bool.not_eq_false] at hrest
  · exact ⟨0, true, congrArg Host.Outcome.next (if_pos rfl).symm, by simp [hrest], fun _ e => absurd e hbefore⟩
  · exact ⟨0, false, congrArg Host.Outcome.next (if_neg Bool.false_ne_true).symm, by simp, fun _ e => absurd e hbefore⟩

end sweep

end Sys2Proof.Machine

namespace Sys2Proof.Proofs
open Sys2Proof.Machine Sys2Proof.Claims

theorem deadlockSweep_sweeps {s : State} {h : Nat} (hdue : (s.sheet h).swept < s.cycle.toNat / 65536) (hmoving : s.moving (s.sheet h).deadlockArea = false) :
    ∃ t, exec (.deadlockSweep h) s = .next t ∧ (t.sheet h).swept = s.cycle.toNat / 65536 ∧ t.ctxs = s.ctxs ∧
      ((∀ l ∈ s.launches, l.2.live = true → l.2.origin = h → l.2.drained ≠ []) → (t.sheet h).quiet = 0 ∧ t.mem = s.mem) ∧
      (∀ l k, s.launches.find? (sweeps h) = some (l, k) →
        (s.atRest l = false → (t.sheet h).quiet = 0 ∧ t.mem = s.mem) ∧ (s.atRest l = true → (s.sheet h).quiet = 0 → (t.sheet h).quiet = 1 ∧ t.mem = s.mem)) := by
  have hswept (quiet : Nat) : ((s.sweptBy h quiet).sheet h).swept = s.cycle.toNat / 65536 := by rw [State.sheet_sweptBy]
  have hkeep (quiet : Nat) : ((s.sweptBy h quiet).sheet h).quiet = quiet ∧ (s.sweptBy h quiet).mem = s.mem := ⟨by rw [State.sheet_sweptBy], rfl⟩
  rw [exec_deadlockSweep]
  cases hfind : s.launches.find? (sweeps h) with
  | none =>
    refine ⟨_, execDeadlockSweep_none hdue hfind, hswept 0, rfl, fun _ => hkeep 0, ?_⟩
    nofun
  | some p =>
    obtain ⟨l, k⟩ := p
    obtain ⟨quiet, declared, hexec, hbusy, hfirst⟩ := execDeadlockSweep_some hdue hmoving hfind
    refine ⟨_, hexec, ?_, ?_, fun hall => ?_, ?_⟩
    · split
      · obtain ⟨⟨-, -, hsheets⟩, -⟩ := State.declare_keeps h l (s.sweptBy h quiet)
        obtain ⟨-, hs⟩ := hsheets h
        rw [hs, hswept]
      · exact hswept quiet
    · split
      · obtain ⟨-, -, hctxs, -⟩ := State.declare_keeps h l (s.sweptBy h quiet)
        rw [hctxs]
        rfl
      · rfl
    · have hlive : sweeps h (l, k) = true := List.find?_some hfind
      obtain ⟨h1, h2, h3⟩ := of_decide_eq_true hlive
      exact absurd h3 (hall _ (List.mem_of_find?_eq_some hfind) h1 h2)
    · rintro l' k' ⟨⟩
      refine ⟨fun hrest => ?_, fun hrest hquiet => ?_⟩
      · obtain ⟨rfl, rfl⟩ := hbusy hrest
        rw [if_neg Bool.false_ne_true]
        exact hkeep 0
      · obtain ⟨rfl, rfl⟩ := hfirst hrest hquiet
        rw [if_neg Bool.false_ne_true]
        exact hkeep 1

end Sys2Proof.Proofs

namespace Sys2Proof.Machine
open Sys2Proof.Claims

/-! ### Entries of a print (R381, R393) -/

/-- The state at which the next entry of a print is issued. -/
def State.printing (th : Nat) (s : State) : State :=
  ({ s with cur := .task th .c } : State).mapSheet (sheetOfThread th) (fun h => { h with activeAt := s.cycle.toNat })

section print
variable {s : State} {th : Nat} {p : Printing} (hprint : (s.thread th).print = some p) (hst : (s.thread th).st = .post)
  (hfrozen : (s.core (th / 8)).frozen = false) (hretired : (s.core (th / 8)).retired = false) (hwait : (s.ctxOf (.task th .c)).wait = none)
  (hdrained : s.drained (.task th .c) = false) (hplates : ∀ q ∈ (s.sheet (sheetOfThread th)).plates, q.bad = false)
include hprint hst hfrozen hretired hwait hdrained hplates

/-- A print of a committed member on a core in service, which waits for nothing and whose plate can be read, goes on with its next entry. -/
theorem execPrintEntryIssue_issues :
    (p.entries[p.next]? = none → execPrintEntryIssue th s = .next ((s.printing th).printEnd th)) ∧
      ∀ e, p.entries[p.next]? = some e → e.typ = 3 → execPrintEntryIssue th s = (s.printing th).printOrder th p e := by
  have hprint' : (({ s with cur := .task th .c } : State).thread th).print = some p := hprint
  have hblocked : ¬ ((({ s with cur := .task th .c } : State).thread th).st ≠ .pre ∧ (({ s with cur := .task th .c } : State).thread th).st ≠ .post ∨
      ({ s with cur := .task th .c } : State).ctx.wait.any (fun w => !w.cond.holds (.task th .c) { s with cur := .task th .c }) ∨
      (({ s with cur := .task th .c } : State).core (coreOfThread th)).frozen ∨ (({ s with cur := .task th .c } : State).core (coreOfThread th)).retired ∨
      ({ s with cur := .task th .c } : State).drained (.task th .c)) := by
    have hwait' : ({ s with cur := .task th .c } : State).ctx.wait = none := hwait
    rintro (⟨-, h⟩ | h | h | h | h)
    · exact h hst
    · rw [hwait'] at h; nomatch h
    · exact Bool.false_ne_true (hfrozen.symm.trans h)
    · exact Bool.false_ne_true (hretired.symm.trans h)
    · exact Bool.false_ne_true (hdrained.symm.trans h)
  have hlost : ({ s with cur := .task th .c } : State).plateLost th p = false := by
    refine List.any_eq_false.mpr fun q hq => ?_
    rw [hplates q hq, Bool.and_false]
    nofun
  constructor
  · intro hnext
    simp only [execPrintEntryIssue, hprint', if_neg hblocked, hlost, hnext]
    rfl
  · intro e hnext htyp
    simp only [execPrintEntryIssue, hprint', if_neg hblocked, hlost, hnext, htyp]
    rfl

end print

/-- The end of a print is that of END: the member is ending, and its C side has ended (R116, R381). -/
theorem State.printEnd_spec (s : State) (th : Nat) :
    ((s.printEnd th).thread th).st = .ending ∧ ((s.printEnd th).thread th).print = none ∧ ((s.printEnd th).ctxOf (.task th .c)).run = .ended := by
  unfold State.printEnd
  refine ⟨?_, ?_, ?_⟩
  · rw [State.thread_mapCtx, State.thread_mapThread, if_pos rfl]
  · rw [State.thread_mapCtx, State.thread_mapThread, if_pos rfl]
  · rw [State.ctxOf_mapCtx_same]

/-- An ordering entry on a job that was never issued acquires, and the print goes on (R393). -/
theorem State.printOrder_noJob {s : State} {th : Nat} {p : Printing} {e : PEntry} (hjob : p.jobs.getD e.arg 0 = 0) :
    s.printOrder th p e = .next ((s.acquire 2).printNext th (fun q => q)) := by
  simp only [State.printOrder, hjob, if_true]

theorem State.printNext_acquire (s : State) (th : Nat) :
    (((s.acquire 2).printNext th (fun q => q)).thread th).print = (s.thread th).print.map (fun q => { q with next := q.next + 1 }) ∧
      ((s.acquire 2).printNext th (fun q => q)).mem = s.mem := by
  refine ⟨?_, rfl⟩
  unfold State.printNext
  have hthread (t : State) (k : Ctx) : (t.setCtx (.task th .c) k).thread th = t.thread th := rfl
  rw [hthread, State.thread_mapThread, if_pos rfl]
  rfl

end Sys2Proof.Machine

namespace Sys2Proof.Proofs
open Sys2Proof.Machine Sys2Proof.Claims

theorem printEntries_issue {s : State} {th : Nat} {p : Printing} (hprint : (s.thread th).print = some p) (hst : (s.thread th).st = .post)
    (hfrozen : (s.core (th / 8)).frozen = false) (hretired : (s.core (th / 8)).retired = false) (hwait : (s.ctxOf (.task th .c)).wait = none)
    (hdrained : s.drained (.task th .c) = false) (hplates : ∀ q ∈ (s.sheet (sheetOfThread th)).plates, q.bad = false) :
    (p.entries.length ≤ p.next → ∃ t, exec (.printEntryIssue th) s = .next t ∧ (t.thread th).st = .ending ∧ (t.thread th).print = none ∧
      (t.ctxOf (.task th .c)).run = .ended) ∧
    (∀ e, p.entries[p.next]? = some e → e.typ = 3 → p.jobs.getD e.arg 0 = 0 → ∃ t, exec (.printEntryIssue th) s = .next t ∧
      (t.thread th).print = some { p with next := p.next + 1 } ∧ t.mem = s.mem) := by
  obtain ⟨hends, hgoes⟩ := execPrintEntryIssue_issues hprint hst hfrozen hretired hwait hdrained hplates
  rw [exec_printEntryIssue]
  refine ⟨fun hlen => ⟨_, hends (List.getElem?_eq_none hlen), State.printEnd_spec _ _⟩, fun e hnext htyp hjob => ?_⟩
  obtain ⟨hp, hmem⟩ := (s.printing th).printNext_acquire th
  have hprint' : ((s.printing th).thread th).print = some p := hprint
  refine ⟨_, (hgoes e hnext htyp).trans (State.printOrder_noJob hjob), ?_, hmem⟩
  rw [hp, hprint', Option.map_some]

end Sys2Proof.Proofs

namespace Sys2Proof.Machine
open Sys2Proof.Claims

/-! ### What a member that leaves its slot leaves behind (R53, R58) -/

/-- From one state to another memory, the items and the launches stay as they are. -/
def State.clearsOnly (s t : State) : Prop := t.mem = s.mem ∧ t.launches = s.launches ∧ ∀ h, (t.sheet h).items = (s.sheet h).items

theorem State.clearsOnly_refl (s : State) : s.clearsOnly s := ⟨rfl, rfl, fun _ => rfl⟩

theorem State.clearsOnly.trans {r s t : State} (h : r.clearsOnly s) (h' : s.clearsOnly t) : r.clearsOnly t := by
  obtain ⟨hmem, hl, hi⟩ := h
  obtain ⟨hmem', hl', hi'⟩ := h'
  exact ⟨hmem'.trans hmem, hl'.trans hl, fun n => (hi' n).trans (hi n)⟩

theorem State.clearsOnly_foldl {α : Type} (f : State → α → State) (hf : ∀ (s : State) a, s.clearsOnly (f s a)) (l : List α) (s : State) : s.clearsOnly (l.foldl f s) :=
  List.foldlRecOn (motive := s.clearsOnly) _ _ s.clearsOnly_refl (fun t ht a _ => ht.trans (hf t a))

theorem State.clearsOnly_ite (s : State) (p : Prop) [Decidable p] {t u : State} (ht : s.clearsOnly t) (hu : s.clearsOnly u) : s.clearsOnly (if p then t else u) := by
  split
  · exact ht
  · exact hu

/-- A change that leaves memory, the launches and the sheets. -/
theorem State.clearsOnly_of_sheets {s t : State} (hmem : t.mem = s.mem) (hl : t.launches = s.launches) (hsheets : t.sheets = s.sheets) : s.clearsOnly t :=
  ⟨hmem, hl, fun h => by rw [State.sheet, State.sheet, hsheets]⟩

theorem State.clearsOnly_mapSheet (s : State) (n : Nat) (f : Sheet → Sheet) (hf : ∀ k, (f k).items = k.items) : s.clearsOnly (s.mapSheet n f) :=
  ⟨rfl, rfl, fun h => State.items_mapSheet hf s n h⟩

theorem State.clearsOnly_mapThread (s : State) (th : Nat) (f : Thread → Thread) : s.clearsOnly (s.mapThread th f) := State.clearsOnly_of_sheets rfl rfl rfl

theorem State.clearsOnly_mapCluster (s : State) (cl : Nat) (f : Cluster → Cluster) : s.clearsOnly (s.mapCluster cl f) := State.clearsOnly_of_sheets rfl rfl rfl

theorem State.clearsOnly_countLate (s : State) (cl : Nat) : s.clearsOnly (s.countLate cl) := State.clearsOnly_of_sheets rfl rfl rfl

theorem State.clearsOnly_closeRoute (s : State) (c : CtxId) : s.clearsOnly (s.closeRoute c) := by
  have hpass (t : State) (src dst : Nat) (k : Option Nat) : t.clearsOnly (t.pass src dst k) :=
    t.clearsOnly_ite _ (State.clearsOnly_foldl _ (fun u r => u.clearsOnly_countLate r) _ _) t.clearsOnly_refl
  have hflush (t : State) (r : Route) : t.clearsOnly (t.flushPass c r) := by
    unfold State.flushPass
    split
    · exact State.clearsOnly_foldl _ (fun u _ => hpass u _ _ _) _ _
    · exact t.clearsOnly_refl
  unfold State.closeRoute
  extract_lets r u
  have hu : s.clearsOnly u := State.clearsOnly_of_sheets rfl rfl rfl
  refine State.clearsOnly_ite _ _ hu ?_
  extract_lets
  exact (hu.trans (hflush u r)).trans (State.clearsOnly_mapThread _ _ _)

/-- What a run leaves behind goes without a byte of memory, an item or a launch (R53). -/
theorem State.clearsOnly_clearRun (s : State) (th : Nat) : s.clearsOnly (s.clearRun th) := by
  have hrec (t : State) : t.clearsOnly (t.dropRec th) := by
    unfold State.dropRec
    split
    · exact t.clearsOnly_refl
    · refine State.clearsOnly.trans ?_ (State.clearsOnly_mapSheet _ _ _ (fun _ => rfl))
      exact t.clearsOnly_mapThread _ _
  have hplate (t : State) : t.clearsOnly (t.unpinPlate th) := by
    unfold State.unpinPlate
    split
    · exact t.clearsOnly_refl
    · exact t.clearsOnly_mapSheet _ _ (fun _ => rfl)
  unfold State.clearRun
  extract_lets core post table t u waits v w x mine y z
  have hu : s.clearsOnly u := (((s.clearsOnly_closeRoute _).trans (State.clearsOnly_closeRoute _ _)).trans (hrec _)).trans (hplate _)
  have hv : s.clearsOnly v := State.clearsOnly_ite _ _ (hu.trans (State.clearsOnly_mapCluster _ _ _)) hu
  have hz : v.clearsOnly z := by
    refine State.clearsOnly_of_sheets ?_ ?_ ?_ <;> simp only [z, y, x, w, State.mapCore_mem, State.mapCore_launches, State.mapCore_sheets, State.setCtx_mem,
      State.setCtx_launches, State.setCtx_sheets]
  exact State.clearsOnly_ite _ _ (hv.trans hz) ((hv.trans hz).trans (State.clearsOnly_mapCluster _ _ _))

/-- The members of an item once the one of a thread has left its slot (R58). -/
def Item.without (th : Nat) (it : Item) : Item := { it with members := it.members.map (fun m => if m.2.2 = th + 1 then (m.1, m.2.1, 0) else m) }

/-- A member leaves its slot: the slot is free, and its item has it without a place. -/
theorem State.unplace_spec (s : State) (th : Nat) :
    let t := s.thread th
    let u := s.unplace th
    (u.thread th).st = .empty ∧ u.mem = s.mem ∧ u.item t.itemSheet t.item = (s.item t.itemSheet t.item).without th := by
  intro t u
  obtain ⟨hmem, -, hitems⟩ := s.clearsOnly_clearRun th
  have hthread : u.thread th = Thread.init := (State.thread_setThread (s.clearRun th) th th Thread.init).trans (if_pos rfl)
  refine ⟨by rw [hthread]; rfl, hmem, ?_⟩
  have hitem : ((s.clearRun th).freeSlot th).item t.itemSheet t.item = s.item t.itemSheet t.item := State.item_of_items (hitems _) _
  exact (State.item_mapItem_same _ _ _ _).trans (congrArg (Item.without th) hitem)

/-! ### The end of a task (R116, R345) -/

/-- A core without dirty bytes, and no packet on its way: the stores of its task are performed. -/
theorem State.storesDone_settled {s : State} {th : Nat} (hclean : ∀ e ∈ (s.core (th / 8)).l1, e.dirty = 0) (hnet : s.net = []) : s.storesDone th = true := by
  have hdirty : (s.core (coreOfThread th)).l1.any (fun e => s.endDirty th e && e.dirty != 0) = false := by
    refine List.any_eq_false.mpr fun e he => ?_
    rw [hclean e he]
    simp
  simp only [State.storesDone, hdirty, hnet, List.any_nil, Bool.not_false, Bool.and_self]

/-- A member that has ended leaves its slot, and its rank is counted. -/
def State.memberEnded (th : Nat) (s : State) : State :=
  (s.mapItem (s.thread th).itemSheet (s.thread th).item (fun i => { i with ended := i.ended ++ [(s.thread th).rank] })).unplace th

theorem execTaskEndComplete_done {s : State} {th : Nat} (hending : s.ending th = true) (hdone : s.storesDone th = true) :
    execTaskEndComplete th s = .next
      (if (s.item (s.thread th).itemSheet (s.thread th).item).ended.length + 1 = (s.item (s.thread th).itemSheet (s.thread th).item).members.length then
        (s.memberEnded th).finalItem (s.thread th).itemSheet (s.thread th).item 0
      else s.memberEnded th) := by
  simp only [execTaskEndComplete, hending, hdone, Bool.not_true, Bool.false_eq_true, if_false, if_true]
  rfl

theorem State.memberEnded_spec (s : State) (th : Nat) :
    let t := s.thread th
    let u := s.memberEnded th
    (u.thread th).st = .empty ∧ u.mem = s.mem ∧
      u.item t.itemSheet t.item = ({ s.item t.itemSheet t.item with ended := (s.item t.itemSheet t.item).ended ++ [t.rank] } : Item).without th := by
  intro t u
  have hmap := s.item_mapItem_same t.itemSheet t.item (fun i => { i with ended := i.ended ++ [t.rank] })
  obtain ⟨hst, hmem, hitem⟩ := (s.mapItem t.itemSheet t.item (fun i => { i with ended := i.ended ++ [t.rank] })).unplace_spec th
  exact ⟨hst, hmem, hitem.trans (congrArg (Item.without th) hmap)⟩

end Sys2Proof.Machine

namespace Sys2Proof.Proofs
open Sys2Proof.Machine Sys2Proof.Claims

theorem taskEnd_completes {s : State} {th : Nat} (hst : (s.thread th).st = .ending) (hidle : s.aIdle th = true) (hjobs : s.jobsDone th = true)
    (hclean : ∀ e ∈ (s.core (th / 8)).l1, e.dirty = 0) (hnet : s.net = []) (hopen : (s.item (s.thread th).itemSheet (s.thread th).item).st ≠ .final) :
    let t := s.thread th
    let it := s.item t.itemSheet t.item
    ∃ u, exec (.taskEndComplete th) s = .next u ∧ (u.thread th).st = .empty ∧ (u.item t.itemSheet t.item).ended = it.ended ++ [t.rank] ∧ u.mem = s.mem ∧
      (it.ended.length + 1 = it.members.length → (u.item t.itemSheet t.item).st = .final ∧ (u.item t.itemSheet t.item).status = 0) := by
  intro t it
  have hending : s.ending th = true := by rw [State.ending, hidle, hjobs, decide_eq_true hst]; rfl
  obtain ⟨hempty, hmem, hitem⟩ := s.memberEnded_spec th
  refine ⟨_, (exec_taskEndComplete th s).trans (execTaskEndComplete_done hending (State.storesDone_settled hclean hnet)), ?_⟩
  split
  · have hnot : ((s.memberEnded th).item t.itemSheet t.item).st ≠ .final := by rw [hitem]; exact hopen
    obtain ⟨hmem', hthreads, -, hfinal⟩ := State.finalItem_spec 0 hnot
    refine ⟨?_, ?_, hmem'.trans hmem, fun _ => ?_⟩
    · rw [State.thread, hthreads]; exact hempty
    · rw [hfinal, hitem]; rfl
    · rw [hfinal]; exact ⟨rfl, rfl⟩
  · next hmore => exact ⟨hempty, by rw [hitem]; rfl, hmem, fun hall => absurd hall hmore⟩

end Sys2Proof.Proofs

namespace Sys2Proof.Machine
open Sys2Proof.Claims

/-! ### The input copy (R344, R348) -/

theorem spanReads_zero (va fuel : Nat) : spanReads va 0 fuel = [] := by
  cases fuel <;> rfl

/-- The pieces of a read have its length between them. -/
theorem sum_spanReads (va n fuel : Nat) (h : n + va % 256 ≤ 256 * fuel) : ((spanReads va n fuel).map Prod.snd).sum = n := by
  induction fuel generalizing va n with
  | zero => simp only [spanReads, List.map_nil, List.sum_nil]; omega
  | succ k ih =>
    rw [spanReads]
    split
    · next h0 => rw [h0]; rfl
    · rw [List.map_cons, List.sum_cons]
      by_cases hlast : n ≤ 256 - va % 256
      · rw [Nat.min_eq_left hlast, Nat.sub_self, spanReads_zero]; rfl
      · rw [Nat.min_eq_right (Nat.le_of_not_le hlast), ih _ _ (by omega)]
        omega

theorem State.length_readPiece {s v : State} {sheet asid va n : Nat} {secure : Bool} {bs : List Byte} (h : s.readPiece sheet asid va n secure = (.ok bs, v)) :
    bs.length = n := by
  unfold State.readPiece at h
  dsimp only at h
  split at h
  · nomatch h
  · nomatch h
  · split at h
    · nomatch h
    · obtain ⟨rfl⟩ := Except.ok.inj (congrArg Prod.fst h)
      exact State.length_homeBytes _ _ _

theorem State.length_readPieces {sheet asid : Nat} {secure : Bool} {l : List (Nat × Nat)} {s v : State} {bs : List Byte}
    (h : s.readPieces sheet asid secure l = (.ok bs, v)) : bs.length = (l.map Prod.snd).sum := by
  induction l generalizing s v bs with
  | nil =>
    obtain ⟨rfl⟩ := Except.ok.inj (congrArg Prod.fst h)
    rfl
  | cons p rest ih =>
    obtain ⟨va, n⟩ := p
    rw [State.readPieces] at h
    split at h
    · nomatch h
    · next first t hfirst =>
      split at h
      · nomatch h
      · next others u hrest =>
        obtain ⟨rfl⟩ := Except.ok.inj (congrArg Prod.fst h)
        rw [List.length_append, State.length_readPiece hfirst, ih hrest]
        rfl

/-- A read through a sheet's tables gives as many bytes as it asks for. -/
theorem State.length_readVa {s v : State} {sheet asid va n : Nat} {secure : Bool} {bs : List Byte} (h : s.readVa sheet asid va n secure = (.ok bs, v)) :
    bs.length = n := by
  rw [State.length_readPieces h, sum_spanReads]
  omega

theorem Memory.readList_writeList {m : Memory} (h : m.wf = true) (a : Nat) (bs : List Byte) : (m.writeList a bs).readList a bs.length = bs := by
  refine List.ext_getElem (Memory.length_readList _ _ _) fun k hk hk' => ?_
  simp only [Memory.readList, List.getElem_map, List.getElem_range, Memory.read_writeList h]
  rw [if_pos (by omega), Nat.add_sub_cancel_left, List.getD_eq_getElem _ _ hk']

theorem State.mem_putLocal (s : State) (core off : Nat) (bs : List Byte) : ((s.putLocal core off bs).core core).mem = (s.core core).mem.writeList off bs := by
  rw [State.putLocal, State.core_mapCore, if_pos rfl]

theorem execInputCopyDone_copied {s v : State} {th : Nat} {bs : List Byte} (hcopies : s.copies th = true) (hread : s.readInput th = (.ok bs, v)) :
    execInputCopyDone th s = .next ((v.putLocal (coreOfThread th) (v.item (s.thread th).itemSheet (s.thread th).item).linputOff bs).startTask th) := by
  simp only [execInputCopyDone, hcopies, hread, Bool.not_true, Bool.false_eq_true, if_false]

/-- A copy that fails for a member of no team takes it off its slot, and its item is settled again, after the record (R344). -/
theorem execInputCopyFault_single {s v : State} {th x c va : Nat} (hcopies : s.copies th = true) (hread : s.readInput th = (.error (some x), v))
    (hfault : s.copyFault th = some (c, va)) (hring : s.ringBlocked (sheetOfThread th) = false)
    (hgang : (s.item (s.thread th).itemSheet (s.thread th).item).gang = false) (hfollow : s.follows (s.item (s.thread th).itemSheet (s.thread th).item) = false) :
    let r := s.recordOf (sheetOfThread th) c (recFlags true false (s.thread th).post false false) (addrOf (.task th .c)) (BitVec.ofNat 64 va)
    execInputCopyFault th s = .next ((r.unplace th).mapItem (s.thread th).itemSheet (s.thread th).item (fun i => { i with st := i.settled })) := by
  intro r
  have hlaunches : r.launches = s.launches := (s.keepsItems_recordOf _ _ _ _ _).1
  have hfollow' : r.follows (s.item (s.thread th).itemSheet (s.thread th).item) = false := by
    rw [← hfollow, State.follows, State.follows, State.legendOf, State.legendOf, State.launch, State.launch, hlaunches]
  simp only [execInputCopyFault, hread, hfault, hcopies, hring, hgang]
  rw [show s.recordOf (sheetOfThread th) c (recFlags true false (s.thread th).post false false) (addrOf (.task th .c)) (BitVec.ofNat 64 va) = r from rfl, hfollow']
  rfl

/-- An item that holds nothing is ready once a member that has not ended has no place. -/
theorem Item.settled_ready {it : Item} (hst : it.st ≠ .final) (hholds : it.holds = []) (hout : ∃ m ∈ it.members, m.2.2 = 0 ∧ m.1 ∉ it.ended) : it.settled = .ready := by
  obtain ⟨m, hm, hplace, hended⟩ := hout
  have hmem : m ∈ it.members.filter (fun m => m.2.2 == 0 && !it.ended.contains m.1) := List.mem_filter.mpr ⟨hm, by simp [hplace, hended]⟩
  have hsome : ((it.members.filter (fun m => m.2.2 == 0 && !it.ended.contains m.1)).map Prod.fst).isEmpty = false := by
    rw [List.isEmpty_map]
    exact List.isEmpty_eq_false_iff.mpr (List.ne_nil_of_mem hmem)
  simp only [Item.settled, if_neg hst, hsome, hholds, List.any_nil, Bool.false_eq_true, if_false]

end Sys2Proof.Machine

namespace Sys2Proof.Proofs
open Sys2Proof.Machine Sys2Proof.Claims

section inputCopy
variable {s : State} {th : Nat} (hst : (s.thread th).st = .placing) (hopen : s.drained (.task th .c) = false)
include hst hopen

theorem copies_of_placing : s.copies th = true := by rw [State.copies, hst, hopen]; rfl

/-- A member starts with the state of R53 and its input in local memory (R344). -/
theorem inputCopy_starts {bs : List Byte} {v : State} (hread : s.readInput th = (.ok bs, v)) (hwf : (v.core (th / 8)).mem.wf = true) :
    let t := s.thread th
    let it := s.item t.itemSheet t.item
    ∃ u, exec (.inputCopyDone th) s = .next u ∧ (u.thread th).st = .pre ∧ (u.thread th).post = false ∧ (u.thread th).queues = (s.launch t.launch).queuesOf t.qcfg ∧
      (u.thread th).prio = it.prio ∧ (u.thread th).wake = false ∧ (u.ctxOf (.task th .c)).run = .running ∧ (u.ctxOf (.task th .c)).pc = it.entryC ∧
      (∀ r, (u.ctxOf (.task th .c)).reg r = 0) ∧ (u.ctxOf (.task th .c)).v = [] ∧ (u.ctxOf (.task th .c)).seed = 1 ∧ (u.ctxOf (.task th .c)).vshape = 0x7F0 ∧
      (u.ctxOf (.task th .a)).run = .idle ∧ (u.core (th / 8)).mem.readList it.linputOff it.linputLen = bs ∧ u.mem = v.mem := by
  intro t it
  have hreads : s.readsOnly v := by
    have h := s.readsOnly_readVa (sheetOfThread th) (s.launch t.launch).asid it.linputAddr.toNat it.linputLen (s.launch t.launch).secure
    rwa [show s.readVa _ _ _ _ _ = (.ok bs, v) from hread] at h
  have hlen : bs.length = it.linputLen := State.length_readVa hread
  have hitem : v.item t.itemSheet t.item = it := State.item_of_readsOnly hreads _ _
  obtain ⟨hstarted, hthread, hitems⟩ := State.startedThread_of_readsOnly hreads (coreOfThread th) it.linputOff th bs
  obtain ⟨hfresh, hrun, hpc, hidle, hu, hcores, hmem⟩ := (v.putLocal (coreOfThread th) it.linputOff bs).startTask_spec th
  rw [hstarted] at hu
  have hexec := execInputCopyDone_copied (copies_of_placing hst hopen) hread
  rw [hitem] at hexec
  have hk := hfresh .c
  obtain ⟨hregs, -, hv, -⟩ := hk.registers
  refine ⟨_, hexec, by rw [hu]; rfl, by rw [hu]; rfl, by rw [hu]; rfl, by rw [hu]; rfl, by rw [hu]; rfl, hrun, ?_, hregs, hv, ?_, ?_, hidle, ?_, hmem⟩
  · rw [hpc, hthread, hitems]
  · rw [hk]; rfl
  · rw [hk]; rfl
  · have hlocal := State.mem_putLocal v (coreOfThread th) it.linputOff bs
    have hcopied := Memory.readList_writeList hwf it.linputOff bs
    rw [hlen] at hcopied
    rw [hcores (th / 8)]
    exact (congrArg (fun m : Memory => m.readList it.linputOff it.linputLen) hlocal).trans hcopied

/-- Where the copy fails, the member leaves its slot and the item is ready again, after the record (R344). -/
theorem inputCopy_fails {x c va : Nat} {v : State} (hread : s.readInput th = (.error (some x), v)) (hfault : s.copyFault th = some (c, va))
    (hring : s.ringBlocked (sheetOfThread th) = false) :
    let t := s.thread th
    let it := s.item t.itemSheet t.item
    it.gang = false → s.follows it = false → it.st ≠ .final → it.holds = [] → (∃ m ∈ it.members, m.2.2 = th + 1 ∧ m.1 ∉ it.ended) →
    ∃ u, exec (.inputCopyFault th) s = .next u ∧ (u.thread th).st = .empty ∧ (u.item t.itemSheet t.item).st = .ready ∧
      u.mem = (s.recordOf (sheetOfThread th) c (if t.post then 5 else 1) (addrOf (.task th .c)) (BitVec.ofNat 64 va)).mem := by
  intro t it hgang hfollow hlive hholds hplaced
  have hexec := execInputCopyFault_single (copies_of_placing hst hopen) hread hfault hring hgang hfollow
  have hflags : recFlags true false t.post false false = if t.post then 5 else 1 := by cases t.post <;> rfl
  rw [show recFlags true false (s.thread th).post false false = _ from hflags] at hexec
  obtain ⟨-, hthreads, hsheets⟩ := s.keepsItems_recordOf (sheetOfThread th) c (if t.post then 5 else 1) (addrOf (.task th .c)) (BitVec.ofNat 64 va)
  generalize s.recordOf (sheetOfThread th) c (if t.post then 5 else 1) (addrOf (.task th .c)) (BitVec.ofNat 64 va) = r at hexec hthreads hsheets ⊢
  obtain ⟨hitemSheet, hitem⟩ := hthreads th
  obtain ⟨hempty, hmem, hwithout⟩ := r.unplace_spec th
  obtain ⟨hitems, -⟩ := hsheets t.itemSheet
  rw [hitemSheet, hitem, State.item_of_items hitems] at hwithout
  have hready : (it.without th).settled = .ready := by
    obtain ⟨m, hm, hslot, hended⟩ := hplaced
    exact Item.settled_ready hlive hholds ⟨(m.1, m.2.1, 0), List.mem_map.mpr ⟨m, hm, if_pos hslot⟩, rfl, hended⟩
  refine ⟨_, hexec, hempty, ?_, hmem⟩
  rw [State.item_mapItem_same, hwithout]
  exact hready

end inputCopy

/-! ### The settled statement of the dispatcher -/

/-- Settles O43, from what intake, a dispatch cycle, the input copy, the end of a task, the governor, the sweep, the watchdog and a print's entry each do
(R331, R340 to R348, R353, R362). -/
theorem theDispatcherRunsItems : Obligations.TheDispatcherRunsItems := by
  refine ⟨?_, ?_, ?_, ?_, ?_, ?_, ?_, ?_, ?_⟩
  · intro s h b rest lg hlost hq hpool hb _ _ hsv hcombine htile it n
    exact ⟨intake_noEntry hlost hq hpool hb hsv hcombine, fun hfind hshape hlg hcovers hteam => intake_takes hlost hq hpool hb hsv hcombine htile hfind hshape hlg hcovers hteam⟩
  · intro s h hnone
    rw [exec_dispatchCycle, execDispatchCycle, State.dispatch_none (State.readyItems_none hnone)]
  · intro s h i it hitems hst hown hother hmembers hfree hpolicy hdl hpast hended
    exact dispatch_discardsLate hitems hst hown hother hmembers (State.lateNow_of_late hpolicy hdl hpast hended hfree)
  · intro s th hst t it l input hopen
    exact ⟨fun bs v hread hwf => inputCopy_starts hst hopen hread hwf, fun x v c va hread hfault hring => inputCopy_fails hst hopen hread hfault hring⟩
  · intro s th hst hidle hjobs t it hclean hnet hlive _
    exact taskEnd_completes hst hidle hjobs hclean hnet hlive
  · exact fun s h hdue => governor_ticks hdue
  · exact fun s h hdue hmoving => deadlockSweep_sweeps hdue hmoving
  · exact fun s th side hready hpost hwords => execWatchdogExpire_due hready hpost hwords
  · exact fun s th p hprint hst hfrozen hretired hwait hopen hplates => printEntries_issue hprint hst hfrozen hretired hwait hopen hplates

end Sys2Proof.Proofs

/-! # Words and instructions (O1, O2, O3, O4) -/

namespace Sys2Proof
open Sys2Proof.Machine Sys2Proof.Claims

/-! ### The raw fields of a word (R74) -/

/-- Raw fields within their widths. -/
structure RawWord.Fits (r : RawWord) : Prop where
  maj : r.maj < 2 ^ 6
  e : r.e < 2
  n : r.n < 2
  g : r.g < 2 ^ 4
  body : r.body < 2 ^ 20

theorem RawWord.fits_split (w : BitVec 32) : (RawWord.split w).Fits := by
  constructor <;> simp only [RawWord.split] <;> omega

theorem RawWord.join_split (w : BitVec 32) : (RawWord.split w).join = w := by
  apply BitVec.eq_of_toNat_eq
  simp only [RawWord.join, RawWord.split, BitVec.toNat_ofNat]
  omega

theorem RawWord.split_join {r : RawWord} (h : r.Fits) : RawWord.split r.join = r := by
  obtain ⟨maj, e, n, g, body⟩ := r
  obtain ⟨hmaj, he, hn, hg, hbody⟩ := h
  simp only [RawWord.split, RawWord.join, BitVec.toNat_ofNat, RawWord.mk.injEq] at *
  omega

theorem RawWord.fits_rawOf {maj body : Nat} (g : Guard) (hmaj : maj < 2 ^ 6) (hbody : body < 2 ^ 20) : (rawOf maj g body).Fits := by
  cases g with
  | always => exact ⟨hmaj, Nat.zero_lt_two, Nat.zero_lt_two, Nat.two_pow_pos 4, hbody⟩
  | on n p => exact ⟨hmaj, Nat.one_lt_two, by cases n <;> simp [rawOf, encodeGuard], p.isLt, hbody⟩

theorem RawWord.fits_rawHint {kind payload : Nat} (hkind : kind < 2 ^ 4) (hpayload : payload < 2 ^ 22) : (rawHint kind payload).Fits := by
  constructor <;> simp only [rawHint] <;> omega

/-! ### The guard of a word (R75) -/

theorem decodeGuard_rawOf (maj : Nat) (g : Guard) (body : Nat) : decodeGuard (rawOf maj g body) = some g := by
  cases g with
  | always => rfl
  | on n p => cases n <;> simp [decodeGuard, rawOf, encodeGuard]

theorem rawOf_decodeGuard {r : RawWord} {g : Guard} (hr : r.Fits) (h : decodeGuard r = some g) : rawOf r.maj g r.body = r := by
  obtain ⟨maj, e, n, p, body⟩ := r
  obtain ⟨_, he, hn, hp, _⟩ := hr
  simp only [decodeGuard] at *
  split at h
  · next hguarded =>
    obtain rfl := Option.some.inj h
    have hbit : n = 0 ∨ n = 1 := by omega
    have hfield : p % 16 = p := Nat.mod_eq_of_lt hp
    rcases hbit with rfl | rfl <;> simp [rawOf, encodeGuard, hguarded, hfield]
  · split at h
    · next hplain =>
      obtain rfl := Option.some.inj h
      obtain ⟨rfl, rfl⟩ := hplain
      simp only [rawOf, encodeGuard, RawWord.mk.injEq, true_and, and_true]; omega
    · nomatch h

/-! ### Fields placed in a body (R76) -/

section
variable {n : Nat} (x : BitVec n) {r : Nat}

/-- A field is read back where it was placed above a smaller rest. -/
theorem field_placed {lo : Nat} (h : r < 2 ^ lo) : field (x.toNat * 2 ^ lo + r) lo n = x := by
  apply BitVec.eq_of_toNat_eq
  rw [toNat_field, Nat.mul_comm, Nat.mul_add_div (Nat.two_pow_pos lo), Nat.div_eq_of_lt h, Nat.add_zero, Nat.mod_eq_of_lt x.isLt]

/-- Bits below a placed field are those of the rest. -/
theorem bits_below (lo m : Nat) {hi : Nat} (h : 2 ^ hi % (2 ^ lo * m) = 0) : (x.toNat * 2 ^ hi + r) / 2 ^ lo % m = r / 2 ^ lo % m := by
  obtain ⟨k, hk⟩ := Nat.dvd_of_mod_eq_zero h
  rw [hk, show x.toNat * (2 ^ lo * m * k) + r = 2 ^ lo * (m * (x.toNat * k)) + r by ring, Nat.mul_add_div (Nat.two_pow_pos lo), Nat.mul_add_mod]

theorem low_below (m : Nat) {hi : Nat} (h : 2 ^ hi % m = 0) : (x.toNat * 2 ^ hi + r) % m = r % m := by
  simpa using bits_below x 0 m (r := r) (by simpa using h)

theorem field_below (lo m : Nat) {hi : Nat} (h : lo + m ≤ hi) : field (x.toNat * 2 ^ hi + r) lo m = field r lo m := by
  apply BitVec.eq_of_toNat_eq
  rw [toNat_field, toNat_field]
  exact bits_below x lo (2 ^ m) (by rw [← pow_add]; exact Nat.mod_eq_zero_of_dvd (Nat.pow_dvd_pow 2 h))

end

theorem bits_above {r lo : Nat} (m : Nat) (h : r < 2 ^ lo) : r / 2 ^ lo % m = 0 := by rw [Nat.div_eq_of_lt h, Nat.zero_mod]

theorem field_eq_of {b lo n : Nat} {x : BitVec n} (h : b / 2 ^ lo % 2 ^ n = x.toNat) : field b lo n = x :=
  BitVec.eq_of_toNat_eq (by rw [toNat_field, h])

/-- The raw fields of an instruction are those of a word, and decode to the instruction. -/
def DecodesFromRaw (i : Instr) : Prop := ∃ r, encodeRaw i = some r ∧ r.Fits ∧ decodeRaw r = .ok i

theorem decodesFromRaw_guarded {i : Instr} {maj body : Nat} {g : Guard} (hi : encodeRaw i = some (rawOf maj g body)) (hmaj : maj < 63) (hbody : body < 2 ^ 20)
    (h : decodeGroup maj g body = some i) : DecodesFromRaw i := by
  refine ⟨_, hi, RawWord.fits_rawOf g (by omega) hbody, ?_⟩
  have hne : (rawOf maj g body).maj ≠ 63 := Nat.ne_of_lt hmaj
  rw [decodeRaw, if_neg hne, decodeGuard_rawOf]
  simp only [rawOf, h]

theorem decodesFromRaw_hint {i : Instr} {kind payload : Nat} (hi : encodeRaw i = some (rawHint kind payload)) (hkind : kind < 2 ^ 4) (hpayload : payload < 2 ^ 22)
    (h : decodeHint kind payload = some i) : DecodesFromRaw i := by
  refine ⟨_, hi, RawWord.fits_rawHint hkind hpayload, ?_⟩
  have hk : kind / 8 * 8 + kind / 4 % 2 * 4 + (kind % 4 * 4 + payload / 2 ^ 20) / 4 = kind := by omega
  have hp : (kind % 4 * 4 + payload / 2 ^ 20) % 4 * 2 ^ 20 + payload % 2 ^ 20 = payload := by omega
  simp only [decodeRaw, rawHint, if_true, hk, hp, h]

/-- Parts of the opcode map. -/
inductive Family where
  | scalar | access | atomic | vector | queue | engine | hint | device

/-- The part of the opcode map that holds a group. -/
def familyOf (g : Group) : Family :=
  match g with
  | .ialu | .immediate | .shi | .cmpi | .compare | .jump | .ctlAny | .ctlTask | .eret | .hret | .ctlC | .control => .scalar
  | .loadStore | .tile | .memc | .pfetch => .access
  | .amo => .atomic
  | .vector | .vred | .vcmp | .vmisc | .vshape | .pmerge => .vector
  | .queue | .stream | .port | .portV => .queue
  | .matrix | .taskOnly | .every | .gpush | .surveyor => .engine
  | .hint => .hint
  | .event => .device

theorem decodesFromRaw_scalar {i : Instr} (hi : familyOf (groupOf i) = .scalar) : DecodesFromRaw i := by
  cases i
  case add | sub | and | or | xor | andn | shl | shr | sar | min | max | minn | maxn | addw | subw | clz | ctz | popc | sext8 | sext16 | sext32 |
      zext32 | mul | mulh | mulhn | mulw | div | divn | rem | remn | addi | andi | ori | xori | shli | cmpiEq | cmpEq | cmpNe | cmpLt | cmpLtn | cmpGe
      | cmpGen | lea | pand | por | pxor | pandn | pnot | pset | pclr | pmovs | pany | pall | pcnt | pfirst | sel | jump | jumpLink | jumpReg |
      jumpLinkReg | nop | endTask | commit | yield | park | trap | eret | brk | hret | astart | await | iflush | crd | cwr =>
    refine decodesFromRaw_guarded rfl (by decide) (by simp only [sumOf, put]; omega) ?_
    simp (disch := omega) only [decodeGroup, decodeMaj01, decodeMaj02, decodeMaj04, decodeMaj05, decodeMaj06,
      decodeMaj07, decodeMaj08, decodeMaj09, decodeMaj0A, decodeMaj0B, decodeMaj0C, decodeMaj0D, decodeMaj10, decodeMaj11, decodeMaj12, decodeMaj13,
      decodeMaj14, decodeMaj15, sumOf, put, field_placed, field_below, bits_below, bits_above, low_below, Nat.reduceAdd, Nat.reduceMod, and_self, if_true]
  case shri | sari | cmpiNe | cmpiLt | cmpiLtn | cmpiGe | cmpiGen =>
    refine decodesFromRaw_guarded rfl (by decide) (by simp only [sumOf, put]; omega) ?_
    simp only [sumOf, put]
    simp (disch := omega) only [decodeGroup, decodeMaj08, decodeMaj09, if_pos, if_neg]
    congr <;> exact field_eq_of (by omega)
  all_goals nomatch hi

theorem decodesFromRaw_access {i : Instr} (hi : familyOf (groupOf i) = .access) : DecodesFromRaw i := by
  cases i
  case ld | st | ldv | stv | fence | waitack | pfetch | cclean | cinval | cflush | acqinv =>
    refine decodesFromRaw_guarded rfl (by decide) (by simp only [sumOf, put]; omega) ?_
    simp (disch := omega) only [decodeGroup, decodeMaj18, decodeMaj19, decodeMaj1A, decodeMaj1B, decodeMaj1D,
      sumOf, put, field_placed, field_below, bits_above, low_below, Nat.reduceAdd, Nat.reduceMod, if_true]
  all_goals nomatch hi

theorem decodesFromRaw_atomic {i : Instr} (hi : familyOf (groupOf i) = .atomic) : DecodesFromRaw i := by
  cases i
  case amoadd | amoand | amoor | amoxor | amomin | amomax | amominn | amomaxn | amoswap | amocas | amofadd | amostag =>
    refine decodesFromRaw_guarded rfl (by decide) (by simp only [sumOf, put]; omega) ?_
    simp (disch := omega) only [decodeGroup, decodeMaj1C, sumOf, put, field_placed, field_below, low_below, Nat.reduceAdd,
      Nat.reduceMod, Nat.reduceEqDiff, if_true, if_false]
  all_goals nomatch hi

theorem decodesFromRaw_vector {i : Instr} (hi : familyOf (groupOf i) = .vector) : DecodesFromRaw i := by
  cases i
  case vadd | vsub | vmul | vmin | vmax | vabs | vneg | vand | vor | vxor | vshl | vshr | vsar | vfma | vfms | vadds | vsubs | vmuls | vmins | vmaxs |
      vfmas | vexp2 | vlog2 | vrcp | vrsq | vsqrt | vtanh | vrsum | vrmax | vrmin | vcsum | vcmax | vramax | vcmpEq | vcmpNe | vcmpLt | vcmpLe |
      vcmpGt | vcmpGe | vcmpUn | vcvt | vmov | vsplat | vext | vins | vbrow | vbcol | vshape | vzero | viota | vshuf | vscale | smerge | smergez |
      smcount | scan | scanx | vprune | vprunes | vrng | vcompact | pmerge =>
    refine decodesFromRaw_guarded rfl (by decide) (by simp only [sumOf, put]; omega) ?_
    simp (disch := omega) only [decodeGroup, decodeMaj20, decodeMaj21, decodeMaj22, decodeMaj23, decodeMaj24,
      decodeMaj25, decodeMaj26, decodeMaj27, decodeMaj28, sumOf, put, field_placed, field_below, bits_below, bits_above, low_below, Nat.reduceAdd,
      Nat.reduceMod, if_true]
  all_goals nomatch hi

theorem decodesFromRaw_queue {i : Instr} (hi : familyOf (groupOf i) = .queue) : DecodesFromRaw i := by
  cases i
  case spsend | spsendv | spclose | sprecv | sprecvv | spstat =>
    refine decodesFromRaw_guarded rfl (by decide) (by simp only [sumOf, put]; omega) ?_
    simp (disch := omega) only [decodeGroup, decodeMaj2D, sumOf, put, field_placed, field_below, bits_below,
      bits_above, low_below, Nat.reduceAdd, Nat.reduceMod, if_true]
  case qcfg | qpub | qadv | qfill | sstr | istr | sclose | sstat =>
    refine decodesFromRaw_guarded rfl (by decide) (by simp only [sumOf, put]; omega) ?_
    simp only [sumOf, put, Nat.reduceAdd]
    simp (disch := omega) only [decodeGroup, decodeMaj2C, low_below, Nat.reduceMod, if_pos]
    congr <;> exact field_eq_of (by omega)
  all_goals nomatch hi

theorem decodesFromRaw_engine {i : Instr} (hi : familyOf (groupOf i) = .engine) : DecodesFromRaw i := by
  cases i
  case mwalk | mwalkg | mprog | mcancel | mnode | gang | jwait | jpoll | tcopy | tgather | tscatter | tscadd | tfill | sleepu | phreg | phdrop | phsig
      | phwait | phnext | phread | phnew | phfree | tspawn | tdep | tctr | tshape | targ | tself | tlate | pgld | pdrop | pstat | pnorec | lturn |
      lstat | lquiet | gpush | rpop | lxbegin | lxack | lxend | lxstat | tlbinv | freeze | thaw | pgmove | cspare | world =>
    refine decodesFromRaw_guarded rfl (by decide) (by simp only [sumOf, put]; omega) ?_
    simp (disch := omega) only [decodeGroup, decodeMaj30, decodeMaj31, decodeMaj32, decodeMaj33, decodeMaj34,
      decodeMaj38, decodeMaj39, decodeMaj3A, decodeMaj3B, decodeMaj3C, decodeMaj3D, sumOf, put, field_placed, field_below, bits_below, bits_above, low_below,
      Nat.reduceAdd, Nat.reduceMod, and_self, if_true]
  all_goals nomatch hi

theorem decodesFromRaw_hints {i : Instr} (hi : familyOf (groupOf i) = .hint) : DecodesFromRaw i := by
  cases i
  case immxHint | repHint | ordHint | locHint | mcompHint | qwHint | rndHint =>
    refine decodesFromRaw_hint rfl (by decide) (by simp only [sumOf, put]; omega) ?_
    simp (disch := omega) only [decodeHint, sumOf, put, field_placed, field_below, bits_above, if_true]
  all_goals nomatch hi

/-- The device steps are the last part of the opcode map. -/
theorem event_of_device {g : Group} (h : familyOf g = .device) : g = .event := by cases g <;> cases h; rfl

theorem decodesFromRaw {i : Instr} (hi : hasWord i) : DecodesFromRaw i := by
  cases hf : familyOf (groupOf i) with
  | scalar => exact decodesFromRaw_scalar hf
  | access => exact decodesFromRaw_access hf
  | atomic => exact decodesFromRaw_atomic hf
  | vector => exact decodesFromRaw_vector hf
  | queue => exact decodesFromRaw_queue hf
  | engine => exact decodesFromRaw_engine hf
  | hint => exact decodesFromRaw_hints hf
  | device => exact absurd (event_of_device hf) hi

/-! ### The word of a decoded instruction (R74 to R81) -/

/-- A field placed above the low bits of a body gives the low bits with the field among them. -/
theorem put_field_add {b lo n r : Nat} (h : r = b % 2 ^ lo) : put (field b lo n) lo + r = b % 2 ^ (lo + n) := by
  rw [put, toNat_field, h, pow_add, Nat.mod_mul]; ring

theorem ite_some_eq_some_iff {α : Type} {c : Prop} [Decidable c] {x i : α} {o : Option α} :
    (if c then some x else o) = some i ↔ c ∧ x = i ∨ ¬c ∧ o = some i := by
  by_cases hc : c <;> simp [hc]

section
variable {maj : Nat} {g : Guard} {b : Nat} {i : Instr} (hb : b < 2 ^ 20)
include hb

theorem encodeRaw_of_decode_arithmetic (hlo : 0x01 ≤ maj) (hhi : maj < 0x08) (h : decodeGroup maj g b = some i) : encodeRaw i = some (rawOf maj g b) := by
  interval_cases maj
  all_goals simp only [decodeGroup, decodeMaj01, decodeMaj02, decodeMaj04, decodeMaj05, decodeMaj06, decodeMaj07, reduceCtorEq] at h
  all_goals (repeat' split at h)
  all_goals simp only [Option.some.injEq, reduceCtorEq] at h
  all_goals
    subst h
    refine congrArg (fun body => some (rawOf _ g body)) ?_
    simp (disch := omega) only [sumOf, put_field_add]
    omega

theorem encodeRaw_of_decode_control (hlo : 0x0A ≤ maj) (hhi : maj < 0x1C) (h : decodeGroup maj g b = some i) : encodeRaw i = some (rawOf maj g b) := by
  interval_cases maj
  all_goals simp only [decodeGroup, decodeMaj0A, decodeMaj0B, decodeMaj0C, decodeMaj0D, decodeMaj10, decodeMaj11, decodeMaj12, decodeMaj13, decodeMaj14,
    decodeMaj15, decodeMaj18, decodeMaj19, decodeMaj1A, decodeMaj1B, reduceCtorEq] at h
  all_goals (repeat' split at h)
  all_goals simp only [Option.some.injEq, reduceCtorEq] at h
  all_goals
    subst h
    refine congrArg (fun body => some (rawOf _ g body)) ?_
    simp (disch := omega) only [sumOf, put_field_add]
    omega

theorem encodeRaw_of_decode_vector (hlo : 0x1D ≤ maj) (hhi : maj < 0x2C) (h : decodeGroup maj g b = some i) : encodeRaw i = some (rawOf maj g b) := by
  interval_cases maj
  all_goals simp only [decodeGroup, decodeMaj1D, decodeMaj20, decodeMaj21, decodeMaj22, decodeMaj23, decodeMaj24, decodeMaj25, decodeMaj26, decodeMaj27,
    decodeMaj28, reduceCtorEq] at h
  all_goals (repeat' split at h)
  all_goals simp only [Option.some.injEq, reduceCtorEq] at h
  all_goals
    subst h
    refine congrArg (fun body => some (rawOf _ g body)) ?_
    simp (disch := omega) only [sumOf, put_field_add]
    omega

theorem encodeRaw_of_decode_engine (hlo : 0x2D ≤ maj) (hhi : maj < 0x3F) (h : decodeGroup maj g b = some i) : encodeRaw i = some (rawOf maj g b) := by
  interval_cases maj
  all_goals simp only [decodeGroup, decodeMaj2D, decodeMaj30, decodeMaj31, decodeMaj32, decodeMaj33, decodeMaj34, decodeMaj38, decodeMaj39, decodeMaj3A,
    decodeMaj3B, decodeMaj3C, decodeMaj3D, reduceCtorEq] at h
  all_goals (repeat' split at h)
  all_goals simp only [Option.some.injEq, reduceCtorEq] at h
  all_goals
    subst h
    refine congrArg (fun body => some (rawOf _ g body)) ?_
    simp (disch := omega) only [sumOf, put_field_add]
    omega

/-- Rows whose fixed bits stand between their fields. -/
theorem encodeRaw_of_decode_between (hmaj : maj = 0x08 ∨ maj = 0x09 ∨ maj = 0x2C) (h : decodeGroup maj g b = some i) : encodeRaw i = some (rawOf maj g b) := by
  rcases hmaj with rfl | rfl | rfl
  all_goals simp only [decodeGroup, decodeMaj08, decodeMaj09, decodeMaj2C] at h
  all_goals (repeat' split at h)
  all_goals simp only [Option.some.injEq, reduceCtorEq] at h
  all_goals
    subst h
    refine congrArg (fun body => some (rawOf _ g body)) ?_
    simp only [sumOf, put, toNat_field]
    omega

theorem encodeRaw_of_decode_atomic (h : decodeGroup 0x1C g b = some i) : encodeRaw i = some (rawOf 0x1C g b) := by
  simp only [decodeGroup, decodeMaj1C, ite_some_eq_some_iff, reduceCtorEq, and_false, or_false] at h
  rcases h with ⟨hfn, rfl⟩ | ⟨-, ⟨hfn, rfl⟩ | ⟨-, ⟨hfn, rfl⟩ | ⟨-, ⟨hfn, rfl⟩ | ⟨-, ⟨hfn, rfl⟩ | ⟨-, ⟨hfn, rfl⟩ | ⟨-, ⟨hfn, rfl⟩ | ⟨-, ⟨hfn, rfl⟩ | ⟨-, ⟨hfn,
    rfl⟩ | ⟨-, ⟨hfn, rfl⟩ | ⟨-, ⟨hfn, rfl⟩ | ⟨-, ⟨hfn, rfl⟩⟩⟩⟩⟩⟩⟩⟩⟩⟩⟩⟩
  all_goals
    refine congrArg (fun body => some (rawOf _ g body)) ?_
    simp (disch := omega) only [sumOf, put_field_add]
    omega

/-- The body of a guarded word is that of the instruction which it decodes to. -/
theorem encodeRaw_of_decodeGroup (hmaj : maj < 63) (h : decodeGroup maj g b = some i) : encodeRaw i = some (rawOf maj g b) := by
  have hrange : maj = 0 ∨ (1 ≤ maj ∧ maj < 0x08) ∨ (maj = 0x08 ∨ maj = 0x09 ∨ maj = 0x2C) ∨ (0x0A ≤ maj ∧ maj < 0x1C) ∨ maj = 0x1C ∨
      (0x1D ≤ maj ∧ maj < 0x2C) ∨ (0x2D ≤ maj ∧ maj < 0x3F) := by omega
  rcases hrange with rfl | ⟨hlo, hhi⟩ | hodd | ⟨hlo, hhi⟩ | rfl | ⟨hlo, hhi⟩ | ⟨hlo, hhi⟩
  · nomatch h
  · exact encodeRaw_of_decode_arithmetic hb hlo hhi h
  · exact encodeRaw_of_decode_between hb hodd h
  · exact encodeRaw_of_decode_control hb hlo hhi h
  · exact encodeRaw_of_decode_atomic hb h
  · exact encodeRaw_of_decode_vector hb hlo hhi h
  · exact encodeRaw_of_decode_engine hb hlo hhi h

end

theorem encodeRaw_of_decodeHint {kind payload : Nat} {i : Instr} (hpayload : payload < 2 ^ 22) (h : decodeHint kind payload = some i) :
    encodeRaw i = some (rawHint kind payload) := by
  unfold decodeHint at h
  repeat' split at h
  all_goals simp only [Option.some.injEq, reduceCtorEq] at h
  all_goals
    subst h
    refine congrArg (fun p => some (rawHint _ p)) ?_
    simp (disch := omega) only [sumOf, put_field_add]
    omega

theorem rawHint_split {r : RawWord} (hr : r.Fits) (hmaj : r.maj = 63) :
    rawHint (r.e * 8 + r.n * 4 + r.g / 4) (r.g % 4 * 2 ^ 20 + r.body) = r := by
  obtain ⟨maj, e, n, g, body⟩ := r
  obtain ⟨_, he, hn, hg, hbody⟩ := hr
  simp only [rawHint, RawWord.mk.injEq] at *
  omega

/-- Raw fields that decode to an instruction are those of the instruction. -/
theorem encodeRaw_of_decodeRaw {r : RawWord} {i : Instr} (hr : r.Fits) (h : decodeRaw r = .ok i) : encodeRaw i = some r := by
  unfold decodeRaw at h
  split at h
  · next hmaj =>
    split at h
    · next j hj =>
      obtain rfl := Except.ok.inj h
      rw [encodeRaw_of_decodeHint (by have := hr.g; have := hr.body; omega) hj, rawHint_split hr hmaj]
    · nomatch h
  · next hmaj =>
    split at h
    · nomatch h
    · next g hg =>
      split at h
      · next j hj =>
        obtain rfl := Except.ok.inj h
        rw [encodeRaw_of_decodeGroup hr.body (by have := hr.maj; omega) hj, rawOf_decodeGuard hr hg]
      · nomatch h

theorem encode_of_decode {w : BitVec 32} {i : Instr} (h : decode w = .ok i) : encode i = some w := by
  rw [encode, encodeRaw_of_decodeRaw (RawWord.fits_split w) h, Option.map_some, RawWord.join_split]

/-- A step of a device has no word. -/
theorem encode_event {i : Instr} (h : groupOf i = .event) : encode i = none := by
  cases i <;> cases h <;> rfl

/-! ### Words that decode to nothing (R75, R78, R79) -/

theorem decode_guardBits {w : BitVec 32} (hmaj : w.toNat / 2 ^ 26 ≠ 63) (he : w.toNat / 2 ^ 25 % 2 = 0) (hbits : w.toNat / 2 ^ 20 % 32 ≠ 0) :
    decode w = .error .guardBits := by
  have hguard : decodeGuard (RawWord.split w) = none := by
    simp only [decodeGuard, RawWord.split, he, Nat.zero_ne_one, if_false]
    exact if_neg (by omega)
  simp only [decode, decodeRaw, hguard, if_neg (c := (RawWord.split w).maj = 63) hmaj]

theorem decode_error_of_group {w : BitVec 32} (hmaj : w.toNat / 2 ^ 26 ≠ 63) (h : ∀ g, decodeGroup (w.toNat / 2 ^ 26) g (w.toNat % 2 ^ 20) = none) :
    ∃ e, decode w = .error e := by
  have hnone : ∀ g, decodeGroup (RawWord.split w).maj g (RawWord.split w).body = none := h
  rw [decode, decodeRaw, if_neg (c := (RawWord.split w).maj = 63) hmaj]
  split
  · exact ⟨_, rfl⟩
  · rw [hnone]; exact ⟨_, rfl⟩

theorem decodeGroup_unassigned {maj : Nat} (h : maj ∈ unassignedMajors) (g : Guard) (b : Nat) : maj ≠ 63 ∧ decodeGroup maj g b = none := by
  simp only [unassignedMajors, List.mem_cons, List.not_mem_nil, or_false] at h
  rcases h with rfl | rfl | rfl | rfl | rfl | rfl | rfl | rfl | rfl | rfl | rfl | rfl | rfl | rfl | rfl | rfl | rfl <;> exact ⟨by decide, rfl⟩

theorem decodeGroup_reservedFn {maj n : Nat} (hp : (maj, n) ∈ firstReservedFn) (g : Guard) {b : Nat} (hn : n ≤ b % 32) : maj ≠ 63 ∧ decodeGroup maj g b = none := by
  simp only [firstReservedFn, List.mem_cons, Prod.mk.injEq, List.not_mem_nil, or_false] at hp
  rcases hp with ⟨rfl, rfl⟩ | ⟨rfl, rfl⟩ | ⟨rfl, rfl⟩ | ⟨rfl, rfl⟩ | ⟨rfl, rfl⟩ | ⟨rfl, rfl⟩ | ⟨rfl, rfl⟩ | ⟨rfl, rfl⟩ | ⟨rfl, rfl⟩ | ⟨rfl, rfl⟩ | ⟨rfl, rfl⟩
    | ⟨rfl, rfl⟩ | ⟨rfl, rfl⟩ | ⟨rfl, rfl⟩ | ⟨rfl, rfl⟩ | ⟨rfl, rfl⟩ | ⟨rfl, rfl⟩ | ⟨rfl, rfl⟩ | ⟨rfl, rfl⟩ | ⟨rfl, rfl⟩ | ⟨rfl, rfl⟩ | ⟨rfl, rfl⟩ | ⟨rfl,
    rfl⟩ | ⟨rfl, rfl⟩ | ⟨rfl, rfl⟩ | ⟨rfl, rfl⟩ | ⟨rfl, rfl⟩ | ⟨rfl, rfl⟩ | ⟨rfl, rfl⟩ | ⟨rfl, rfl⟩
  all_goals
    refine ⟨by decide, Option.eq_none_iff_forall_ne_some.mpr fun i h => ?_⟩
    simp only [decodeGroup, decodeMaj01, decodeMaj02, decodeMaj0A, decodeMaj0B, decodeMaj0C, decodeMaj0D, decodeMaj12, decodeMaj13, decodeMaj1C, decodeMaj1D,
      decodeMaj20, decodeMaj21, decodeMaj22, decodeMaj23, decodeMaj24, decodeMaj26, decodeMaj27, decodeMaj2C, decodeMaj2D, decodeMaj30, decodeMaj31,
      decodeMaj32, decodeMaj33, decodeMaj34, decodeMaj38, decodeMaj39, decodeMaj3A, decodeMaj3B, decodeMaj3C, decodeMaj3D, ite_some_eq_some_iff] at h
  all_goals (repeat' split at h)
  all_goals simp only [Option.some.injEq, reduceCtorEq, and_false, or_false] at h
  all_goals omega

end Sys2Proof

namespace Sys2Proof.Proofs
open Sys2Proof.Machine Sys2Proof.Claims

/-- Settles O1, from the fields that each row's body gives back where they were placed, by the parts of the opcode map. -/
theorem everyInstructionDecodesFromItsWord : Obligations.EveryInstructionDecodesFromItsWord := by
  intro i hi
  obtain ⟨r, hr, hfits, hdecode⟩ := decodesFromRaw hi
  exact ⟨r.join, by rw [encode, hr, Option.map_some], by rw [decode, RawWord.split_join hfits, hdecode]⟩

/-- Settles O2, from the recomposition of each decoded body out of its fields. -/
theorem decodingReadsEveryBit : Obligations.DecodingReadsEveryBit := by
  refine ⟨fun w i h => ⟨fun hevent => ?_, encode_of_decode h⟩, fun v w i hv hw => ?_⟩
  · have hword := encode_of_decode h
    rw [encode_event hevent] at hword
    nomatch hword
  · exact Option.some.inj ((encode_of_decode hv).symm.trans (encode_of_decode hw))

/-- Settles O3: each word of the list decodes by evaluation. -/
theorem wordsOfTheSpecDecode : Obligations.WordsOfTheSpecDecode := by
  unfold Obligations.WordsOfTheSpecDecode
  decide +kernel

/-- Settles O4, from the guard, the group and the row that a reserved word fails to select. -/
theorem reservedWordsRaiseIllegal : Obligations.ReservedWordsRaiseIllegal := by
  refine ⟨fun w => decode_guardBits, fun w hmaj => ?_, fun w n hp hn => ?_, fun w e s he hw => ?_, fun w e s he => ?_⟩
  · exact decode_error_of_group (decodeGroup_unassigned hmaj .always 0).1 fun g => (decodeGroup_unassigned hmaj g _).2
  · have hlow : n ≤ w.toNat % 2 ^ 20 % 32 := by omega
    exact decode_error_of_group (decodeGroup_reservedFn hp .always hlow).1 fun g => (decodeGroup_reservedFn hp g hlow).2
  · simp only [State.headInstr, hw, he]
  · simp only [exec_illegalInstruction, execIllegalInstruction, he]; rfl

end Sys2Proof.Proofs

/-! # The end of a word, the words of a repetition, and hints (O13, O16) -/

namespace Sys2Proof.Machine
open Sys2Proof.Claims

/-! ### The end of a word (R82, R86, R89) -/

theorem Ctx.complete_words (k : Ctx) (pc : Word) (counted : Bool) : (k.complete pc counted).words = k.words + (if counted then 1 else 0) := by
  unfold Ctx.complete
  cases hr : k.hints.rep <;> dsimp only <;> rw [hr] <;> dsimp only <;> (repeat' split) <;> rfl

section
variable {k : Ctx} (pc : Word) (counted : Bool)

/-- A hint leaves the rest of its group behind it (R82). -/
theorem Ctx.complete_hint (h : isHintWord (k.buf.headD 0) = true) :
    let t := k.complete pc counted
    t.pc = pc ∧ t.buf = k.buf.drop 1 ∧ t.hints = k.hints ∧ t.repDone = k.repDone ∧ t.grp = k.grp := by
  unfold Ctx.complete
  dsimp only
  split <;> rw [if_pos h] <;> exact ⟨rfl, rfl, rfl, rfl, rfl⟩

/-- A word with repetitions left issues again at the next one (R86). -/
theorem Ctx.complete_repetition (h : isHintWord (k.buf.headD 0) = false) {r : RepHint} (hr : k.hints.rep = some r) (hleft : k.repDone + 1 < r.count) :
    let t := k.complete pc counted
    t.pc = k.pc ∧ t.buf = k.buf ∧ t.hints = k.hints ∧ t.repDone = k.repDone + 1 ∧ t.grp = k.grp := by
  simp only [Ctx.complete, hr, h, hleft, Bool.false_eq_true, if_false, if_true, and_self]

/-- A word with no repetition left ends its group (R82, R89). -/
theorem Ctx.complete_last (h : isHintWord (k.buf.headD 0) = false) (hlast : ∀ r, k.hints.rep = some r → ¬k.repDone + 1 < r.count) :
    let t := k.complete pc counted
    t.pc = pc ∧ t.grp = pc ∧ t.buf = [] ∧ t.hints = Hints.none ∧ t.repDone = 0 ∧ (k.hints.rep.isSome = true → t.repcnt = 0) ∧
      (k.hints.rep = none → t.repcnt = k.repcnt) := by
  cases hr : k.hints.rep with
  | none =>
    simp only [Ctx.complete, hr, h, Bool.false_eq_true, if_false]
    exact ⟨trivial, trivial, trivial, trivial, trivial, nofun, fun _ => rfl⟩
  | some r =>
    simp only [Ctx.complete, hr, h, hlast r hr, Bool.false_eq_true, if_false]
    exact ⟨trivial, trivial, trivial, trivial, trivial, fun _ => trivial, nofun⟩

end

/-- A word under REP repeats while its count is not reached (R86). -/
theorem State.repeats_iff {s : State} (h : isHintWord (s.ctx.buf.headD 0) = false) {r : RepHint} (hr : s.ctx.hints.rep = some r) :
    s.repeats = true ↔ s.ctx.repDone + 1 < r.count := by
  simp only [State.repeats, hr, h, Bool.not_false, Bool.true_and, decide_eq_true_eq]

/-! ### The word of a repetition (R86, R88) -/

/-- The word of a repetition that raises no cause: the stepped fields, with every other bit of the word. -/
theorem stepWord_eq_ok {i : Instr} {w w' : BitVec 32} {r : RepHint} {k named : Nat} (h : stepWord i w r k named = .ok w') :
    let f := fun (lo : Nat) (step : Int) => ((stepField (w.toNat / 2 ^ lo % 32) step k) % 32).toNat
    w'.toNat = w.toNat / 2 ^ 20 * 2 ^ 20 + f 15 r.dStep * 2 ^ 15 + f 10 r.aStep * 2 ^ 10 + f 5 r.bStep * 2 ^ 5 + w.toNat % 32 := by
  simp only [stepWord] at h
  split at h
  · nomatch h
  · split at h
    · nomatch h
    · obtain rfl := Except.ok.inj h
      simp only [BitVec.toNat_ofNat]
      omega

theorem repetitionsStepTheirFields : Sys2Proof.Claims.RepetitionsStepTheirFields := by
  intro i w w' r k n h
  have hw := stepWord_eq_ok h
  simp only [stepField] at hw
  refine ⟨?_, ?_, ?_, ?_, ?_⟩ <;> omega

/-! ### What a hint leaves (R81, R85 to R95) -/

theorem hintCtx_of_noFault {i : Instr} {s : State} (h : issueFault i s = none) (f : Ctx → Ctx) : hintCtx i s f = done (s.upd f) := by
  simp only [hintCtx, h]

/-- A hint other than REP records its effect for the instruction of its group. -/
theorem exec_of_hintEffect {i : Instr} {f : Hints → Hints} {s : State} (hi : hintEffect i = some f) (hfault : issueFault i s = none) :
    exec i s = done (s.upd (fun k => { k with hints := f k.hints })) := by
  rw [← hintCtx_of_noFault hfault]
  unfold hintEffect at hi
  split at hi
  · obtain rfl := Option.some.inj hi; rfl
  · obtain rfl := Option.some.inj hi; rfl
  · obtain rfl := Option.some.inj hi; rfl
  · obtain rfl := Option.some.inj hi; rfl
  · obtain rfl := Option.some.inj hi; rfl
  · obtain rfl := Option.some.inj hi; rfl
  · nomatch hi

/-- A hint word at the head of the buffer leaves what its effect made of the context, with the word behind it to issue next. -/
theorem leavesHints_retire {s : State} {f : Ctx → Ctx} (hword : isHintWord (s.ctx.buf.headD 0) = true) (hbuf : (f s.ctx).buf = s.ctx.buf)
    (hgrp : (f s.ctx).grp = s.ctx.grp) (hpc : (f s.ctx).pc = s.ctx.pc) :
    leavesHints (f s.ctx).hints (f s.ctx).repDone (f s.ctx).repcnt s (s.upd f).retire := by
  have hhead : isHintWord ((s.upd f).ctx.buf.headD 0) = true := by rwa [State.ctx_upd, hbuf]
  obtain ⟨h1, h2, h3, h4, h5, h6⟩ := State.retire_hint hhead
  rw [State.ctx_upd] at h1 h2 h3 h4 h5 h6
  exact ⟨h1, h2, h3, h4.trans hgrp, h5.trans (by rw [hbuf]), h6.trans (by rw [hpc])⟩

theorem repStep_eq_toInt : ∀ x : BitVec 3, repStep x = x.toInt := by decide

/-- A REP group resumes where REPCNT is valid and its side's EPC is its address (R89). -/
theorem State.repStart_eq (s : State) :
    s.repStart = if (s.ctx.repcnt.getLsbD 8 && decide (s.ctx.grp = s.controlRead (if s.cur.isA then 0x00A else 0x00B))) = true
      then some (s.ctx.repcnt.toNat % 256) else none := by
  have hbit : s.ctx.repcnt.getLsbD 8 = decide (s.ctx.repcnt.toNat / 256 % 2 = 1) := Nat.testBit_eq_decide_div_mod_eq
  simp only [State.repStart, hbit, Bool.and_eq_true, decide_eq_true_eq]

end Sys2Proof.Machine

namespace Sys2Proof.Proofs
open Sys2Proof.Machine Sys2Proof.Claims

theorem completedWordsGoOn : Sys2Proof.Claims.CompletedWordsGoOn := by
  intro s _
  obtain ⟨_, hctx⟩ := State.retireTo_ctx (s.ctx.pc + 4) s
  refine ⟨fun h => ?_, fun h hleft => ?_, fun h hlast => ?_, s.retire_ctx.1, ?_, s.retire_frame⟩
  all_goals rw [State.retire, hctx]
  · exact Ctx.complete_hint _ _ h
  · cases hr : s.ctx.hints.rep with
    | none => simp [State.repeats, hr] at hleft
    | some r => exact Ctx.complete_repetition _ _ h hr ((State.repeats_iff h hr).mp hleft)
  · exact Ctx.complete_last _ _ h fun r hr hleft => Bool.false_ne_true (hlast.symm.trans ((State.repeats_iff h hr).mpr hleft))
  · exact Ctx.complete_words _ _ _

/-- Settles O13, from what the completion of a word leaves of its context and from the bits of a repetition's word. -/
theorem wordsAndRepetitionsGoOn : Obligations.WordsAndRepetitionsGoOn := ⟨completedWordsGoOn, repetitionsStepTheirFields⟩

/-- Settles O16, from the context that a hint makes and the completion of its word. -/
theorem hintsModifyTheirGroup : Obligations.HintsModifyTheirGroup := by
  refine ⟨fun i f s hi hfault => ?_, fun s b a d n hfault => ?_⟩
  · rw [exec_of_hintEffect hi hfault]
    exact ⟨completes_done _, fun hword => ⟨_, rfl, leavesHints_retire hword rfl rfl rfl⟩⟩
  · intro resumes hints start
    have hexec : exec (.repHint b a d n) s = done (s.upd (fun k => { k with hints := hints, repDone := start, repcnt := if resumes then k.repcnt else 0 })) := by
      have hstart : s.repStart.getD 0 = start ∧ s.repStart.isSome = resumes := by
        have hresumed : s.repStart = if resumes = true then some (s.ctx.repcnt.toNat % 256) else none := s.repStart_eq
        simp only [hresumed, start]
        cases resumes <;> exact ⟨rfl, rfl⟩
      rw [exec_repHint, execRepHint, hstart.1, hstart.2, hintCtx_of_noFault hfault, repStep_eq_toInt, repStep_eq_toInt, repStep_eq_toInt]
      rfl
    rw [hexec]
    exact ⟨completes_done _, fun hword => ⟨_, rfl, leavesHints_retire hword rfl rfl rfl⟩⟩

end Sys2Proof.Proofs

/-! # Groups with a hint (O59) -/

namespace Sys2Proof.Machine
open Sys2Proof.Claims

/-! ### Hints that an instruction takes (R84, R88, R95) -/

/-- A group of R84's column accepts the kind. -/
theorem mem_accepts_of_takesKind {kind : Nat} {aSide : Bool} {g : Group} (h : takesKind kind aSide g) : kind ∈ accepts aSide g := by
  unfold takesKind at h
  split at h
  case h_5 =>
    obtain ⟨hg, rfl⟩ := h
    simp only [List.mem_cons, List.not_mem_nil, or_false] at hg
    rcases hg with rfl | rfl | rfl <;> decide
  case h_8 => exact h.elim
  all_goals
    simp only [List.mem_cons, List.not_mem_nil, or_false] at h
    cases aSide <;> (repeat' obtain rfl | h := h) <;> decide

theorem Opnd.steppable_of_mayStep {o : Opnd} (h : mayStep o) : o.steppable = true := by
  obtain ⟨r, rfl⟩ | ⟨r, rfl | rfl, hr⟩ := h
  · rfl
  · exact decide_eq_true hr
  · exact decide_eq_true hr

theorem Opnd.isWindow_of_namesWindow {o : Opnd} (h : namesWindow o) : o.isWindow = true := by
  obtain ⟨r, rfl | rfl, hr⟩ := h <;> exact decide_eq_true hr

/-- The ORD kinds of a load are plain, acquire and SO-forced; those of a store are plain, release and SO-forced (R81). -/
theorem ordKind_of_load {n : Nat} (hn : n < 5) (hrelease : n ≠ 2) (hboth : n ≠ 3) : (n == 0 || n == 1 || n == 4) = true := by
  simp only [Bool.or_eq_true, beq_iff_eq]; omega

theorem ordKind_of_store {n : Nat} (hn : n < 5) (hacquire : n ≠ 1) (hboth : n ≠ 3) : (n == 0 || n == 2 || n == 4) = true := by
  simp only [Bool.or_eq_true, beq_iff_eq]; omega

/-- The ORD kinds that R84 lets an instruction take are those that it takes. -/
theorem ordKindOk_of_ordKinds {aSide : Bool} {i : Instr} {n : Nat} (htakes : takesKind 2 aSide (groupOf i)) (hn : n < 5) (hboth : n = 3 → groupOf i = .amo)
    (hacquire : n = 1 → groupOf i = .amo ∨ (∃ g d b z p o, i = .ld g d b z p o) ∨ ∃ g d b p s t, i = .ldv g d b p s t)
    (hrelease : n = 2 → groupOf i = .amo ∨ (∃ g d b z p o, i = .st g d b z p o) ∨ ∃ g d b p s, i = .stv g d b p s) : ordKindOk i n = true := by
  have hgroup : groupOf i = .loadStore ∨ groupOf i = .tile ∨ groupOf i = .amo := by simpa [takesKind] using htakes
  rcases hgroup with h | h | h
  · rcases loadStore_cases h with ⟨g, d, b, z, p, o, rfl⟩ | ⟨g, d, b, z, p, o, rfl⟩
    · exact ordKind_of_load hn (fun e => by simpa [groupOf] using hrelease e) fun e => nomatch hboth e
    · exact ordKind_of_store hn (fun e => by simpa [groupOf] using hacquire e) fun e => nomatch hboth e
  · rcases tile_cases h with ⟨g, d, b, p, s, t, rfl⟩ | ⟨g, d, b, p, s, rfl⟩
    · exact ordKind_of_load hn (fun e => by simpa [groupOf] using hrelease e) fun e => nomatch hboth e
    · exact ordKind_of_store hn (fun e => by simpa [groupOf] using hacquire e) fun e => nomatch hboth e
  · cases i
    case amoadd | amoand | amoor | amoxor | amomin | amomax | amominn | amomaxn | amoswap | amocas | amofadd | amostag => rfl
    all_goals nomatch h

/-- A hint that R81 does not reserve decodes to a well-formed one, which every instruction accepts that it suits. -/
theorem hint_accepted {kind payload : Nat} (hfree : ¬reservedHint kind payload) :
    ∃ h, decodeHint kind payload = some h ∧ h.wellFormed = true ∧ ∀ aSide i, suits aSide i kind payload → acceptsHint aSide i h = true := by
  have hkind : kind < 7 := by by_contra h; exact hfree (.inl (by omega))
  simp only [reservedHint, not_or, not_and] at hfree
  obtain ⟨-, hrep, hord, hloc, hmcomp, hqw, hrnd⟩ := hfree
  interval_cases kind
  · exact ⟨_, rfl, rfl, fun aSide i hsuits => List.contains_iff_mem.mpr (mem_accepts_of_takesKind hsuits.1)⟩
  · refine ⟨_, if_pos (by have := hrep rfl; omega), rfl, fun aSide i hsuits => ?_⟩
    obtain ⟨htakes, -, hsteps, -⟩ := hsuits
    obtain ⟨hd, ha, hb⟩ := hsteps rfl
    simp only [acceptsHint, Bool.and_eq_true, Bool.or_eq_true, beq_iff_eq, field_eq_zero_iff, List.contains_iff_mem]
    exact ⟨⟨⟨mem_accepts_of_takesKind htakes, (Classical.em _).imp_right fun h => Opnd.steppable_of_mayStep (hd h)⟩,
      (Classical.em _).imp_right fun h => Opnd.steppable_of_mayStep (ha h)⟩, (Classical.em _).imp_right fun h => Opnd.steppable_of_mayStep (hb h)⟩
  · have hfree := hord rfl
    refine ⟨_, if_pos (by omega), ?_, fun aSide i hsuits => ?_⟩
    · simp only [wellFormed_ordHint, toNat_field, decide_eq_true_eq]; omega
    · obtain ⟨htakes, hkinds, -, -⟩ := hsuits
      obtain ⟨hboth, hacquire, hrelease⟩ := hkinds rfl
      simp only [acceptsHint, Bool.and_eq_true, List.contains_iff_mem, toNat_field]
      exact ⟨mem_accepts_of_takesKind htakes, ordKindOk_of_ordKinds htakes (by omega) hboth hacquire hrelease⟩
  · exact ⟨_, if_pos (by have := hloc rfl; omega), rfl, fun aSide i hsuits => List.contains_iff_mem.mpr (mem_accepts_of_takesKind hsuits.1)⟩
  · exact ⟨_, if_pos (by have := hmcomp rfl; omega), rfl, fun aSide i hsuits => List.contains_iff_mem.mpr (mem_accepts_of_takesKind hsuits.1)⟩
  · refine ⟨_, if_pos (by have := hqw rfl; omega), rfl, fun aSide i hsuits => ?_⟩
    obtain ⟨htakes, -, -, hwindows⟩ := hsuits
    obtain ⟨hd, ha, hb⟩ := hwindows rfl
    simp only [acceptsHint, Bool.and_eq_true, Bool.or_eq_true, beq_iff_eq, field_eq_zero_iff, List.contains_iff_mem]
    refine ⟨⟨⟨mem_accepts_of_takesKind htakes, ?_⟩, ?_⟩, ?_⟩
    · exact (Classical.em _).imp_left (fun h => Opnd.isWindow_of_namesWindow (hd h)) |>.imp_right fun h => by omega
    · exact (Classical.em _).imp_left (fun h => Opnd.isWindow_of_namesWindow (ha h)) |>.imp_right fun h => by omega
    · exact (Classical.em _).imp_left (fun h => Opnd.isWindow_of_namesWindow (hb h)) |>.imp_right fun h => by omega
  · have hfree := hrnd rfl
    refine ⟨_, if_pos (by omega), ?_, fun aSide i hsuits => List.contains_iff_mem.mpr (mem_accepts_of_takesKind hsuits.1)⟩
    simp only [wellFormed_rndHint, toNat_field, decide_eq_true_eq]; omega

/-! ### The check of a group (R82, R83) -/

theorem decode_of_decodeHint {h : BitVec 32} {i : Instr} (hh : isHintWord h = true) (hi : decodeHint (kindOf h) (payloadOf h) = some i) : decode h = .ok i := by
  obtain ⟨hmaj, hkind, hpayload⟩ := kindOf_payloadOf_split hh
  rw [decode, decodeRaw, if_pos hmaj, hkind, hpayload, hi]

theorem legalWord_of_decode {w : BitVec 32} {i : Instr} (hi : decode w = .ok i) (hformed : i.wellFormed = true) : legalWord w = some i := by
  simp only [legalWord, hi, hformed, if_true]

/-- A group that R83 lets issue is not bad. -/
theorem not_bad_of_legalGroup {aSide : Bool} {hs : List (BitVec 32)} {w : BitVec 32} (hnonempty : hs ≠ []) (hhints : ∀ h ∈ hs, isHintWord h = true)
    (hword : isHintWord w = false) (hlegal : legalGroup aSide hs w) : groupBad aSide (hs ++ [w]) = false := by
  obtain ⟨hnodup, hfree, i, hi, hformed, hsuits⟩ := hlegal
  have hisEmpty : hs.isEmpty = false := by simpa using hnonempty
  rw [groupBad, takeWhile_hints hhints hword, List.drop_left]
  simp only [hisEmpty, Bool.false_eq_true, if_false, legalWord_of_decode hi hformed, Bool.or_eq_false_iff, Bool.not_eq_false', decide_eq_true_eq,
    List.any_eq_false]
  refine ⟨hnodup, fun h hmem => ?_⟩
  obtain ⟨hint, hdecode, hhformed, haccepts⟩ := hint_accepted (hfree h hmem)
  simp [legalWord_of_decode (decode_of_decodeHint (hhints h hmem) hdecode) hhformed, haccepts aSide i (hsuits h hmem)]

/-- A group of hints alone is bad. -/
theorem bad_of_hints {aSide : Bool} {hs : List (BitVec 32)} (hnonempty : hs ≠ []) (hhints : ∀ h ∈ hs, isHintWord h = true) : groupBad aSide hs = true := by
  have hisEmpty : hs.isEmpty = false := by simpa using hnonempty
  rw [groupBad, List.takeWhile_eq_self_iff.mpr hhints, List.drop_length]
  simp only [hisEmpty, Bool.false_eq_true, if_false]

/-- The buffer of a side that is no follower is filled by a fetch, with the check of the group. -/
theorem State.fill_of_fetch {s u : State} {ws : List (BitVec 32)} (hempty : s.ctx.buf = []) (hfollower : s.isFollower = false)
    (hfetch : (s.upd (fun k => k.begin k.pc [])).fetchGroup s.ctx.pc.toNat 4 = .ok ws u) :
    s.fill = if groupBad u.cur.isA ws then .inl (.next (u.raiseAt 0x02 none true)) else .inr (u.upd (fun k => k.begin s.ctx.pc ws)) := by
  have hfetch' : (s.upd (fun k => k.begin s.ctx.pc [])).fetchGroup s.ctx.pc.toNat 4 = .ok ws u := hfetch
  simp only [State.fill, hempty, hfollower, hfetch', ne_eq, not_true_eq_false, Bool.false_eq_true, if_false]

end Sys2Proof.Machine

namespace Sys2Proof.Proofs
open Sys2Proof.Machine

/-- Settles O59, from the check of a group and from the reading of each hint by its kind and payload. -/
theorem groupsThatBreakTheHintRulesRaise : Obligations.GroupsThatBreakTheHintRulesRaise := by
  intro s u hs hempty hfollower hnonempty hhints s0
  refine ⟨fun hfetch => ?_, fun w hword hfetch => ⟨fun hillegal => ?_, fun hlegal => ?_⟩, fun v o hprepare hfill => ?_⟩
  · rw [State.fill_of_fetch hempty hfollower hfetch, if_pos (bad_of_hints hnonempty hhints)]
  · exact State.fill_of_illegalGroup hempty hfollower hnonempty hhints hword hfetch hillegal
  · rw [State.fill_of_fetch hempty hfollower hfetch, not_bad_of_legalGroup hnonempty hhints hword hlegal]
    rfl
  · rw [State.prepare, ← hprepare, hfill]

end Sys2Proof.Proofs

/-! # The step of a ready context (O5) -/

namespace Sys2Proof.Machine
open Sys2Proof.Claims

/-! ### The word that a context issues (R82) -/

/-- A filled buffer waits for no fetch. -/
theorem State.fill_of_buf {s : State} (hbuf : s.ctx.buf ≠ []) : s.fill = .inr s := if_pos hbuf

/-- The group of a word that is no hint is that word. -/
theorem State.fetchGroup_of_word {s u : State} {pc n : Nat} {w : BitVec 32} (hfetch : s.fetchWord pc = .ok w u) (hword : isHintWord w = false) :
    s.fetchGroup pc (n + 1) = .ok [w] u := by
  rw [State.fetchGroup, hfetch]
  simp only [Acc.bind, hword, Bool.false_eq_true, if_false]

theorem not_bad_of_word {aSide : Bool} {w : BitVec 32} (hword : isHintWord w = false) : groupBad aSide [w] = false := by
  simp [groupBad, hword]

/-- An empty buffer is filled with the word at the program counter, where that is no hint. -/
theorem State.fill_of_fetchWord {s u : State} {w : BitVec 32} (hempty : s.ctx.buf = []) (hfollower : s.isFollower = false)
    (hfetch : (s.upd (fun k => k.begin k.pc [])).fetchWord s.ctx.pc.toNat = .ok w u) (hword : isHintWord w = false) :
    s.fill = .inr (u.upd (fun k => k.begin s.ctx.pc [w])) := by
  rw [State.fill_of_fetch hempty hfollower (State.fetchGroup_of_word hfetch hword), not_bad_of_word hword]
  rfl

/-- Outside a REP group the instruction at the head of the buffer is the one that its word decodes to. -/
theorem State.headInstr_of_noRep {s : State} {i : Instr} (hrep : s.ctx.hints.rep = none) (hdecode : decode (s.ctx.buf.headD 0) = .ok i) :
    s.headInstr = .ok i := by
  simp only [State.headInstr, hdecode, hrep, ite_self]

/-- The step of a scheduled context that is ready is the attempt of the word that fills its buffer. -/
theorem step_of_fill {s u : State} {c : CtxId} {rest : List Turn} {i : Instr} (hagenda : s.agenda = .ctx c :: rest) (hready : s.ready c = true)
    (hfill : (issuing s c rest).fill = .inr u) (hwatchdog : u.watchdog = false) (hhead : u.headInstr = .ok i) :
    step s = ticked (counted c (u.rankOf c) u.ctx.begun (engraved i u (exec i u))) := by
  have hready' : ({ s with agenda := rest } : State).ready c = true := hready
  have hfill' : (({ s with agenda := rest, cur := c } : State).upd (fun k => { k with wait := none })).fill = .inr u := hfill
  have hprepare : ({ s with agenda := rest, cur := c } : State).prepare = .inr (i, u) := by
    simp only [State.prepare, hfill', hwatchdog, hhead, Bool.false_eq_true, if_false]
  rw [step, hagenda]
  simp only [hready', if_true, State.issueFrom, State.attempt, hprepare]
  rfl

/-! ### Recordings and counts (R70, R71, R375) -/

/-- Where no task records, no recording follows an instruction. -/
theorem State.engrave_of_noRecording {s : State} (hrecd : ∀ p ∈ s.threads, p.2.recd = none) (i : Instr) (t : State) : State.engrave i s t = t := by
  have hthread (th : Nat) : (s.thread th).recd = none := Map.get_of_forall (P := fun k : Thread => k.recd = none) rfl hrecd th
  unfold State.engrave
  split
  · rw [hthread]
  · rfl

theorem State.countAttempt_of_uncounted {s : State} {c : CtxId} {p : Nat} {b : Bool} (h : b = true ∨ (s.ctxOf c).stalls = true) :
    s.countAttempt c p b = s := if_pos (by simpa using h)

theorem State.countAttempt_of_noWait {s : State} {c : CtxId} (p : Nat) (hwait : (s.ctxOf c).wait = none) : s.countAttempt c p false = s.countIssue c p := by
  simp [State.countAttempt, Ctx.stalls, Ctx.underway, hwait]

/-- The YIELDs that an issue ends leave the cycle at which each context last issued. -/
theorem State.noteIssue_since (s : State) (c x : CtxId) : ((s.noteIssue c).ctxOf x).since = (s.ctxOf x).since := by
  refine Map.get_map_entries _ Ctx.since ?_ ?_ Ctx.init s.ctxs x <;> intro p <;> dsimp only <;> split <;> rfl

theorem State.noteActive_ctxOf (s : State) (c x : CtxId) : (s.noteActive c).ctxOf x = s.ctxOf x := by cases c <;> rfl

theorem State.countIssue_since (s : State) (th p : Nat) : ((s.countIssue (.task th .c) p).ctxOf (.task th .c)).since = s.cycle.toNat := by
  rw [State.countIssue, State.ctxOf_mapCore, State.noteActive_ctxOf, State.noteIssue_since, State.ctxOf_mapCtx_same]

/-- An issue of a control side counts at its core and leaves its place in the turn of its priority. -/
theorem State.countIssue_core (s : State) (th p : Nat) : (s.countIssue (.task th .c) p).core (th / 8) =
    { s.core (th / 8) with issuedC := (s.core (th / 8)).issuedC + 1, lastC := (s.core (th / 8)).lastC.set p (th % 8) } := by
  rw [State.countIssue, State.core_mapCore, if_pos (show th / 8 = coreOfThread th from rfl)]
  rfl

end Sys2Proof.Machine

namespace Sys2Proof.Proofs
open Sys2Proof.Machine Sys2Proof.Claims

/-- Settles O5, from the word that fills the buffer and from what an attempt leaves in the counts. -/
theorem stepRunsTheDecodedInstruction : Obligations.StepRunsTheDecodedInstruction := by
  refine ⟨fun s c rest i hagenda hready hbuf hwatchdog hrep hdecode => ?_,
    fun s c rest w u i hagenda hready hempty hfollower hfetch hword hwatchdog hdecode => ?_, fun i s o hrecd => ?_,
    fun s c p b => State.countAttempt_of_uncounted, fun s c p => State.countAttempt_of_noWait p, fun s th p => ?_,
    fun s => rfl⟩
  · exact step_of_fill hagenda hready (State.fill_of_buf hbuf) hwatchdog (State.headInstr_of_noRep hrep hdecode)
  · rw [step_of_fill hagenda hready (State.fill_of_fetchWord hempty hfollower hfetch hword) hwatchdog
      (State.headInstr_of_noRep (by rw [State.ctx_upd]; rfl) (by rw [State.ctx_upd]; exact hdecode)), State.ctx_upd]
    rfl
  · cases o with
    | next t => exact congrArg Host.Outcome.next (State.engrave_of_noRecording hrecd i t)
    | fault f => rfl
    | refused r => rfl
  · have hcore := State.countIssue_core s th p
    refine ⟨by rw [hcore], by rw [hcore], ?_, State.countIssue_since s th p⟩
    rw [hcore]
    exact Map.get_set_same 7 _ p (th % 8)

end Sys2Proof.Proofs

/-! # Every step keeps the memories canonical (O55) -/

/-! A step changes a memory only through `mapCore`, `mapSheet`, `storeByte`, the copy of a page and the writes of host memory, whose rules stand first. Every other
function that answers with a state is made of functions before it: its lemma says that it keeps the canonical form, from the lemmas of the functions it calls. -/

namespace Sys2Proof.Machine
open Sys2Proof.Claims
-- One proof at a time: side by side, each would hold a thread while it waits for the lemmas it cites.
set_option Elab.async false

/-- The state that an operation answers with keeps its memories in the canonical form. -/
def canonicalOut (o : Out) : Prop :=
  match o with
  | .next t => canonical t
  | _ => True

/-- The same for an access: in each of its ways to end. -/
def Acc.canonical (x : Acc α) : Prop :=
  match x with
  | .ok _ t | .trap _ _ t | .wait _ t | .gone t => Claims.canonical t

/-- The same for an access of a tracer. -/
def TrcAcc.canonical (x : TrcAcc α) : Prop :=
  match x with
  | .ok _ t | .fault _ _ t | .ends _ _ t => Claims.canonical t
  | .retry => True

/-- The same for an instruction of a Compass. -/
def CpRes.canonical (x : CpRes α) : Prop :=
  match x with
  | .ok _ t => Claims.canonical t
  | _ => True

variable {s : State}

/-! ### The rules of the memories -/

theorem Map.forall_set [DecidableEq K] {P : V → Prop} {m : Map K V} (hm : ∀ p ∈ m, P p.2) {k : K} {v : V} (hv : P v) : ∀ p ∈ m.set k v, P p.2 := by
  induction m with
  | nil => intro p hp; simp only [Map.set, List.mem_singleton] at hp; subst hp; exact hv
  | cons q rest ih =>
    simp only [Map.set]
    split
    · intro p hp
      rcases List.mem_cons.1 hp with rfl | hp
      · exact hv
      · exact hm p (List.mem_cons_of_mem _ hp)
    · intro p hp
      rcases List.mem_cons.1 hp with rfl | hp
      · exact hm _ (List.mem_cons_self ..)
      · exact ih (fun q hq => hm q (List.mem_cons_of_mem _ hq)) p hp

theorem canonical_foldl {f : State → α → State} (hf : ∀ s x, canonical s → canonical (f s x)) (h : canonical s) (xs : List α) :
    canonical (xs.foldl f s) := by
  induction xs generalizing s with
  | nil => exact h
  | cons x xs ih => exact ih (hf s x h)

/-- The same for a fold whose accumulator carries a state. -/
theorem canonical_foldl_of {f : β → α → β} (q : β → State) (hf : ∀ b x, canonical (q b) → canonical (q (f b x))) {b : β} (h : canonical (q b)) (xs : List α) :
    canonical (q (xs.foldl f b)) := by
  induction xs generalizing b with
  | nil => exact h
  | cons x xs ih => exact ih (hf b x h)

/-- The copy of a page keeps the canonical form. -/
theorem Memory.wf_copyPage {m : Memory} (h : m.wf = true) (src dst : Nat) : (m.copyPage src dst).wf = true := by
  have hpage := Memory.wf_shift (Memory.wf_filter h fun c => decide (src ≤ c.1 ∧ c.1 < src + 65536)) src dst (fun c hc => by simp at hc; omega)
  refine Memory.wf_append (n := dst + 65536) (Memory.wf_append (n := dst) (Memory.wf_filter h _) hpage ?_ ?_) (Memory.wf_filter h _) ?_ ?_
  all_goals
    intro c hc
    simp at hc
  · omega
  · obtain ⟨a, b, -, rfl⟩ := hc
    simp
  · obtain hc | ⟨a, b, hb, rfl⟩ := hc
    · omega
    · dsimp only; omega
  · omega

theorem Memory.wf_foldl_writeList {m : Memory} (h : m.wf = true) (a : α → Nat) (b : α → List Byte) (xs : List α) :
    (xs.foldl (fun m x => m.writeList (a x) (b x)) m).wf = true := by
  induction xs generalizing m with
  | nil => exact h
  | cons x xs ih => exact ih (Memory.wf_writeList h _ _)

/-- A state that differs in no memory but global memory. -/
theorem canonical_of_mem {t : State} (h : canonical s) (hm : t.mem.wf = true) (hh : t.hostMem = s.hostMem) (hc : t.cores = s.cores) (hs : t.sheets = s.sheets) :
    canonical t := by
  unfold canonical
  rw [hh, hc, hs]
  exact ⟨hm, h.2⟩

theorem canonical_of_eq {p : α × State} {a : α} {t : State} (h : canonical p.2) (e : p = (a, t)) : canonical t := by
  rw [e] at h
  exact h

theorem canonical_ite {a b : State} {p : Prop} [Decidable p] (ha : canonical a) (hb : canonical b) :
    canonical (if p then a else b) := by split <;> assumption

/-- A change of a sheet, which leaves the scratchpad of its Compass as it is or well formed. -/
theorem canonical_mapSheet (h : canonical s) (hf : ∀ k : Sheet, k.compass.pad.wf = true → (f k).compass.pad.wf = true := by exact fun _ h => h) :
    canonical (s.mapSheet c f) := by
  obtain ⟨h1, h2, h3, h4⟩ := h
  refine ⟨h1, h2, h3, Map.forall_set (P := fun k : Sheet => k.compass.pad.wf = true) h4 (hf _ (Map.get_of_forall (P := fun k : Sheet => k.compass.pad.wf = true) rfl h4 _))⟩

/-- A change of a core, which leaves its local memory as it is or well formed. -/
theorem canonical_mapCore (h : canonical s) (hf : ∀ k : Core, k.mem.wf = true → (f k).mem.wf = true := by exact fun _ h => h) :
    canonical (s.mapCore c f) := by
  obtain ⟨h1, h2, h3, h4⟩ := h
  refine ⟨h1, h2, Map.forall_set (P := fun k : Core => k.mem.wf = true) h3 (hf _ (Map.get_of_forall (P := fun k : Core => k.mem.wf = true) rfl h3 _)), h4⟩

theorem canonical_storeByte (h : canonical s) : canonical (s.storeByte a b) := by
  unfold State.storeByte
  dsimp only
  split
  · exact ⟨Memory.wf_writeList h.1 _ _, h.2⟩
  · exact ⟨Memory.wf_write h.1 _ _, h.2⟩

/-! ### The chains of accesses -/

theorem canonical_bind {x : Acc α} {f : α → State → Acc β} (hx : x.canonical) (hf : ∀ a s, canonical s → (f a s).canonical) :
    (x.bind f).canonical := by
  cases x with
  | ok => exact hf _ _ hx
  | trap => exact hx
  | wait => exact hx
  | gone => exact hx

theorem canonical_tbind {x : TrcAcc α} {f : α → State → TrcAcc β} (hx : x.canonical) (hf : ∀ a s, canonical s → (f a s).canonical) :
    (x.bind f).canonical := by
  cases x with
  | ok => exact hf _ _ hx
  | fault => exact hx
  | ends => exact hx
  | retry => trivial

theorem canonical_cbind {x : CpRes α} {f : α → State → CpRes β} (hx : x.canonical) (hf : ∀ a s, canonical s → (f a s).canonical) :
    (x.bind f).canonical := by
  cases x with
  | ok => exact hf _ _ hx
  | wait => trivial
  | stop => trivial

/-! ### View -/

theorem canonical_setCtx (h : canonical s) : canonical (s.setCtx c k) := h

theorem canonical_mapCtx (h : canonical s) : canonical (s.mapCtx c f) := by
  grind [State.mapCtx, canonical_setCtx]

theorem canonical_upd (h : canonical s) : canonical (s.upd f) := by
  grind [State.upd, canonical_mapCtx]

theorem canonical_setThread (h : canonical s) : canonical (s.setThread t k) := h

theorem canonical_mapThread (h : canonical s) : canonical (s.mapThread t f) := by
  grind [State.mapThread, canonical_setThread]

theorem canonical_mapCluster (h : canonical s) : canonical (s.mapCluster c f) := h

theorem canonical_mapEdge (h : canonical s) : canonical (s.mapEdge e f) := h

theorem canonical_mapPort (h : canonical s) : canonical (s.mapPort p f) := h

theorem canonical_mapItem (h : canonical s) : canonical (s.mapItem sheet i f) := by
  grind [State.mapItem, canonical_mapSheet]

theorem canonical_setWalk (h : canonical s) : canonical (s.setWalk cl job j) := by
  grind [State.setWalk, canonical_mapCluster]

theorem canonical_setTracer (h : canonical s) : canonical (s.setTracer cl job j) := by
  grind [State.setTracer, canonical_mapCluster]

/-! ### Home -/

theorem canonical_setTag (h : canonical s) : canonical (s.setTag line t) := h

theorem canonical_storeLine (h : canonical s) : canonical (s.storeLine line mask data) := by
  grind [State.storeLine, canonical_storeByte, canonical_foldl]

theorem canonical_setPage (h : canonical s) : canonical (s.setPage pa r) := by
  grind [State.setPage, canonical_mapSheet]

theorem canonical_dropReplicas (h : canonical s) : canonical (s.dropReplicas pa mask) := by
  grind [State.dropReplicas, canonical_mapSheet, canonical_foldl]

theorem canonical_pageWritten (h : canonical s) : canonical (s.pageWritten pa) := by
  grind [State.pageWritten, canonical_setPage, canonical_dropReplicas]

theorem canonical_remoteRead (h : canonical s) : canonical (s.remoteRead sheet line) := by
  grind [State.remoteRead, canonical_mapSheet, canonical_setPage]

theorem canonical_readLine (h : canonical s) : canonical (s.readLine sheet line).2 := by
  grind [State.readLine, canonical_mapSheet, canonical_remoteRead]

theorem canonical_readHome (h : canonical s) : canonical (s.readHome sheet line).2 := by
  grind [State.readHome, canonical_remoteRead]

theorem canonical_countUnbacked (h : canonical s) : canonical (s.countUnbacked pa) := by
  grind [State.countUnbacked, canonical_mapSheet]

theorem canonical_readTouch (h : canonical s) : canonical (s.readTouch sheet pa) := by
  grind [State.readTouch, !. canonical_readLine, canonical_countUnbacked]

theorem canonical_writeRecord (h : canonical s) : canonical (s.writeRecord sheet e) := by
  grind [State.writeRecord, canonical_mapSheet, canonical_setTag, canonical_storeLine, canonical_pageWritten, canonical_countUnbacked]

theorem canonical_logEvent (h : canonical s) : canonical (s.logEvent sheet e) := by
  grind [State.logEvent, canonical_mapSheet, canonical_writeRecord]

theorem canonical_abandonRec (h : canonical s) : canonical (s.abandonRec th cd) := by
  grind [State.abandonRec, canonical_setThread, canonical_mapSheet, canonical_logEvent]

theorem canonical_invalidatePlates (h : canonical s) : canonical (s.invalidatePlates pa) := by
  grind [State.invalidatePlates, canonical_mapSheet, canonical_abandonRec, canonical_foldl]

theorem canonical_record (h : canonical s) : canonical (s.record sheet e) := by
  grind [State.record, canonical_logEvent, canonical_invalidatePlates]

theorem canonical_recordOf (h : canonical s) : canonical (s.recordOf sheet cause flags source obj) := by
  grind [State.recordOf, canonical_record]

theorem canonical_afterWrite (h : canonical s) : canonical (s.afterWrite line) := by
  grind [State.afterWrite, canonical_setTag, canonical_pageWritten, canonical_invalidatePlates]

theorem canonical_performWrite (h : canonical s) : canonical (s.performWrite line mask data) := by
  grind [State.performWrite, canonical_storeLine, canonical_countUnbacked, canonical_afterWrite]

theorem canonical_performBytes (h : canonical s) : canonical (s.performBytes pa bs) := by
  grind [State.performBytes, canonical_performWrite]

theorem canonical_performSpan (h : canonical s) : canonical (s.performSpan pa bs n) := by
  induction n generalizing s pa bs with
  | zero => exact h
  | succ n ih => grind [State.performSpan, canonical_performBytes]

theorem canonical_countLate (h : canonical s) : canonical (s.countLate cl) := by
  grind [State.countLate, canonical_mapCluster]

theorem canonical_pass (h : canonical s) : canonical (s.pass src dst c) := by
  grind [State.pass, canonical_countLate, canonical_foldl]

theorem canonical_forwardPacket (h : canonical s) : canonical (s.forwardPacket cl p) := by
  grind [State.forwardPacket, canonical_mapCluster, canonical_countLate]

theorem canonical_yieldAt (h : canonical s) : canonical (s.yieldAt cl x n) := by
  induction n generalizing s with
  | zero => exact h
  | succ n ih => grind [State.yieldAt, canonical_forwardPacket]

theorem canonical_travel (h : canonical s) : canonical (s.travel src dst c) := by
  grind [State.travel, canonical_pass, canonical_yieldAt, canonical_foldl]

theorem canonical_readPass (h : canonical s) : canonical (s.readPass cl pa c) := by
  grind [State.readPass, canonical_travel]

theorem canonical_send (h : canonical s) : canonical (s.send p) := by
  grind [State.send, canonical_mapCluster, canonical]

theorem canonical_refused (h : canonical s) : canonical (s.refused p) := by
  grind [State.refused, canonical]

/-! ### Xlat -/

theorem canonical_walked (h : canonical s) : canonical (s.walked sheet asid va) := by
  grind [State.walked, canonical_countUnbacked, canonical_foldl]

theorem canonical_spillHc (h : canonical s) : canonical (s.spillHc cl e) := by
  grind [State.spillHc, canonical_send]

theorem canonical_tlbFill (h : canonical s) : canonical (s.tlbFill cl asid va l) := by
  grind [State.tlbFill, canonical_mapCluster, canonical_spillHc]

theorem canonical_translate (h : canonical s) : canonical (s.translate cl asid va acc secure).2 := by
  grind [State.translate, canonical_mapCluster, canonical_walked, canonical_spillHc, canonical_tlbFill]

theorem canonical_readPiece (h : canonical s) : canonical (s.readPiece sheet asid va n secure).2 := by
  grind [State.readPiece, canonical_readTouch, canonical_walked]

theorem canonical_readPieces (h : canonical s) : canonical (s.readPieces sheet asid secure l).2 := by
  induction l generalizing s with
  | nil => exact h
  | cons p l ih => grind [State.readPieces, !. canonical_readPiece]

theorem canonical_readVa (h : canonical s) : canonical (s.readVa sheet asid va n secure).2 := by
  grind [State.readVa, !. canonical_readPieces]

/-! ### Finish -/

theorem canonical_gateRelease (h : canonical s) : canonical (s.gateRelease sheet launch idx) := by
  grind [State.gateRelease, canonical_mapSheet]

theorem canonical_addCounter (h : canonical s) : canonical (s.addCounter sheet launch idx d) := by
  grind [State.addCounter, canonical_mapSheet, canonical_gateRelease]

theorem canonical_setLx (h : canonical s) : canonical (s.setLx home idx t) := by
  grind [State.setLx, canonical_mapSheet]

theorem canonical_submit (h : canonical s) : canonical (s.submit sheet b) := by
  grind [State.submit, canonical_mapSheet]

theorem canonical_itemWords (h : canonical s) : canonical (s.itemWords sheet b).2 := by
  grind [State.itemWords, !. canonical_readVa]

theorem canonical_lxAbort (h : canonical s) : canonical (s.lxAbort home idx why) := by
  grind [State.lxAbort, canonical_setLx]

theorem canonical_lxResolve (h : canonical s) : canonicalOut (s.lxResolve home idx) := by
  grind [State.lxResolve, canonical_recordOf, canonical_setLx, canonical_submit, canonicalOut]

theorem canonical_endLaunch (h : canonical s) : canonical (s.endLaunch l) := by
  grind [State.endLaunch, canonical_mapPort, canonical]

theorem canonical_launchEndCheck (h : canonical s) : canonical (s.launchEndCheck l) := by
  grind [State.launchEndCheck, canonical_endLaunch]

theorem canonical_notifyHost (h : canonical s) : canonical (s.notifyHost it status) := by
  unfold State.notifyHost
  split
  · exact h
  · refine canonical_mapPort (canonical_ite h ?_)
    exact ⟨h.1, Memory.wf_writeList h.2.1 _ _, h.2.2⟩

theorem canonical_finalItem (h : canonical s) : canonical (s.finalItem sheet i status) := by
  grind [State.finalItem, canonical_mapSheet, canonical_mapItem, canonical_addCounter, canonical_lxAbort, canonical_launchEndCheck,
    canonical_notifyHost]

theorem canonical_failQueued (h : canonical s) : canonical (s.failQueued sheet cause b) := by
  unfold State.failQueued
  exact canonical_ite (canonical_mapSheet (canonical_finalItem (canonical_mapSheet (canonical_itemWords h))))
    (canonical_finalItem (canonical_mapSheet (canonical_itemWords h)))

theorem canonical_putEpc (h : canonical s) : canonical (s.putEpc c epc) := by
  unfold State.putEpc
  repeat' split
  all_goals exact h

theorem canonical_stopAtBoundary (h : canonical s) : canonical (s.stopAtBoundary c) := by
  grind [State.stopAtBoundary, canonical_mapCtx, canonical_putEpc]

theorem canonical_freezeSide (h : canonical s) : canonical (s.freezeSide th side cause) := by
  grind [State.freezeSide, canonical_mapCtx, canonical_putEpc]

theorem canonical_freezeCore (h : canonical s) : canonical (s.freezeCore co rec18) := by
  grind [State.freezeCore, canonical_mapCore, canonical_recordOf, canonical_stopAtBoundary, canonical_foldl, canonical]

theorem canonical_freezeOn (h : canonical s) : canonical (s.freezeOn co e) := by
  grind [State.freezeOn, canonical_mapSheet, canonical_record, canonical_freezeCore]

theorem canonical_drainRing (h : canonical s) : canonical (s.drainRing sheet n) := by
  induction n generalizing s with
  | zero => exact h
  | succ n ih =>
    unfold State.drainRing
    split
    · exact h
    split
    · exact h
    refine ih ?_
    split
    · exact canonical_freezeCore (canonical_mapSheet (canonical_record (canonical_mapSheet h)))
    · exact canonical_mapSheet (canonical_record (canonical_mapSheet h))

/-! ### Discard -/

theorem canonical_flitPass (h : canonical s) : canonical (s.flitPass th dest) := by
  grind [State.flitPass, canonical_pass]

theorem canonical_flushPass (h : canonical s) : canonical (s.flushPass c r) := by
  cases c
  case task => exact canonical_foldl (fun s x h => canonical_flitPass h) h _
  all_goals exact h

theorem canonical_closeRoute (h : canonical s) : canonical (s.closeRoute c) := by
  grind [State.closeRoute, canonical_mapCtx, canonical_mapThread, canonical_flushPass]

theorem canonical_dropRec (h : canonical s) : canonical (s.dropRec th) := by
  grind [State.dropRec, canonical_mapThread, canonical_mapSheet]

theorem canonical_unpinPlate (h : canonical s) : canonical (s.unpinPlate th) := by
  grind [State.unpinPlate, canonical_mapSheet]

theorem canonical_clearRun (h : canonical s) : canonical (s.clearRun th) := by
  grind [State.clearRun, canonical_setCtx, canonical_mapCore, canonical_mapCluster, canonical_closeRoute, canonical_dropRec, canonical_unpinPlate,
    canonical]

theorem canonical_freeSlot (h : canonical s) : canonical (s.freeSlot th) := by
  grind [State.freeSlot, canonical_setThread]

theorem canonical_unplace (h : canonical s) : canonical (s.unplace th) := by
  grind [State.unplace, canonical_mapItem, canonical_clearRun, canonical_freeSlot]

theorem canonical_failItem (h : canonical s) : canonical (s.failItem sheet i cause) := by
  grind [State.failItem, canonical_mapItem, canonical_finalItem, canonical_unplace, canonical_foldl]

theorem canonical_discard (h : canonical s) : canonical (s.discard th w) := by
  grind [State.discard, canonical_setThread, canonical_mapItem, canonical_clearRun, canonical_unplace, canonical_failItem, canonical_foldl]

theorem canonical_releaseHolds (h : canonical s) : canonical (s.releaseHolds sheet i f) := by
  grind [State.releaseHolds, canonical_mapThread, canonical_mapItem, canonical_foldl]

theorem canonical_overflow (h : canonical s) : canonical (s.overflow th) := by
  grind [State.overflow, canonical_discard]

theorem canonical_putLocal (h : canonical s) : canonical (s.putLocal co off bs) := canonical_mapCore h (fun _ hk => Memory.wf_writeList hk _ _)

theorem canonical_mirror (h : canonical s) : canonical (s.mirror j row) := by
  grind [State.mirror, canonical_putLocal, canonical_foldl]

theorem canonical_walkComplete (h : canonical s) : canonical (s.walkComplete cl job) := by
  grind [State.walkComplete, canonical_mapThread, canonical_mapCluster, canonical_foldl]

theorem canonical_walkCancel (h : canonical s) : canonical (s.walkCancel cl job) := by
  grind [State.walkCancel, canonical_setWalk, canonical_mirror, canonical_walkComplete, canonical_foldl]

theorem canonical_endTracers (h : canonical s) : canonical (s.endTracers asid) := by
  grind [State.endTracers, canonical]

theorem canonical_failLaunch (h : canonical s) : canonical (s.failLaunch l cause) := by
  grind [State.failLaunch, canonical_endLaunch, canonical_failQueued, canonical_failItem, canonical_walkCancel, canonical_endTracers, canonical_foldl,
    canonical]

/-! ### Regs -/

theorem canonical_abandonAll (h : canonical s) : canonical (s.abandonAll sheets) := by
  grind [State.abandonAll, canonical_abandonRec, canonical_foldl]

theorem canonical_flushPlates (h : canonical s) : canonical (s.flushPlates sheet) := by
  grind [State.flushPlates, canonical_mapSheet, canonical_abandonAll]

theorem canonical_bumpWgen (h : canonical s) : canonical (s.bumpWgen) := by
  grind [State.bumpWgen, canonical_flushPlates, canonical_foldl, canonical]

theorem canonical_bumpKgen (h : canonical s) : canonical (s.bumpKgen) := by
  grind [State.bumpKgen, canonical_flushPlates, canonical_foldl, canonical]

theorem canonical_setWindow (h : canonical s) : canonical (s.setWindow sheet w k) := by
  grind [State.setWindow, canonical_mapSheet]

theorem canonical_windowChange (h : canonical s) : canonical (s.windowChange sheet w k target) := by
  grind [State.windowChange, canonical_bumpWgen, canonical_setWindow]

theorem canonical_windowWrite (h : canonical s) : canonical (s.windowWrite sheet w reg v) := by
  unfold State.windowWrite
  dsimp only
  repeat' split
  all_goals first | exact h | exact canonical_setWindow h | exact canonical_windowChange h

theorem canonical_regionWrite (h : canonical s) : canonical (s.regionWrite sheet g reg v secureService) := by
  grind [State.regionWrite, canonical_mapSheet]

theorem canonical_loseQueued (h : canonical s) : canonical (s.loseQueued sh b) := by
  grind [State.loseQueued, canonical_launchEndCheck, canonical_failQueued]

theorem canonical_loseSheet (h : canonical s) : canonical (s.loseSheet sh) := by
  unfold State.loseSheet
  split
  · exact h
  extract_lets s1 queued hosts hit s2 s3
  have h3 : canonical s3 :=
    canonical_foldl (fun s b h => canonical_loseQueued h) (canonical_mapSheet (canonical_foldl (fun s p h => canonical_lxAbort h) (canonical_mapSheet h) _)) _
  refine canonical_foldl (fun s p h => canonical_ite (canonical_launchEndCheck (canonical_mapItem ?_)) (canonical_failItem h)) h3 _
  exact canonical_foldl (fun s th h => canonical_unplace h) h _

theorem canonical_loseRanks (h : canonical s) : canonical (s.loseRanks bits l) := by
  grind [State.loseRanks, canonical_loseSheet, canonical_foldl]

theorem canonical_lxlostWrite (h : canonical s) : canonical (s.lxlostWrite v) := by
  grind [State.lxlostWrite, canonical_loseRanks, canonical_foldl, canonical]

theorem canonical_setAtlas (h : canonical s) : canonical (s.setAtlas sheet v) := canonical_mapSheet ⟨Memory.wf_filter h.1 _, h.2⟩

theorem canonical_svitemWrite (h : canonical s) : canonical (s.svitemWrite sheet v) := by
  grind [State.svitemWrite, canonical_mapSheet, canonical_submit]

theorem canonical_svWrite (h : canonical s) : ∀ t, s.svWrite sheet k n v = .ok t → canonical t := by
  unfold State.svWrite
  intro t ht
  split at ht
  · cases ht
  split at ht
  · cases ht
  split at ht
  · cases ht
  extract_lets x m at ht
  have hm (f : Sheet → Sheet) (e : m f = .ok t)
      (hf : ∀ k : Sheet, k.compass.pad.wf = true → (f k).compass.pad.wf = true := by exact fun _ h => h) : canonical t := by
    cases e
    exact canonical_mapSheet h hf
  clear_value m
  split at ht
  case h_5 => cases ht; exact h
  case h_6 => cases ht; exact canonical_drainRing (canonical_mapSheet h)
  case h_7 => cases ht; exact canonical_svitemWrite h
  case h_15 =>
    cases ht
    have hk := canonical_ite (p := x / 2 % 2 = 1) (canonical_bumpKgen h) h
    exact canonical_ite (canonical_flushPlates hk) hk
  case h_16 => cases ht; exact h
  case h_17 => cases ht; exact canonical_lxlostWrite h
  case h_11 =>
    split at ht
    · cases ht
    · cases ht; exact canonical_setAtlas h
  case h_1 | h_2 | h_3 | h_9 | h_10 | h_13 | h_14 => exact hm _ ht
  case h_4 | h_8 | h_12 | h_18 =>
    split at ht
    · cases ht
    · exact hm _ ht

theorem canonical_configWrite (h : canonical s) : ∀ t, s.configWrite pa v secureService = .ok t → canonical t := by
  grind [State.configWrite, canonical_windowWrite, canonical_regionWrite, canonical_svWrite]

/-! ### Cache -/

theorem canonical_writeBack (h : canonical s) : canonical (s.writeBack co o e).2 := by
  grind [State.writeBack, canonical_mapCore, canonical_record, canonical_send, !. canonical_translate, canonical_freezeOn, Core.putEntry, Core.touch,
    Core.touchSpec, Core.dropEntry]

theorem canonical_writeBackAll (h : canonical s) : canonical (s.writeBackAll co o f).2.2 :=
  canonical_foldl_of (fun r : Bool × Nat × State => r.2.2) (fun _ _ h => canonical_writeBack h) h _

theorem canonical_evictOrdinary (h : canonical s) : canonical (s.evictOrdinary co line) := by
  unfold State.evictOrdinary
  have hw (e : L1Entry) := canonical_writeBack (co := co) (o := .core co) (e := e) h
  dsimp only
  split
  · exact h
  split
  case h_1 e _ _ _ he => exact canonical_mapCore (canonical_of_eq (hw _) he)
  case h_2 e _ _ _ he =>
    split
    · exact canonical_mapCore (canonical_of_eq (hw _) he)
    · exact canonical_of_eq (hw _) he

theorem canonical_makeRoom (h : canonical s) : canonical (s.makeRoom co line) := by
  grind [State.makeRoom, canonical_overflow, canonical_evictOrdinary]

theorem canonical_allocLine (h : canonical s) : canonical (s.allocLine co asid line b pol).2 := by
  grind [State.allocLine, canonical_makeRoom]

theorem canonical_hitLine (h : canonical s) : canonical (s.hitLine co asid line pol) := by
  grind [State.hitLine, canonical_mapCore, Core.putEntry, Core.touch, Core.touchSpec, Core.dropEntry]

theorem canonical_keepLine (h : canonical s) : canonical (s.keepLine co e pol) := by
  grind [State.keepLine, canonical_mapCore, Core.putEntry, Core.touch, Core.touchSpec, Core.dropEntry]

theorem canonical_fillLine (h : canonical s) : canonical (s.fillLine co asid line l d m pol) := by
  grind [State.fillLine, !. canonical_allocLine, canonical_keepLine]

theorem canonical_setAlias (h : canonical s) : canonical (s.setAlias cl pa asid line) := by
  grind [State.setAlias, canonical_mapCluster]

theorem canonical_flushAlias (h : canonical s) : canonical (s.flushAlias cl asid line).2 := by
  refine canonical_foldl_of (fun r : Bool × State => r.2) (fun b i h => ?_) h _
  refine canonical_foldl (fun s x h => canonical_overflow h) ?_ _
  split
  · exact canonical_ite (canonical_mapCore (canonical_writeBack h) fun _ h => h) (canonical_writeBack h)
  · exact h

theorem canonical_aliasFlush (h : canonical s) : (s.aliasFlush cl pa asid line).canonical := by
  unfold State.aliasFlush
  have hf (a l : Nat) := canonical_flushAlias (cl := cl) (asid := a) (line := l) h
  dsimp only
  split
  next a l _ =>
    have hf := hf a l
    generalize s.flushAlias cl a l = r at hf ⊢
    repeat' split
    all_goals first | exact h | exact hf
  · exact h

theorem canonical_aliasChange (h : canonical s) : (s.aliasChange cl pa asid line).canonical := by
  grind [State.aliasChange, canonical_bind, canonical_setAlias, !. canonical_aliasFlush, Acc.canonical]

theorem canonical_soReady (h : canonical s) : (s.soReady co asid line pa m load).canonical := by
  grind [State.soReady, !. canonical_writeBack, Acc.canonical]

theorem canonical_updateEntry (h : canonical s) : canonical (s.updateEntry co asid line d m) := by
  grind [State.updateEntry, canonical_mapCore, Core.putEntry, Core.touch, Core.touchSpec, Core.dropEntry]

theorem canonical_useSpec (h : canonical s) : canonical (s.useSpec asid line m) := by
  grind [State.useSpec, canonical_mapCore, Core.putEntry, Core.touch, Core.touchSpec, Core.dropEntry]

theorem canonical_loadGlobal (h : canonical s) : (s.loadGlobal va n kind scope pol).canonical := by
  unfold State.loadGlobal
  extract_lets core cl asid line off m e? p? bits specMask present speculative merge atHome
  clear_value bits specMask present merge atHome
  split
  · exact h
  split
  · split
    · split
      · exact h
      · exact canonical_useSpec (canonical_hitLine h)
    · exact h
  have ht := canonical_translate (cl := cl) (asid := asid) (va := va) (acc := .load) (secure := s.coreSecure core) h
  split
  next he => exact (canonical_of_eq ht he :)
  next he => exact (canonical_of_eq ht he :)
  next he =>
    have h := canonical_of_eq ht he
    extract_lets paLine so acq need
    clear_value so acq need
    split
    · exact h
    split
    · exact h
    split
    · exact canonical_bind (canonical_aliasFlush h) fun _ s h => canonical_bind (canonical_soReady h) fun _ s h =>
        canonical_useSpec (canonical_updateEntry (canonical_readHome (canonical_readPass (canonical_countUnbacked h))))
    refine canonical_bind (canonical_aliasChange h) fun _ s h => ?_
    extract_lets s2 r d value s3
    have hr : canonical r.2 := by
      subst r
      split
      · exact canonical_readHome (canonical_readPass (canonical_countUnbacked h))
      · exact canonical_readLine (canonical_readPass (canonical_countUnbacked h))
    have h3 : canonical s3 := canonical_fillLine (canonical_useSpec hr)
    split
    · exact canonical_useSpec (canonical_updateEntry hr)
    split
    · exact canonical_useSpec hr
    split
    · exact h3
    · exact h3

theorem canonical_invalidateClean (h : canonical s) : canonical (s.invalidateClean co f) := by
  grind [State.invalidateClean, canonical_mapCore]

theorem canonical_acquire (h : canonical s) : canonical (s.acquire scope) := by
  grind [State.acquire, canonical_invalidateClean]

theorem canonical_release (h : canonical s) : (s.release scope).canonical := by
  grind [State.release, canonical_upd, !. canonical_writeBackAll, Acc.canonical]

theorem canonical_specStore (h : canonical s) : (s.specStore line m x so q b pol).canonical := by
  grind [State.specStore, canonical_mapThread, canonical_mapCore, canonical_overflow, canonical_makeRoom, Acc.canonical]

theorem canonical_holdFlush (h : canonical s) : canonical (s.holdFlush only) := by
  grind [State.holdFlush, canonical_mapThread, canonical_mapCore]

theorem canonical_placeStore (h : canonical s) : (s.placeStore va m x kind scope pol q).canonical := by
  unfold State.placeStore
  extract_lets core cl asid line hold hit
  have hhold (b : PageBits) (s : State) (h : canonical s) : (hold b s).canonical := canonical_specStore h
  clear_value hit
  split
  · split
    · exact h
    split
    · exact hhold _ _ h
    split
    · exact canonical_hitLine (canonical_mapCore h)
    · exact h
  have ht := canonical_translate (cl := cl) (asid := asid) (va := va) (acc := .store) (secure := s.coreSecure core) h
  split
  next he => exact (canonical_of_eq ht he :)
  next he => exact (canonical_of_eq ht he :)
  next he =>
    have h := canonical_of_eq ht he
    dsimp only
    split
    · exact canonical_bind (canonical_aliasChange h) fun _ s h => hhold _ s h
    split
    · exact canonical_bind (canonical_aliasFlush h) fun _ s h => canonical_bind (canonical_soReady h) fun _ s h => canonical_send (canonical_updateEntry h)
    · exact canonical_bind (canonical_aliasChange h) fun _ s h => canonical_keepLine (canonical_allocLine h)

theorem canonical_storeMasked (h : canonical s) : (s.storeMasked va m x kind scope pol q).canonical := by
  refine canonical_bind (iteInduction (motive := Acc.canonical) (fun _ => canonical_bind (canonical_release h) fun _ s h => ?_) fun _ => h)
    fun _ s h => canonical_placeStore h
  exact canonical_ite (canonical_holdFlush h) h

theorem canonical_storeGlobal (h : canonical s) : (s.storeGlobal va bs kind scope pol).canonical := by
  grind [State.storeGlobal, !. canonical_storeMasked, Acc.canonical]

theorem canonical_localTarget (h : canonical s) : (s.localTarget la n otherBad).canonical := by
  grind [State.localTarget, Acc.canonical]

theorem canonical_loadLocal (h : canonical s) : (s.loadLocal la n plainOrd).canonical := by
  grind [State.loadLocal, canonical_bind, !. canonical_localTarget, Acc.canonical]

theorem canonical_storeLocal (h : canonical s) : (s.storeLocal la bs).canonical := by
  grind [State.storeLocal, canonical_putLocal, canonical_bind, !. canonical_localTarget, Acc.canonical]

theorem canonical_loadPhys (h : canonical s) : (s.loadPhys pa n kind scope).canonical := by
  grind [State.loadPhys, !. canonical_readLine, !. canonical_readHome, canonical_countUnbacked, canonical_bind, !. canonical_soReady, Acc.canonical]

theorem canonical_storePhys (h : canonical s) : (s.storePhys pa bs kind scope).canonical := by
  grind [State.storePhys, canonical_upd, canonical_send, canonical_configWrite, canonical_bind, !. canonical_soReady, !. canonical_release,
    Acc.canonical]

theorem canonical_load (h : canonical s) : (s.load va n kind scope pol).canonical := by
  grind [State.load, canonical_bind, !. canonical_loadGlobal, !. canonical_loadPhys, Acc.canonical]

theorem canonical_store (h : canonical s) : (s.store va bs kind scope pol).canonical := by
  grind [State.store, !. canonical_storeGlobal, !. canonical_storePhys, Acc.canonical]

/-! ### Ops -/

theorem canonical_forward (h : canonical s) : canonical (s.forward pc w) := by
  grind [State.forward, canonical_mapCtx, canonical_foldl]

theorem canonical_retireTo (h : canonical s) : canonical (s.retireTo pc) := by
  grind [State.retireTo, canonical_upd, canonical_forward]

theorem canonical_retire (h : canonical s) : canonical (s.retire) := by
  grind [State.retire, canonical_retireTo]

theorem canonical_done (h : canonical s) : canonicalOut (done s) := by
  grind [done, canonical_retire, canonicalOut]

theorem canonical_block (h : canonical s) : canonical (s.block w) := by
  grind [State.block, canonical_upd]

theorem canonical_sendStore (h : canonical s) : canonical (s.sendStore co o asid line so m x after) := by
  unfold State.sendStore
  have ht := canonical_translate (cl := clusterOfCore co) (asid := asid) (va := line * 256) (acc := if so then .store else .writeBack) (secure := s.coreSecure co) h
  dsimp only
  split
  next he => exact canonical_send (canonical_of_eq ht he)
  next he => exact (canonical_of_eq ht he :)
  next he => exact canonical_refused (canonical_of_eq ht he)

theorem canonical_sendDirty (h : canonical s) : canonical (s.sendDirty co asid line m) := by
  unfold State.sendDirty
  repeat' split
  · exact h
  · exact canonical_sendStore (canonical_mapCore h)
  · exact h

theorem canonical_sendHeld (h : canonical s) : canonical (s.sendHeld th h') := by
  have hd (lines : List (Nat × LineMask × LineData)) (s : State) (h : canonical s) (a b : Nat) :
      canonical (lines.foldl (fun (s : State) l => s.sendDirty a b l.1 l.2.1) s) := canonical_foldl (fun s l h => canonical_sendDirty h) h _
  unfold State.sendHeld
  dsimp only
  split
  · exact canonical_sendStore (canonical_sendDirty h)
  · exact canonical_foldl (fun s l h => canonical_sendStore h) (hd _ _ h _ _) _

theorem canonical_commitEntry (h : canonical s) : canonical (s.commitEntry co p) := by
  grind [State.commitEntry, canonical_mapCore, !. canonical_allocLine, canonical_keepLine]

theorem canonical_commitThread (h : canonical s) : canonical (s.commitThread th) := by
  grind [State.commitThread, canonical_mapCtx, canonical_mapThread, canonical_sendHeld, canonical_commitEntry, canonical_foldl]

theorem canonical_commit (h : canonical s) : canonical (s.commit) := by
  grind [State.commit, canonical_commitThread]

theorem canonical_endHandler (h : canonical s) : canonical (s.endHandler co k faulted) := by
  unfold State.endHandler
  split
  · exact h
  dsimp only
  split
  · exact h
  split
  · exact h
  exact canonical_ite (canonical_setWalk h) (canonical_mirror (canonical_setWalk h))

theorem canonical_trapRegs (h : canonical s) : canonical (s.trapRegs cause va hint epc) := by
  grind [State.trapRegs, canonical_upd, canonical_putEpc]

theorem canonical_ringWait (h : canonical s) : canonical (s.ringWait) := by
  grind [State.ringWait, canonical_block]

theorem canonical_takeTrap (h : canonical s) : canonical (s.takeTrap cause va epc) := by
  grind [State.takeTrap, canonical_upd, canonical_mapThread, canonical_trapRegs]

theorem canonical_userTrap (h : canonical s) : canonical (s.userTrap cause va epc) := by
  grind [State.userTrap, canonical_upd, canonical_forward, canonical_takeTrap]

theorem canonical_raiseAt (h : canonical s) : canonical (s.raiseAt cause va? hint) := by
  grind [State.raiseAt, canonical_upd, canonical_mapPort, canonical_record, canonical_freezeCore, canonical_failItem, canonical_discard,
    canonical_block, canonical_endHandler, canonical_trapRegs, canonical_ringWait]

theorem canonical_raise (h : canonical s) : canonicalOut (raise cause va s) := by
  grind [raise, canonical_raiseAt, canonicalOut]

theorem canonical_raise0 (h : canonical s) : canonicalOut (raise0 cause s) := by
  grind [raise0, canonical_raiseAt, canonicalOut]

theorem canonical_trapBy {take : State → State} (ht : ∀ s, canonical s → canonical (take s)) (h : canonical s) :
    canonicalOut (trapBy take cause va s) := by
  grind [trapBy, canonical_raiseAt, canonicalOut]

theorem canonical_trapOut (h : canonical s) : canonicalOut (trapOut cause va epc s) := by
  grind [trapOut, canonical_userTrap, canonical_trapBy, canonicalOut]

theorem canonical_trapAfter (h : canonical s) : canonicalOut (trapAfter cause va s) := by
  grind [trapAfter, canonical_takeTrap, canonical_trapBy, canonicalOut]

theorem canonical_run {x : Acc α} {f : α → State → Out} (hx : x.canonical) (hf : ∀ a s, canonical s → canonicalOut (f a s)) :
    canonicalOut (x.run f) := by
  cases x with
  | ok a t => exact hf a t hx
  | trap c v t => exact canonical_raise hx
  | wait w t => exact canonical_block hx
  | gone t => exact hx

theorem canonical_eretState (h : canonical s) : canonical (s.eretState sheet k) := by
  grind [State.eretState, canonical_mapSheet, canonical_retireTo]

theorem canonical_surveyorTrap (h : canonical s) : canonical (s.surveyorTrap sheet k) := by
  grind [State.surveyorTrap, canonical_mapCtx, canonical_mapSheet]

/-! ### Operands -/

theorem canonical_setReg (h : canonical s) : canonical (s.setReg r v) := by
  grind [State.setReg, canonical_upd]

theorem canonical_setPred (h : canonical s) : canonical (s.setPred p v) := by
  grind [State.setPred, canonical_upd]

theorem canonical_mapQueue (h : canonical s) : canonical (s.mapQueue th q f) := by
  grind [State.mapQueue, canonical_mapThread]

theorem canonical_vset (h : canonical s) : canonical (s.vset r k v) := by
  grind [State.vset, canonical_upd, canonical_mapQueue]

theorem canonical_issue {f : State → Out} (hf : ∀ s, canonical s → canonicalOut (f s)) (h : canonical s) : canonicalOut (issue i s f) := by
  grind [issue, canonical_done, canonical_block, canonical_raise0, canonicalOut]

theorem canonical_issueScalar {f : State → Out} (hf : ∀ s, canonical s → canonicalOut (f s)) (h : canonical s) :
    canonicalOut (issueScalar i g s f) := by
  grind [issueScalar, canonical_done, canonical_issue, canonicalOut]

/-! ### Flags -/

theorem canonical_setCond (h : canonical s) : canonical (s.setCond p c a b) := by
  grind [State.setCond, canonical_setPred]

/-! ### Ready -/

theorem canonical_noteIssue (h : canonical s) : canonical (s.noteIssue c) := by
  grind [State.noteIssue, canonical]

theorem canonical_noteActive (h : canonical s) : canonical (s.noteActive c) := by
  cases c
  all_goals first | exact h | exact canonical_mapSheet h

theorem canonical_countIssue (h : canonical s) : canonical (s.countIssue c p) := by
  unfold State.countIssue
  have hn := canonical_noteActive (c := c) (canonical_noteIssue (c := c) (canonical_mapCtx (c := c) (f := fun k => { k with since := s.cycle.toNat }) h))
  cases c with
  | task th side => exact canonical_mapCore hn (fun k hk => by cases side <;> exact hk)
  | handler core k => exact canonical_mapCore hn (fun k hk => hk)
  | surveyor => exact hn

theorem canonical_forwardBegun (h : canonical s) : canonical (s.forwardBegun c) := by
  grind [State.forwardBegun, canonical_mapCtx, canonical_forward, canonical]

theorem canonical_countAttempt (h : canonical s) : canonical (s.countAttempt c p resumed) := by
  grind [State.countAttempt, canonical_countIssue, canonical_forwardBegun]

/-! ### Control -/

theorem canonical_jumpTo (h : canonical s) : canonicalOut (s.jumpTo t) := by
  grind [State.jumpTo, canonical_retireTo, canonical_done, canonicalOut]

theorem canonical_execJump (h : canonical s) : canonicalOut (execJump g o s) := by
  grind [execJump, canonical_issueScalar, canonical_jumpTo, canonicalOut]

theorem canonical_execJumpLink (h : canonical s) : canonicalOut (execJumpLink g o s) := by
  grind [execJumpLink, canonical_setReg, canonical_issueScalar, canonical_jumpTo, canonicalOut]

theorem canonical_execJumpReg (h : canonical s) : canonicalOut (execJumpReg g a s) := by
  grind [execJumpReg, canonical_raise, canonical_issueScalar, canonical_jumpTo, canonicalOut]

theorem canonical_execJumpLinkReg (h : canonical s) : canonicalOut (execJumpLinkReg g a s) := by
  grind [execJumpLinkReg, canonical_raise, canonical_setReg, canonical_issueScalar, canonical_jumpTo, canonicalOut]

theorem canonical_execIllegalInstruction (h : canonical s) : canonicalOut (execIllegalInstruction w s) := by
  grind [execIllegalInstruction, canonical_raise0, canonicalOut]

theorem canonical_execNop (h : canonical s) : canonicalOut (execNop g s) := by
  grind [execNop, canonical_done, canonical_issueScalar, canonicalOut]

theorem canonical_execEndTask (h : canonical s) : canonicalOut (execEndTask g s) := by
  grind [execEndTask, canonical_mapCtx, canonical_mapThread, canonical_retire, canonical_done, canonical_commitThread, canonical_issueScalar,
    canonicalOut]

theorem canonical_execCommit (h : canonical s) : canonicalOut (execCommit g s) := by
  grind [execCommit, canonical_done, canonical_commit, canonical_issueScalar, canonicalOut]

theorem canonical_execYield (h : canonical s) : canonicalOut (execYield g s) := by
  grind [execYield, canonical_upd, canonical_retire, canonical_issueScalar, canonicalOut]

theorem canonical_execPark (h : canonical s) : canonicalOut (execPark g s) := by
  grind [execPark, canonical_mapThread, canonical_done, canonical_block, canonical_issueScalar, canonicalOut]

theorem canonical_execTrap (h : canonical s) : canonicalOut (execTrap g c s) := by
  grind [execTrap, canonical_trapOut, canonical_issueScalar, canonicalOut]

theorem canonical_execBrk (h : canonical s) : canonicalOut (execBrk g s) := by
  grind [execBrk, canonical_trapOut, canonical_issueScalar, canonicalOut]

theorem canonical_execEret (h : canonical s) : canonicalOut (execEret g s) := by
  grind [execEret, canonical_done, canonical_eretState, canonical_issueScalar, canonicalOut]

theorem canonical_execHret (h : canonical s) : canonicalOut (execHret g s) := by
  grind [execHret, canonical_done, canonical_endHandler, canonical_issueScalar, canonicalOut]

theorem canonical_execAstart (h : canonical s) : canonicalOut (execAstart g a s) := by
  grind [execAstart, canonical_mapCtx, canonical_mapThread, canonical_done, canonical_issueScalar, canonicalOut]

theorem canonical_execAwait (h : canonical s) : canonicalOut (execAwait g s) := by
  grind [execAwait, canonical_done, canonical_block, canonical_issueScalar, canonicalOut]

theorem canonical_execIflush (h : canonical s) : canonicalOut (execIflush g s) := by
  grind [execIflush, canonical_mapCore, !. canonical_release, canonical_done, canonical_run, canonical_issueScalar, canonicalOut, Acc.canonical]

theorem canonical_setThreadReg (h : canonical s) : canonical (s.setThreadReg n v f) := by
  grind [State.setThreadReg, canonical_mapThread, canonical]

theorem canonical_controlWrite (h : canonical s) : canonical (s.controlWrite n v) := by
  unfold State.controlWrite
  split
  all_goals first | exact h | exact canonical_upd h | exact canonical_setThreadReg h

theorem canonical_execCrd (h : canonical s) : canonicalOut (execCrd g d c s) := by
  grind [execCrd, canonical_done, canonical_raise0, canonical_setReg, canonical_issue, canonicalOut]

theorem canonical_execCwr (h : canonical s) : canonicalOut (execCwr g a c s) := by
  refine canonical_issue (fun s h => ?_) h
  extract_lets v plain
  have hp (s : State) (h : canonical s) : canonicalOut (plain s) := by
    dsimp only [plain]
    split
    · exact canonical_raise0 h
    · exact canonical_done (canonical_controlWrite h)
  clear_value plain
  split
  · exact canonical_raise0 h
  split
  · exact canonical_done h
  split
  · split
    · exact hp _ h
    split
    next he => exact canonical_done (canonical_svWrite h _ he)
    next => exact canonical_raise0 h
  · exact hp _ h

/-! ### Access -/

theorem canonical_readAt (h : canonical s) : (s.readAt loc va n).canonical := by
  grind [State.readAt, canonical_bind, !. canonical_loadLocal, !. canonical_load, Acc.canonical]

theorem canonical_writeAt (h : canonical s) : (s.writeAt loc va bs).canonical := by
  grind [State.writeAt, canonical_bind, !. canonical_release, !. canonical_storeLocal, !. canonical_store, Acc.canonical]

theorem canonical_acquirePart (h : canonical s) : canonical (s.acquirePart pk) := by
  grind [State.acquirePart, canonical_acquire]

theorem canonical_execLd (h : canonical s) : canonicalOut (execLd g d b z sp o s) := by
  grind [execLd, canonical_done, canonical_run, canonical_setReg, canonical_issueScalar, !. canonical_readAt, canonical_acquirePart, canonicalOut,
    Acc.canonical]

theorem canonical_execSt (h : canonical s) : canonicalOut (execSt g d b z sp o s) := by
  grind [execSt, canonical_done, canonical_run, canonical_issueScalar, !. canonical_writeAt, canonicalOut, Acc.canonical]

theorem canonical_loadTile (h : canonical s) : (s.loadTile loc h' l v pk).canonical := by
  induction l generalizing s v pk with
  | nil => exact h
  | cons p l ih => exact canonical_bind (canonical_readAt h) fun r s h => ih h

theorem canonical_partReady (h : canonical s) : (s.partReady prev q).canonical := by
  unfold State.partReady
  extract_lets asid kind
  split
  · exact h
  split
  · exact h
  split
  · exact h
  split
  · exact h
  split
  · repeat' split
    all_goals first | exact h | exact canonical_holdFlush h
  split
  · split <;> exact h
  split
  · extract_lets wb
    have hw : canonical wb.2 := by
      subst wb
      split
      · exact canonical_writeBack h
      · exact h
    repeat' split
    all_goals exact hw
  · exact h

theorem canonical_storeParts (h : canonical s) : (s.storeParts prev l).canonical := by
  induction l generalizing s prev with
  | nil => exact h
  | cons p l ih => exact canonical_bind (canonical_partReady h) fun pc s h => canonical_bind (canonical_storeMasked h) fun _ s h => ih (canonical_upd h)

theorem canonical_storeElems (h : canonical s) : (s.storeElems loc h' v l).canonical := by
  induction l generalizing s with
  | nil => exact h
  | cons p l ih => exact canonical_bind (canonical_writeAt h) fun r s h => ih (canonical_upd h)

theorem canonical_storeTile (h : canonical s) : (s.storeTile loc h' v l).canonical := by
  grind [State.storeTile, !. canonical_storeParts, !. canonical_storeElems, Acc.canonical]

theorem canonical_execLdv (h : canonical s) : canonicalOut (execLdv g d b p sp t s) := by
  grind [execLdv, canonical_done, canonical_raise, canonical_run, canonical_vset, canonical_issue, canonical_acquirePart, !. canonical_loadTile,
    canonicalOut, Acc.canonical]

theorem canonical_execStv (h : canonical s) : canonicalOut (execStv g d b p sp s) := by
  grind [execStv, canonical_done, canonical_raise, canonical_run, canonical_issue, !. canonical_storeTile, canonicalOut, Acc.canonical]

/-! ### Engine -/

theorem canonical_engineLine (h : canonical s) : canonical (s.engineLine cl asid va ps secure dl).2 := by
  grind [State.engineLine, !. canonical_readLine, canonical_countUnbacked, canonical_readPass, !. canonical_translate]

theorem canonical_engineRead (h : canonical s) : canonical (s.engineRead cl asid va n secure dl).2 := by
  grind [State.engineRead, !. canonical_engineLine]

theorem canonical_engineReads (h : canonical s) : canonical (s.engineReads cl asid secure dl l).2 := by
  induction l generalizing s with
  | nil => exact h
  | cons p l ih => grind [State.engineReads, !. canonical_engineRead]

theorem canonical_engineSpan (h : canonical s) : canonical (s.engineSpan cl asid va n secure dl).2 := by
  grind [State.engineSpan, !. canonical_engineReads]

theorem canonical_engineGroups (h : canonical s) : canonical (s.engineGroups cl asid secure dl l).2 := by
  induction l generalizing s with
  | nil => exact h
  | cons p l ih => grind [State.engineGroups, !. canonical_engineLine]

theorem canonical_engineParts (h : canonical s) : canonical (s.engineParts cl asid va at' ps secure dl).2 := by
  grind [State.engineParts, !. canonical_engineGroups]

theorem canonical_ownBytes (h : canonical s) : (s.ownBytes a n al).canonical := by
  grind [State.ownBytes, Acc.canonical]

theorem canonical_snapshot (h : canonical s) : (s.snapshot a n al).canonical := by
  grind [State.snapshot, canonical_upd, canonical_bind, !. canonical_ownBytes, Acc.canonical]

/-! ### Walk -/

theorem canonical_awaitEntry (h : canonical s) : canonicalOut (s.awaitEntry th w) := by
  grind [State.awaitEntry, canonical_mapCluster, canonical_block, canonicalOut]

theorem canonical_queueWalk (h : canonical s) : canonical (s.queueWalk th nm gang ths ds) := by
  grind [State.queueWalk, canonical_mapThread, canonical_mapCluster, canonical_foldl]

theorem canonical_walkIssue {f : List Byte → State → Out} (hf : ∀ bs s, canonical s → canonicalOut (f bs s)) (h : canonical s) :
    canonicalOut (walkIssue i g a s f) := by
  grind [walkIssue, !. canonical_release, canonical_commit, canonical_raise0, canonical_run, canonical_issueScalar, !. canonical_snapshot,
    canonicalOut, Acc.canonical]

theorem canonical_execMwalk (h : canonical s) : canonicalOut (execMwalk g d a s) := by
  grind [execMwalk, canonical_done, canonical_block, canonical_setReg, canonical_awaitEntry, canonical_queueWalk, canonical_walkIssue, canonicalOut]

theorem canonical_execMwalkg (h : canonical s) : canonicalOut (execMwalkg g d a s) := by
  grind [execMwalkg, canonical_mapThread, canonical_done, canonical_block, canonical_setReg, canonical_awaitEntry, canonical_queueWalk,
    canonical_walkIssue, canonical_foldl, canonicalOut]

theorem canonical_execMprog (h : canonical s) : canonicalOut (execMprog g d a b s) := by
  grind [execMprog, canonical_done, canonical_setReg, canonical_issueScalar, canonicalOut]

theorem canonical_execMcancel (h : canonical s) : canonicalOut (execMcancel g d a s) := by
  grind [execMcancel, canonical_walkCancel, canonical_done, canonical_setReg, canonical_issueScalar, canonicalOut]

theorem canonical_loadPieces (h : canonical s) : (s.loadPieces va size n).canonical := by
  induction n generalizing s va with
  | zero => exact h
  | succ n ih => exact canonical_bind (canonical_load h) fun r s h => canonical_bind (ih h) fun bs s h => h

theorem canonical_execMnode (h : canonical s) : canonicalOut (execMnode g d a b s) := by
  grind [execMnode, canonical_done, canonical_raise, canonical_run, canonical_setReg, canonical_issueScalar, !. canonical_loadPieces, canonicalOut,
    Acc.canonical]

theorem canonical_execGang (h : canonical s) : canonicalOut (execGang g a s) := by
  grind [execGang, canonical_mapThread, canonical_acquire, !. canonical_release, canonical_done, canonical_block, canonical_raise0, canonical_run,
    canonical_issueScalar, canonical_foldl, canonicalOut, Acc.canonical]

theorem canonical_reportJob (h : canonical s) : canonicalOut (s.reportJob e d) := by
  grind [State.reportJob, canonical_mapThread, canonical_acquire, canonical_retire, canonical_done, canonical_ringWait, canonical_trapAfter,
    canonical_setReg, canonicalOut]

theorem canonical_execJwait (h : canonical s) : canonicalOut (execJwait g d a s) := by
  grind [execJwait, canonical_done, canonical_block, canonical_setReg, canonical_issueScalar, canonical_reportJob, canonicalOut]

theorem canonical_execJpoll (h : canonical s) : canonicalOut (execJpoll g d a s) := by
  grind [execJpoll, canonical_done, canonical_setReg, canonical_issueScalar, canonical_reportJob, canonicalOut]

theorem canonical_execJobQueueGrant (h : canonical s) : canonicalOut (execJobQueueGrant cl s) := by
  grind [execJobQueueGrant, canonical_mapCluster, canonicalOut]

theorem canonical_execWalkJobAccept (h : canonical s) : canonicalOut (execWalkJobAccept cl job s) := by
  grind [execWalkJobAccept, canonical_setWalk, canonical_mirror, canonical_foldl, canonicalOut]

theorem canonical_tagAt (h : canonical s) : canonical (s.tagAt cl asid va).2 := by
  grind [State.tagAt, !. canonical_translate]

theorem canonical_rowFormat (h : canonical s) : canonical (s.rowFormat cl j d).2 := by
  grind [State.rowFormat, !. canonical_tagAt]

theorem canonical_scaleBlocks (h : canonical s) : canonical (s.scaleBlocks cl asid l).2 := by
  induction l generalizing s with
  | nil => exact h
  | cons p l ih => grind [State.scaleBlocks, !. canonical_tagAt]

theorem canonical_scaleByte (h : canonical s) : canonical (s.scaleByte cl va pa dl).2 := by
  grind [State.scaleByte, !. canonical_readLine, canonical_countUnbacked, canonical_readPass]

theorem canonical_windowScale (h : canonical s) : canonical (s.windowScale cl asid va n dl).2 := by
  unfold State.windowScale
  have hb := canonical_scaleBlocks (cl := cl) (asid := asid) (l := (spanReads va n (n / 256 + 2)).flatMap (fun p => [p.1, p.1 + p.2 - 1])) h
  split
  next he => exact canonical_of_eq hb he
  next he => exact canonical_of_eq hb he
  next t he =>
    have ht := canonical_of_eq hb he
    split
    · exact ht
    split
    · exact ht
    split
    · exact ht
    split
    next he => exact canonical_of_eq (canonical_scaleByte ht) he
    next he => exact canonical_of_eq (canonical_scaleByte ht) he

theorem canonical_loadRows (h : canonical s) : canonical (s.loadRows cl j d fmt lens rows).2 := by
  induction rows generalizing s with
  | nil => exact h
  | cons i rows ih => grind [State.loadRows, !. canonical_engineSpan, !. canonical_windowScale, !. canonical_engineReads]

theorem canonical_loadJob (h : canonical s) : canonical (s.loadJob cl j).2 := by
  unfold State.loadJob
  have hf (d : WalkDesc) := canonical_rowFormat (cl := cl) (j := j) (d := d) h
  split
  · exact h
  split
  · exact h
  split
  next he => exact canonical_of_eq (hf _) he
  next he => exact canonical_of_eq (hf _) he
  next he =>
    have h := canonical_of_eq (hf _) he
    split
    next he => exact canonical_of_eq (canonical_loadRows h) he
    next he => exact canonical_of_eq (canonical_loadRows h) he

theorem canonical_execWalkLoadDone (h : canonical s) : canonicalOut (execWalkLoadDone cl job s) := by
  grind [execWalkLoadDone, canonical_setWalk, canonical_mirror, !. canonical_loadJob, canonical_foldl, canonicalOut]

theorem canonical_readNode (h : canonical s) : canonical (s.readNode cl j d unit).2 := by
  grind [State.readNode, !. canonical_engineSpan, !. canonical_engineParts]

theorem canonical_stepJob (h : canonical s) : canonical (s.stepJob cl j).2 := by
  unfold State.stepJob
  split
  next d _ u rows left _ _ =>
    have hn := canonical_readNode (cl := cl) (j := j) (d := d) (unit := u) h
    split
    next he => exact canonical_of_eq hn he
    next he =>
      dsimp only
      repeat' split
      all_goals exact canonical_of_eq hn he
  · exact h

theorem canonical_execWalkStep (h : canonical s) : canonicalOut (execWalkStep cl job s) := by
  grind [execWalkStep, canonical_setWalk, !. canonical_stepJob, canonicalOut]

theorem canonical_execWalkStepEnd (h : canonical s) : canonicalOut (execWalkStepEnd cl job s) := by
  grind [execWalkStepEnd, canonical_setWalk, canonical_mirror, canonical_foldl, canonicalOut]

theorem canonical_suspendWalk (h : canonical s) : canonical (s.suspendWalk cl job j va c) := by
  grind [State.suspendWalk, canonical_mapCluster, canonical_setWalk, canonical_recordOf, canonical_walkCancel]

theorem canonical_execWalkSuspend (h : canonical s) : canonicalOut (execWalkSuspend cl job s) := by
  grind [execWalkSuspend, !. canonical_loadJob, !. canonical_stepJob, canonical_suspendWalk, canonicalOut]

theorem canonical_execHandlerStart (h : canonical s) : canonicalOut (execHandlerStart co s) := by
  unfold execHandlerStart
  split
  case h_2 => trivial
  extract_lets cl
  split
  · trivial
  split
  case h_2 => trivial
  extract_lets hd c t
  have ht : canonical t := h
  exact canonical_setCtx (canonical_setWalk ht)

theorem canonical_walkRelease (h : canonical s) : canonical (s.walkRelease cl job co asid) := by
  grind [State.walkRelease, canonical_setWalk, !. canonical_writeBackAll]

theorem canonical_execWalkJobComplete (h : canonical s) : canonicalOut (execWalkJobComplete cl job s) := by
  grind [execWalkJobComplete, canonical_walkComplete, canonical_walkRelease, canonicalOut]

/-! ### Link -/

theorem canonical_edgeEnter (h : canonical s) : canonicalOut (s.edgeEnter d edge n) := by
  grind [State.edgeEnter, canonical_upd, canonical_mapEdge, canonical_done, canonical_block, canonical_setReg, canonicalOut]

theorem canonical_execLturn (h : canonical s) : canonicalOut (execLturn g d a b s) := by
  grind [execLturn, canonical_done, canonical_commit, canonical_raise0, canonical_setReg, canonical_issueScalar, canonical_edgeEnter, canonicalOut]

theorem canonical_execLstat (h : canonical s) : canonicalOut (execLstat g d a b s) := by
  grind [execLstat, canonical_done, canonical_raise0, canonical_setReg, canonical_issueScalar, canonicalOut]

theorem canonical_execLquiet (h : canonical s) : canonicalOut (execLquiet g d a s) := by
  grind [execLquiet, canonical_upd, canonical_done, canonical_block, canonical_raise0, canonical_setReg, canonical_issueScalar, canonicalOut]

theorem canonical_execTurnGroupStart (h : canonical s) : canonicalOut (execTurnGroupStart edge s) := by
  grind [execTurnGroupStart, canonical_mapEdge, canonicalOut]

theorem canonical_execTurnGroupRetrain (h : canonical s) : canonicalOut (execTurnGroupRetrain edge ok s) := by
  grind [execTurnGroupRetrain, canonical_mapEdge, canonical_recordOf, canonicalOut]

theorem canonical_execMeridianLinkTraining (h : canonical s) : canonicalOut (execMeridianLinkTraining port trained s) := by
  unfold execMeridianLinkTraining
  split
  · exact trivial
  · exact h

theorem canonical_execSheetLost (h : canonical s) : canonicalOut (execSheetLost sheet s) := by
  grind [execSheetLost, canonical_loseSheet, canonicalOut]

/-! ### Phaser -/

theorem canonical_setPhaser (h : canonical s) : canonical (s.setPhaser nm p) := by
  unfold State.setPhaser
  split
  · exact canonical_mapSheet h
  · exact h

theorem canonical_wakeMembers (h : canonical s) : canonical (s.wakeMembers p) := h

theorem canonical_settlePhaser (h : canonical s) : canonical (s.settlePhaser nm p) := by
  grind [State.settlePhaser, canonical_recordOf, canonical_setPhaser, canonical_wakeMembers]

theorem canonical_signal (h : canonical s) : canonical (s.signal nm m t count) := by
  grind [State.signal, canonical_settlePhaser]

theorem canonical_deliver (h : canonical s) : canonical (s.deliver nm ph) := by
  grind [State.deliver, canonical_settlePhaser]

theorem canonical_newPhaser (h : canonical s) : canonical (s.newPhaser launch sheet scope counting mode n).2 := by
  grind [State.newPhaser, canonical_setPhaser]

theorem canonical_phaserOp {f : Nat → Phaser → State → Out} (hf : ∀ id p s, canonical s → canonicalOut (f id p s)) (h : canonical s) :
    canonicalOut (phaserOp i g a s f) := by
  grind [phaserOp, canonical_raise0, canonical_issueScalar, canonicalOut]

theorem canonical_phaseWait (h : canonical s) : canonicalOut (s.phaseWait nm p ph d) := by
  grind [State.phaseWait, canonical_acquire, canonical_done, canonical_block, canonical_setReg, canonicalOut]

theorem canonical_execPhwait (h : canonical s) : canonicalOut (execPhwait g d a b s) := by
  grind [execPhwait, canonical_upd, canonical_raise0, canonical_phaserOp, canonical_phaseWait, canonicalOut]

theorem canonical_signalOp {f : BitVec 32 → State → Out} (hf : ∀ t s, canonical s → canonicalOut (f t s)) (h : canonical s) :
    canonicalOut (signalOp s nm p b f) := by
  grind [signalOp, canonical_upd, !. canonical_release, canonical_commit, canonical_raise0, canonical_run, canonical_signal, canonicalOut,
    Acc.canonical]

theorem canonical_execPhsig (h : canonical s) : canonicalOut (execPhsig g d a b s) := by
  grind [execPhsig, canonical_done, canonical_setReg, canonical_phaserOp, canonical_signalOp, canonicalOut]

theorem canonical_execPhnext (h : canonical s) : canonicalOut (execPhnext g d a b s) := by
  grind [execPhnext, canonical_upd, canonical_raise0, canonical_phaserOp, canonical_phaseWait, canonical_signalOp, canonicalOut]

theorem canonical_execPhreg (h : canonical s) : canonicalOut (execPhreg g d a b s) := by
  grind [execPhreg, canonical_done, canonical_raise0, canonical_setReg, canonical_setPhaser, canonical_phaserOp, canonicalOut]

theorem canonical_execPhdrop (h : canonical s) : canonicalOut (execPhdrop g d a b s) := by
  grind [execPhdrop, !. canonical_release, canonical_done, canonical_commit, canonical_raise0, canonical_run, canonical_setReg, canonical_setPhaser,
    canonical_settlePhaser, canonical_phaserOp, canonicalOut, Acc.canonical]

theorem canonical_execPhread (h : canonical s) : canonicalOut (execPhread g d a b s) := by
  grind [execPhread, canonical_done, canonical_raise0, canonical_setReg, canonical_phaserOp, canonicalOut]

theorem canonical_execPhnew (h : canonical s) : canonicalOut (execPhnew g d a s) := by
  grind [execPhnew, canonical_done, canonical_raise0, canonical_setReg, canonical_issueScalar, !. canonical_newPhaser, canonicalOut]

theorem canonical_execPhfree (h : canonical s) : canonicalOut (execPhfree g d a s) := by
  grind [execPhfree, canonical_done, canonical_raise0, canonical_setReg, canonical_issueScalar, canonical_setPhaser, canonicalOut]

/-! ### Stream -/

theorem canonical_publish (h : canonical s) : canonical (s.publish th q) := by
  grind [State.publish, canonical_mapThread, canonical_mapQueue]

theorem canonical_advance (h : canonical s) : canonical (s.advance th q) := by
  grind [State.advance, canonical_mapQueue]

theorem canonical_execQpub (h : canonical s) : canonicalOut (execQpub g q s) := by
  grind [execQpub, canonical_done, canonical_block, canonical_issueScalar, canonical_publish, canonicalOut]

theorem canonical_execQadv (h : canonical s) : canonicalOut (execQadv g q s) := by
  grind [execQadv, canonical_done, canonical_block, canonical_issueScalar, canonical_advance, canonicalOut]

theorem canonical_execQcfg (h : canonical s) : canonicalOut (execQcfg g d q s) := by
  grind [execQcfg, canonical_done, canonical_setReg, canonical_issueScalar, canonicalOut]

theorem canonical_execQfill (h : canonical s) : canonicalOut (execQfill g d q b s) := by
  grind [execQfill, canonical_done, canonical_block, canonical_raise0, canonical_setReg, canonical_issueScalar, canonicalOut]

theorem canonical_startStream (h : canonical s) : canonicalOut (startStream i g indirect q a s) := by
  grind [startStream, !. canonical_release, canonical_done, canonical_block, canonical_raise0, canonical_run, canonical_mapQueue,
    canonical_issueScalar, !. canonical_snapshot, canonicalOut, Acc.canonical]

theorem canonical_execSclose (h : canonical s) : canonicalOut (execSclose g q s) := by
  grind [execSclose, canonical_done, canonical_mapQueue, canonical_issueScalar, canonicalOut]

theorem canonical_execSstat (h : canonical s) : canonicalOut (execSstat g d q s) := by
  grind [execSstat, canonical_done, canonical_setReg, canonical_issueScalar, canonicalOut]

theorem canonical_stridedSlot (h : canonical s) : canonical (s.stridedSlot cl asid secure dl x).2 := by
  grind [State.stridedSlot, !. canonical_engineReads]

theorem canonical_segmentSlot (h : canonical s) : canonical (s.segmentSlot cl asid secure dl x).2 := by
  grind [State.segmentSlot, !. canonical_engineReads]

theorem canonical_records (h : canonical s) : canonical (s.records cl asid secure dl x l).2 := by
  induction l generalizing s with
  | nil => exact h
  | cons p l ih => grind [State.records, !. canonical_engineReads]

theorem canonical_indirectSlot (h : canonical s) : canonical (s.indirectSlot cl asid secure dl x).2 := by
  grind [State.indirectSlot, !. canonical_engineReads, !. canonical_records]

theorem canonical_assemble (h : canonical s) : canonical (s.assemble th x).2 := by
  grind [State.assemble, !. canonical_stridedSlot, !. canonical_segmentSlot, !. canonical_indirectSlot]

theorem canonical_execStreamStart (h : canonical s) : canonicalOut (execStreamStart th q s) := by
  grind [execStreamStart, canonical_mapQueue, canonicalOut]

theorem canonical_execStreamSlotPublish (h : canonical s) : canonicalOut (execStreamSlotPublish th q s) := by
  grind [execStreamSlotPublish, canonical_mapQueue, canonical_publish, !. canonical_assemble, canonicalOut]

theorem canonical_execStreamSuspend (h : canonical s) : canonicalOut (execStreamSuspend th q s) := by
  grind [execStreamSuspend, canonical_record, canonical_freezeOn, canonical_mapQueue, !. canonical_assemble, canonicalOut]

/-! ### Intake -/

theorem canonical_itemShape (h : canonical s) : canonical (s.itemShape sheet it).2 := by
  grind [State.itemShape, !. canonical_readVa]

theorem canonical_intakeCheck (h : canonical s) : canonical (s.intakeCheck sheet b order).2 := by
  grind [State.intakeCheck, !. canonical_itemWords, !. canonical_itemShape]

theorem canonical_enter (h : canonical s) : canonical (s.enter sheet it find).2 := by
  unfold State.enter
  split
  · exact canonical_finalItem (canonical_mapSheet h)
  · exact canonical_ite (canonical_finalItem (canonical_mapSheet h)) (canonical_mapSheet h)

theorem canonical_intake (h : canonical s) : canonical (s.intake sheet b).2 := by
  grind [State.intake, !. canonical_intakeCheck, !. canonical_enter]

theorem canonical_execItemIntake (h : canonical s) : canonicalOut (execItemIntake sheet s) := by
  unfold execItemIntake
  split
  · trivial
  split
  · exact canonical_loseQueued (canonical_mapSheet h)
  have hi (b : Submission) (l : List Submission) := canonical_intake (sheet := sheet) (b := b) (canonical_mapSheet (c := sheet) (f := fun k => { k with intakeQ := l }) h)
  split
  · trivial
  next he =>
  extract_lets t u
  have ht : canonical t := by
    have h := canonical_of_eq (hi _ _) he
    exact canonical_ite (canonical_mapSheet h) h
  refine canonical_launchEndCheck ?_
  subst u
  repeat' split
  all_goals first | exact ht | exact canonical_setLx ht

/-! ### Task -/

theorem canonical_execTarg (h : canonical s) : canonicalOut (execTarg g d b s) := by
  grind [execTarg, canonical_done, canonical_setReg, canonical_issueScalar, canonicalOut]

theorem canonical_spawnBytes (h : canonical s) : (s.spawnBytes va n).canonical := by
  grind [State.spawnBytes, canonical_countUnbacked, canonical_readPass, !. canonical_translate, Acc.canonical]

theorem canonical_spawn (h : canonical s) : canonicalOut (s.spawn d a0 bs) := by
  grind [State.spawn, canonical_done, canonical_block, canonical_setReg, !. canonical_intake, canonicalOut]

theorem canonical_execTspawn (h : canonical s) : canonicalOut (execTspawn g d a b s) := by
  grind [execTspawn, canonical_upd, !. canonical_release, canonical_commit, canonical_raise, canonical_run, canonical_issueScalar,
    !. canonical_spawnBytes, canonical_spawn, canonicalOut, Acc.canonical]

theorem canonical_execTdep (h : canonical s) : canonicalOut (execTdep g d a b s) := by
  grind [execTdep, canonical_addCounter, !. canonical_release, canonical_done, canonical_commit, canonical_raise0, canonical_run, canonical_setReg,
    canonical_issueScalar, canonicalOut, Acc.canonical]

theorem canonical_execTctr (h : canonical s) : canonicalOut (execTctr g d a s) := by
  grind [execTctr, canonical_done, canonical_raise0, canonical_setReg, canonical_issueScalar, canonicalOut]

theorem canonical_execTshape (h : canonical s) : canonicalOut (execTshape g d a b s) := by
  grind [execTshape, canonical_putLocal, canonical_done, canonical_raise, canonical_raise0, canonical_setReg, canonical_issueScalar, canonicalOut]

theorem canonical_execTself (h : canonical s) : canonicalOut (execTself g d s) := by
  grind [execTself, canonical_done, canonical_setReg, canonical_issueScalar, canonicalOut]

theorem canonical_execTlate (h : canonical s) : canonicalOut (execTlate g d s) := by
  grind [execTlate, canonical_done, canonical_setReg, canonical_issueScalar, canonicalOut]

/-! ### Place -/

theorem canonical_putMember (h : canonical s) : canonical (s.putMember w rank th) := by
  grind [State.putMember, canonical_setThread, canonical_mapItem]

theorem canonical_placeAll (h : canonical s) : canonical (s.placeAll w n).2 := by
  induction n generalizing s with
  | zero => exact h
  | succ n ih => grind [State.placeAll, canonical_foldl, canonical_putMember]

theorem canonical_reserveSlots (h : canonical s) : canonical (s.reserveSlots w) := by
  grind [State.reserveSlots, canonical_mapSheet, canonical_foldl]

/-! ### Tracer -/

theorem canonical_grantTracer (h : canonical s) : canonical (s.grantTracer c) := canonical_mapCtx (canonical_mapCluster (canonical_mapThread h))

theorem canonical_setPair (h : canonical s) : canonical (s.setPair d x y) := by
  grind [State.setPair, canonical_setReg]

theorem canonical_trcOp (h : canonical s) : canonicalOut (trcOp i g fn r a s) := by
  grind [trcOp, canonical_upd, canonical_mapCluster, !. canonical_release, canonical_done, canonical_block, canonical_commit, canonical_raise0,
    canonical_run, canonical_issueScalar, !. canonical_snapshot, canonical_grantTracer, canonical_setPair, canonicalOut, Acc.canonical]

theorem canonical_execTracerGrant (h : canonical s) : canonicalOut (execTracerGrant cl s) := by
  grind [execTracerGrant, canonical_grantTracer, canonicalOut]

theorem canonical_trcCause (h : canonical s) : (trcCause c va s : TrcAcc α).canonical := by
  grind [trcCause, TrcAcc.canonical]

theorem canonical_tracerPage (h : canonical s) : (s.tracerPage cl j va).canonical := by
  grind [State.tracerPage, !. canonical_translate, !. canonical_trcCause, TrcAcc.canonical]

theorem canonical_tracerLocal (h : canonical s) : (s.tracerLocal co).canonical := by
  grind [State.tracerLocal, !. canonical_trcCause, TrcAcc.canonical]

theorem canonical_tracerPass (h : canonical s) : canonical (s.tracerPass cl j pa) := by
  grind [State.tracerPass, canonical_pass]

theorem canonical_tracerRead (h : canonical s) : (s.tracerRead cl j loc va n).canonical := by
  grind [State.tracerRead, !. canonical_engineSpan, canonical_tbind, !. canonical_trcCause, !. canonical_tracerLocal, TrcAcc.canonical]

theorem canonical_reserve (h : canonical s) : (s.reserve cl j).canonical := by
  grind [State.reserve, canonical_performBytes, canonical_tbind, !. canonical_tracerPage, canonical_tracerPass, TrcAcc.canonical]

theorem canonical_suspendTracer (h : canonical s) : canonical (s.suspendTracer cl job j cause va) := by
  grind [State.suspendTracer, canonical_setTracer, canonical_recordOf]

theorem canonical_endTracer (h : canonical s) : canonical (s.endTracer cl job j why world) := by
  grind [State.endTracer, canonical_mapCluster, canonical_setTracer, canonical_recordOf]

theorem canonical_execTracerJobStart (h : canonical s) : canonicalOut (execTracerJobStart cl job s) := by
  grind [execTracerJobStart, canonical_mapCluster, canonical_setTracer, !. canonical_reserve, canonical_endTracer, canonicalOut, TrcAcc.canonical]

theorem canonical_tracerIndex (h : canonical s) : (s.tracerIndex cl j).canonical := by
  grind [State.tracerIndex, canonical_tbind, !. canonical_tracerRead, TrcAcc.canonical]

theorem canonical_tracerPart (h : canonical s) : (s.tracerPart cl j).canonical := by
  unfold State.tracerPart
  split
  · exact canonical_reserve h
  refine canonical_tbind (canonical_tracerIndex h) fun ji s h => ?_
  dsimp only
  split
  · exact h
  split
  · exact h
  refine canonical_tbind ?_ fun bs s h => ?_
  · split
    · exact h
    · split
      · exact h
      · exact canonical_tracerRead h
  split
  · exact canonical_tbind (canonical_tracerLocal h) fun _ s h => canonical_putLocal h
  refine canonical_tbind (canonical_tracerPage h) fun pa s h => ?_
  split
  · exact h
  · exact canonical_ite (canonical_deliver (canonical_performBytes (canonical_tracerPass h))) (canonical_performBytes (canonical_tracerPass h))

theorem canonical_execTracerPart (h : canonical s) : canonicalOut (execTracerPart cl job s) := by
  grind [execTracerPart, canonical_setTracer, canonical_endTracer, !. canonical_tracerPart, canonicalOut, TrcAcc.canonical]

theorem canonical_execTracerSuspend (h : canonical s) : canonicalOut (execTracerSuspend cl job s) := by
  grind [execTracerSuspend, canonical_suspendTracer, !. canonical_tracerPart, canonicalOut, TrcAcc.canonical]

theorem canonical_execTracerSig (h : canonical s) : canonicalOut (execTracerSig cl job s) := by
  grind [execTracerSig, canonical_setTracer, canonical_signal, canonicalOut]

theorem canonical_readyAdd (h : canonical s) : (s.readyAdd cl j).canonical := by
  grind [State.readyAdd, canonical_performBytes, canonical_tbind, !. canonical_tracerPage, canonical_tracerPass, TrcAcc.canonical]

theorem canonical_execAppendReadyAdd (h : canonical s) : canonicalOut (execAppendReadyAdd cl job s) := by
  grind [execAppendReadyAdd, canonical_setTracer, canonical_suspendTracer, canonical_endTracer, !. canonical_readyAdd, canonicalOut, TrcAcc.canonical]

theorem canonical_execTracerJobComplete (h : canonical s) : canonicalOut (execTracerJobComplete cl job s) := by
  grind [execTracerJobComplete, canonical_mapThread, canonical_mapCluster, canonicalOut]

theorem canonical_sleepWake (h : canonical s) : canonicalOut (s.sleepWake d b) := by
  grind [State.sleepWake, canonical_upd, canonical_acquire, canonical_retire, canonical_done, canonical_block, canonical_ringWait,
    canonical_trapAfter, canonical_setReg, canonicalOut]

theorem canonical_sleepFind (h : canonical s) : canonical (s.sleepFind b) := by
  grind [State.sleepFind, canonical_upd]

theorem canonical_execSleepu (h : canonical s) : canonicalOut (execSleepu g d a b s) := by
  grind [execSleepu, canonical_acquire, canonical_done, canonical_block, canonical_issueScalar, canonical_sleepWake, canonical_sleepFind, canonicalOut]

/-! ### Vector -/

theorem canonical_eachElem (h : canonical s) : canonical (s.eachElem g h' de draws old f).2 := by
  grind [State.eachElem, canonical_upd, canonical_foldl]

theorem canonical_vecOpIf (h : canonical s) : canonicalOut (vecOpIf i g d admits rounds operand f s) := by
  grind [vecOpIf, canonical_done, canonical_raise0, canonical_vset, canonical_issue, !. canonical_eachElem, canonicalOut]

theorem canonical_vecOp (h : canonical s) : canonicalOut (vecOp i g d admits rounds f s) := by
  grind [vecOp, canonical_vecOpIf, canonicalOut]

theorem canonical_redOp (h : canonical s) : canonicalOut (redOp i g d a admits rounds lines pre f s) := by
  grind [redOp, canonical_upd, canonical_done, canonical_raise0, canonical_vset, canonical_issue, canonical_foldl, canonicalOut]

theorem canonical_vcmpOp (h : canonical s) : canonicalOut (vcmpOp i g cn p a b s) := by
  grind [vcmpOp, canonical_done, canonical_setPred, canonical_issue, canonical_foldl, canonicalOut]

theorem canonical_execVcvt (h : canonical s) : canonicalOut (execVcvt g d a sat t s) := by
  grind [execVcvt, canonical_done, canonical_raise0, canonical_vset, canonical_issue, !. canonical_eachElem, canonicalOut]

theorem canonical_execVext (h : canonical s) : canonicalOut (execVext g d a b s) := by
  grind [execVext, canonical_done, canonical_raise0, canonical_setReg, canonical_issueScalar, canonicalOut]

theorem canonical_execVins (h : canonical s) : canonicalOut (execVins g d a b s) := by
  grind [execVins, canonical_done, canonical_raise0, canonical_vset, canonical_issue, canonicalOut]

theorem canonical_execVshape (h : canonical s) : canonicalOut (execVshape g d a s) := by
  grind [execVshape, canonical_upd, canonical_done, canonical_raise0, canonical_setReg, canonical_issueScalar, canonicalOut]

theorem canonical_pruneOp (h : canonical s) : canonicalOut (pruneOp i sc g d a b s) := by
  grind [pruneOp, canonical_upd, canonical_done, canonical_raise0, canonical_vset, canonical_issue, canonical_foldl, canonicalOut]

theorem canonical_execVrng (h : canonical s) : canonicalOut (execVrng g d s) := by
  grind [execVrng, canonical_upd, canonical_done, canonical_vset, canonical_issue, canonical_foldl, canonicalOut]

theorem canonical_execVcompact (h : canonical s) : canonicalOut (execVcompact g d a p s) := by
  grind [execVcompact, canonical_upd, canonical_done, canonical_vset, canonical_issueScalar, canonical_foldl, canonicalOut]

/-! ### Plates -/

theorem canonical_spoilPlate (h : canonical s) : canonical (s.spoilPlate sheet cd p) := by
  grind [State.spoilPlate, canonical_mapSheet, canonical_abandonRec]

theorem canonical_clearUnits (h : canonical s) : ∀ t ∈ s.clearUnits sheet serial lo n fuel, canonical t := by
  induction fuel generalizing s with
  | zero => intro t ht; cases ht; exact h
  | succ n ih =>
    intro t ht
    unfold State.clearUnits at ht
    dsimp only at ht
    repeat' split at ht
    · cases ht; exact h
    · cases ht
    · exact ih (canonical_spoilPlate h) t ht
    · cases ht

theorem canonical_takeUnits (h : canonical s) : ∀ t ∈ s.takeUnits sheet serial n, canonical t := by
  unfold State.takeUnits
  dsimp only
  intro t ht
  split at ht
  · cases ht
  next u hu =>
    obtain ⟨v, hv, rfl⟩ := Option.map_eq_some_iff.1 ht
    refine canonical_mapSheet (canonical_clearUnits ?_ _ hv)
    split at hu
    · exact canonical_clearUnits h _ hu
    · cases hu; exact h

theorem canonical_mapRec (h : canonical s) : canonical (s.mapRec th f) := by
  grind [State.mapRec, canonical_mapThread]

theorem canonical_mapPlate (h : canonical s) : canonical (s.mapPlate sheet serial f) := by
  grind [State.mapPlate, canonical_mapSheet]

theorem canonical_recUnits (h : canonical s) : canonical (s.recUnits th n) := by
  grind [State.recUnits, canonical_abandonRec, canonical_takeUnits]

theorem canonical_startRec (h : canonical s) : canonical (s.startRec th) := by
  grind [State.startRec, canonical_setThread, canonical_mapSheet, canonical_abandonRec, canonical_spoilPlate, canonical_recUnits]

theorem canonical_addGuard (h : canonical s) : canonical (s.addGuard th g) := by
  grind [State.addGuard, canonical_abandonRec, canonical_mapRec, canonical_recUnits]

theorem canonical_addEntry (h : canonical s) : canonical (s.addEntry th e) := by
  grind [State.addEntry, canonical_abandonRec, canonical_mapRec, canonical_recUnits]

theorem canonical_finishRec (h : canonical s) : canonical (s.finishRec th) := by
  grind [State.finishRec, canonical_mapThread, canonical_abandonRec, canonical_mapPlate]

theorem canonical_recCommand {pre : State} (h : canonical s) : canonical (State.recCommand th side r pre c s) := by
  grind [State.recCommand, canonical_abandonRec, canonical_mapRec, canonical_addEntry]

theorem canonical_recOrder {pre : State} (h : canonical s) : canonical (State.recOrder th side r pre i s) := by
  unfold State.recOrder
  dsimp only
  split
  · exact canonical_addEntry h
  · exact canonical_addEntry h
  · exact canonical_ite (canonical_abandonRec h) (canonical_addEntry h)
  · exact h

theorem canonical_recPgld {pre : State} (h : canonical s) : canonical (State.recPgld th r isA pre a b s) := by
  grind [State.recPgld, canonical_abandonRec, !. canonical_load, canonical_addGuard, Acc.canonical]

theorem canonical_guardField (h : canonical s) : canonical (s.guardField th f) := by
  grind [State.guardField, canonical_addGuard]

theorem canonical_recLocalStore (h : canonical s) : canonical (s.recLocalStore th la bytes m) := by
  grind [State.recLocalStore, canonical_abandonRec, canonical_mapRec, canonical_guardField]

theorem canonical_recFetch (h : canonical s) : canonical (s.recFetch th pc) := by
  grind [State.recFetch, canonical_abandonRec, canonical_mapPlate]

theorem canonical_recExecuted {pre : State} (h : canonical s) : canonical (State.recExecuted th side i r pre s) := by
  unfold State.recExecuted
  extract_lets isA la off own field marked s1 s2 s3
  split
  · exact canonical_abandonRec h
  split
  · exact canonical_recCommand h
  have h1 : canonical s1 := by
    subst s1
    split
    · exact canonical_recLocalStore h
    · exact canonical_foldl (fun s e h => canonical_recLocalStore h) h _
    · exact canonical_recPgld h
    · exact canonical_recOrder h
  have h2 : canonical s2 := by
    subst s2
    split
    · exact canonical_mapRec h1
    · exact h1
  have h3 : canonical s3 := by
    subst s3
    split
    · exact canonical_mapRec h2
    · exact h2
  split
  · exact canonical_ite (canonical_mapRec h3) h3
  · exact canonical_ite h3 (canonical_mapRec h3)
  · exact canonical_ite (canonical_finishRec h3) h3
  · exact h3

theorem canonical_recGuard (h : canonical s) : canonical (s.recGuard th isA r g) := by
  unfold State.recGuard
  split
  · exact h
  · exact canonical_ite h (canonical_ite (canonical_guardField h) (canonical_abandonRec h))

theorem canonical_recFollow {pre : State} (h : canonical s) : canonical (State.recFollow th side i r pre s) := by
  grind [State.recFollow, canonical_recExecuted, canonical_recGuard]

theorem canonical_engrave {pre : State} (h : canonical s) : canonical (State.engrave i pre s) := by
  unfold State.engrave
  split
  · split
    · exact canonical_ite (canonical_recFetch (canonical_mapRec h)) (canonical_recFollow (canonical_recFetch (canonical_mapRec h)))
    · exact h
  · exact h

theorem canonical_countFallback (h : canonical s) : canonical (s.countFallback sheet p) := by
  grind [State.countFallback, canonical_mapSheet, canonical_mapPlate]

theorem canonical_applyChoice (h : canonical s) : canonical (s.applyChoice th c) := by
  unfold State.applyChoice
  cases c with
  | normal => exact h
  | engrave => exact canonical_startRec h
  | print p => exact canonical_mapPlate (canonical_mapThread h)
  | fallback p => exact canonical_countFallback (canonical_mapThread h)

theorem canonical_plateSel (h : canonical s) : (s.plateSel a).canonical := by
  grind [State.plateSel, canonical_bind, !. canonical_load, Acc.canonical]

theorem canonical_plateOp {f : Word × Word × Nat → State → Out} (hf : ∀ k s, canonical s → canonicalOut (f k s)) (h : canonical s) :
    canonicalOut (plateOp i g a f s) := by
  grind [plateOp, canonical_run, canonical_issueScalar, !. canonical_plateSel, canonicalOut, Acc.canonical]

theorem canonical_execPgld (h : canonical s) : canonicalOut (execPgld g d a b s) := by
  grind [execPgld, !. canonical_load, canonical_done, canonical_run, canonical_setReg, canonical_issueScalar, canonicalOut, Acc.canonical]

theorem canonical_dropOwn (h : canonical s) : canonical (s.dropOwn) := by
  grind [State.dropOwn, canonical_abandonRec]

theorem canonical_execPdrop (h : canonical s) : canonicalOut (execPdrop g d a s) := by
  grind [execPdrop, canonical_mapSheet, canonical_done, canonical_setReg, canonical_spoilPlate, canonical_plateOp, canonical_dropOwn, canonicalOut]

theorem canonical_execPstat (h : canonical s) : canonicalOut (execPstat g d a s) := by
  grind [execPstat, canonical_done, canonical_setReg, canonical_plateOp, canonicalOut]

theorem canonical_execPnorec (h : canonical s) : canonicalOut (execPnorec g d a s) := by
  grind [execPnorec, canonical_mapSheet, canonical_done, canonical_setReg, canonical_spoilPlate, canonical_plateOp, canonical_dropOwn, canonicalOut]

/-! ### Print -/

theorem canonical_printMeaning : ∀ f ∈ printMeaning w, ∀ s, canonical s → canonicalOut (f s) := by
  unfold printMeaning
  intro f hf s h
  repeat' split at hf
  all_goals cases hf
  · exact canonical_execMwalk h
  · exact canonical_execMwalkg h
  · exact canonical_trcOp h
  · exact canonical_trcOp h
  · exact canonical_trcOp h
  · exact canonical_trcOp h
  · exact canonical_trcOp h
  · exact canonical_execLturn h
  · exact canonical_execTspawn h
  · exact canonical_execPhsig h
  · exact canonical_execPhwait h

theorem canonical_printNext (h : canonical s) : canonical (s.printNext th f) := by
  grind [State.printNext, canonical_setCtx, canonical_mapThread]

theorem canonical_printEnd (h : canonical s) : canonical (s.printEnd th) := by
  grind [State.printEnd, canonical_mapCtx, canonical_mapThread, canonical_unpinPlate, canonical_commitThread]

theorem canonical_printFallback (h : canonical s) : canonical (s.printFallback th) := by
  grind [State.printFallback, canonical_setCtx, canonical_mapThread, canonical_unpinPlate, canonical_countFallback]

theorem canonical_printFault (h : canonical s) : canonicalOut (s.printFault th p) := by
  grind [State.printFault, canonical_recordOf, canonical_failItem, canonical_printFallback, canonicalOut]

theorem canonical_printOperands (h : canonical s) : canonical (s.printOperands th p e) := by
  grind [State.printOperands, canonical_mapCtx, canonical_putLocal]

theorem canonical_printBegun (h : canonical s) : canonical (s.printBegun th isCmd) := by
  grind [State.printBegun, canonical_mapCtx, canonical_mapThread]

theorem canonical_printCommand (h : canonical s) : canonicalOut (s.printCommand th p e) := by
  unfold State.printCommand
  extract_lets c
  split
  · exact canonical_printFault h
  next m hm =>
    have ho := canonical_printMeaning m hm _ (canonical_printOperands (th := th) (p := p) (e := e) h)
    split
    next t he =>
      rw [he] at ho
      have hc : canonical (t.mapCtx c fun k => { k with wait := k.wait.map (printWait e.insn) }) := canonical_mapCtx ho
      dsimp only
      split
      · exact canonical_printFault h
      split
      · exact canonical_printBegun hc
      · exact canonical_printNext hc
    · exact ho

theorem canonical_printOrder (h : canonical s) : canonicalOut (s.printOrder th p e) := by
  grind [State.printOrder, canonical_mapThread, canonical_failItem, canonical_acquire, canonical_block, canonical_printNext, canonicalOut]

theorem canonical_execPrintEntryIssue (h : canonical s) : canonicalOut (execPrintEntryIssue th s) := by
  unfold execPrintEntryIssue
  extract_lets c s1 t core waits
  have h1 : canonical s1 := h
  split
  · exact trivial
  split
  · exact trivial
  split
  · exact canonical_printFault h1
  split
  · exact canonical_printEnd (canonical_mapSheet h1)
  split
  · exact canonical_printOrder (canonical_mapSheet h1)
  · exact canonical_printCommand (canonical_mapSheet h1)

/-! ### SoftErrors -/

theorem canonical_siteRecord (h : canonical s) : canonical (s.siteRecord cause x) := by
  grind [State.siteRecord, canonical_recordOf]

theorem canonical_countError (h : canonical s) : canonical (s.countError corrected x) := h

theorem canonical_dropSite (h : canonical s) : canonical (s.dropSite x) := by
  cases x
  case nodeCache => grind [State.dropSite, canonical_setWalk]
  case replica => exact canonical_mapSheet h
  all_goals exact h

theorem canonical_execSoftErrorCorrected (h : canonical s) : canonicalOut (execSoftErrorCorrected site s) := by
  grind [execSoftErrorCorrected, canonical_siteRecord, canonical_countError, canonical_dropSite, canonicalOut]

theorem canonical_errorFreeze (h : canonical s) : canonical (s.errorFreeze co lost x) := by
  grind [State.errorFreeze, canonical_mapCore, canonical_freezeOn]

theorem canonical_execSoftErrorUncorrected (h : canonical s) : canonicalOut (execSoftErrorUncorrected site s) := by
  unfold execSoftErrorUncorrected
  split
  · trivial
  have hc := canonical_countError (corrected := false) (x := site) h
  cases site with
  | context => exact canonical_errorFreeze hc
  | localMem => exact canonical_mapCore hc
  | l1d =>
    dsimp only
    split
    · exact canonical_errorFreeze hc
    · exact canonical_siteRecord (canonical_mapCore hc fun _ hk => by unfold Core.dropSector; exact hk)
  | memory => exact hc
  | plate => exact canonical_siteRecord (canonical_mapSheet hc)
  | dispatcher => exact canonical_failLaunch (canonical_siteRecord hc)
  | tlb => exact canonical_siteRecord (canonical_dropSite hc)
  | nodeCache => exact canonical_siteRecord (canonical_dropSite hc)
  | replica => exact canonical_siteRecord (canonical_dropSite hc)

/-! ### Net -/

theorem canonical_execPacketForward (h : canonical s) : canonicalOut (execPacketForward cl s) := by
  grind [execPacketForward, canonical_forwardPacket, canonicalOut]

theorem canonical_execLatePacketRecord (h : canonical s) : canonicalOut (execLatePacketRecord cl s) := by
  grind [execLatePacketRecord, canonical_mapCluster, canonical_recordOf, canonicalOut]

theorem canonical_execRouteOpen (h : canonical s) : canonicalOut (execRouteOpen th side s) := by
  grind [execRouteOpen, canonical_mapCtx, canonical_mapThread, canonical_flitPass, canonical_foldl, canonicalOut]

theorem canonical_execPortItemArrive (h : canonical s) : canonicalOut (execPortItemArrive th side s) := by
  grind [execPortItemArrive, canonical_mapCtx, canonical_mapThread, canonical_flitPass, canonicalOut]

theorem canonical_execRouteCloseFlit (h : canonical s) : canonicalOut (execRouteCloseFlit th side s) := by
  grind [execRouteCloseFlit, canonical_mapCtx, canonical_mapThread, canonical_flitPass, canonicalOut]

/-! ### Port -/

theorem canonical_updRoute (h : canonical s) : canonical (s.updRoute f) := by
  grind [State.updRoute, canonical_upd]

theorem canonical_sendItem (h : canonical s) : canonicalOut (sendItem i g a vector item s) := by
  grind [sendItem, !. canonical_release, canonical_done, canonical_block, canonical_commit, canonical_raise0, canonical_run, canonical_issueScalar,
    canonical_updRoute, canonicalOut, Acc.canonical]

theorem canonical_execSpclose (h : canonical s) : canonicalOut (execSpclose g s) := by
  grind [execSpclose, canonical_done, canonical_issueScalar, canonical_updRoute, canonicalOut]

theorem canonical_creditSender (h : canonical s) : canonical (s.creditSender th p q n) := by
  grind [State.creditSender, canonical_mapCtx]

theorem canonical_recvItem {put : VReg → State → State} {zero : State → State} (hp : ∀ v s, canonical s → canonical (put v s)) (hz : ∀ s, canonical s → canonical (zero s)) (h : canonical s) :
    canonicalOut (recvItem i g a p vector put zero s) := by
  grind [recvItem, canonical_mapThread, canonical_acquire, canonical_done, canonical_block, canonical_raise0, canonical_setPred,
    canonical_issueScalar, canonical_creditSender, canonicalOut]

theorem canonical_execSprecv (h : canonical s) : canonicalOut (execSprecv g d a p s) := by
  grind [execSprecv, canonical_setReg, canonical_recvItem, canonicalOut]

theorem canonical_execSprecvv (h : canonical s) : canonicalOut (execSprecvv g d a p s) := by
  grind [execSprecvv, canonical_vset, canonical_recvItem, canonicalOut]

theorem canonical_execSpstat (h : canonical s) : canonicalOut (execSpstat g d a s) := by
  grind [execSpstat, canonical_done, canonical_raise0, canonical_setReg, canonical_issueScalar, canonicalOut]

/-! ### Dispatcher -/

theorem canonical_placeBy (h : canonical s) : canonical (s.placeBy w n sheet).2.2 := by
  grind [State.placeBy, !. canonical_placeAll]

theorem canonical_placeChosen (h : canonical s) : canonical (s.placeChosen w n).2.2 := by
  grind [State.placeChosen, !. canonical_placeBy]

theorem canonical_placedNow (h : canonical s) : canonical (s.placedNow sheet i c) := by
  grind [State.placedNow, canonical_mapSheet, canonical_mapItem, canonical_applyChoice]

theorem canonical_tryItem (h : canonical s) : canonical (s.tryItem sheet i).2.2 := by
  grind [State.tryItem, canonical_finalItem, !. canonical_placeChosen, canonical_placedNow]

theorem canonical_makeWay (h : canonical s) : canonical (s.makeWay sheet i top).2 := by
  grind [State.makeWay, canonical_discard, canonical_reserveSlots, !. canonical_tryItem, canonical_foldl]

theorem canonical_dispatch (h : canonical s) : canonical (s.dispatch sheet).2 := by
  unfold State.dispatch
  extract_lets l r
  have hr : canonical r.2.2 := canonical_foldl_of (fun r : Bool × Option Nat × State => r.2.2) (fun b i h => canonical_tryItem h) h _
  split
  · exact hr
  · split
    · exact canonical_makeWay hr
    · exact hr

theorem canonical_execDispatchCycle (h : canonical s) : canonicalOut (execDispatchCycle sheet s) := by
  grind [execDispatchCycle, !. canonical_dispatch, canonicalOut]

theorem canonical_startTask (h : canonical s) : canonical (s.startTask th) := by
  grind [State.startTask, canonical_setCtx, canonical_setThread, canonical_invalidateClean]

theorem canonical_readInput (h : canonical s) : canonical (s.readInput th).2 := by
  grind [State.readInput, !. canonical_readVa]

theorem canonical_execInputCopyDone (h : canonical s) : canonicalOut (execInputCopyDone th s) := by
  grind [execInputCopyDone, canonical_putLocal, canonical_startTask, !. canonical_readInput, canonicalOut]

theorem canonical_execInputCopyFault (h : canonical s) : canonicalOut (execInputCopyFault th s) := by
  grind [execInputCopyFault, canonical_mapItem, canonical_recordOf, canonical_unplace, canonical_discard, !. canonical_readInput, canonical_foldl,
    canonicalOut]

theorem canonical_execTaskEndComplete (h : canonical s) : canonicalOut (execTaskEndComplete th s) := by
  grind [execTaskEndComplete, canonical_mapItem, canonical_finalItem, canonical_unplace, !. canonical_writeBackAll, canonicalOut]

theorem canonical_govern (h : canonical s) : canonical (s.govern sheet st) := by
  grind [State.govern, canonical_mapSheet]

theorem canonical_execGovernorTick (h : canonical s) : canonicalOut (execGovernorTick sheet s) := by
  grind [execGovernorTick, canonical_mapSheet, canonical_govern, canonical_foldl, canonicalOut]

theorem canonical_declare (h : canonical s) : canonical (s.declare sheet l) := by
  grind [State.declare, canonical_recordOf, canonical_performSpan]

theorem canonical_execDeadlockSweep (h : canonical s) : canonicalOut (execDeadlockSweep sheet s) := by
  unfold execDeadlockSweep
  extract_lets n k s1
  have h1 : canonical s1 := canonical_mapSheet h
  clear_value s1
  split
  · trivial
  split
  · exact canonical_mapSheet h1
  extract_lets idle
  split
  · exact canonical_mapSheet h1
  split
  · exact canonical_mapSheet h1
  split
  · trivial
  · have h2 : canonical (s1.mapSheet sheet fun h => { h with quiet := 0 }) := canonical_mapSheet h1
    exact canonical_ite (canonical_declare h2) h2

/-! ### Fetch -/

theorem canonical_fetchWord (h : canonical s) : (s.fetchWord pc).canonical := by
  grind [State.fetchWord, canonical_mapCore, !. canonical_readLine, canonical_countUnbacked, canonical_readPass, !. canonical_translate, Acc.canonical]

theorem canonical_fetchGroup (h : canonical s) : (s.fetchGroup pc n).canonical := by
  induction n generalizing s pc with
  | zero => exact h
  | succ n ih =>
    refine canonical_bind (canonical_fetchWord h) fun w s h => ?_
    split
    · exact canonical_bind (ih h) fun ws s h => h
    · exact h

theorem canonical_fetchFault (h : canonical s) : canonical (s.fetchFault pc cause va) := by
  grind [State.fetchFault, canonical_trapRegs, canonical_raiseAt]

theorem canonical_fill (h : canonical s) : (∀ o, s.fill = .inl o → canonicalOut o) ∧ ∀ t, s.fill = .inr t → canonical t := by
  unfold State.fill
  dsimp only
  split
  · exact ⟨nofun, fun t e => by cases e; exact h⟩
  split
  · exact ⟨nofun, fun t e => by cases e; exact canonical_upd h⟩
  have hg := canonical_fetchGroup (pc := s.ctx.pc.toNat) (n := 4) (canonical_upd (f := fun k => k.begin s.ctx.pc []) h)
  split <;> rename_i he <;> rw [he] at hg
  · exact ⟨fun o e => by cases e; exact canonical_fetchFault hg, nofun⟩
  · exact ⟨fun o e => by cases e; exact canonical_block hg, nofun⟩
  · exact ⟨fun o e => by cases e; exact hg, nofun⟩
  · split
    · exact ⟨fun o e => by cases e; exact canonical_raiseAt hg, nofun⟩
    · exact ⟨nofun, fun t e => by cases e; exact canonical_upd hg⟩

theorem canonical_prepare (h : canonical s) : (∀ o, s.prepare = .inl o → canonicalOut o) ∧ ∀ p, s.prepare = .inr p → canonical p.2 := by
  grind [State.prepare, canonical_upd, canonical_raise0, canonical_fill]

theorem canonical_attempt {run : Instr → State → Out} (hr : ∀ i s, canonical s → canonicalOut (run i s)) (h : canonical s) :
    canonicalOut (s.attempt run c) := by
  unfold State.attempt
  obtain ⟨hl, hr'⟩ := canonical_prepare (s := { s with cur := c }) h
  split
  next he => exact hl _ he
  next i u he =>
    have hu := hr i u (hr' _ he)
    split
    next he => rw [he] at hu; exact canonical_countAttempt hu
    · exact hu

theorem canonical_winnow {run : Instr → State → Out} (hr : ∀ i s, canonical s → canonicalOut (run i s)) (h : canonical s) :
    canonical (s.winnow run pick n).1 ∧ ∀ p ∈ (s.winnow run pick n).2, canonicalOut p.2 := by
  induction n generalizing s with
  | zero => exact ⟨h, nofun⟩
  | succ n ih =>
    unfold State.winnow
    split
    · exact ⟨h, nofun⟩
    next c _ =>
    have hc := canonical_attempt hr h (c := c)
    split
    next t he =>
      rw [he] at hc
      split
      · exact ih hc
      · exact ⟨h, fun p hp => by cases hp; exact hc⟩
    · exact ⟨h, fun p hp => by cases hp; exact hc⟩

theorem canonical_front {run : Instr → State → Out} (hr : ∀ i s, canonical s → canonicalOut (run i s)) (h : canonical s) :
    ∀ o ∈ s.front run co side n, canonicalOut o := by
  unfold State.front
  obtain ⟨ht, ho⟩ := canonical_winnow hr h (pick := fun s => s.choose co side) (n := n)
  split
  next t he =>
    rw [he] at ht
    split
    · nofun
    · intro o h; cases h; exact ht
  next t c o he =>
    rw [he] at ht ho
    obtain ⟨-, ho'⟩ := canonical_winnow hr ht (pick := fun s => s.longest co side c) (n := n)
    split
    · intro o h; cases h; exact ho _ rfl
    split
    next he => rw [he] at ho'; intro o h; cases h; exact ho' _ rfl
    next u he =>
      have hu := (canonical_winnow hr ht (pick := fun s => s.longest co side c) (n := n)).1
      rw [he] at hu
      intro o h; cases h; exact canonical_attempt hr hu

/-! ### Surveyor -/

theorem canonical_dropTlb (h : canonical s) : canonical (s.dropTlb n cl).2 := by
  grind [State.dropTlb, canonical_mapCluster, canonical_spillHc, canonical_foldl]

theorem canonical_refuseDirty (h : canonical s) : canonical (s.refuseDirty co f) := by
  unfold State.refuseDirty
  exact canonical_foldl (fun s e h => canonical_refused (canonical_mapCore h)) h _

theorem canonical_flushCore (h : canonical s) : canonical (s.flushCore co f) := by
  grind [State.flushCore, canonical_mapCore, canonical_overflow, !. canonical_writeBackAll, canonical_refuseDirty, canonical_foldl]

theorem canonical_invalidate (h : canonical s) : canonical (s.invalidate sheet n).2.2 := by
  refine canonical_foldl_of (fun r : Nat × List Nat × State => r.2.2) (fun b c h => ?_) h _
  exact canonical_ite (canonical_foldl (fun s x h => canonical_flushCore h) (canonical_dropTlb h) _) (canonical_dropTlb h)

theorem canonical_retryCovered (h : canonical s) : canonical (s.retryCovered sheet n) := by
  unfold State.retryCovered
  have hw (c : List (CtxId × Ctx)) (t : State) (h : canonical t) :
      canonical (c.foldl (fun (s : State) p => s.mapCtx p.1 (fun k => { k with wait := none })) t) := canonical_foldl (fun s x h => canonical_mapCtx h) h _
  refine canonical_ite (hw _ _ ?_) (canonical_foldl (fun s x h => canonical_releaseHolds h) (hw _ _ ?_) _)
  all_goals exact h

theorem canonical_execTlbinv (h : canonical s) : canonicalOut (execTlbinv g d a b s) := by
  grind [execTlbinv, canonical_upd, canonical_done, canonical_block, canonical_setReg, canonical_issueScalar, !. canonical_invalidate,
    canonical_retryCovered, canonicalOut]

theorem canonical_startMove (h : canonical s) : canonical (s.startMove src dst) := by
  unfold State.startMove
  extract_lets inSrc inDst dstOf s1 s2 r s3 s4
  have h1 : canonical s1 := canonical_dropReplicas (canonical_dropReplicas h)
  clear_value s1
  have h2 : canonical s2 := canonical_of_mem h1 (Memory.wf_copyPage h1.1 _ _) rfl rfl rfl
  have h3 : canonical s3 := canonical_setPage (canonical_setPage h2)
  have h4 : canonical s4 := canonical_mapSheet h3
  exact canonical_mapSheet h4

theorem canonical_endMove (h : canonical s) : canonical (s.endMove src) := by
  grind [State.endMove, canonical_mapSheet, canonical_drainRing, canonical_foldl]

theorem canonical_execPgmove (h : canonical s) : canonicalOut (execPgmove g d a b s) := by
  grind [execPgmove, canonical_done, canonical_setReg, canonical_issueScalar, canonical_startMove, canonical_endMove, canonicalOut]

theorem canonical_drain (h : canonical s) : canonical (s.drain sheet l) := by
  unfold State.drain
  refine canonical_foldl (fun s th h => ?_) ?_ _
  · split
    · exact canonical_discard h
    · exact canonical_discard h
    · exact h
  · exact h

theorem canonical_execFreeze (h : canonical s) : canonicalOut (execFreeze g d a b s) := by
  grind [execFreeze, canonical_freezeSide, canonical_freezeCore, canonical_done, canonical_setReg, canonical_issueScalar, canonical_drain,
    canonicalOut]

theorem canonical_leaveWait (h : canonical s) : canonical (s.leaveWait th side) := by
  grind [State.leaveWait, canonical_mapThread, canonical_mapCluster]

theorem canonical_thawSide (h : canonical s) : canonical (s.thawSide th side skip) := by
  unfold State.thawSide
  refine canonical_mapCtx ?_
  split
  · exact canonical_leaveWait h
  · exact h

theorem canonical_thawBlock (h : canonical s) : ∀ t ∈ s.thawBlock kind i, canonical t := by
  intro t ht
  unfold State.thawBlock at ht
  split at ht
  all_goals first | (split at ht <;> simp only [Option.mem_def, Option.some.injEq, reduceCtorEq] at ht; subst ht; exact h) | cases ht

theorem canonical_execThaw (h : canonical s) : canonicalOut (execThaw g d a b s) := by
  have hret (n : Nat) (t : State) (ht : canonical t) : canonicalOut (done (t.setReg d (BitVec.ofNat 64 n))) := canonical_done (canonical_setReg ht)
  refine canonical_issueScalar (fun s h => ?_) h
  extract_lets x y kind action sheet ret
  have hret (n : Nat) (t : State) (ht : canonical t) : canonicalOut (ret n t) := hret n t ht
  have hbad : canonicalOut (done (s.setReg d badOperand)) := canonical_done (canonical_setReg h)
  clear_value ret kind
  refine iteInduction (fun _ => hbad) fun _ => ?_
  split
  · split
    · split
      · exact hbad
      extract_lets k t
      split
      · exact hret _ _ h
      split
      · exact hret _ _ (canonical_failItem h)
      · exact hret _ _ (canonical_thawSide h)
    · split
      · exact hbad
      split
      · exact hret _ _ h
      split
      next he => exact hret _ _ (canonical_thawBlock h _ he)
      next => exact hret _ _ h
  · split
    · exact hbad
    split
    · exact hret _ _ h
    split
    · exact hret _ _ (canonical_mapCore h)
    · exact hret _ _ h
  · split
    · exact hbad
    split
    · exact hret _ _ h
    split
    · exact hret _ _ h
    split
    · exact hret _ _ h
    · exact hret _ _ h
  · split
    · exact hbad
    split
    · exact hret _ _ h
    split
    · exact hret _ _ h
    · refine hret _ _ (canonical_ite (canonical_releaseHolds h) (canonical_failItem h))

theorem canonical_loseTask (h : canonical s) : canonical (s.loseTask th) := by
  grind [State.loseTask, canonical_discard, canonical_failLaunch, canonical_foldl]

theorem canonical_loseContext (h : canonical s) : canonical (s.loseContext co k) := by
  grind [State.loseContext, canonical_failLaunch, canonical_endHandler, canonical_loseTask]

theorem canonical_moveCore (h : canonical s) : canonical (s.moveCore co) := by
  unfold State.moveCore
  refine canonical_foldl (fun s k h => canonical_loseContext h) ?_ _
  exact (canonical_mapCore h : canonical (s.mapCore co fun k =>
    { k with frozen := false, moved := true, unreadable := [], ilines := [], l1 := k.l1.filter (fun e => e.dirty != 0) }))

theorem canonical_retireCore (h : canonical s) : canonical (s.retireCore co) := by
  grind [State.retireCore, canonical_mapCore, canonical_loseContext, canonical_foldl]

theorem canonical_execCspare (h : canonical s) : canonicalOut (execCspare g d ab s) := by
  grind [execCspare, canonical_done, canonical_setReg, canonical_issueScalar, canonical_moveCore, canonical_retireCore, canonicalOut]

theorem canonical_setWorld (h : canonical s) : canonical (s.setWorld kind i w) := by
  unfold State.setWorld
  split
  all_goals exact h

theorem canonical_execWorld (h : canonical s) : canonicalOut (execWorld g d a b s) := by
  grind [execWorld, canonical_done, canonical_setReg, canonical_issueScalar, canonical_setWorld, canonicalOut]

theorem canonical_execSurveyorTrap (h : canonical s) : canonicalOut (execSurveyorTrap sheet s) := by
  grind [execSurveyorTrap, canonical_surveyorTrap, canonicalOut]

theorem canonical_execWatchdogExpire (h : canonical s) : canonicalOut (execWatchdogExpire th side s) := by
  unfold execWatchdogExpire
  extract_lets c t
  split
  · trivial
  · exact canonical_raise0 (s := t) h

theorem canonical_execSleepuWake (h : canonical s) : canonicalOut (execSleepuWake th side s) := by
  unfold execSleepuWake
  extract_lets c t
  split
  case h_2 => trivial
  next g d a b _ _ =>
  split
  case h_2 => trivial
  split
  · trivial
  have ho : canonicalOut (t.sleepWake d b) := canonical_sleepWake (s := t) h
  split
  next he =>
    rw [he] at ho
    exact canonical_countAttempt (canonical_engrave ho)
  next => exact ho

/-! ### Host -/

theorem canonical_portWrite (h : canonical s) : canonicalOut (portWrite port f s) := by
  grind [portWrite, canonical_mapPort, canonicalOut]

theorem canonical_execHostRegWrite (h : canonical s) : canonicalOut (execHostRegWrite port off v s) := by
  unfold execHostRegWrite
  repeat' split
  · exact trivial
  · exact h
  · exact h

theorem canonical_stopPort (h : canonical s) : canonical (s.stopPort port pa) := by
  grind [State.stopPort, canonical_mapPort, canonical_recordOf]

theorem canonical_hostWrite (h : canonical s) : canonical (s.hostWrite pa bs) := by
  grind [State.hostWrite, canonical_setTag, canonical_performSpan, canonical_foldl]

theorem canonical_hostConfig (h : canonical s) : canonical (s.hostConfig port pa ws k).2 := by
  induction ws generalizing s k with
  | nil => exact canonical_mapPort h
  | cons w ws ih =>
    unfold State.hostConfig
    extract_lets t
    have ht : canonical t := by
      subst t
      split
      next he => exact canonical_configWrite h _ he
      · exact h
    split
    · exact canonical_mapPort ht
    · exact ih ht

theorem canonical_hostRead (h : canonical s) : canonical (s.hostRead pa n).2 := by
  grind [State.hostRead, canonical_countUnbacked, canonical_foldl]

theorem canonical_completeHead (h : canonical s) : canonical (s.completeHead port status) :=
  canonical_mapPort ⟨h.1, Memory.wf_write h.2.1 _ _, h.2.2⟩

theorem canonical_completeDone (h : canonical s) : canonical (s.completeDone port n) := by
  induction n generalizing s with
  | zero => exact h
  | succ n ih => grind [State.completeDone, canonical_mapPort, canonical_completeHead]

theorem canonical_complete (h : canonical s) : canonical (s.complete port k status) := by
  grind [State.complete, canonical_mapPort, canonical_completeHead, canonical_completeDone]

theorem canonical_cmdOp {f : Nat → List Byte → Out} (hf : ∀ k bs, canonicalOut (f k bs)) (h : canonical s) : canonicalOut (cmdOp op port s f) := by
  unfold cmdOp
  repeat' split
  · exact trivial
  dsimp only
  repeat' split
  · exact trivial
  · exact canonical_complete h
  · exact hf _ _

theorem canonical_execCmdInvalidOp (h : canonical s) : canonicalOut (execCmdInvalidOp port s) := by
  grind [execCmdInvalidOp, canonical_complete, canonicalOut]

theorem canonical_execCmdWrite (h : canonical s) : canonicalOut (execCmdWrite port s) := by
  grind [execCmdWrite, canonical_stopPort, canonical_hostWrite, !. canonical_hostConfig, canonical_complete, canonical_cmdOp, canonicalOut]

theorem canonical_execCmdRead (h : canonical s) : canonicalOut (execCmdRead port s) := by
  refine canonical_cmdOp (fun k bs => ?_) h
  extract_lets pa dst len r
  have hr : canonical r.2 := canonical_hostRead h
  split
  · exact canonical_complete h
  split
  · exact canonical_stopPort (canonical_complete h)
  split
  · trivial
  · exact canonical_complete ⟨hr.1, Memory.wf_writeList hr.2.1 _ _, hr.2.2⟩

theorem canonical_tableRead (h : canonical s) : canonical (s.tableRead table va secure n).2 := by
  unfold State.tableRead
  refine canonical_foldl_of (fun r : Except (Option Nat) (List Byte) × State => r.2) (fun b p h => ?_) h _
  repeat' split
  all_goals first | exact h | exact canonical_countUnbacked h

theorem canonical_loadRoutes (h : canonical s) : canonical (s.loadRoutes nm l) := by
  grind [State.loadRoutes, canonical_mapSheet, canonical_foldl]

theorem canonical_makePhasers (h : canonical s) : ∀ p ∈ s.makePhasers l sheet es, canonical p.2 := by
  induction es generalizing s with
  | nil => intro p hp; cases hp; exact h
  | cons e es ih =>
    intro p hp
    unfold State.makePhasers at hp
    dsimp only at hp
    split at hp
    · cases hp
    obtain ⟨q, hq, rfl⟩ := Option.map_eq_some_iff.1 hp
    exact ih (canonical_newPhaser h) q hq

theorem canonical_enterAsid (h : canonical s) : canonical (s.enterAsid l table) := by
  grind [State.enterAsid, canonical_performBytes, canonical_foldl]

theorem canonical_execCmdCreateLaunch (h : canonical s) : canonicalOut (execCmdCreateLaunch port s) := by
  refine canonical_cmdOp (fun k bs => ?_) h
  extract_lets fail la table pa n world np x y w ht global legends first list nq l inside
  have hfail (c : Nat) : canonicalOut (fail c) := canonical_complete h
  clear_value fail
  split
  · exact hfail _
  split
  · exact hfail _
  split
  · exact hfail _
  split
  · exact hfail _
  split
  · exact hfail _
  split
  · trivial
  · exact hfail _
  next he =>
  have h := canonical_of_eq (canonical_tableRead h) he
  extract_lets live
  split
  · trivial
  split
  · exact hfail _
  split
  case h_2 => exact hfail _
  extract_lets l s1
  have h1 : canonical s1 := h
  split
  · exact hfail _
  next hp =>
  extract_lets s3 m m'
  have h3 : canonical s3 := canonical_loseRanks (canonical_loadRoutes (canonical_enterAsid (canonical_makePhasers h1 _ hp)))
  have hm : m.wf = true := Memory.wf_writeList (Memory.wf_writeList h3.2.1 _ _) _ _
  have hm' : m'.wf = true := Memory.wf_foldl_writeList hm _ _ _
  exact canonical_complete ⟨h3.1, hm', h3.2.2⟩

theorem canonical_execCmdSubmitItem (h : canonical s) : canonicalOut (execCmdSubmitItem port s) := by
  grind [execCmdSubmitItem, !. canonical_intake, canonical_complete, canonical_cmdOp, canonicalOut]

theorem canonical_execCmdWakeTask (h : canonical s) : canonicalOut (execCmdWakeTask port s) := by
  grind [execCmdWakeTask, canonical_mapThread, canonical_complete, canonical_cmdOp, canonicalOut]

theorem canonical_execCmdEndLaunch (h : canonical s) : canonicalOut (execCmdEndLaunch port s) := by
  grind [execCmdEndLaunch, canonical_launchEndCheck, canonical_failLaunch, canonical_complete, canonical_cmdOp, canonicalOut]

theorem canonical_sampleTemperature (h : canonical s) : canonicalOut (s.sampleTemperature stack bin) := by
  unfold State.sampleTemperature
  split
  · exact trivial
  · exact h

theorem canonical_sampleVoltage (h : canonical s) : canonicalOut (s.sampleVoltage bin) := by
  unfold State.sampleVoltage
  split
  · exact trivial
  · exact h

theorem canonical_execCmdAttest (h : canonical s) : canonicalOut (execCmdAttest port s) := by
  refine canonical_cmdOp (fun k bs => ?_) h
  extract_lets na
  generalize hm : s.hostMem.writeList _ _ = m
  have hw : m.wf = true := hm ▸ Memory.wf_writeList h.2.1 _ _
  split
  · exact canonical_complete h
  · exact canonical_complete ⟨h.1, hw, h.2.2⟩

theorem canonical_execBar2WindowAccess (h : canonical s) : canonicalOut (execBar2WindowAccess port write pa v s) := by
  grind [execBar2WindowAccess, canonical_mapPort, canonical_stopPort, canonical_hostWrite, !. canonical_hostConfig, !. canonical_hostRead,
    canonicalOut]

theorem canonical_execStatusWrite (h : canonical s) : canonicalOut (execStatusWrite port v s) := by
  unfold execStatusWrite
  repeat' split
  · exact trivial
  · exact h
  · exact h

theorem canonical_execBootVerifyDone (h : canonical s) : canonicalOut (execBootVerifyDone reason s) := by
  unfold execBootVerifyDone
  repeat' split
  · exact trivial
  · exact h
  · exact h

theorem canonical_resetModule (h : canonical s) : canonical (s.resetModule) :=
  ⟨rfl, h.2.1, nofun, fun x hx => by obtain ⟨y, _, rfl⟩ := List.mem_map.1 hx; exact rfl⟩

theorem canonical_execModuleReset (h : canonical s) : canonicalOut (execModuleReset s) := by
  grind [execModuleReset, canonical_resetModule, canonicalOut]

theorem canonical_execThermalStop (h : canonical s) : canonicalOut (execThermalStop s) := by
  grind [execThermalStop, canonical_resetModule, canonicalOut]

/-! ### Registers -/

theorem canonical_svEvent (h : canonical s) : canonicalOut (svEvent sheet k n v s) := by
  grind [svEvent, canonical_svWrite, canonicalOut]

theorem canonical_execStqcfgWrite (h : canonical s) : canonicalOut (execStqcfgWrite sheet stage v s) := by
  grind [execStqcfgWrite, canonical_svEvent, canonicalOut]

theorem canonical_execSurveyorRegWrite (h : canonical s) : canonicalOut (execSurveyorRegWrite sheet k n v s) := by
  grind [execSurveyorRegWrite, canonical_svEvent, canonicalOut]

theorem canonical_execSecurityRegionWrite (h : canonical s) : canonicalOut (execSecurityRegionWrite sheet region reg v secure s) := by
  grind [execSecurityRegionWrite, canonical_regionWrite, canonicalOut]

theorem canonical_execWcfgWrite (h : canonical s) : canonicalOut (execWcfgWrite sheet w v s) := by
  grind [execWcfgWrite, canonical_windowWrite, canonicalOut]

theorem canonical_execWindowEnChangeDone (h : canonical s) : canonicalOut (execWindowEnChangeDone sheet w s) := by
  grind [execWindowEnChangeDone, canonical_mapSheet, canonical_setWindow, canonicalOut]

theorem canonical_execJunctionTemperatureFall (h : canonical s) : canonicalOut (execJunctionTemperatureFall sheet s) := by
  grind [execJunctionTemperatureFall, canonical_mapSheet, canonicalOut]

theorem canonical_execThermalThrottle (h : canonical s) : canonicalOut (execThermalThrottle sheet s) := by
  grind [execThermalThrottle, canonical_mapSheet, canonicalOut]

/-! ### Atomic -/

theorem canonical_sendAtomic (h : canonical s) : canonicalOut (s.sendAtomic op w d a b kind scope pk pa) := by
  grind [State.sendAtomic, canonical_upd, canonical_send, !. canonical_writeBack, !. canonical_aliasFlush, canonical_block, canonical_run,
    canonicalOut, Acc.canonical]

theorem canonical_amoRelease (h : canonical s) : (s.amoRelease va kind scope).canonical := by
  grind [State.amoRelease, !. canonical_release, Acc.canonical]

theorem canonical_amoOp (h : canonical s) : canonicalOut (amoOp i g op w d a b s) := by
  grind [amoOp, !. canonical_translate, canonical_done, canonical_block, canonical_commit, canonical_raise, canonical_run, canonical_setReg,
    canonical_issueScalar, canonical_sendAtomic, !. canonical_amoRelease, canonicalOut, Acc.canonical]

theorem canonical_execFence (h : canonical s) : canonicalOut (execFence g k sc s) := by
  grind [execFence, canonical_acquire, !. canonical_release, canonical_done, canonical_commit, canonical_run, canonical_issueScalar, canonicalOut,
    Acc.canonical]

theorem canonical_execWaitack (h : canonical s) : canonicalOut (execWaitack g d a sc s) := by
  grind [execWaitack, canonical_done, canonical_block, canonical_setReg, canonical_issueScalar, canonicalOut]

theorem canonical_prefetchLine (h : canonical s) : canonical (s.prefetchLine co p) := by
  grind [State.prefetchLine, canonical_mapCore, !. canonical_readLine, canonical_readTouch, canonical_readPass, !. canonical_translate,
    canonical_fillLine, !. canonical_aliasChange, Acc.canonical]

theorem canonical_execPfetch (h : canonical s) : canonicalOut (execPfetch g a b s) := by
  grind [execPfetch, canonical_done, canonical_issueScalar, canonical_prefetchLine, canonical_foldl, canonicalOut]

theorem canonical_prefetchTurn (h : canonical s) : canonicalOut (s.prefetchTurn co) := by
  grind [State.prefetchTurn, canonical_mapCore, canonical_prefetchLine, canonicalOut]

theorem canonical_cleanOp (h : canonical s) : canonicalOut (cleanOp i g d a b drop s) := by
  grind [cleanOp, canonical_upd, canonical_mapCore, !. canonical_writeBackAll, canonical_done, canonical_block, canonical_setReg,
    canonical_issueScalar, canonicalOut]

theorem canonical_execCinval (h : canonical s) : canonicalOut (execCinval g d a b s) := by
  grind [execCinval, canonical_mapCore, canonical_done, canonical_setReg, canonical_issueScalar, canonicalOut]

theorem canonical_execAcqinv (h : canonical s) : canonicalOut (execAcqinv g b s) := by
  grind [execAcqinv, canonical_invalidateClean, canonical_done, canonical_issueScalar, canonicalOut]

/-! ### Sparse -/

theorem canonical_execSmcount (h : canonical s) : canonicalOut (execSmcount g d a b s) := by
  grind [execSmcount, canonical_done, canonical_raise0, canonical_setReg, canonical_issueScalar, canonicalOut]

theorem canonical_smergeOp (h : canonical s) : canonicalOut (smergeOp i zeros g d a b s) := by
  grind [smergeOp, canonical_upd, canonical_done, canonical_raise0, canonical_vset, canonical_issueScalar, canonicalOut]

theorem canonical_scanOp (h : canonical s) : canonicalOut (scanOp i before g d a b s) := by
  grind [scanOp, canonical_upd, canonical_done, canonical_vset, canonical_issue, canonical_foldl, canonicalOut]

theorem canonical_execPmerge (h : canonical s) : canonicalOut (execPmerge g d a b f s) := by
  grind [execPmerge, canonical_upd, canonical_mapThread, canonical_done, canonical_block, canonical_raise0, canonical_vset, canonical_issue,
    canonical_foldl, canonicalOut]

/-! ### Requests -/

theorem canonical_setPacket (h : canonical s) : canonical (s.setPacket pkt p) := h

theorem canonical_nack (h : canonical s) : canonical (s.nack pkt p) := by
  grind [State.nack, canonical_setPacket]

theorem canonical_execHomeWrite (h : canonical s) : canonicalOut (execHomeWrite pkt s) := by
  grind [execHomeWrite, canonical_performWrite, canonical_setPacket, canonical_nack, canonicalOut]

theorem canonical_performAtomic (h : canonical s) : canonical (s.performAtomic p op w off b cw).2 := by
  grind [State.performAtomic, canonical_performBytes]

theorem canonical_atomicFault (h : canonical s) : canonical (s.atomicFault pkt cause p) := by
  unfold State.atomicFault
  extract_lets t off
  have ht : canonical t := h
  split
  · exact canonical_raiseAt (canonical_upd (s := { t with cur := _ }) ht)
  · exact ht

theorem canonical_updateCopy (h : canonical s) : canonical (s.updateCopy pkt p op w off b cw) := by
  grind [State.updateCopy, canonical_updateEntry]

theorem canonical_execHomeAtomic (h : canonical s) : canonicalOut (execHomeAtomic pkt s) := by
  grind [execHomeAtomic, canonical_countUnbacked, canonical_setPacket, canonical_nack, !. canonical_performAtomic, canonical_atomicFault,
    canonical_updateCopy, canonicalOut]

theorem canonical_atomicReply (h : canonical s) : canonical (s.atomicReply c p) := by
  unfold State.atomicReply
  split
  · exact h
  · exact canonical_ite h (canonical_acquire (s := { s with ctxs := _, cur := _ }) h)

theorem canonical_execAckReceive (h : canonical s) : canonicalOut (execAckReceive pkt s) := by
  unfold execAckReceive
  split
  · trivial
  split
  · trivial
  extract_lets e t
  have ht : canonical t := canonical_travel h
  split
  · exact canonical_atomicReply (canonical_mapCtx ht)
  · exact ht

theorem canonical_reportRefused (h : canonical s) : canonical (s.reportRefused p cause) := by
  have hc (c : CtxId) (s : State) (h : canonical s) : canonical { s with cur := c } := h
  unfold State.reportRefused
  extract_lets va at' event sheet
  clear_value event
  split
  · split
    · exact canonical_freezeOn h
    split
    · exact canonical_record h
    split
    · exact hc _ _ (canonical_freezeSide (canonical_trapRegs (hc _ _ (canonical_record h))))
    · exact hc _ _ (canonical_raiseAt (hc _ _ h))
  · split
    · exact canonical_freezeOn h
    · exact canonical_record h
  · exact canonical_record h

theorem canonical_execNackRetry (h : canonical s) : canonicalOut (execNackRetry pkt s) := by
  unfold execNackRetry
  split
  · trivial
  split
  · trivial
  split
  · trivial
  extract_lets e go acc
  have hgo (pa : Nat) (t : State) (ht : canonical t) : canonical (go pa t) := canonical_mapCluster (canonical_setPacket ht)
  clear_value go
  split
  · exact hgo _ _ h
  · exact hgo _ _ h
  split
  next he => exact hgo _ _ (canonical_of_eq (canonical_translate h) he)
  next he => exact canonical_nack (canonical_of_eq (canonical_translate h) he)
  next he =>
    have h := canonical_of_eq (canonical_translate h) he
    split
    · trivial
    split
    · exact canonical_atomicFault h
    · exact canonical_reportRefused (canonical_setPacket h)

theorem canonical_execTlbMissWalk (h : canonical s) : canonicalOut (execTlbMissWalk cl asid va s) := by
  grind [execTlbMissWalk, canonical_mapCluster, canonical_walked, canonical_tlbFill, canonicalOut]

theorem canonical_execTlbHcSpill (h : canonical s) : canonicalOut (execTlbHcSpill cl idx s) := by
  grind [execTlbHcSpill, canonical_mapCluster, canonical_spillHc, canonicalOut]

theorem canonical_execLlcFill (h : canonical s) : canonicalOut (execLlcFill sheet line s) := by
  grind [execLlcFill, !. canonical_readLine, canonical_countUnbacked, canonicalOut]

theorem canonical_execPageEpochBoundary (h : canonical s) : canonicalOut (execPageEpochBoundary sheet s) := by
  grind [execPageEpochBoundary, canonical_mapSheet, canonicalOut]

theorem canonical_execPmergeResult (h : canonical s) : canonicalOut (execPmergeResult th s) := by
  grind [execPmergeResult, canonical_mapThread, canonical_foldl, canonicalOut]

/-! ### Compass -/

theorem canonical_putLx (h : canonical s) : canonical (s.putLx nm t) := by
  grind [State.putLx, canonical_setLx]

theorem canonical_inbox (h : canonical s) : canonical (s.inbox sheet head tile) :=
  canonical_mapSheet h (fun _ hk => Memory.wf_writeList (Memory.wf_writeList hk _ _) _ _)

theorem canonical_committedOp {f : State → Out} (hf : ∀ s, canonical s → canonicalOut (f s)) (h : canonical s) :
    canonicalOut (committedOp i g s f) := by
  grind [committedOp, canonical_raise0, canonical_issueScalar, canonicalOut]

theorem canonical_execGpush (h : canonical s) : canonicalOut (execGpush g d a b s) := by
  grind [execGpush, !. canonical_release, canonical_done, canonical_block, canonical_raise0, canonical_run, canonical_setReg, canonical_inbox,
    canonical_committedOp, canonicalOut, Acc.canonical]

theorem canonical_execRpop (h : canonical s) : canonicalOut (execRpop g d b s) := by
  grind [execRpop, canonical_mapSheet, canonical_acquire, canonical_done, canonical_block, canonical_raise0, canonical_setReg, canonical_committedOp,
    canonicalOut]

theorem canonical_execLxbegin (h : canonical s) : canonicalOut (execLxbegin g d a s) := by
  grind [execLxbegin, canonical_setLx, canonical_done, canonical_raise, canonical_raise0, canonical_run, canonical_setReg, !. canonical_spawnBytes,
    canonical_committedOp, canonicalOut, Acc.canonical]

theorem canonical_lxAck (h : canonical s) : canonical (s.lxAck nm status).2 := by
  grind [State.lxAck, canonical_mapItem, canonical_lxAbort, canonical_putLx]

theorem canonical_execLxack (h : canonical s) : canonicalOut (execLxack g d a b s) := by
  grind [execLxack, !. canonical_release, canonical_done, canonical_commit, canonical_raise0, canonical_run, canonical_setReg, canonical_issueScalar,
    !. canonical_lxAck, canonicalOut, Acc.canonical]

theorem canonical_lxEndWait (h : canonical s) : canonicalOut (s.lxEndWait d nm) := by
  grind [State.lxEndWait, canonical_acquire, canonical_done, canonical_block, canonical_setReg, canonicalOut]

theorem canonical_execLxend (h : canonical s) : canonicalOut (execLxend g d a s) := by
  grind [execLxend, canonical_upd, canonical_block, canonical_raise0, canonical_putLx, canonical_inbox, canonical_committedOp, canonical_lxEndWait,
    canonicalOut]

theorem canonical_execLxstat (h : canonical s) : canonicalOut (execLxstat g d a s) := by
  grind [execLxstat, canonical_done, canonical_raise0, canonical_setReg, canonical_issueScalar, canonicalOut]

theorem canonical_mapCompass {f : Compass → Compass} (h : canonical s) (hf : ∀ k : Compass, k.pad.wf = true → (f k).pad.wf = true := by exact fun _ h => h) :
    canonical (s.mapCompass sheet f) :=
  canonical_mapSheet h fun _ => hf _

theorem canonical_expertSheet (h : canonical s) : canonical (s.expertSheet sheet t expert).2 := by
  grind [State.expertSheet, !. canonical_readVa]

theorem canonical_execCompassSpawn (h : canonical s) : canonicalOut (execCompassSpawn sheet v s) := by
  grind [execCompassSpawn, canonical_submit, canonical_lxAbort, canonical_putLx, canonical_mapCompass, !. canonical_expertSheet, canonicalOut]

theorem canonical_execCompassSeal (h : canonical s) : canonicalOut (execCompassSeal sheet v s) := by
  grind [execCompassSeal, canonical_putLx, canonicalOut]

theorem canonical_execCompassPopq (h : canonical s) : canonicalOut (execCompassPopq sheet second v s) := by
  grind [execCompassPopq, canonical_mapCompass, canonicalOut]

theorem canonical_execCompassIndexWrite (h : canonical s) : canonicalOut (execCompassIndexWrite sheet v s) := by
  grind [execCompassIndexWrite, canonical_mapCompass, canonicalOut]

theorem canonical_execCompassIntailWrite (h : canonical s) : canonicalOut (execCompassIntailWrite sheet v s) := by
  grind [execCompassIntailWrite, canonical_mapCompass, canonicalOut]

theorem canonical_execLxCommit (h : canonical s) : canonicalOut (execLxCommit sheet idx s) := by
  grind [execLxCommit, canonical_setLx, canonical_submit, canonicalOut]

/-! ### Rv64 -/

theorem canonical_cpLoadVa (h : canonical s) : (s.cpLoadVa sheet va n).canonical := by
  grind [State.cpLoadVa, !. canonical_readVa, CpRes.canonical]

theorem canonical_cpPlace (h : canonical s) : (s.cpPlace sheet va acc).canonical := by
  grind [State.cpPlace, canonical_walked, CpRes.canonical]

theorem canonical_cpStoreVa (h : canonical s) : (s.cpStoreVa sheet va bs).canonical := by
  have hf (l : List (Nat × Nat)) (x : CpRes Unit) (hx : x.canonical) :
      (l.foldl (fun (acc : CpRes Unit) p => acc.bind (fun _ s => (s.cpPlace sheet p.1 .store).bind (fun pa s =>
        .ok () (s.performBytes pa ((bs.drop (p.1 - va)).take p.2))))) x).canonical := by
    induction l generalizing x with
    | nil => exact hx
    | cons p l ih => exact ih _ (canonical_cbind hx fun _ s h => canonical_cbind (canonical_cpPlace h) fun pa s h => canonical_performBytes h)
  exact hf _ _ h

theorem canonical_cpWrite (h : canonical s) : (s.cpWrite sheet off v).canonical := by
  have hof (o : Out) (h : canonicalOut o) (t : State) (e : o = .next t) : canonical t := by
    subst e
    exact h
  unfold State.cpWrite
  dsimp only
  split
  on_goal 7 => exact h
  all_goals
    split
    case h_2 => exact trivial
    refine hof _ ?_ _ ‹_›
  · exact canonical_execCompassIntailWrite h
  · exact canonical_execCompassSpawn h
  · exact canonical_execCompassSeal h
  · exact canonical_execCompassPopq h
  · exact canonical_execCompassPopq h
  · exact canonical_execCompassIndexWrite h

theorem canonical_cpLoad (h : canonical s) : (s.cpLoad sheet a n).canonical := by
  grind [State.cpLoad, !. canonical_cpLoadVa, CpRes.canonical]

theorem canonical_cpStore (h : canonical s) : (s.cpStore sheet a bs).canonical := by
  grind [State.cpStore, canonical_mapCompass, !. canonical_cpStoreVa, !. canonical_cpWrite, CpRes.canonical, Memory.wf_writeList]

theorem canonical_cpFetch (h : canonical s) : (s.cpFetch sheet).canonical := by
  grind [State.cpFetch, canonical_cbind, !. canonical_cpLoad, CpRes.canonical]

theorem canonical_cpNext (h : canonical s) : (s.cpNext sheet rd v pc).canonical := by
  grind [State.cpNext, canonical_mapCompass, CpRes.canonical]

theorem canonical_cpLine (h : canonical s) : (s.cpLine sheet a).canonical := by
  grind [State.cpLine, canonical_cbind, !. canonical_cpPlace, CpRes.canonical]

theorem canonical_cpAtomic (h : canonical s) : (s.cpAtomic sheet f5 n rd a v next).canonical := by
  unfold State.cpAtomic
  extract_lets ext
  split
  · trivial
  refine canonical_cbind (canonical_cpLine h) fun line s h => ?_
  split
  · exact canonical_cbind (canonical_cpLoad h) fun bs s h => canonical_cpNext (canonical_mapCompass h)
  · extract_lets held t
    have ht : canonical t := canonical_mapCompass h
    split
    · exact canonical_cbind (canonical_cpStore ht) fun _ s h => canonical_cpNext h
    · exact canonical_cpNext ht
  · refine canonical_cbind (canonical_cpLoad h) fun bs s h => ?_
    split
    · trivial
    · exact canonical_cbind (canonical_cpStore h) fun _ s h => canonical_cpNext h

theorem canonical_cpExec (h : canonical s) : (s.cpExec sheet w n).canonical := by
  grind [State.cpExec, canonical_cbind, !. canonical_cpLoad, !. canonical_cpStore, !. canonical_cpNext, !. canonical_cpAtomic, CpRes.canonical]

theorem canonical_compassTurn (h : canonical s) : canonicalOut (s.compassTurn sheet) := by
  grind [State.compassTurn, canonical_mapCompass, canonical_cbind, !. canonical_cpFetch, !. canonical_cpExec, canonicalOut, CpRes.canonical]

/-! ### Auto -/

theorem canonical_firstOf {l : List (State → Out)} (hl : ∀ f ∈ l, ∀ s, canonical s → canonicalOut (f s)) (h : canonical s) :
    ∀ o ∈ s.firstOf l, canonicalOut o := by
  intro o ho
  obtain ⟨f, hf, he⟩ := List.exists_of_findSome?_eq_some ho
  have hf := hl f hf s h
  split at he
  next t ht => cases he; rwa [ht] at hf
  · cases he

theorem canonical_requestTurns : ∀ f ∈ s.requestTurns, ∀ s, canonical s → canonicalOut (f s) := by
  simp only [State.requestTurns, List.forall_mem_flatMap, List.forall_mem_cons]
  exact fun _ _ => ⟨fun _ => canonical_execHomeWrite, fun _ => canonical_execHomeAtomic, fun _ => canonical_execAckReceive, fun _ => canonical_execNackRetry, nofun⟩

theorem canonical_clusterTurns : ∀ f ∈ clusterTurns cl c, ∀ s, canonical s → canonicalOut (f s) := by
  simp only [clusterTurns, List.forall_mem_append, List.forall_mem_cons, List.forall_mem_flatMap, List.forall_mem_map]
  refine ⟨⟨⟨fun _ => canonical_execPacketForward, fun _ => canonical_execLatePacketRecord, fun _ => canonical_execJobQueueGrant, fun _ => canonical_execTracerGrant, nofun⟩,
    fun w _ => ⟨⟨fun _ => canonical_execWalkJobAccept, fun _ => canonical_execWalkLoadDone, fun _ => canonical_execWalkStep, fun _ => canonical_execWalkStepEnd,
      fun _ => canonical_execWalkSuspend, fun _ => canonical_execWalkJobComplete, nofun⟩, fun _ _ _ => canonical_execHandlerStart⟩⟩,
    fun t _ => ⟨fun _ => canonical_execTracerJobStart, fun _ => canonical_execTracerPart, fun _ => canonical_execTracerSig, fun _ => canonical_execTracerSuspend,
      fun _ => canonical_execAppendReadyAdd, fun _ => canonical_execTracerJobComplete, nofun⟩⟩

theorem canonical_threadTurns : ∀ f ∈ threadTurns th, ∀ s, canonical s → canonicalOut (f s) := by
  simp only [threadTurns, List.forall_mem_append, List.forall_mem_cons, List.forall_mem_flatMap]
  exact ⟨⟨⟨fun _ => canonical_execPrintEntryIssue, fun _ => canonical_execInputCopyDone, fun _ => canonical_execInputCopyFault, fun _ => canonical_execTaskEndComplete,
      fun _ => canonical_execPmergeResult, nofun⟩,
    ⟨fun _ => canonical_execRouteOpen, fun _ => canonical_execPortItemArrive, fun _ => canonical_execRouteCloseFlit, nofun⟩,
    ⟨fun _ => canonical_execRouteOpen, fun _ => canonical_execPortItemArrive, fun _ => canonical_execRouteCloseFlit, nofun⟩, nofun⟩,
    fun _ _ => ⟨fun _ => canonical_execStreamStart, fun _ => canonical_execStreamSlotPublish, fun _ => canonical_execStreamSuspend, nofun⟩⟩

theorem canonical_coreTurns : ∀ f ∈ coreTurns co, ∀ s, canonical s → canonicalOut (f s) := by
  simp only [coreTurns, List.forall_mem_cons]
  exact ⟨fun _ => canonical_prefetchTurn, nofun⟩

theorem canonical_dispatchTurn (h : canonical s) : canonicalOut (dispatchTurn sheet s) := by
  grind [dispatchTurn, !. canonical_dispatch, canonicalOut]

theorem canonical_sheetTurns : ∀ f ∈ sheetTurns sheet k, ∀ s, canonical s → canonicalOut (f s) := by
  simp only [sheetTurns, List.forall_mem_append, List.forall_mem_cons, List.forall_mem_flatMap, List.forall_mem_map]
  exact ⟨⟨⟨⟨fun _ => canonical_execItemIntake, fun _ => canonical_dispatchTurn, fun _ => canonical_execGovernorTick, fun _ => canonical_execDeadlockSweep,
      fun _ => canonical_execPageEpochBoundary, fun _ => canonical_execSurveyorTrap, nofun⟩, fun _ _ _ => canonical_execWindowEnChangeDone⟩,
    fun _ _ => ⟨fun _ => canonical_execLxCommit, fun _ => canonical_lxResolve, nofun⟩⟩, fun _ => canonical_compassTurn, nofun⟩

theorem canonical_portTurns : ∀ f ∈ portTurns port, ∀ s, canonical s → canonicalOut (f s) := by
  simp only [portTurns, List.forall_mem_cons]
  exact ⟨fun _ => canonical_execCmdWrite, fun _ => canonical_execCmdRead, fun _ => canonical_execCmdCreateLaunch, fun _ => canonical_execCmdSubmitItem,
    fun _ => canonical_execCmdWakeTask, fun _ => canonical_execCmdEndLaunch, fun _ => canonical_execCmdAttest, fun _ => canonical_execCmdInvalidOp, nofun⟩

theorem canonical_autoEvent (h : canonical s) : ∀ o ∈ s.autoEvent, canonicalOut o := by
  refine canonical_firstOf ?_ h
  simp only [List.forall_mem_append, List.forall_mem_cons, List.forall_mem_flatMap, List.forall_mem_map]
  exact ⟨⟨⟨⟨⟨⟨⟨⟨canonical_requestTurns, fun _ _ => canonical_clusterTurns⟩, fun _ _ => canonical_coreTurns⟩, fun _ _ => canonical_threadTurns⟩, fun _ _ => canonical_sheetTurns⟩,
    fun _ _ => ⟨fun _ => canonical_execTurnGroupStart, fun _ => canonical_execTurnGroupRetrain, nofun⟩⟩, fun _ _ _ => canonical_execSheetLost⟩, fun _ _ => canonical_portTurns⟩,
    fun _ => canonical_execBootVerifyDone, nofun⟩

/-! ### Hints -/

theorem canonical_hintCtx (h : canonical s) : canonicalOut (hintCtx i s f) := by
  grind [hintCtx, canonical_upd, canonical_done, canonical_raise0, canonicalOut]

theorem canonical_hintOp (h : canonical s) : canonicalOut (hintOp i s f) := by
  grind [hintOp, canonical_hintCtx, canonicalOut]

theorem canonical_execRepHint (h : canonical s) : canonicalOut (execRepHint b a d c s) := by
  grind [execRepHint, canonical_hintCtx, canonicalOut]

/-! ### Scalar -/

theorem canonical_aluOp (h : canonical s) : canonicalOut (aluOp i g d v s) := by
  grind [aluOp, canonical_done, canonical_setReg, canonical_issueScalar, canonicalOut]

theorem canonical_predOp (h : canonical s) : canonicalOut (predOp i g p v s) := by
  grind [predOp, canonical_done, canonical_setPred, canonical_issueScalar, canonicalOut]

/-! ### Dispatch -/

theorem canonical_exec (h : canonical s) : canonicalOut (exec i s) := by
  cases i
  all_goals dsimp only [exec]
  case add | sub | and | or | xor | andn | shl | shr | sar | min | max | minn | maxn | addw | subw | clz | ctz | popc | sext8 | sext16 | sext32
        | zext32 | mul | mulh | mulhn | mulw | div | divn | rem | remn | addi | andi | ori | xori | shli | shri | sari | lea | pany | pall | pcnt
        | pfirst | sel => exact canonical_aluOp h
  case cmpiEq | cmpiNe | cmpiLt | cmpiLtn | cmpiGe | cmpiGen | cmpEq | cmpNe | cmpLt | cmpLtn | cmpGe | cmpGen => exact canonical_issueScalar (fun _ h => canonical_done (canonical_setCond h)) h
  case pand | por | pxor | pandn | pnot | pset | pclr | pmovs => exact canonical_predOp h
  case amoadd | amoand | amoor | amoxor | amomin | amomax | amominn | amomaxn | amoswap | amocas | amofadd | amostag => exact canonical_amoOp h
  case cclean | cflush => exact canonical_cleanOp h
  case vadd | vsub | vmul | vmin | vmax | vabs | vneg | vand | vor | vxor | vshl | vshr | vsar | vfma | vfms | vadds | vsubs | vmuls | vmins | vmaxs
        | vfmas | vexp2 | vlog2 | vrcp | vrsq | vsqrt | vtanh | vmov | vsplat | vzero | viota | vshuf => exact canonical_vecOp h
  case vrsum | vrmax | vrmin | vcsum | vcmax | vramax => exact canonical_redOp h
  case vcmpEq | vcmpNe | vcmpLt | vcmpLe | vcmpGt | vcmpGe | vcmpUn => exact canonical_vcmpOp h
  case vbrow | vbcol | vscale => exact canonical_vecOpIf h
  case smerge | smergez => exact canonical_smergeOp h
  case scan | scanx => exact canonical_scanOp h
  case vprune | vprunes => exact canonical_pruneOp h
  case sstr | istr => exact canonical_startStream h
  case spsend | spsendv => exact canonical_sendItem h
  case tcopy | tgather | tscatter | tscadd | tfill => exact canonical_trcOp h
  case immxHint | ordHint | locHint | mcompHint | qwHint | rndHint => exact canonical_hintOp h
  case atlasWrite | repctlWrite | svitemWrite | plctlFlush | plctlKind | lxlostWrite => exact canonical_svEvent h
  case cmdbaseWrite | cmdtailWrite => exact canonical_portWrite h
  case jump => exact canonical_execJump h
  case jumpLink => exact canonical_execJumpLink h
  case jumpReg => exact canonical_execJumpReg h
  case jumpLinkReg => exact canonical_execJumpLinkReg h
  case nop => exact canonical_execNop h
  case endTask => exact canonical_execEndTask h
  case commit => exact canonical_execCommit h
  case yield => exact canonical_execYield h
  case park => exact canonical_execPark h
  case trap => exact canonical_execTrap h
  case eret => exact canonical_execEret h
  case brk => exact canonical_execBrk h
  case hret => exact canonical_execHret h
  case astart => exact canonical_execAstart h
  case await => exact canonical_execAwait h
  case iflush => exact canonical_execIflush h
  case crd => exact canonical_execCrd h
  case cwr => exact canonical_execCwr h
  case ld => exact canonical_execLd h
  case st => exact canonical_execSt h
  case ldv => exact canonical_execLdv h
  case stv => exact canonical_execStv h
  case fence => exact canonical_execFence h
  case waitack => exact canonical_execWaitack h
  case pfetch => exact canonical_execPfetch h
  case cinval => exact canonical_execCinval h
  case acqinv => exact canonical_execAcqinv h
  case vcvt => exact canonical_execVcvt h
  case vext => exact canonical_execVext h
  case vins => exact canonical_execVins h
  case vshape => exact canonical_execVshape h
  case smcount => exact canonical_execSmcount h
  case vrng => exact canonical_execVrng h
  case vcompact => exact canonical_execVcompact h
  case pmerge => exact canonical_execPmerge h
  case qcfg => exact canonical_execQcfg h
  case qpub => exact canonical_execQpub h
  case qadv => exact canonical_execQadv h
  case qfill => exact canonical_execQfill h
  case sclose => exact canonical_execSclose h
  case sstat => exact canonical_execSstat h
  case spclose => exact canonical_execSpclose h
  case sprecv => exact canonical_execSprecv h
  case sprecvv => exact canonical_execSprecvv h
  case spstat => exact canonical_execSpstat h
  case mwalk => exact canonical_execMwalk h
  case mwalkg => exact canonical_execMwalkg h
  case mprog => exact canonical_execMprog h
  case mcancel => exact canonical_execMcancel h
  case mnode => exact canonical_execMnode h
  case gang => exact canonical_execGang h
  case jwait => exact canonical_execJwait h
  case jpoll => exact canonical_execJpoll h
  case sleepu => exact canonical_execSleepu h
  case phreg => exact canonical_execPhreg h
  case phdrop => exact canonical_execPhdrop h
  case phsig => exact canonical_execPhsig h
  case phwait => exact canonical_execPhwait h
  case phnext => exact canonical_execPhnext h
  case phread => exact canonical_execPhread h
  case phnew => exact canonical_execPhnew h
  case phfree => exact canonical_execPhfree h
  case tspawn => exact canonical_execTspawn h
  case tdep => exact canonical_execTdep h
  case tctr => exact canonical_execTctr h
  case tshape => exact canonical_execTshape h
  case targ => exact canonical_execTarg h
  case tself => exact canonical_execTself h
  case tlate => exact canonical_execTlate h
  case pgld => exact canonical_execPgld h
  case pdrop => exact canonical_execPdrop h
  case pstat => exact canonical_execPstat h
  case pnorec => exact canonical_execPnorec h
  case lturn => exact canonical_execLturn h
  case lstat => exact canonical_execLstat h
  case lquiet => exact canonical_execLquiet h
  case gpush => exact canonical_execGpush h
  case rpop => exact canonical_execRpop h
  case lxbegin => exact canonical_execLxbegin h
  case lxack => exact canonical_execLxack h
  case lxend => exact canonical_execLxend h
  case lxstat => exact canonical_execLxstat h
  case tlbinv => exact canonical_execTlbinv h
  case freeze => exact canonical_execFreeze h
  case thaw => exact canonical_execThaw h
  case pgmove => exact canonical_execPgmove h
  case cspare => exact canonical_execCspare h
  case world => exact canonical_execWorld h
  case repHint => exact canonical_execRepHint h
  case illegalInstruction => exact canonical_execIllegalInstruction h
  case jobQueueGrant => exact canonical_execJobQueueGrant h
  case walkJobAccept => exact canonical_execWalkJobAccept h
  case walkLoadDone => exact canonical_execWalkLoadDone h
  case walkStep => exact canonical_execWalkStep h
  case walkStepEnd => exact canonical_execWalkStepEnd h
  case walkSuspend => exact canonical_execWalkSuspend h
  case handlerStart => exact canonical_execHandlerStart h
  case walkJobComplete => exact canonical_execWalkJobComplete h
  case tracerGrant => exact canonical_execTracerGrant h
  case tracerJobStart => exact canonical_execTracerJobStart h
  case tracerPart => exact canonical_execTracerPart h
  case tracerSig => exact canonical_execTracerSig h
  case tracerSuspend => exact canonical_execTracerSuspend h
  case appendReadyAdd => exact canonical_execAppendReadyAdd h
  case tracerJobComplete => exact canonical_execTracerJobComplete h
  case streamStart => exact canonical_execStreamStart h
  case streamSlotPublish => exact canonical_execStreamSlotPublish h
  case streamSuspend => exact canonical_execStreamSuspend h
  case pmergeResult => exact canonical_execPmergeResult h
  case homeWrite => exact canonical_execHomeWrite h
  case homeAtomic => exact canonical_execHomeAtomic h
  case ackReceive => exact canonical_execAckReceive h
  case nackRetry => exact canonical_execNackRetry h
  case tlbMissWalk => exact canonical_execTlbMissWalk h
  case tlbHcSpill => exact canonical_execTlbHcSpill h
  case llcFill => exact canonical_execLlcFill h
  case pageEpochBoundary => exact canonical_execPageEpochBoundary h
  case wcfgWrite => exact canonical_execWcfgWrite h
  case windowEnChangeDone => exact canonical_execWindowEnChangeDone h
  case stqcfgWrite => exact canonical_execStqcfgWrite h
  case securityRegionWrite => exact canonical_execSecurityRegionWrite h
  case surveyorRegWrite => exact canonical_execSurveyorRegWrite h
  case itemIntake => exact canonical_execItemIntake h
  case dispatchCycle => exact canonical_execDispatchCycle h
  case printEntryIssue => exact canonical_execPrintEntryIssue h
  case inputCopyDone => exact canonical_execInputCopyDone h
  case inputCopyFault => exact canonical_execInputCopyFault h
  case taskEndComplete => exact canonical_execTaskEndComplete h
  case governorTick => exact canonical_execGovernorTick h
  case deadlockSweep => exact canonical_execDeadlockSweep h
  case surveyorTrap => exact canonical_execSurveyorTrap h
  case watchdogExpire => exact canonical_execWatchdogExpire h
  case softErrorCorrected => exact canonical_execSoftErrorCorrected h
  case softErrorUncorrected => exact canonical_execSoftErrorUncorrected h
  case latePacketRecord => exact canonical_execLatePacketRecord h
  case packetForward => exact canonical_execPacketForward h
  case routeOpen => exact canonical_execRouteOpen h
  case portItemArrive => exact canonical_execPortItemArrive h
  case routeCloseFlit => exact canonical_execRouteCloseFlit h
  case turnGroupStart => exact canonical_execTurnGroupStart h
  case turnGroupRetrain => exact canonical_execTurnGroupRetrain h
  case compassSpawn => exact canonical_execCompassSpawn h
  case compassSeal => exact canonical_execCompassSeal h
  case compassPopq => exact canonical_execCompassPopq h
  case compassIndexWrite => exact canonical_execCompassIndexWrite h
  case compassIntailWrite => exact canonical_execCompassIntailWrite h
  case lxCommit => exact canonical_execLxCommit h
  case sheetLost => exact canonical_execSheetLost h
  case hostRegWrite => exact canonical_execHostRegWrite h
  case cmdWrite => exact canonical_execCmdWrite h
  case cmdRead => exact canonical_execCmdRead h
  case cmdCreateLaunch => exact canonical_execCmdCreateLaunch h
  case cmdSubmitItem => exact canonical_execCmdSubmitItem h
  case cmdWakeTask => exact canonical_execCmdWakeTask h
  case cmdEndLaunch => exact canonical_execCmdEndLaunch h
  case cmdAttest => exact canonical_execCmdAttest h
  case cmdInvalidOp => exact canonical_execCmdInvalidOp h
  case statusWrite => exact canonical_execStatusWrite h
  case bootVerifyDone => exact canonical_execBootVerifyDone h
  case moduleReset => exact canonical_execModuleReset h
  case thermalThrottle => exact canonical_execThermalThrottle h
  case thermalStop => exact canonical_execThermalStop h
  case sleepuWake => exact canonical_execSleepuWake h
  case bar2WindowAccess => exact canonical_execBar2WindowAccess h
  case meridianLinkTraining => exact canonical_execMeridianLinkTraining h
  case junctionTemperatureFall => exact canonical_execJunctionTemperatureFall h

/-! ### Step -/

theorem canonical_tick (h : canonical s) : canonical (s.tick) := h

theorem canonical_ticked (h : canonicalOut o) : canonicalOut (ticked o) := by
  cases o <;> exact h

theorem canonical_engraved (h : canonicalOut o) : canonicalOut (engraved i pre o) := by
  cases o with
  | next t => exact canonical_engrave h
  | fault => exact trivial
  | refused => exact trivial

theorem canonical_runWord (h : canonical s) : canonicalOut (runWord i s) := by
  grind [runWord, canonical_exec, canonical_engraved, canonicalOut]

theorem canonical_issueFrom (h : canonical s) : canonicalOut (s.issueFrom c) := by
  grind [State.issueFrom, canonical_attempt, canonical_ticked, canonical_runWord, canonicalOut]

theorem canonical_frontIssue (h : canonical s) : ∀ o ∈ s.frontIssue co side, canonicalOut o := by
  intro o ho
  obtain ⟨o', ho', rfl⟩ := Option.map_eq_some_iff.1 ho
  exact canonical_ticked (canonical_front (fun i s => canonical_runWord) h _ ho')

theorem canonical_frontTurn (h : canonical s) : canonicalOut (s.frontTurn co side) := by
  unfold State.frontTurn
  cases he : s.frontIssue co side with
  | none => exact canonical_tick h
  | some o => exact canonical_frontIssue h _ he

theorem canonical_focusTurn (h : canonical s) : ∀ o ∈ s.focusTurn, canonicalOut o := by
  grind [State.focusTurn, canonical_issueFrom, canonical_frontIssue, canonicalOut]

theorem canonical_otherTurn (h : canonical s) : ∀ o ∈ s.otherTurn, canonicalOut o := by
  grind [State.otherTurn, canonical_issueFrom, canonical_frontTurn, canonicalOut]

theorem canonical_deviceTurn (h : canonical s) : ∀ o ∈ s.deviceTurn, canonicalOut o := by
  intro o ho
  obtain ⟨o', ho', rfl⟩ := Option.map_eq_some_iff.1 ho
  exact canonical_ticked (canonical_autoEvent h _ ho')

theorem canonical_ownTurn (h : canonical s) : canonicalOut (s.ownTurn) := by
  unfold State.ownTurn
  have hd := canonical_deviceTurn h
  have hf := canonical_focusTurn h
  have ht := canonical_otherTurn h
  cases hD : s.deviceTurn <;> cases hF : s.focusTurn <;> cases hT : s.otherTurn <;> grind [canonical_tick, canonicalOut]

theorem canonical_step (h : canonical s) : canonicalOut (step s) := by
  unfold step
  split
  · exact canonical_ownTurn h
  next t rest _ =>
    have h' : canonical { s with agenda := rest } := h
    dsimp only
    split
    · exact canonical_ticked (canonical_exec h')
    · exact canonical_frontTurn h'
    · exact canonical_ticked (canonical_compassTurn h')
    · exact canonical_ticked (canonical_sampleTemperature h')
    · exact canonical_ticked (canonical_sampleVoltage h')
    · exact canonical_ticked (canonical_lxResolve h')
    · split
      · exact canonical_issueFrom h'
      · exact trivial

end Sys2Proof.Machine

namespace Sys2Proof.Proofs
open Sys2Proof.Machine Sys2Proof.Claims

/-- Settles O55, from the lemma of each operation that a step is made of, in the order of the model. -/
theorem everyStepKeepsTheMemoriesCanonical : Obligations.EveryStepKeepsTheMemoriesCanonical := by
  intro s t h e
  have hstep := canonical_step h
  rw [e] at hstep
  exact hstep

end Sys2Proof.Proofs

/-! # Scalar arithmetic (O7) -/

namespace Sys2Proof.Machine
open Sys2Proof.Claims

/-! ### Extensions and counts of bits (R9, R103) -/

/-- SignExt of a word is the sign extension of its low bits. -/
theorem signExt_eq (x : Word) {n : Nat} (h0 : 0 < n) (h : n ≤ 64) : signExt x n = (x.setWidth n).signExtend 64 := by
  rw [← signExt_ofNat (x.setWidth n) h0 h, signExt, signExt]
  congr 1
  refine BitVec.eq_of_getLsbD_eq fun i hi => ?_
  rw [BitVec.getLsbD_shiftLeft, BitVec.getLsbD_shiftLeft, BitVec.getLsbD_ofNat, ← BitVec.getLsbD, BitVec.getLsbD_setWidth]
  by_cases hn : i < 64 - n
  · simp [hn]
  · simp [hi, show i - (64 - n) < 64 by omega, show i - (64 - n) < n by omega]

theorem zeroExt_eq (x : Word) {n : Nat} (h : n ≤ 64) : zeroExt x n = (x.setWidth n).setWidth 64 := by
  refine BitVec.eq_of_getLsbD_eq fun i hi => ?_
  rw [zeroExt, BitVec.getLsbD_ushiftRight, BitVec.getLsbD_shiftLeft, BitVec.getLsbD_setWidth, BitVec.getLsbD_setWidth, Nat.add_sub_cancel_left]
  by_cases hn : i < n
  · simp [hi, hn, show 64 - n + i < 64 by omega]
  · simp [hi, hn, show ¬64 - n + i < 64 by omega]

/-- The first index of a range that passes a test: the index 0, or one more than the first that passes it one place on. -/
theorem find?_range_succ_getD (n : Nat) (f : Nat → Bool) :
    ((List.range (n + 1)).find? f).getD (n + 1) = if f 0 then 0 else 1 + ((List.range n).find? fun k => f (k + 1)).getD n := by
  rw [List.range_succ_eq_map, List.find?_cons]
  cases f 0 with
  | true => rfl
  | false =>
    rw [List.find?_map]
    show (Option.map Nat.succ ((List.range n).find? fun k => f (k + 1))).getD (n + 1) = 1 + _
    cases (List.range n).find? fun k => f (k + 1) <;> simp [Nat.add_comm]

theorem leadingZeros_eq (n x : Nat) : leadingZeros n x = ((List.range n).find? fun k => x.testBit (n - 1 - k)).getD n := by
  induction n with
  | zero => rfl
  | succ n ih =>
    rw [find?_range_succ_getD, leadingZeros, ih]
    simp [Nat.testBit_eq_decide_div_mod_eq, Nat.sub_sub, Nat.add_comm]

theorem trailingZeros_eq (n x : Nat) : trailingZeros n x = ((List.range n).find? fun k => x.testBit k).getD n := by
  induction n generalizing x with
  | zero => rfl
  | succ n ih =>
    rw [find?_range_succ_getD, trailingZeros, ih]
    simp [Nat.testBit_succ]

theorem popCount_eq (n x : Nat) : popCount n x = ((List.range n).filter fun k => x.testBit k).length := by
  induction n generalizing x with
  | zero => rfl
  | succ n ih =>
    rw [popCount, ih, List.range_succ_eq_map, List.filter_cons, List.filter_map, Nat.testBit_zero]
    rcases Nat.mod_two_eq_zero_or_one x with h | h <;> simp [h, Nat.testBit_succ, Function.comp_def, Nat.add_comm]

/-! ### Values in terms of integers (R103 to R108) -/

theorem add_eq_ofInt (x y : Word) : x + y = BitVec.ofInt 64 (x.toInt + y.toInt) := by
  rw [BitVec.ofInt_add, BitVec.ofInt_toInt, BitVec.ofInt_toInt]

theorem sub_eq_ofInt (x y : Word) : x - y = BitVec.ofInt 64 (x.toInt - y.toInt) := by
  rw [Int.sub_eq_add_neg, BitVec.ofInt_add, BitVec.ofInt_neg, BitVec.ofInt_toInt, BitVec.ofInt_toInt, BitVec.sub_eq_add_neg]

theorem mul_eq_ofInt (x y : Word) : x * y = BitVec.ofInt 64 (x.toInt * y.toInt) := by
  rw [BitVec.ofInt_mul, BitVec.ofInt_toInt, BitVec.ofInt_toInt]

theorem shiftLeft_eq_ofNat (x : Word) (n : Nat) : x <<< n = BitVec.ofNat 64 (x.toNat * 2 ^ n) :=
  BitVec.eq_of_toNat_eq (by rw [BitVec.toNat_shiftLeft, BitVec.toNat_ofNat, Nat.shiftLeft_eq])

theorem ushiftRight_eq_ofNat (x : Word) (n : Nat) : x >>> n = BitVec.ofNat 64 (x.toNat / 2 ^ n) := by
  refine BitVec.eq_of_toNat_eq ?_
  rw [BitVec.toNat_ushiftRight, BitVec.toNat_ofNat, Nat.shiftRight_eq_div_pow, Nat.mod_eq_of_lt (Nat.lt_of_le_of_lt (Nat.div_le_self ..) x.isLt)]

theorem sshiftRight_eq_ofInt (x : Word) (n : Nat) : x.sshiftRight n = BitVec.ofInt 64 (x.toInt / 2 ^ n) := by
  rw [BitVec.sshiftRight, Int.shiftRight_eq_div_pow]
  rfl

theorem sdiv_eq_ofInt (x y : Word) : x.sdiv y = BitVec.ofInt 64 (x.toInt.tdiv y.toInt) := by
  rw [← BitVec.ofInt_toInt (x := x.sdiv y), BitVec.toInt_sdiv]
  exact BitVec.eq_of_toInt_eq (by rw [BitVec.toInt_ofInt, BitVec.toInt_ofInt, Int.bmod_bmod])

theorem srem_eq_ofInt (x y : Word) : x.srem y = BitVec.ofInt 64 (x.toInt.tmod y.toInt) := by
  rw [← BitVec.ofInt_toInt (x := x.srem y), BitVec.toInt_srem]

theorem udiv_eq_ofNat (x y : Word) : x / y = BitVec.ofNat 64 (x.toNat / y.toNat) := by
  refine BitVec.eq_of_toNat_eq ?_
  rw [BitVec.toNat_udiv, BitVec.toNat_ofNat, Nat.mod_eq_of_lt (Nat.lt_of_le_of_lt (Nat.div_le_self ..) x.isLt)]

theorem umod_eq_ofNat (x y : Word) : x % y = BitVec.ofNat 64 (x.toNat % y.toNat) := by
  refine BitVec.eq_of_toNat_eq ?_
  rw [BitVec.toNat_umod, BitVec.toNat_ofNat, Nat.mod_eq_of_lt (Nat.lt_of_le_of_lt (Nat.mod_le ..) x.isLt)]

theorem lea_eq_ofNat (x y : Word) (n : Nat) : x + y <<< n = BitVec.ofNat 64 (x.toNat + y.toNat * 2 ^ n) := by
  rw [BitVec.ofNat_add, ← shiftLeft_eq_ofNat, BitVec.ofNat_toNat, BitVec.setWidth_eq]

theorem min_eq (x y : Word) : (if y.slt x then y else x) = if x.toInt ≤ y.toInt then x else y := by
  simp only [BitVec.slt, decide_eq_true_eq, ← not_le, ite_not]

theorem max_eq (x y : Word) : (if x.slt y then y else x) = if x.toInt ≤ y.toInt then y else x := by
  simp only [BitVec.slt, decide_eq_true_eq]
  rcases lt_trichotomy x.toInt y.toInt with h | h | h
  · rw [if_pos h, if_pos h.le]
  · rw [BitVec.eq_of_toInt_eq h, ite_self, ite_self]
  · rw [if_neg h.not_gt, if_neg h.not_ge]

theorem minn_eq (x y : Word) : (if y.ult x then y else x) = if x.toNat ≤ y.toNat then x else y := by
  simp only [BitVec.ult, decide_eq_true_eq, ← not_le, ite_not]

theorem maxn_eq (x y : Word) : (if x.ult y then y else x) = if x.toNat ≤ y.toNat then y else x := by
  simp only [BitVec.ult, decide_eq_true_eq]
  rcases lt_trichotomy x.toNat y.toNat with h | h | h
  · rw [if_pos h, if_pos h.le]
  · rw [BitVec.eq_of_toNat_eq h, ite_self, ite_self]
  · rw [if_neg h.not_gt, if_neg h.not_ge]

theorem State.imm_immediate10 (s : State) (x : BitVec 10) : s.imm 10 x = immediate10 s x := s.imm_eq x (by decide) (by decide)

/-! ### The tables -/

/-- An instruction that writes a value to a register and does nothing else. -/
def WritesReg (i : Instr) (g : Guard) (d : BitVec 5) (v : State → Word) : Prop := ∀ s, exec i s = aluOp i g d v s

theorem WritesReg.congr {i : Instr} {g : Guard} {d : BitVec 5} {v w : State → Word} (h : WritesReg i g d v) (hv : ∀ s, v s = w s) : WritesReg i g d w :=
  (funext hv : v = w) ▸ h

theorem WritesReg.completes {i : Instr} {g : Guard} {d : BitVec 5} {v : State → Word} (h : WritesReg i g d v) {s : State} (hissues : Issues i s)
    (hg : s.selected g = true) : Completes (s.setReg d (v s)) (exec i s) := by
  rw [h s, aluOp, issueScalar_of_issues hissues hg]
  exact completes_done _

theorem writesReg_scalarValue {i : Instr} {g : Guard} {d : BitVec 5} {v : State → Word} (h : scalarValue i = some (g, d, v)) : WritesReg i g d v := by
  unfold scalarValue at h
  split at h <;> cases h
  case h_1 => exact WritesReg.congr (fun _ => rfl) fun _ => add_eq_ofInt _ _
  case h_2 => exact WritesReg.congr (fun _ => rfl) fun _ => sub_eq_ofInt _ _
  case h_3 | h_4 | h_5 | h_6 => exact fun _ => rfl
  case h_7 => exact WritesReg.congr (fun _ => rfl) fun _ => shiftLeft_eq_ofNat _ _
  case h_8 => exact WritesReg.congr (fun _ => rfl) fun _ => ushiftRight_eq_ofNat _ _
  case h_9 => exact WritesReg.congr (fun _ => rfl) fun _ => sshiftRight_eq_ofInt _ _
  case h_10 => exact WritesReg.congr (fun _ => rfl) fun _ => min_eq _ _
  case h_11 => exact WritesReg.congr (fun _ => rfl) fun _ => max_eq _ _
  case h_12 => exact WritesReg.congr (fun _ => rfl) fun _ => minn_eq _ _
  case h_13 => exact WritesReg.congr (fun _ => rfl) fun _ => maxn_eq _ _
  case h_14 | h_15 | h_19 | h_20 | h_21 => exact WritesReg.congr (fun _ => rfl) fun _ => signExt_eq _ (by decide) (by decide)
  case h_16 => exact WritesReg.congr (fun _ => rfl) fun _ => congrArg _ (leadingZeros_eq 64 _)
  case h_17 => exact WritesReg.congr (fun _ => rfl) fun _ => congrArg _ (trailingZeros_eq 64 _)
  case h_18 => exact WritesReg.congr (fun _ => rfl) fun _ => congrArg _ (popCount_eq 64 _)
  case h_22 => exact WritesReg.congr (fun _ => rfl) fun _ => zeroExt_eq _ (by decide)
  case h_23 => exact WritesReg.congr (fun _ => rfl) fun _ => shiftLeft_eq_ofNat _ _
  case h_24 => exact WritesReg.congr (fun _ => rfl) fun _ => ushiftRight_eq_ofNat _ _
  case h_25 => exact WritesReg.congr (fun _ => rfl) fun _ => sshiftRight_eq_ofInt _ _
  case h_26 => exact WritesReg.congr (fun _ => rfl) fun _ => lea_eq_ofNat _ _ _
  case h_27 => exact fun _ => rfl

theorem writesReg_multiplyValue {i : Instr} {g : Guard} {d : BitVec 5} {v : State → Word} (h : multiplyValue i = some (g, d, v)) : WritesReg i g d v := by
  unfold multiplyValue at h
  split at h <;> cases h
  case h_1 => exact WritesReg.congr (fun _ => rfl) fun _ => mul_eq_ofInt _ _
  case h_2 | h_3 => exact fun _ => rfl
  case h_4 => exact WritesReg.congr (fun _ => rfl) fun _ => signExt_eq _ (by decide) (by decide)
  case h_5 => exact WritesReg.congr (fun _ => rfl) fun _ => by rw [sdiv_eq_ofInt]
  case h_6 => exact WritesReg.congr (fun _ => rfl) fun _ => by rw [← udiv_eq_ofNat]
  case h_7 => exact WritesReg.congr (fun _ => rfl) fun _ => by rw [srem_eq_ofInt]
  case h_8 => exact WritesReg.congr (fun _ => rfl) fun _ => by rw [← umod_eq_ofNat]

theorem writesReg_immediateValue {i : Instr} {g : Guard} {d : BitVec 5} {v : State → Word} (h : immediateValue i = some (g, d, v)) : WritesReg i g d v := by
  unfold immediateValue at h
  split at h <;> cases h
  case h_1 => exact WritesReg.congr (fun _ => rfl) fun _ => by rw [← State.imm_immediate10, ← add_eq_ofInt]
  case h_2 | h_3 | h_4 => exact WritesReg.congr (fun _ => rfl) fun _ => by rw [← State.imm_immediate10]

end Sys2Proof.Machine

namespace Sys2Proof.Proofs
open Sys2Proof.Machine Sys2Proof.Claims

/-- Settles O7, from the value that each row of the tables writes to its register. -/
theorem scalarInstructionsWriteTheirValue : Obligations.ScalarInstructionsWriteTheirValue :=
  ⟨fun _ _ _ _ _ h hissues hg => (writesReg_scalarValue h).completes hissues hg,
    fun _ _ _ _ _ h hissues hg => (writesReg_multiplyValue h).completes hissues hg,
    fun _ _ _ _ _ h hissues hg => (writesReg_immediateValue h).completes hissues hg⟩

end Sys2Proof.Proofs

/-! # A side that a fault freezes, and jumps through registers (O60) -/

namespace Sys2Proof.Machine
open Sys2Proof.Claims

/-! ### The focus and the contexts behind a record (R363) -/

theorem State.cur_foldl {α : Type} (f : State → α → State) (hf : ∀ s a, (f s a).cur = s.cur) (l : List α) (s : State) : (l.foldl f s).cur = s.cur :=
  List.foldlRecOn (motive := fun t => t.cur = s.cur) _ _ rfl fun t ht a _ => (hf t a).trans ht

theorem State.cur_setTag (s : State) (line : Nat) (x : BitVec 32) : (s.setTag line x).cur = s.cur := rfl

theorem State.cur_storeByte (s : State) (pa : Nat) (b : Byte) : (s.storeByte pa b).cur = s.cur := by
  unfold State.storeByte
  dsimp only
  split <;> rfl

theorem State.cur_storeLine (s : State) (line : Nat) (mask : LineMask) (data : LineData) : (s.storeLine line mask data).cur = s.cur := by
  refine State.cur_foldl _ (fun t k => ?_) _ _
  split
  · exact t.cur_storeByte _ _
  · rfl

theorem State.cur_dropReplicas (s : State) (pa : Nat) (mask : BitVec 32) : (s.dropReplicas pa mask).cur = s.cur := by
  refine State.cur_foldl _ (fun t k => ?_) _ _
  split <;> rfl

theorem State.cur_pageWritten (s : State) (pa : Nat) : (s.pageWritten pa).cur = s.cur := by
  unfold State.pageWritten
  dsimp only
  split_ifs
  · exact s.cur_dropReplicas _ _
  · rfl
  · rfl

theorem State.cur_countUnbacked (s : State) (pa : Nat) : (s.countUnbacked pa).cur = s.cur := by
  unfold State.countUnbacked
  split <;> rfl

theorem State.cur_writeRecord (s : State) (sheet : Nat) (e : EventRec) : (s.writeRecord sheet e).cur = s.cur := by
  unfold State.writeRecord
  dsimp only
  rw [State.mapSheet_cur]
  split
  · exact ((State.cur_pageWritten _ _).trans (State.cur_setTag _ _ _)).trans (s.cur_storeLine _ _ _)
  · exact s.cur_countUnbacked _

theorem State.cur_logEvent (s : State) (sheet : Nat) (e : EventRec) : (s.logEvent sheet e).cur = s.cur := by
  unfold State.logEvent
  split_ifs
  · rfl
  · rfl
  · exact s.cur_writeRecord _ _

theorem State.cur_abandonRec (s : State) (th code : Nat) : (s.abandonRec th code).cur = s.cur := by
  unfold State.abandonRec
  split
  · rfl
  · exact State.cur_logEvent _ _ _

theorem State.cur_invalidatePlates (s : State) (pa : Nat) : (s.invalidatePlates pa).cur = s.cur := by
  refine State.cur_foldl _ (fun t e => ?_) _ _
  have habandon (ps : List Plate) : (ps.foldl (fun (u : State) p => u.abandonRec p.owner 14) t).cur = t.cur :=
    State.cur_foldl _ (fun u p => u.cur_abandonRec p.owner 14) ps t
  dsimp only
  split <;> exact habandon _

theorem State.cur_record (s : State) (sheet : Nat) (e : EventRec) : (s.record sheet e).cur = s.cur := by
  unfold State.record
  dsimp only
  split
  · exact s.cur_logEvent _ _
  · exact (State.cur_invalidatePlates _ _).trans (s.cur_logEvent _ _)

theorem State.sameBlocks_record (s : State) (sheet : Nat) (e : EventRec) : s.sameBlocks (s.record sheet e) := by
  unfold State.record
  dsimp only
  split
  · exact s.sameBlocks_logEvent _ _
  · exact (s.sameBlocks_logEvent _ _).trans (State.sameBlocks_invalidatePlates _ _)

theorem State.ctx_record (s : State) (sheet : Nat) (e : EventRec) : (s.record sheet e).ctx = s.ctx := by
  obtain ⟨-, hctxs, -⟩ := s.sameBlocks_record sheet e
  rw [State.ctx, State.ctx, State.ctxOf, State.ctxOf, hctxs, State.cur_record]

/-! ### The registers of a trap (R67, R360) -/

section
variable {s : State} {th : Nat} {side : Side} (hcur : s.cur = .task th side) (cause : Nat) (va : Option Word) (hint : Bool) (epc : Word)
include hcur

/-- Beside the context, a trap of a side writes its EPC in its thread. -/
theorem State.trapRegs_task : s.trapRegs cause va hint epc =
    (s.putEpc (.task th side) epc).upd (fun k =>
      { k with cause := BitVec.ofNat 64 ((if hint then 512 else 0) + (if side = .a then 0 else 256) + cause), faultva := va.getD k.faultva, repcnt := k.progress }) := by
  rw [State.trapRegs, hcur]
  cases side <;> rfl

end

theorem State.putEpc_task_frame (s : State) (th : Nat) (side : Side) (epc : Word) :
    s.putEpc (.task th side) epc = { s with threads := (s.putEpc (.task th side) epc).threads } := by cases side <;> rfl

theorem State.thread_putEpc_a (s : State) (th n : Nat) (epc : Word) :
    (s.putEpc (.task th .a) epc).thread n = if n = th then { s.thread th with epca := epc &&& ~~~3 } else s.thread n := s.thread_mapThread _ _ _

theorem State.thread_putEpc_c (s : State) (th n : Nat) (epc : Word) :
    (s.putEpc (.task th .c) epc).thread n = if n = th then { s.thread th with epcc := epc &&& ~~~3 } else s.thread n := s.thread_mapThread _ _ _

/-! ### A side that a fault freezes (R359, R362) -/

/-- The side in focus stops at its group for a cause, with the registers of the trap written. -/
def State.frozenBy (cause : Nat) (va : Option Word) (hint : Bool) (s : State) : State :=
  (s.trapRegs cause va hint s.ctx.grp).upd (fun k => k.freezeAt cause)

/-- The causes that the same rule freezes a side for, after commit. -/
def freezesSide (cause : Nat) : Prop := cause ≠ 0x0E ∧ cause ≠ 6 ∧ cause ≠ 7 ∧ cause ≠ 9 ∧ cause ≠ 0x11

/-- A cause freezes the side that raises it after commit, and the causes of a user trap do so before commit too, but in a follower. -/
theorem State.raiseAt_freezes {s : State} {th : Nat} {side : Side} {cause : Nat} (hcur : s.cur = .task th side) (hcause : freezesSide cause)
    (hpost : (s.thread th).post = true ∨ ((cause = 0x14 ∨ cause = 0x15) ∧ (s.thread th).follow = none))
    (hring : s.ringBlocked (sheetOfCore (coreOfThread th)) = false) (va : Option Word) (hint : Bool) :
    s.raiseAt cause va hint =
      State.frozenBy cause va hint (s.record (sheetOfCore (coreOfThread th)) (s.faultRec cause (va.getD 0) hint true false)) := by
  obtain ⟨h0E, h6, h7, h9, h11⟩ := hcause
  have hsheet : s.faultSheet = sheetOfCore (coreOfThread th) := by simp only [State.faultSheet, State.coreId, hcur]
  have hteam : (!s.isPost s.cur && decide (cause ≠ 0x0B ∧ cause ≠ 0x14 ∧ cause ≠ 0x15) || (!s.isPost s.cur && (s.thread th).follow.isSome)) = false := by
    rcases hpost with hpost | ⟨rfl | rfl, hfollow⟩
    · simp [State.isPost, hcur, hpost]
    · simp [hfollow]
    · simp [hfollow]
  rw [State.raiseAt]
  simp only [hsheet, hcur, hring] at hteam ⊢
  simp only [hteam, h0E, h6, h7, h9, h11, or_self, if_false, State.frozenBy, State.ctx_record, Bool.false_eq_true]

section
variable {r : State} {th : Nat} {side : Side} (hcur : r.cur = .task th side) (cause : Nat) (va : Option Word) (hint : Bool)
include hcur

theorem State.ctx_frozenBy : (r.frozenBy cause va hint).ctx =
    Ctx.freezeAt { r.ctx with cause := BitVec.ofNat 64 ((if hint then 512 else 0) + (if side = .a then 0 else 256) + cause),
                              faultva := va.getD r.ctx.faultva, repcnt := r.ctx.progress } cause := by
  rw [State.frozenBy, State.ctx_upd, State.trapRegs_task hcur, State.ctx_upd, State.putEpc_task_frame]
  rfl

theorem State.sheets_frozenBy : (r.frozenBy cause va hint).sheets = r.sheets := by
  rw [State.frozenBy, State.trapRegs_task hcur, State.upd_sheets, State.upd_sheets, State.putEpc_task_frame]

end

theorem State.thread_frozenBy_a {r : State} {th : Nat} (hcur : r.cur = .task th .a) (cause : Nat) (va : Option Word) (hint : Bool) :
    (r.frozenBy cause va hint).thread th = { r.thread th with epca := r.ctx.grp &&& ~~~3 } := by
  rw [State.frozenBy, State.trapRegs_task hcur]
  exact (r.thread_putEpc_a th th r.ctx.grp).trans (if_pos rfl)

theorem State.thread_frozenBy_c {r : State} {th : Nat} (hcur : r.cur = .task th .c) (cause : Nat) (va : Option Word) (hint : Bool) :
    (r.frozenBy cause va hint).thread th = { r.thread th with epcc := r.ctx.grp &&& ~~~3 } := by
  rw [State.frozenBy, State.trapRegs_task hcur]
  exact (r.thread_putEpc_c th th r.ctx.grp).trans (if_pos rfl)

/-! ### The words of JR and JALR (R76, R79, R112) -/

theorem decodeMaj12_reserved {b : Nat} (hfields : b / 2 ^ 15 % 32 ≠ 0 ∨ b / 2 ^ 5 % 32 ≠ 0) (g : Guard) : decodeMaj12 g b = none := by
  have hreserved : ¬(b / 2 ^ 5 % 32 = 0 ∧ b / 2 ^ 15 % 32 = 0) := by omega
  unfold decodeMaj12
  split
  · exact if_neg hreserved
  · exact if_neg hreserved
  · rfl

/-- The body of a word that decodes to an instruction is that of the instruction. -/
theorem body_of_decode {w : BitVec 32} {i : Instr} {maj : Nat} {g : Guard} {body : Nat} (h : decode w = .ok i) (hi : encodeRaw i = some (rawOf maj g body)) :
    w.toNat % 2 ^ 20 = body := by
  have hraw := hi.symm.trans (encodeRaw_of_decodeRaw (RawWord.fits_split w) h)
  exact (congrArg RawWord.body (Option.some.inj hraw)).symm

/-! ### A jump through a register (R73, R112) -/

/-- JR, or JALR with its link. -/
def jumpThrough (link : Bool) (g : Guard) (a : BitVec 5) : Instr := if link then .jumpLinkReg g a else .jumpReg g a

/-- The state in which JALR has written its link. -/
def State.linked (link : Bool) (s : State) : State := if link then s.setReg 31 (s.ctx.pc + 4) else s

theorem completesAt_jumpTo_linked (link : Bool) (t : Word) (s : State) :
    CompletesAt (if s.isFollower then s.ctx.pc + 4 else t) (s.linked link) ((s.linked link).jumpTo t) := by
  cases link
  · exact completesAt_jumpTo t s
  · exact completesAt_jumpTo_link t s

theorem State.pc_linked (link : Bool) (s : State) : (s.linked link).ctx.pc = s.ctx.pc := by
  cases link
  · rfl
  · exact s.pc_setReg _ _

theorem exec_jumpThrough {s : State} {g : Guard} {a : BitVec 5} {link : Bool} (h : Issues (jumpThrough link g a) s) (hguard : s.selected g = true) :
    exec (jumpThrough link g a) s =
      if (s.reg a).toNat % 4 ≠ 0 ∧ s.isFollower = false then raise 5 (s.reg a) s else (s.linked link).jumpTo (s.reg a) := by
  cases link
  · exact exec_jumpReg_selected hguard h
  · exact exec_jumpLinkReg_selected hguard h

/-- A misaligned target after commit: the side stops at the word, with the target in FAULTVA (R112, R359). -/
theorem raise_misaligned {s : State} {th : Nat} {side : Side} (t : Word) (hcur : s.cur = .task th side) (hpost : (s.thread th).post = true)
    (hring : s.ringBlocked (sheetOfCore (coreOfThread th)) = false) (hgrp : s.ctx.grp = s.ctx.pc) :
    ∃ u, raise 5 t s = .next u ∧ u.ctx.faultva = t ∧ u.ctx.x = s.ctx.x ∧ u.ctx.pc = s.ctx.pc ∧ u.ctx.run = .frozen ∧
      (side = .a → (u.thread th).epca = s.ctx.pc &&& ~~~3) ∧ (side = .c → (u.thread th).epcc = s.ctx.pc &&& ~~~3) := by
  have hrecord (e : EventRec) : (s.record (sheetOfCore (coreOfThread th)) e).cur = .task th side := (s.cur_record _ e).trans hcur
  refine ⟨_, congrArg Host.Outcome.next (State.raiseAt_freezes hcur (by unfold freezesSide; decide) (.inl hpost) hring (some t) s.hinted), ?_⟩
  rw [State.ctx_frozenBy (hrecord _), State.ctx_record]
  refine ⟨rfl, rfl, hgrp, rfl, ?_, ?_⟩
  · rintro rfl
    rw [State.thread_frozenBy_a (hrecord _), State.ctx_record, hgrp]
  · rintro rfl
    rw [State.thread_frozenBy_c (hrecord _), State.ctx_record, hgrp]

end Sys2Proof.Machine

namespace Sys2Proof.Proofs
open Sys2Proof.Machine Sys2Proof.Claims

/-- Settles O60, from the bodies of the two words, from the transfer that each makes, and from the side that a misaligned target freezes. -/
theorem jumpsThroughRegistersGoToTheirTarget : Obligations.JumpsThroughRegistersGoToTheirTarget := by
  refine ⟨fun w hmaj _ hfields => ?_, fun a g w _ => ⟨fun h => ?_, fun h => ?_⟩, ?_⟩
  · exact decode_error_of_group (by omega) fun g => by rw [hmaj]; exact decodeMaj12_reserved (by omega) g
  · have hbody := body_of_decode h (show encodeRaw (.jumpReg g a) = some (rawOf 18 g (sumOf [put a 10])) from rfl)
    simp only [sumOf, put] at hbody
    omega
  · have hbody := body_of_decode h (show encodeRaw (.jumpLinkReg g a) = some (rawOf 18 g (sumOf [put a 10, 1])) from rfl)
    simp only [sumOf, put] at hbody
    omega
  · intro s g a link i r h hguard
    have hexec := exec_jumpThrough (link := link) h hguard
    have hjump := completesAt_jumpTo_linked link (s.reg a) s
    refine ⟨fun hlead halign => ?_, fun hfollow => ?_, fun hlead hmis => ?_⟩
    · rw [hlead] at hjump
      rw [if_neg fun hbad => hbad.1 halign] at hexec
      exact hexec ▸ hjump
    · rw [hfollow, ← State.pc_linked link] at hjump
      rw [if_neg fun hbad => by simp [hfollow] at hbad] at hexec
      exact hexec ▸ hjump
    · rw [if_pos ⟨hmis, hlead⟩] at hexec
      refine ⟨hexec, fun th side hcur hpost hring hgrp => ?_⟩
      obtain ⟨u, hu, hleft⟩ := raise_misaligned (s.reg a) hcur hpost hring hgrp
      exact ⟨u, hexec.trans hu, hleft⟩

end Sys2Proof.Proofs

/-! # User traps at a word (O11) -/

namespace Sys2Proof.Machine
open Sys2Proof.Claims

/-! ### The contexts behind a forwarded word (R72) -/

/-- The words that a fold gives to the hop buffers of one side: each context takes the word once for each time that its thread is named. -/
theorem State.ctxOf_foldl_hop (side : Side) (pc : Word) (w : BitVec 32) (fs : List Nat) (s : State) (f : Nat) :
    (fs.foldl (fun (s : State) f => s.mapCtx (.task f side) (fun k => k.takeHop pc w)) s).ctxOf (.task f side) =
      (Ctx.takeHop pc w)^[fs.count f] (s.ctxOf (.task f side)) := by
  induction fs generalizing s with
  | nil => rfl
  | cons g rest ih =>
    rw [List.foldl_cons, ih]
    by_cases hg : g = f
    · rw [hg, List.count_cons_self, Function.iterate_succ_apply, State.ctxOf_mapCtx_same]
    · rw [List.count_cons_of_ne hg, State.ctxOf_mapCtx_other _ _ (by simpa using Ne.symm hg)]

theorem State.ctxOf_foldl_hop_other (side : Side) (pc : Word) (w : BitVec 32) (fs : List Nat) (s : State) {c : CtxId} (hc : ∀ f ∈ fs, c ≠ .task f side) :
    (fs.foldl (fun (s : State) f => s.mapCtx (.task f side) (fun k => k.takeHop pc w)) s).ctxOf c = s.ctxOf c := by
  induction fs generalizing s with
  | nil => rfl
  | cons g rest ih =>
    rw [List.foldl_cons, ih _ fun f hf => hc f (List.mem_cons_of_mem _ hf)]
    exact State.ctxOf_mapCtx_other _ _ (hc g (List.mem_cons_self ..))

/-- The state in which the word in focus has been forwarded, unless it was forwarded when it began. -/
def State.forwarded (s : State) : State := if s.ctx.begun then s else s.forward s.ctx.pc (s.ctx.buf.headD 0)

theorem State.forwarded_frame (s : State) : s.forwarded = { s with ctxs := s.forwarded.ctxs } := by
  unfold State.forwarded
  split
  · rfl
  · exact (State.forward_frame _ _ s).1

theorem State.forwarded_unhopped (s : State) (c : CtxId) : (s.forwarded.ctxOf c).unhopped = (s.ctxOf c).unhopped := by
  unfold State.forwarded
  split
  · rfl
  · exact (State.forward_frame _ _ s).2 c

theorem State.cur_forwarded (s : State) : s.forwarded.cur = s.cur := by rw [s.forwarded_frame]

theorem State.thread_forwarded (s : State) (n : Nat) : s.forwarded.thread n = s.thread n := by rw [s.forwarded_frame]; rfl

theorem State.ctx_forwarded (s : State) : s.forwarded.ctx = { s.ctx with hop := s.forwarded.ctx.hop } := by
  refine Ctx.eq_of_unhopped ?_
  rw [State.ctx, s.cur_forwarded]
  exact s.forwarded_unhopped s.cur

section
variable {s : State} {th : Nat} {side : Side} (hcur : s.cur = .task th side)
include hcur

theorem State.ctxOf_forwarded_other {c : CtxId} (hc : ∀ f ∈ s.followers th, c ≠ .task f side) : s.forwarded.ctxOf c = s.ctxOf c := by
  unfold State.forwarded
  split
  · rfl
  · rw [State.forward, hcur]
    exact State.ctxOf_foldl_hop_other side _ _ _ s hc

theorem State.ctxOf_forwarded_follower {f : Nat} (hf : (s.followers th).count f = 1) (hbegun : s.ctx.begun = false) :
    s.forwarded.ctxOf (.task f side) = (s.ctxOf (.task f side)).takeHop s.ctx.pc (s.ctx.buf.headD 0) := by
  rw [State.forwarded, if_neg (by simp [hbegun]), State.forward, hcur]
  dsimp only
  rw [State.ctxOf_foldl_hop, hf]
  rfl

end

/-! ### A user trap (R115, R360) -/

/-- The mark that a trap leaves in a recording in progress. -/
def Thread.trapMarked (t : Thread) : Thread := { t with recd := t.recd.map (fun r => { r with trapped := true }) }

/-- A state that another differs from in contexts and threads alone. -/
def State.onlySides (s t : State) : Prop := t = { s with ctxs := t.ctxs, threads := t.threads }

theorem State.onlySides.trans {r s t : State} (h : r.onlySides s) (h' : s.onlySides t) : r.onlySides t := by
  unfold State.onlySides at *
  rw [h] at h'
  exact h'

section
variable {s : State} {th : Nat} {side : Side} (epc : Word)

/-- The state of a user trap before its side takes it: the word forwarded, a recording marked, and the EPC written. -/
def State.trapEntered (th : Nat) (side : Side) (epc : Word) (s : State) : State := (s.forwarded.mapThread th Thread.trapMarked).putEpc (.task th side) epc

theorem State.onlySides_trapEntered : s.onlySides (s.trapEntered th side epc) := by
  have hforward : s.onlySides s.forwarded := by rw [State.onlySides, s.forwarded_frame]
  have hmark : s.forwarded.onlySides (s.forwarded.mapThread th Thread.trapMarked) := rfl
  have hepc : (s.forwarded.mapThread th Thread.trapMarked).onlySides (s.trapEntered th side epc) := by
    rw [State.onlySides, State.trapEntered, State.putEpc_task_frame]
  exact (hforward.trans hmark).trans hepc

theorem State.cur_trapEntered : (s.trapEntered th side epc).cur = s.cur := by rw [s.onlySides_trapEntered epc]

theorem State.ctxOf_trapEntered (c : CtxId) : (s.trapEntered th side epc).ctxOf c = s.forwarded.ctxOf c := by
  rw [State.trapEntered, State.putEpc_task_frame]
  rfl

theorem State.ctx_trapEntered : (s.trapEntered th side epc).ctx = { s.ctx with hop := s.forwarded.ctx.hop } := by
  rw [State.ctx, State.ctxOf_trapEntered, State.cur_trapEntered, ← s.cur_forwarded]
  exact s.ctx_forwarded

theorem State.thread_trapEntered_other {n : Nat} (hn : n ≠ th) : (s.trapEntered th side epc).thread n = s.thread n := by
  cases side
  · rw [State.trapEntered, State.thread_putEpc_a, if_neg hn, State.thread_mapThread, if_neg hn, State.thread_forwarded]
  · rw [State.trapEntered, State.thread_putEpc_c, if_neg hn, State.thread_mapThread, if_neg hn, State.thread_forwarded]

theorem State.thread_trapEntered_a : (s.trapEntered th .a epc).thread th = { (s.thread th).trapMarked with epca := epc &&& ~~~3 } := by
  rw [State.trapEntered, State.thread_putEpc_a, if_pos rfl, State.thread_mapThread, if_pos rfl, State.thread_forwarded]

theorem State.thread_trapEntered_c : (s.trapEntered th .c epc).thread th = { (s.thread th).trapMarked with epcc := epc &&& ~~~3 } := by
  rw [State.trapEntered, State.thread_putEpc_c, if_pos rfl, State.thread_mapThread, if_pos rfl, State.thread_forwarded]

end

theorem State.hinted_forwarded (s : State) : s.forwarded.hinted = s.hinted := by
  unfold State.hinted
  rw [State.ctx_forwarded]

/-- The code of a trap in CAUSE (R67). -/
def trapCode (side : Side) (hint : Bool) (cause : Nat) : Word := BitVec.ofNat 64 ((if hint then 512 else 0) + (if side = .a then 0 else 256) + cause)

section
variable {s : State} {th : Nat} {side : Side} (hcur : s.cur = .task th side) (cause : Nat) (va : Option Word) (epc : Word)
include hcur

/-- A user trap writes the registers of the trap, takes the side to its vector, and counts the word. -/
theorem State.userTrap_task : s.userTrap cause va epc =
    (((s.trapEntered th side epc).upd (fun k => { k with cause := trapCode side s.hinted cause, faultva := va.getD k.faultva, repcnt := k.progress })).upd
      (fun k => k.goTo ((s.thread th).utvec &&& ~~~3))).upd (fun k => { k with words := k.words + if s.counts then 1 else 0 }) := by
  have hfocus : s.forwarded.cur = .task th side := s.cur_forwarded.trans hcur
  have htake : s.forwarded.takeTrap cause va epc =
      ((s.trapEntered th side epc).upd (fun k => { k with cause := trapCode side s.hinted cause, faultva := va.getD k.faultva, repcnt := k.progress })).upd
        (fun k => k.goTo ((s.thread th).utvec &&& ~~~3)) := by
    have hmarked : (s.forwarded.mapThread th Thread.trapMarked).cur = .task th side := hfocus
    rw [State.takeTrap, State.threadId_task hfocus]
    refine (congrArg (fun t : State => t.upd fun k => k.goTo ((s.forwarded.thread th).utvec &&& ~~~3)) (State.trapRegs_task hmarked cause va _ epc)).trans ?_
    exact congrArg₂ (fun (h : Bool) (t : Thread) =>
      ((s.trapEntered th side epc).upd (fun k => { k with cause := trapCode side h cause, faultva := va.getD k.faultva, repcnt := k.progress })).upd
        (fun k => k.goTo (t.utvec &&& ~~~3))) s.hinted_forwarded (s.thread_forwarded th)
  exact congrArg (fun t : State => t.upd (fun k => { k with words := k.words + if s.counts then 1 else 0 })) htake

theorem State.ctx_userTrap : (s.userTrap cause va epc).ctx =
    { Ctx.goTo { s.ctx with hop := s.forwarded.ctx.hop, cause := trapCode side s.hinted cause, faultva := va.getD s.ctx.faultva, repcnt := s.ctx.progress }
        ((s.thread th).utvec &&& ~~~3) with words := s.ctx.words + if s.counts then 1 else 0 } := by
  rw [State.userTrap_task hcur, State.ctx_upd, State.ctx_upd, State.ctx_upd, State.ctx_trapEntered]
  rfl

theorem State.ctxOf_userTrap_other {c : CtxId} (hc : c ≠ s.cur) : (s.userTrap cause va epc).ctxOf c = s.forwarded.ctxOf c := by
  rw [State.userTrap_task hcur]
  simp only [State.ctxOf_upd_other, State.upd_cur, State.cur_trapEntered, ne_eq, hc, not_false_eq_true, State.ctxOf_trapEntered]

theorem State.thread_userTrap (n : Nat) : (s.userTrap cause va epc).thread n = (s.trapEntered th side epc).thread n := by
  rw [State.userTrap_task hcur]
  rfl

theorem State.onlySides_userTrap : s.onlySides (s.userTrap cause va epc) := by
  rw [State.userTrap_task hcur]
  exact State.onlySides.trans (t := State.upd _ (State.upd _ (State.upd _ _))) (s.onlySides_trapEntered epc) rfl

end

/-! ### TRAP and BRK (R119) -/

/-- The cause of TRAP or of BRK, and the value for FAULTVA. -/
def userCause (code : Option (BitVec 5)) : Nat := if code.isSome then 0x14 else 0x15

/-- TRAP with its code, or BRK. -/
def userTrapWord (g : Guard) (code : Option (BitVec 5)) : Instr := match code with | some c => .trap g c | none => .brk g

theorem exec_userTrapWord {s : State} {g : Guard} {code : Option (BitVec 5)} (h : Issues (userTrapWord g code) s) (hguard : s.selected g = true) :
    exec (userTrapWord g code) s = trapOut (userCause code) (code.map (BitVec.setWidth 64)) s.ctx.pc s := by
  cases code with
  | some c =>
    rw [userTrapWord, exec_trap, execTrap, issueScalar_of_issues (i := .trap g c) h hguard, BitVec.ofNat_toNat]
    rfl
  | none =>
    rw [userTrapWord, exec_brk, execBrk, issueScalar_of_issues (i := .brk g) h hguard]
    rfl

/-- A side with a vector, in no follower, takes the trap. -/
theorem trapOut_taken {s : State} {th : Nat} {side : Side} (hcur : s.cur = .task th side) (hvector : (s.thread th).utvec ≠ 0)
    (hfollow : (s.thread th).follow = none) (cause : Nat) (va : Option Word) (epc : Word) : trapOut cause va epc s = .next (s.userTrap cause va epc) := by
  rw [trapOut, trapBy, hcur]
  exact if_pos ⟨hvector, hfollow⟩

theorem trapOut_raised {s : State} (h : ∀ th side, s.cur = .task th side → (s.thread th).utvec = 0 ∨ (s.thread th).follow ≠ none)
    (cause : Nat) (va : Option Word) (epc : Word) : trapOut cause va epc s = .next (s.raiseAt cause va s.hinted) := by
  rw [trapOut, trapBy]
  split
  next th side hcur => exact if_neg fun htaken => (h th side hcur).elim htaken.1 fun hno => hno htaken.2
  · rfl

/-- The record of a cause that freezes its side (R363). -/
theorem State.faultRec_frozen {s : State} {th : Nat} {side : Side} (hcur : s.cur = .task th side) (hgrp : s.ctx.grp = s.ctx.pc) (cause : Nat) (va : Word) (hint : Bool) :
    s.faultRec cause va hint true false =
      { cause := cause, flags := (if side = .a then 0 else 1) + (if hint then 2 else 0) + (if (s.thread th).post then 4 else 0) + 8,
        source := addrOf (.task th side), obj := va, epc := s.ctx.pc, cycle := s.cycle.toNat % 2 ^ 32, freeze := none } := by
  rw [State.faultRec, hcur, hgrp]
  cases side <;> rfl

end Sys2Proof.Machine

namespace Sys2Proof.Proofs
open Sys2Proof.Machine Sys2Proof.Claims

section
variable {s : State} {th : Nat} {side : Side}

/-- What a user trap at the word in focus leaves (R72, R115, R360). -/
theorem userTrap_leaves (hcur : s.cur = .task th side) (cause : Nat) (va : Option Word) : let u := s.userTrap cause va s.ctx.pc
    u = { s with ctxs := u.ctxs, threads := u.threads } ∧
      u.ctx.pc = (s.thread th).utvec &&& ~~~3 ∧ u.ctx.buf = [] ∧ u.ctx.run = s.ctx.run ∧ u.ctx.x = s.ctx.x ∧ u.ctx.p = s.ctx.p ∧ u.ctx.v = s.ctx.v ∧
      u.ctx.cause = trapCode side s.hinted cause ∧ u.ctx.faultva = va.getD s.ctx.faultva ∧ u.ctx.words = s.ctx.words + (if s.counts then 1 else 0) ∧
      (side = .a → (u.thread th).epca = s.ctx.pc &&& ~~~3 ∧ u.thread th = { s.thread th with epca := (u.thread th).epca, recd := (u.thread th).recd }) ∧
      (side = .c → (u.thread th).epcc = s.ctx.pc &&& ~~~3 ∧ u.thread th = { s.thread th with epcc := (u.thread th).epcc, recd := (u.thread th).recd }) ∧
      (∀ x, x ≠ s.cur → (∀ f ∈ s.followers th, x ≠ .task f side) → u.ctxOf x = s.ctxOf x) ∧
      (∀ f, f ≠ th → (s.followers th).count f = 1 → s.ctx.begun = false → u.ctxOf (.task f side) = (s.ctxOf (.task f side)).takeHop s.ctx.pc (s.ctx.buf.headD 0)) ∧
      ∀ n, n ≠ th → u.thread n = s.thread n := by
  intro u
  have hctx : u.ctx = _ := State.ctx_userTrap hcur cause va s.ctx.pc
  have hthread : ∀ n, u.thread n = _ := State.thread_userTrap hcur cause va s.ctx.pc
  have hother : ∀ {c}, c ≠ s.cur → u.ctxOf c = s.forwarded.ctxOf c := State.ctxOf_userTrap_other hcur cause va s.ctx.pc
  refine ⟨State.onlySides_userTrap hcur cause va s.ctx.pc, (congrArg Ctx.pc hctx :), (congrArg Ctx.buf hctx :), (congrArg Ctx.run hctx :), (congrArg Ctx.x hctx :), (congrArg Ctx.p hctx :),
    (congrArg Ctx.v hctx :), (congrArg Ctx.cause hctx :), (congrArg Ctx.faultva hctx :), (congrArg Ctx.words hctx :), ?_, ?_, fun x hx hfollowers => ?_, fun f hf hcount hbegun => ?_, fun n hn => ?_⟩
  · rintro rfl
    rw [hthread, State.thread_trapEntered_a]
    exact ⟨rfl, rfl⟩
  · rintro rfl
    rw [hthread, State.thread_trapEntered_c]
    exact ⟨rfl, rfl⟩
  · rw [hother hx, State.ctxOf_forwarded_other hcur hfollowers]
  · rw [hother (by rw [hcur]; simpa using hf), State.ctxOf_forwarded_follower hcur hcount hbegun]
  · rw [hthread, State.thread_trapEntered_other _ hn]

/-- What a cause of a user trap leaves of a side that has no vector (R119, R359). -/
theorem frozenTrap_leaves (hcur : s.cur = .task th side) (hfollow : (s.thread th).follow = none) (hgrp : s.ctx.grp = s.ctx.pc)
    (hring : s.ringBlocked (sheetOfCore (coreOfThread th)) = false) {cause : Nat} (hcause : cause = 0x14 ∨ cause = 0x15) (va : Option Word) :
    let u := s.raiseAt cause va s.hinted
    u.ctx.run = .frozen ∧ u.ctx.frozenCause = cause ∧ u.ctx.pc = s.ctx.pc ∧ u.ctx.x = s.ctx.x ∧
      u.ctx.cause = trapCode side s.hinted cause ∧ u.ctx.faultva = va.getD s.ctx.faultva ∧
      (side = .a → (u.thread th).epca = s.ctx.pc &&& ~~~3) ∧ (side = .c → (u.thread th).epcc = s.ctx.pc &&& ~~~3) ∧
      u.sheets = (s.record (sheetOfCore (coreOfThread th))
        { cause := cause, flags := (if side = .a then 0 else 1) + (if s.hinted then 2 else 0) + (if (s.thread th).post then 4 else 0) + 8,
          source := addrOf (.task th side), obj := va.getD 0, epc := s.ctx.pc, cycle := s.cycle.toNat % 2 ^ 32, freeze := none }).sheets := by
  intro u
  have hu : u = _ := State.raiseAt_freezes hcur (by rcases hcause with rfl | rfl <;> (unfold freezesSide; decide)) (.inr ⟨hcause, hfollow⟩) hring va s.hinted
  rw [hu, State.faultRec_frozen hcur hgrp]
  generalize he : EventRec.mk .. = e
  have hfocus : (s.record (sheetOfCore (coreOfThread th)) e).cur = .task th side := (s.cur_record _ e).trans hcur
  rw [State.ctx_frozenBy hfocus, State.ctx_record, State.sheets_frozenBy hfocus]
  refine ⟨rfl, rfl, hgrp, rfl, rfl, rfl, ?_, ?_, rfl⟩
  · rintro rfl
    rw [State.thread_frozenBy_a hfocus, State.ctx_record, hgrp]
  · rintro rfl
    rw [State.thread_frozenBy_c hfocus, State.ctx_record, hgrp]

end

/-- TRAP and BRK in the three cases of R119. -/
theorem userTrapWord_cases {s : State} {g : Guard} {code : Option (BitVec 5)} {cause : Nat} {va : Option Word} (hcause : cause = userCause code)
    (hva : va = code.map (BitVec.setWidth 64)) (h : Issues (userTrapWord g code) s) (hguard : s.selected g = true) :
    (∀ th side, s.cur = .task th side → (s.thread th).utvec ≠ 0 → (s.thread th).follow = none → exec (userTrapWord g code) s = .next (s.userTrap cause va s.ctx.pc)) ∧
      ((∀ th side, s.cur = .task th side → (s.thread th).utvec = 0 ∨ (s.thread th).follow ≠ none) →
        exec (userTrapWord g code) s = .next (s.raiseAt cause va s.hinted)) := by
  subst hcause hva
  rw [exec_userTrapWord h hguard]
  exact ⟨fun th side hcur hvector hfollow => trapOut_taken hcur hvector hfollow .., fun hraised => trapOut_raised hraised ..⟩

/-- Settles O11, from what a side that takes the trap keeps and from the side that the cause freezes where it has no vector. -/
theorem trapAndBrkGoToTheUserVector : Obligations.TrapAndBrkGoToTheUserVector := by
  intro s g code i hi h hguard trap cause va
  obtain ⟨word, rfl, hcause, hva⟩ : ∃ word, i = userTrapWord g word ∧ cause = userCause word ∧ va = word.map (BitVec.setWidth 64) := by
    rcases hi with rfl | rfl
    · have htrap : trap = true := decide_eq_true rfl
      exact ⟨some code, rfl, if_pos htrap, if_pos htrap⟩
    · have htrap : trap = false := decide_eq_false (by simp)
      exact ⟨none, rfl, if_neg (by simp [htrap]), if_neg (by simp [htrap])⟩
  obtain ⟨htaken, hraised⟩ := userTrapWord_cases hcause hva h hguard
  have htrap : cause = 0x14 ∨ cause = 0x15 := by rw [hcause]; cases word <;> simp [userCause]
  clear_value cause va
  refine ⟨fun th side hcur hvector hfollow => ⟨_, htaken th side hcur hvector hfollow, userTrap_leaves hcur cause va⟩,
    fun th side hcur hvector hfollow hgrp hring => ⟨_, hraised fun n k hk => ?_, frozenTrap_leaves hcur hfollow hgrp hring htrap va⟩,
    fun hother => hraised fun th side hcur => ?_⟩
  · obtain ⟨rfl, rfl⟩ := CtxId.task.inj (hcur.symm.trans hk)
    exact .inl hvector
  · rcases hother with hother | hother
    · simp [hcur, CtxId.isTask] at hother
    · rw [State.isFollower, hcur] at hother
      exact .inr (Option.isSome_iff_ne_none.mp hother)

end Sys2Proof.Proofs

/-! # Loads and stores of local memory (O17) -/

namespace Sys2Proof.Machine
open Sys2Proof.Claims

/-! ### Operands of an access (R91, R124, R127) -/

theorem sizeOf_eq (z : BitVec 3) : sizeOf z = accessSize z := by revert z; decide

theorem accessSize_pos (z : BitVec 3) : 0 < accessSize z := by revert z; decide

theorem accessSize_le (z : BitVec 3) : accessSize z ≤ 8 := by revert z; decide

theorem State.ordHint_plain {s : State} (h : plainOrder s) : s.ordHint.1 = 0 := by
  rcases h with h | ⟨sc, h⟩ <;> rw [State.ordHint, h] <;> rfl

theorem State.dataAddr_eq (s : State) (b : BitVec 5) (z : BitVec 3) (o : BitVec 6) : s.dataAddr b z o = address s b z o := by
  rw [State.dataAddr, address, s.imm_eq o (by decide) (by decide), sizeOf_eq]
  cases s.ctx.hints.immx
  · rw [BitVec.ofInt_add, BitVec.ofInt_mul, BitVec.ofInt_toInt, BitVec.ofInt_natCast]
    rfl
  · rw [BitVec.ofInt_add, BitVec.ofInt_mul, BitVec.ofInt_toInt, BitVec.ofInt_natCast]
    rfl

/-- What LD writes, from as many bytes as it reads. -/
theorem loadValue_eq {z : BitVec 3} {bs : List Byte} (h : bs.length = accessSize z) : loadValue z bs = extended z bs := by
  have hlt : leNat bs < 2 ^ (8 * accessSize z) := by
    have := leNat_lt bs
    rwa [h, show (256 : Nat) = 2 ^ 8 from rfl, ← Nat.pow_mul] at this
  have hpos := accessSize_pos z
  have hle := accessSize_le z
  simp only [loadValue, extended, signed, sizeOf_eq, decide_eq_true_eq]
  by_cases hz : z.toNat < 4
  · simp only [if_true, signExt_of_lt (show 0 < 8 * accessSize z by omega) (show 8 * accessSize z ≤ 64 by omega) hlt, hz, true_and]
  · simp only [hz, false_and, if_false]

theorem getD_leBytes {n k : Nat} (x : Nat) (hk : k < n) : (leBytes n x).getD k 0 = BitVec.ofNat 8 (x / 2 ^ (8 * k)) := by
  induction n generalizing x k with
  | zero => omega
  | succ n ih =>
    cases k with
    | zero => simp [leBytes]
    | succ k =>
      rw [leBytes, List.getD_cons_succ, ih _ (by omega), Nat.div_div_eq_div_mul, show 256 * 2 ^ (8 * k) = 2 ^ (8 * (k + 1)) by rw [Nat.mul_succ, Nat.pow_add]; ring]

@[simp] theorem Acc.bind_ok (a : α) (s : State) (f : α → State → Acc β) : (Acc.ok a s).bind f = f a s := rfl

@[simp] theorem Acc.bind_trap (c : Nat) (v : Word) (s : State) (f : α → State → Acc β) : (Acc.trap c v s).bind f = .trap c v s := rfl

@[simp] theorem Acc.bind_wait (w : Wait) (s : State) (f : α → State → Acc β) : (Acc.wait w s).bind f = .wait w s := rfl

@[simp] theorem Acc.run_ok (a : α) (s : State) (f : α → State → Out) : (Acc.ok a s).run f = f a s := rfl

@[simp] theorem Acc.run_trap (c : Nat) (v : Word) (s : State) (f : α → State → Out) : (Acc.trap c v s).run f = raise c v s := rfl

@[simp] theorem Acc.run_wait (w : Wait) (s : State) (f : α → State → Out) : (Acc.wait w s).run f = .next (s.block w) := rfl

/-! ### What a local address reaches (R125, R126, R368) -/

section
variable {s : State} (hsurveyor : s.cur.isSurveyor = false) (la n : Nat) (other : Bool)
include hsurveyor

theorem State.localTarget_eq : s.localTarget la n other =
    if 2 ^ 20 ≤ la ∨ 0x18000 ≤ la % 2 ^ 17 ∨ (other = true ∧ namedCore s la ≠ s.coreId) ∨ (s.core (namedCore s la)).retired = true then .trap 8 (BitVec.ofNat 64 la) s
    else if (s.core (namedCore s la)).frozen then .wait (Wait.plain (.held (namedCore s la))) s
    else if la % n ≠ 0 then .trap 5 (BitVec.ofNat 64 la) s
    else .ok (namedCore s la, la % 2 ^ 17) s := by
  simp only [State.localTarget, hsurveyor, Bool.false_eq_true, if_false, Bool.or_eq_true, Bool.and_eq_true, decide_eq_true_eq, bne_iff_ne, or_assoc, namedCore]
  congr

variable {la n other}

theorem State.localTarget_refused (h : 2 ^ 20 ≤ la ∨ 0x18000 ≤ la % 2 ^ 17 ∨ (other = true ∧ namedCore s la ≠ s.coreId) ∨ (s.core (namedCore s la)).retired = true) :
    s.localTarget la n other = .trap 8 (BitVec.ofNat 64 la) s := by
  rw [State.localTarget_eq hsurveyor, if_pos h]

theorem State.localTarget_frozen (hla : la < 2 ^ 20) (hoff : la % 2 ^ 17 < 0x18000) (hother : other = true → namedCore s la = s.coreId)
    (hretired : (s.core (namedCore s la)).retired = false) (hfrozen : (s.core (namedCore s la)).frozen = true) :
    s.localTarget la n other = .wait (Wait.plain (.held (namedCore s la))) s := by
  rw [State.localTarget_eq hsurveyor, if_neg, if_pos hfrozen]
  simp only [hretired, Bool.false_eq_true, or_false, not_or, not_and, not_le, ne_eq, not_not]
  exact ⟨hla, hoff, hother⟩

theorem State.localTarget_ok (hok : localOk s la) (hother : other = true → namedCore s la = s.coreId) :
    s.localTarget la n other = if la % n ≠ 0 then .trap 5 (BitVec.ofNat 64 la) s else .ok (namedCore s la, la % 2 ^ 17) s := by
  obtain ⟨hla, hoff, hfrozen, hretired⟩ := hok
  rw [State.localTarget_eq hsurveyor, if_neg, if_neg (by simp [hfrozen])]
  simp only [hretired, Bool.false_eq_true, or_false, not_or, not_and, not_le, ne_eq, not_not]
  exact ⟨hla, hoff, hother⟩

end

theorem any_poison_eq_false {k : Core} {off n : Nat} (h : unpoisoned k off n) (hn : 0 < n) :
    k.poison.any (fun w => decide (off / 8 ≤ w ∧ w ≤ (off + n - 1) / 8)) = false := by
  rw [List.any_eq_false]
  intro w hw
  have := h w hw
  simp only [decide_eq_true_eq]
  omega

/-! ### Reading and writing own memory -/

theorem State.putLocal_frame (s : State) (co off : Nat) (bs : List Byte) : s.putLocal co off bs = { s with cores := (s.putLocal co off bs).cores } := rfl

theorem State.core_putLocal_same (s : State) (co off : Nat) (bs : List Byte) :
    (s.putLocal co off bs).core co =
      { s.core co with mem := (s.core co).mem.writeList off bs, poison := (s.core co).poison.filter (fun w => !decide (off ≤ 8 * w ∧ 8 * w + 8 ≤ off + bs.length)) } :=
  (s.core_mapCore co co _).trans (if_pos rfl)

theorem State.core_putLocal_other (s : State) {co c : Nat} (off : Nat) (bs : List Byte) (h : c ≠ co) : (s.putLocal co off bs).core c = s.core c :=
  (s.core_mapCore co c _).trans (if_neg h)

/-! ### LD and ST of local memory (R127, R128) -/

section
variable {s : State} {g : Guard} {d b : BitVec 5} {z : BitVec 3} {o : BitVec 6} (hguard : s.selected g = true) (hplain : plainOrder s)
include hguard hplain

theorem exec_ld_local (h : Issues (.ld g d b z 1 o) s) :
    exec (.ld g d b z 1 o) s =
      ((s.loadLocal (address s b z o).toNat (accessSize z) true).bind fun bs s => .ok (bs, 3) s).run fun r s => done ((s.acquirePart r.2).setReg d (loadValue z r.1)) := by
  rw [exec_ld, execLd, issueScalar_of_issues h hguard, s.dataAddr_eq, sizeOf_eq, State.readAt, State.ordHint_plain hplain]
  rfl

theorem exec_st_local (h : Issues (.st g d b z 1 o) s) :
    exec (.st g d b z 1 o) s = (s.storeLocal (address s b z o).toNat (leBytes (accessSize z) (s.reg d).toNat)).run fun _ s => done s := by
  rw [exec_st, execSt, issueScalar_of_issues h hguard, s.dataAddr_eq, sizeOf_eq, State.writeAt, State.ordHint_plain hplain]
  rfl

theorem exec_ld_local_trap (h : Issues (.ld g d b z 1 o) s) {c : Nat}
    (htarget : s.localTarget (address s b z o).toNat (accessSize z) false = .trap c (BitVec.ofNat 64 (address s b z o).toNat) s) :
    exec (.ld g d b z 1 o) s = raise c (address s b z o) s := by
  rw [exec_ld_local hguard hplain h, State.loadLocal, Bool.not_true, htarget, BitVec.ofNat_toNat, BitVec.setWidth_eq]
  rfl

theorem exec_st_local_trap (h : Issues (.st g d b z 1 o) s) {c : Nat}
    (htarget : s.localTarget (address s b z o).toNat (accessSize z) true = .trap c (BitVec.ofNat 64 (address s b z o).toNat) s) :
    exec (.st g d b z 1 o) s = raise c (address s b z o) s := by
  rw [exec_st_local hguard hplain h, State.storeLocal, length_leBytes, htarget, BitVec.ofNat_toNat, BitVec.setWidth_eq]
  rfl

theorem exec_ld_local_ok (h : Issues (.ld g d b z 1 o) s) {t : Nat × Nat} (htarget : s.localTarget (address s b z o).toNat (accessSize z) false = .ok t s)
    (hpoison : unpoisoned (s.core t.1) t.2 (accessSize z)) :
    Completes (s.setReg d (extended z ((s.core t.1).mem.readList t.2 (accessSize z)))) (exec (.ld g d b z 1 o) s) := by
  have hacquire : s.acquirePart 3 = s := by
    have hno : ¬(s.ordHint.1 = 1 ∧ 3 ≠ 2) := by simp [State.ordHint_plain hplain]
    exact if_neg hno
  rw [exec_ld_local hguard hplain h, State.loadLocal, Bool.not_true, htarget, Acc.bind_ok, any_poison_eq_false hpoison (accessSize_pos z),
    if_neg (by decide), Acc.bind_ok, Acc.run_ok, hacquire, loadValue_eq (Memory.length_readList ..)]
  exact completes_done _

/-- A store to own memory outside the input area changes its bytes, and poison that it overwrites, alone. -/
theorem exec_st_local_ok (h : Issues (.st g d b z 1 o) s) {t : Nat × Nat} (htarget : s.localTarget (address s b z o).toNat (accessSize z) true = .ok t s)
    (harea : s.inputArea t.2 (accessSize z) = false) :
    exec (.st g d b z 1 o) s = done (s.putLocal t.1 t.2 (leBytes (accessSize z) (s.reg d).toNat)) := by
  rw [exec_st_local hguard hplain h, State.storeLocal, length_leBytes, htarget, Acc.bind_ok, harea]
  rfl

theorem exec_st_local_input (h : Issues (.st g d b z 1 o) s) {t : Nat × Nat} (htarget : s.localTarget (address s b z o).toNat (accessSize z) true = .ok t s)
    (harea : s.inputArea t.2 (accessSize z) = true) : exec (.st g d b z 1 o) s = raise 8 (address s b z o) s := by
  rw [exec_st_local hguard hplain h, State.storeLocal, length_leBytes, htarget, Acc.bind_ok, harea, if_pos rfl, Acc.run_trap, BitVec.ofNat_toNat, BitVec.setWidth_eq]

end

end Sys2Proof.Machine

namespace Sys2Proof.Proofs
open Sys2Proof.Machine Sys2Proof.Claims

/-- Settles O17, from what a local address reaches in each case, and from the bytes that a store leaves in its core. -/
theorem localLoadsAndStores : Obligations.LocalLoadsAndStores := by
  intro s g d b z o hguard hsurveyor hplain a la n off
  have hrefused (other : Bool) := State.localTarget_refused (la := la) (n := n) (other := other) hsurveyor
  have hload (hok : localOk s la) := State.localTarget_ok (n := n) (other := false) hsurveyor hok nofun
  have hstore (hok : localOk s la) (hown : namedCore s la = s.coreId) := State.localTarget_ok (n := n) (other := true) hsurveyor hok fun _ => hown
  refine ⟨fun h hok halign hpoison => ?_, fun h hrange => ?_, fun h hretired => ?_, fun h hla hoff hretired hfrozen => ?_, fun h hok hmis => ?_, fun h hok hown hmis => ?_,
    fun h hok hown halign harea hwf => ?_, fun h hla hoff hother => ?_, fun h hok hown halign harea => ?_⟩
  · exact exec_ld_local_ok (t := (namedCore s la, off)) hguard hplain h ((hload hok).trans (if_neg fun hmis => hmis halign)) hpoison
  · exact exec_ld_local_trap hguard hplain h (hrefused false (hrange.imp_right .inl))
  · exact exec_ld_local_trap hguard hplain h (hrefused false (.inr (.inr (.inr hretired))))
  · rw [exec_ld_local hguard hplain h, State.loadLocal, Bool.not_true, State.localTarget_frozen (other := false) hsurveyor hla hoff nofun hretired hfrozen]
    exact waits_block _ s
  · exact exec_ld_local_trap hguard hplain h ((hload hok).trans (if_pos hmis))
  · exact exec_st_local_trap hguard hplain h ((hstore hok hown).trans (if_pos hmis))
  · have hexec := exec_st_local_ok (t := (namedCore s la, off)) hguard hplain h ((hstore hok hown).trans (if_neg fun hmis => hmis halign)) harea
    rw [hown] at hexec
    have hcore := s.core_putLocal_same s.coreId off (leBytes n (s.reg d).toNat)
    refine ⟨_, hexec ▸ completes_done _, s.putLocal_frame _ _ _, fun c hc => s.core_putLocal_other _ _ hc, fun x => ?_, by rw [hcore], by rw [hcore]⟩
    rw [hcore, Memory.read_writeList hwf, length_leBytes]
    exact ite_congr rfl (fun hx => getD_leBytes _ (by omega)) fun _ => rfl
  · exact exec_st_local_trap hguard hplain h (hrefused true (.inr (.inr (.inl ⟨rfl, hother⟩))))
  · exact exec_st_local_input (t := (namedCore s la, off)) hguard hplain h ((hstore hok hown).trans (if_neg fun hmis => hmis halign)) harea

end Sys2Proof.Proofs

/-! # LDV and STV (O20) -/

namespace Sys2Proof.Machine
open Sys2Proof.Claims

theorem elemSize_pos (ty : Nat) : 0 < elemSize ty := by
  unfold elemSize elemBits
  split
  · decide
  · split <;> decide

theorem Shape.esize_pos (h : Shape) : 0 < h.esize := elemSize_pos h.ty

/-! ### Writing elements of a register (R57, R131) -/

/-- Writes an element for each position of a list. -/
def Shape.putAll (h : Shape) (f : Nat × Nat → Nat) (l : List (Nat × Nat)) (v : VReg) : VReg := l.foldl (fun v x => h.put v x.1 x.2 (f x)) v

theorem Shape.putAll_cons (h : Shape) (f : Nat × Nat → Nat) (x : Nat × Nat) (l : List (Nat × Nat)) (v : VReg) :
    h.putAll f (x :: l) v = h.putAll f l (h.put v x.1 x.2 (f x)) := rfl

/-- Bytes that meet no element written keep their values. -/
theorem Shape.getBytes_putAll_other {h : Shape} {f : Nat × Nat → Nat} {l : List (Nat × Nat)} {k m : Nat} (hfit : 8 * (k + m) ≤ 4096)
    (hout : ∀ x ∈ l, k + m ≤ h.offset x.1 x.2 ∨ h.offset x.1 x.2 + h.esize ≤ k) (v : VReg) : getBytes (h.putAll f l v) k m = getBytes v k m := by
  induction l generalizing v with
  | nil => rfl
  | cons x l ih =>
    obtain ⟨hx, hl⟩ := List.forall_mem_cons.1 hout
    rw [Shape.putAll_cons, ih hl, Shape.put, getBytes_setBytes_other v _ hfit hx]

section
variable {h : Shape} (hrows : h.rows ≤ 16) (hcols : h.cols * h.esize ≤ 32)

include hcols in
theorem Shape.cell_le {j : Nat} (hj : j < h.cols) : j * h.esize + h.esize ≤ 32 := by
  have hrow : (j + 1) * h.esize ≤ h.cols * h.esize := Nat.mul_le_mul_right _ hj
  rw [Nat.succ_mul] at hrow
  omega

include hcols in
/-- Two elements of a shape share no byte. -/
theorem Shape.offset_disjoint {x y : Nat × Nat} (hx : x.2 < h.cols) (hy : y.2 < h.cols) (hne : x ≠ y) :
    h.offset x.1 x.2 + h.esize ≤ h.offset y.1 y.2 ∨ h.offset y.1 y.2 + h.esize ≤ h.offset x.1 x.2 := by
  have hcx := Shape.cell_le hcols hx
  have hcy := Shape.cell_le hcols hy
  simp only [Shape.offset]
  rcases Nat.lt_trichotomy x.1 y.1 with hrow | hrow | hrow
  · omega
  · have hcol : x.2 ≠ y.2 := fun hcol => hne (Prod.ext hrow hcol)
    rcases Nat.lt_or_gt_of_ne hcol with hlt | hlt
    · have := Nat.mul_le_mul_right h.esize (show x.2 + 1 ≤ y.2 from hlt)
      rw [Nat.succ_mul] at this
      omega
    · have := Nat.mul_le_mul_right h.esize (show y.2 + 1 ≤ x.2 from hlt)
      rw [Nat.succ_mul] at this
      omega
  · omega

include hcols in
/-- A byte outside the shape lies in no element of it. -/
theorem Shape.offset_outside {x : Nat × Nat} (hi : x.1 < h.rows) (hj : x.2 < h.cols) {k : Nat} (hk : h.rows ≤ k / 32 ∨ h.cols * h.esize ≤ k % 32) :
    k + 1 ≤ h.offset x.1 x.2 ∨ h.offset x.1 x.2 + h.esize ≤ k := by
  have hrow : (x.2 + 1) * h.esize ≤ h.cols * h.esize := Nat.mul_le_mul_right _ hj
  rw [Nat.succ_mul] at hrow
  simp only [Shape.offset]
  omega

variable {f : Nat × Nat → Nat} {l : List (Nat × Nat)} (hl : ∀ x ∈ l, x.1 < h.rows ∧ x.2 < h.cols)
include hrows hcols hl

theorem Shape.getBytes_putAll_notMem {i j : Nat} (hi : i < h.rows) (hj : j < h.cols) (hnot : (i, j) ∉ l) (v : VReg) :
    getBytes (h.putAll f l v) (h.offset i j) h.esize = getBytes v (h.offset i j) h.esize :=
  Shape.getBytes_putAll_other (Shape.offset_fits hrows hcols hi hj)
    (fun x hx => Shape.offset_disjoint hcols (x := (i, j)) hj (hl x hx).2 fun heq => hnot (heq ▸ hx)) v

theorem Shape.getBytes_putAll_mem {i j : Nat} (hmem : (i, j) ∈ l) (v : VReg) :
    getBytes (h.putAll f l v) (h.offset i j) h.esize = f (i, j) % 2 ^ (8 * h.esize) := by
  induction l generalizing v with
  | nil => cases hmem
  | cons x l ih =>
    obtain ⟨⟨hi, hj⟩, hrest⟩ := List.forall_mem_cons.1 hl
    rw [Shape.putAll_cons]
    by_cases hlater : (i, j) ∈ l
    · exact ih hrest hlater _
    · obtain rfl : (i, j) = x := (List.mem_cons.1 hmem).resolve_right hlater
      rw [Shape.getBytes_putAll_notMem hrows hcols hrest hi hj hlater, Shape.put, getBytes_setBytes_same v _ (Shape.offset_fits hrows hcols hi hj)]

omit hrows in
theorem Shape.getBytes_putAll_outside {k : Nat} (hk : k < 512) (hout : h.rows ≤ k / 32 ∨ h.cols * h.esize ≤ k % 32) (v : VReg) :
    getBytes (h.putAll f l v) k 1 = getBytes v k 1 :=
  Shape.getBytes_putAll_other (by omega) (fun x hx => Shape.offset_outside hcols (hl x hx).1 (hl x hx).2 hout) v

end

/-! ### The elements of a tile access (R129) -/

section
variable {s : State} {g : Guard} {d b p : BitVec 5} {t : BitVec 1}

/-- The elements of the shape that do not execute. -/
def State.skipped (s : State) (g : Guard) : List (Nat × Nat) := s.shape.elems.filter (fun x => !s.executes g (s.shape.offset x.1 x.2))

theorem executing_inside {x : Nat × Nat} (h : x ∈ executing s g) : x.1 < s.shape.rows ∧ x.2 < s.shape.cols :=
  (s.shape.mem_elems x.1 x.2).1 (List.mem_filter.1 h).1

theorem State.skipped_inside {x : Nat × Nat} (h : x ∈ s.skipped g) : x.1 < s.shape.rows ∧ x.2 < s.shape.cols :=
  (s.shape.mem_elems x.1 x.2).1 (List.mem_filter.1 h).1

theorem State.mem_skipped {i j : Nat} (hi : i < s.shape.rows) (hj : j < s.shape.cols) : (i, j) ∈ s.skipped g ↔ (i, j) ∉ executing s g := by
  rw [mem_executing hi hj, State.skipped, List.mem_filter, Bool.not_eq_true', Bool.not_eq_true]
  exact and_iff_right ((s.shape.mem_elems i j).2 ⟨hi, hj⟩)

/-- An executing element with its address. -/
def State.addressed (s : State) (b p : BitVec 5) (t : Bool) (x : Nat × Nat) : Nat × Nat × Word := (x.1, x.2, tileAddress s b p t x.1 x.2)

theorem State.tileElems_eq (t : Bool) : s.tileElems g (s.reg b) (s.reg p) t = (executing s g).map (s.addressed b p t) := by
  refine List.map_congr_left fun x _ => ?_
  simp only [State.addressed, tileAddress, BitVec.ofNat_mul]

/-- What an element that does not execute is left with (R93). -/
def State.skippedValue (s : State) (d : BitVec 5) (x : Nat × Nat) : Nat := if s.zeroFill then 0 else s.shape.get (s.vold d.toNat s.qwD.2) x.1 x.2

theorem State.tileBase_eq : s.tileBase g d = s.shape.putAll (s.skippedValue d) (s.skipped g) (if d.toNat < 24 then s.vold d.toNat s.qwD.2 else 0) := by
  rw [State.tileBase, Shape.putAll, State.skipped, List.foldl_filter]
  congr
  funext v x
  cases s.executes g (s.shape.offset x.1 x.2) <;> rfl

/-! ### The first element that faults (R125, R126) -/

theorem State.tileFault_global_first {n : Nat} {store : Bool} {pre post : List (Nat × Nat × Word)} {x : Nat × Nat × Word}
    (hpre : ∀ y ∈ pre, y.2.2.toNat % n = 0) (hx : x.2.2.toNat % n ≠ 0) : s.tileFault false n store (pre ++ x :: post) = some (5, x.2.2) := by
  induction pre with
  | nil => simp [State.tileFault, hx]
  | cons y pre ih =>
    obtain ⟨hy, hpre⟩ := List.forall_mem_cons.1 hpre
    simp [State.tileFault, hy, ih hpre]

theorem State.tileFault_local_first {n c : Nat} {v : Word} {store : Bool} {x : Nat × Nat × Word} {post : List (Nat × Nat × Word)}
    (hx : s.localTarget x.2.2.toNat n (store || s.ordHint.1 != 0) = .trap c v s) : s.tileFault true n store (x :: post) = some (c, v) := by
  simp [State.tileFault, hx]

theorem State.tileFault_local_none {n : Nat} {store : Bool} {l : List (Nat × Nat × Word)}
    (h : ∀ x ∈ l, ∃ a, s.localTarget x.2.2.toNat n (store || s.ordHint.1 != 0) = .ok a s) : s.tileFault true n store l = none := by
  induction l with
  | nil => rfl
  | cons x l ih =>
    obtain ⟨⟨a, ha⟩, hl⟩ := List.forall_mem_cons.1 h
    simp [State.tileFault, ha, ih hl]

/-! ### LDV of local memory (R129, R131) -/

/-- When every element can be read, the register read takes the bytes of each. -/
theorem State.loadTile_ok {h : Shape} {l : List (Nat × Nat)} {addr : Nat × Nat → Word} {bytes : Nat × Nat → List Byte} {k : Nat}
    (hread : ∀ x ∈ l, s.readAt true (addr x) h.esize = .ok (bytes x, k) s) (v : VReg) (pk : Nat) :
    ∃ pk', s.loadTile true h (l.map fun x => (x.1, x.2, addr x)) v pk = .ok (h.putAll (fun x => leNat (bytes x)) l v, pk') s := by
  induction l generalizing v pk with
  | nil => exact ⟨pk, rfl⟩
  | cons x l ih =>
    obtain ⟨hx, hl⟩ := List.forall_mem_cons.1 hread
    obtain ⟨pk', hrest⟩ := ih hl (h.put v x.1 x.2 (leNat (bytes x))) (if k = 2 then pk else k)
    refine ⟨pk', ?_⟩
    rw [List.map_cons, State.loadTile, hx, Acc.bind_ok, hrest, Shape.putAll_cons]

theorem State.acquirePart_plain (hplain : plainOrder s) (pk : Nat) : s.acquirePart pk = s := by
  rw [State.acquirePart, State.ordHint_plain hplain]
  rfl

/-- The bytes of a local element. -/
def State.localBytes (s : State) (va : Word) (n : Nat) : List Byte := (s.core (namedCore s va.toNat)).mem.readList (va.toNat % 2 ^ 17) n

section
variable (hsurveyor : s.cur.isSurveyor = false) (hplain : plainOrder s)
include hsurveyor hplain

theorem State.localTarget_element {va : Word} {n : Nat} {store : Bool} (hok : localOk s va.toNat) (halign : va.toNat % n = 0)
    (hown : store = true → namedCore s va.toNat = s.coreId) :
    s.localTarget va.toNat n (store || s.ordHint.1 != 0) = .ok (namedCore s va.toNat, va.toNat % 2 ^ 17) s := by
  rw [State.ordHint_plain hplain, bne_self_eq_false, Bool.or_false, State.localTarget_ok hsurveyor hok hown, if_neg fun hmis => hmis halign]

theorem State.readAt_local {va : Word} {n : Nat} (hn : 0 < n) (hok : localOk s va.toNat) (halign : va.toNat % n = 0)
    (hpoison : unpoisoned (s.core (namedCore s va.toNat)) (va.toNat % 2 ^ 17) n) : s.readAt true va n = .ok (s.localBytes va n, 3) s := by
  have hzero : s.ordHint.1 = 0 := State.ordHint_plain hplain
  have htarget := State.localTarget_element (store := false) hsurveyor hplain hok halign nofun
  rw [hzero] at htarget
  rw [State.readAt, hzero, if_pos rfl, State.loadLocal]
  simp only [bne_self_eq_false, Bool.or_false, beq_self_eq_true, Bool.not_true] at htarget ⊢
  rw [htarget, Acc.bind_ok, any_poison_eq_false hpoison hn]
  rfl

/-- The register that LDV leaves. -/
def State.loadedTile (s : State) (g : Guard) (d b p : BitVec 5) (t : Bool) : VReg :=
  s.shape.putAll (fun x => leNat (s.localBytes (tileAddress s b p t x.1 x.2) s.shape.esize)) (executing s g) (s.tileBase g d)

theorem exec_ldv_local (h : Issues (.ldv g d b p 1 t) s)
    (hall : ∀ x ∈ executing s g, let va := tileAddress s b p (decide (t = 1)) x.1 x.2
      localOk s va.toNat ∧ va.toNat % s.shape.esize = 0 ∧ unpoisoned (s.core (namedCore s va.toNat)) (va.toNat % 2 ^ 17) s.shape.esize) :
    exec (.ldv g d b p 1 t) s = done (s.vset d.toNat s.qwD.2 (s.loadedTile g d b p (decide (t = 1)))) := by
  have hfault : s.tileFault true s.shape.esize false ((executing s g).map (s.addressed b p (decide (t = 1)))) = none := by
    refine State.tileFault_local_none fun y hy => ?_
    obtain ⟨x, hx, rfl⟩ := List.mem_map.1 hy
    obtain ⟨hok, halign, -⟩ := hall x hx
    exact ⟨_, State.localTarget_element hsurveyor hplain hok halign nofun⟩
  obtain ⟨pk, hload⟩ := State.loadTile_ok (h := s.shape) (l := executing s g) (addr := fun x => tileAddress s b p (decide (t = 1)) x.1 x.2)
    (bytes := fun x => s.localBytes (tileAddress s b p (decide (t = 1)) x.1 x.2) s.shape.esize)
    (fun x hx => State.readAt_local hsurveyor hplain s.shape.esize_pos (hall x hx).1 (hall x hx).2.1 (hall x hx).2.2) (s.tileBase g d) 2
  rw [exec_ldv, execLdv, issue_of_issues h, State.tileElems_eq]
  simp only [beq_eq_decide, decide_true, hfault]
  rw [show s.addressed b p (decide (t = 1)) = fun x => (x.1, x.2, tileAddress s b p (decide (t = 1)) x.1 x.2) from rfl, hload, Acc.run_ok,
    State.acquirePart_plain hplain, ite_self]
  rfl

end

section
variable (hcols : s.shape.cols * s.shape.esize ≤ 32) {tr : Bool}
include hcols

theorem State.loadedTile_executing {x : Nat × Nat} (hx : x ∈ executing s g) :
    getBytes (s.loadedTile g d b p tr) (s.shape.offset x.1 x.2) s.shape.esize = leNat (s.localBytes (tileAddress s b p tr x.1 x.2) s.shape.esize) := by
  have hlt := leNat_lt (s.localBytes (tileAddress s b p tr x.1 x.2) s.shape.esize)
  rw [State.localBytes, Memory.length_readList, show (256 : Nat) = 2 ^ 8 from rfl, ← Nat.pow_mul] at hlt
  rw [State.loadedTile, Shape.getBytes_putAll_mem s.rows_le hcols (fun _ => executing_inside) hx]
  exact Nat.mod_eq_of_lt hlt

theorem State.loadedTile_skipped {i j : Nat} (hi : i < s.shape.rows) (hj : j < s.shape.cols) (hnot : (i, j) ∉ executing s g) :
    getBytes (s.loadedTile g d b p tr) (s.shape.offset i j) s.shape.esize =
      if s.zeroFill then 0 else getBytes (s.vold d.toNat s.qwD.2) (s.shape.offset i j) s.shape.esize := by
  rw [State.loadedTile, Shape.getBytes_putAll_notMem s.rows_le hcols (fun _ => executing_inside) hi hj hnot, State.tileBase_eq,
    Shape.getBytes_putAll_mem s.rows_le hcols (fun _ => State.skipped_inside) ((State.mem_skipped hi hj).2 hnot), State.skippedValue]
  split
  · exact Nat.zero_mod _
  · exact Nat.mod_eq_of_lt (getBytes_lt _ _ _)

theorem State.loadedTile_outside {k : Nat} (hk : k < 512) (hout : s.shape.rows ≤ k / 32 ∨ s.shape.cols * s.shape.esize ≤ k % 32) :
    getBytes (s.loadedTile g d b p tr) k 1 = if d.toNat < 24 then getBytes (s.vold d.toNat s.qwD.2) k 1 else 0 := by
  rw [State.loadedTile, Shape.getBytes_putAll_outside hcols (fun _ => executing_inside) hk hout, State.tileBase_eq,
    Shape.getBytes_putAll_outside hcols (fun _ => State.skipped_inside) hk hout]
  split
  · rfl
  · rw [getBytes, show (0 : VReg).toNat = 0 from BitVec.toNat_zero, Nat.zero_div, Nat.zero_mod]

end

/-! ### STV of local memory (R130) -/

/-- What an STV of local memory changes up to some element: own memory, and the count of the elements that are done. -/
structure State.StoredFrom (s u : State) : Prop where
  outside : u = { s with cores := u.cores, ctxs := u.ctxs }
  context : u.ctx = { s.ctx with keep := u.ctx.keep }
  contexts : ∀ c, c ≠ s.cur → u.ctxOf c = s.ctxOf c
  cores : ∀ c, c ≠ s.coreId → u.core c = s.core c
  frozen : (u.core s.coreId).frozen = (s.core s.coreId).frozen
  retired : (u.core s.coreId).retired = (s.core s.coreId).retired

theorem State.StoredFrom.refl (s : State) : s.StoredFrom s := ⟨rfl, rfl, fun _ _ => rfl, fun _ _ => rfl, rfl, rfl⟩

/-- One element stored, and counted. -/
def State.storeElem (s : State) (va : Word) (bs : List Byte) : State :=
  (s.putLocal s.coreId (va.toNat % 2 ^ 17) bs).upd (fun k => { k with keep := k.keep + 1 })

theorem State.core_storeElem_same (s : State) (va : Word) (bs : List Byte) :
    (s.storeElem va bs).core s.coreId = (s.putLocal s.coreId (va.toNat % 2 ^ 17) bs).core s.coreId := rfl

theorem State.storedFrom_storeElem (s : State) (va : Word) (bs : List Byte) : s.StoredFrom (s.storeElem va bs) where
  outside := rfl
  context := by rw [State.storeElem, State.ctx_upd]; rfl
  contexts c hc := State.ctxOf_upd_other _ _ hc
  cores c hc := s.core_putLocal_other _ _ hc
  frozen := by rw [State.core_storeElem_same, State.core_putLocal_same]
  retired := by rw [State.core_storeElem_same, State.core_putLocal_same]

namespace State.StoredFrom

theorem cur_eq {u : State} (h : s.StoredFrom u) : u.cur = s.cur := by rw [h.outside]

theorem coreId_eq {u : State} (h : s.StoredFrom u) : u.coreId = s.coreId := by rw [h.outside]; rfl

theorem inputArea_eq {u : State} (h : s.StoredFrom u) (off n : Nat) : u.inputArea off n = s.inputArea off n := by rw [h.outside]; rfl

theorem hints_eq {u : State} (h : s.StoredFrom u) : u.ctx.hints = s.ctx.hints := by rw [h.context]

theorem namedCore_eq {u : State} (h : s.StoredFrom u) (la : Nat) : namedCore u la = namedCore s la := by rw [namedCore, namedCore, h.coreId_eq]

theorem localOk_own {u : State} (h : s.StoredFrom u) {la : Nat} (hok : localOk s la) (hown : namedCore s la = s.coreId) : localOk u la := by
  obtain ⟨hla, hoff, hfrozen, hretired⟩ := hok
  rw [hown] at hfrozen hretired
  rw [localOk, h.namedCore_eq, hown, h.frozen, h.retired]
  exact ⟨hla, hoff, hfrozen, hretired⟩

theorem trans {u w : State} (h : s.StoredFrom u) (h' : u.StoredFrom w) : s.StoredFrom w where
  outside := by rw [h'.outside, h.outside]
  context := by rw [h'.context, h.context]
  contexts c hc := (h'.contexts c (by rwa [h.cur_eq])).trans (h.contexts c hc)
  cores c hc := (h'.cores c (by rwa [h.coreId_eq])).trans (h.cores c hc)
  frozen := by have := h'.frozen; rw [h.coreId_eq] at this; exact this.trans h.frozen
  retired := by have := h'.retired; rw [h.coreId_eq] at this; exact this.trans h.retired

/-- The count of the elements that are done is progress of the group alone: a completion after the stores is one on the state with the new memory. -/
theorem completes {u : State} (h : s.StoredFrom u) {o : Out} (ho : Completes u o) : Completes { s with cores := u.cores } o := by
  have hpc : u.ctx.pc = s.ctx.pc := by rw [h.context]
  have hheld : u.ctx.held = s.ctx.held := by rw [h.context]; rfl
  have hrepeats : u.repeats = s.repeats := by rw [State.repeats, h.context]; rfl
  exact completesAt_of_held (r := { s with cores := u.cores }) (hpc ▸ ho) h.outside hheld h.contexts hrepeats hpc

end State.StoredFrom

/-- A position with a local address that this core may store an element to (R125, R128). -/
def State.storable (s : State) (n : Nat) (va : Word) : Prop :=
  localOk s va.toNat ∧ namedCore s va.toNat = s.coreId ∧ va.toNat % n = 0 ∧ s.inputArea (va.toNat % 2 ^ 17) n = false

theorem State.StoredFrom.storable {u : State} (h : s.StoredFrom u) {n : Nat} {va : Word} (hs : s.storable n va) : u.storable n va := by
  obtain ⟨hok, hown, halign, harea⟩ := hs
  exact ⟨h.localOk_own hok hown, by rw [h.namedCore_eq, h.coreId_eq, hown], halign, by rw [h.inputArea_eq, harea]⟩

theorem State.writeAt_local (hsurveyor : s.cur.isSurveyor = false) (hplain : plainOrder s) {va : Word} {bs : List Byte} (hs : s.storable bs.length va) :
    s.writeAt true va bs = .ok () (s.putLocal s.coreId (va.toNat % 2 ^ 17) bs) := by
  obtain ⟨hok, hown, halign, harea⟩ := hs
  have htarget := State.localTarget_ok (n := bs.length) (other := true) hsurveyor hok fun _ => hown
  rw [if_neg fun hmis => hmis halign, hown] at htarget
  rw [State.writeAt, State.ordHint_plain hplain]
  simp only [if_true, if_neg (show ¬ (0 : Nat) = 2 by decide), Acc.bind_ok, State.storeLocal, htarget, harea]
  rfl

/-- Stores to storable elements all go through, and leave the bytes of each in own memory, in the order of the list. -/
theorem State.storeElems_ok {h : Shape} {v : VReg} {l : List (Nat × Nat)} {addr : Nat × Nat → Word} (s : State) (hsurveyor : s.cur.isSurveyor = false) (hplain : plainOrder s)
    (hall : ∀ x ∈ l, s.storable h.esize (addr x)) :
    ∃ u, s.storeElems true h v (l.map fun x => (x.1, x.2, addr x)) = .ok () u ∧ s.StoredFrom u ∧
      (u.core s.coreId).mem = l.foldl (fun m x => m.writeList ((addr x).toNat % 2 ^ 17) (leBytes h.esize (h.get v x.1 x.2))) (s.core s.coreId).mem := by
  induction l generalizing s with
  | nil => exact ⟨s, rfl, .refl s, rfl⟩
  | cons x l ih =>
    obtain ⟨hx, hl⟩ := List.forall_mem_cons.1 hall
    have hstep := s.storedFrom_storeElem (addr x) (leBytes h.esize (h.get v x.1 x.2))
    have hwrite := State.writeAt_local hsurveyor hplain (bs := leBytes h.esize (h.get v x.1 x.2)) (by rwa [length_leBytes])
    obtain ⟨u, hu, hfrom, hmem⟩ := ih (s.storeElem (addr x) (leBytes h.esize (h.get v x.1 x.2))) (by rwa [hstep.cur_eq])
      (by rwa [plainOrder, hstep.hints_eq]) fun y hy => hstep.storable (hl y hy)
    refine ⟨u, ?_, hstep.trans hfrom, ?_⟩
    · rw [List.map_cons, State.storeElems, hwrite, Acc.bind_ok]
      exact hu
    · rw [hstep.coreId_eq, State.core_storeElem_same, State.core_putLocal_same] at hmem
      exact hmem

theorem exec_stv_local (hsurveyor : s.cur.isSurveyor = false) (hplain : plainOrder s) (h : Issues (.stv g d b p 1) s) (hkeep : s.ctx.keep = 0)
    (hall : ∀ x ∈ executing s g, s.storable s.shape.esize (tileAddress s b p false x.1 x.2)) :
    ∃ u, exec (.stv g d b p 1) s = done u ∧ s.StoredFrom u ∧ (u.core s.coreId).mem = (executing s g).foldl (fun m x =>
      m.writeList ((tileAddress s b p false x.1 x.2).toNat % 2 ^ 17) (leBytes s.shape.esize (s.shape.get (s.vsrc d.toNat s.qwD.2) x.1 x.2))) (s.core s.coreId).mem := by
  have hfault : s.tileFault true s.shape.esize true ((executing s g).map (s.addressed b p false)) = none := by
    refine State.tileFault_local_none fun y hy => ?_
    obtain ⟨x, hx, rfl⟩ := List.mem_map.1 hy
    obtain ⟨hok, hown, halign, -⟩ := hall x hx
    exact ⟨_, State.localTarget_element hsurveyor hplain hok halign fun _ => hown⟩
  obtain ⟨u, hu, hfrom, hmem⟩ := s.storeElems_ok (v := s.vsrc d.toNat s.qwD.2) hsurveyor hplain hall
  refine ⟨u, ?_, hfrom, hmem⟩
  rw [exec_stv, execStv, issue_of_issues h, State.tileElems_eq]
  simp only [beq_self_eq_true, hfault, State.storeTile, Bool.true_or, if_true, hkeep]
  exact congrArg (fun a : Acc Unit => a.run fun _ s => done s) hu

/-! ### An element that faults (R125, R126) -/

theorem exec_ldv_out_of_range (hsurveyor : s.cur.isSurveyor = false) (h : Issues (.ldv g d b p 1 t) s) {x : Nat × Nat}
    {rest : List (Nat × Nat)} (hfirst : executing s g = x :: rest) (hrange : let va := (tileAddress s b p (decide (t = 1)) x.1 x.2).toNat
      2 ^ 20 ≤ va ∨ 0x18000 ≤ va % 2 ^ 17) : exec (.ldv g d b p 1 t) s = raise 8 (tileAddress s b p (decide (t = 1)) x.1 x.2) s := by
  have htarget := State.localTarget_refused (n := s.shape.esize) (other := false || s.ordHint.1 != 0) hsurveyor (hrange.imp_right .inl)
  have hfault := State.tileFault_local_first (x := s.addressed b p (decide (t = 1)) x) (post := rest.map (s.addressed b p (decide (t = 1)))) htarget
  rw [exec_ldv, execLdv, issue_of_issues h, State.tileElems_eq, hfirst, List.map_cons]
  simp only [beq_eq_decide, decide_true, hfault, BitVec.ofNat_toNat, BitVec.setWidth_eq]

theorem exec_ldv_misaligned (h : Issues (.ldv g d b p 0 t) s) {x : Nat × Nat} {pre post : List (Nat × Nat)} (hparts : executing s g = pre ++ x :: post)
    (hpre : ∀ y ∈ pre, (tileAddress s b p (decide (t = 1)) y.1 y.2).toNat % s.shape.esize = 0)
    (hx : (tileAddress s b p (decide (t = 1)) x.1 x.2).toNat % s.shape.esize ≠ 0) :
    exec (.ldv g d b p 0 t) s = raise 5 (tileAddress s b p (decide (t = 1)) x.1 x.2) s := by
  have hfault := State.tileFault_global_first (s := s) (store := false) (pre := pre.map (s.addressed b p (decide (t = 1)))) (x := s.addressed b p (decide (t = 1)) x)
    (post := post.map (s.addressed b p (decide (t = 1)))) (List.forall_mem_map.2 hpre) hx
  rw [exec_ldv, execLdv, issue_of_issues h, State.tileElems_eq, hparts, List.map_append, List.map_cons]
  simp only [beq_eq_decide, show decide ((0 : BitVec 1) = 1) = false from rfl, hfault]
  rfl

theorem exec_stv_misaligned (h : Issues (.stv g d b p 0) s) {x : Nat × Nat} {pre post : List (Nat × Nat)} (hparts : executing s g = pre ++ x :: post)
    (hpre : ∀ y ∈ pre, (tileAddress s b p false y.1 y.2).toNat % s.shape.esize = 0) (hx : (tileAddress s b p false x.1 x.2).toNat % s.shape.esize ≠ 0) :
    exec (.stv g d b p 0) s = raise 5 (tileAddress s b p false x.1 x.2) s := by
  have hfault := State.tileFault_global_first (s := s) (store := true) (pre := pre.map (s.addressed b p false)) (x := s.addressed b p false x)
    (post := post.map (s.addressed b p false)) (List.forall_mem_map.2 hpre) hx
  rw [exec_stv, execStv, issue_of_issues h, State.tileElems_eq, hparts, List.map_append, List.map_cons]
  simp only [beq_eq_decide, show decide ((0 : BitVec 1) = 1) = false from rfl, hfault]
  rfl

end

end Sys2Proof.Machine

namespace Sys2Proof.Proofs
open Sys2Proof.Machine Sys2Proof.Claims

/-- Settles O20, from the bytes of the register that LDV leaves, the memory that the stores of STV leave one after the other, and the first element that faults. -/
theorem tilesMoveTheirElements : Obligations.TilesMoveTheirElements := by
  intro s g d b p t hsurveyor hplain hcols e addr row old
  refine ⟨fun h hall => ⟨s.loadedTile g d b p (decide (t = 1)), ?_, fun x hx => State.loadedTile_executing hcols hx,
      fun i j hi hj hnot => State.loadedTile_skipped hcols hi hj hnot, fun k hk hout => State.loadedTile_outside hcols hk hout⟩,
    fun h hkeep hall => ?_, fun x rest hfirst hrange h => exec_ldv_out_of_range hsurveyor h hfirst hrange,
    fun pre x post hparts hpre hx h => exec_ldv_misaligned h hparts hpre hx, fun pre x post hparts hpre hx h => exec_stv_misaligned h hparts hpre hx⟩
  · exact exec_ldv_local hsurveyor hplain h hall ▸ completes_done _
  · obtain ⟨u, hexec, hfrom, hmem⟩ := exec_stv_local hsurveyor hplain h hkeep hall
    exact ⟨{ s with cores := u.cores }, hfrom.completes (hexec ▸ completes_done u), rfl, hfrom.cores, hmem⟩

end Sys2Proof.Proofs

/-! # Phasers (O41) -/

namespace Sys2Proof.Machine
open Sys2Proof.Claims

/-! ### Changes that neither read nor write a context

A phaser and a record of an event stand outside the contexts: the same change applies to a state whose side has come further in its word. -/

/-- A change of a state that reads no context and writes none. -/
structure Offstage (f : State → State) : Prop where
  blind : ∀ (s : State) ctxs, f { s with ctxs := ctxs } = { f s with ctxs := ctxs }
  cur : ∀ s, (f s).cur = s.cur

theorem Offstage.ctxs {f : State → State} (h : Offstage f) (s : State) : (f s).ctxs = s.ctxs := by
  rw [show f s = { f s with ctxs := s.ctxs } from h.blind s s.ctxs]

theorem Offstage.ctx {f : State → State} (h : Offstage f) (s : State) : (f s).ctx = s.ctx := by
  rw [State.ctx, State.ctx, State.ctxOf, State.ctxOf, h.ctxs, h.cur]

theorem Offstage.comp {f g : State → State} (hg : Offstage g) (hf : Offstage f) : Offstage fun s => g (f s) where
  blind s ctxs := by rw [hf.blind, hg.blind]
  cur s := by rw [hg.cur, hf.cur]

theorem Offstage.refl : Offstage fun s => s := ⟨fun _ _ => rfl, fun _ => rfl⟩

/-- From one state to another every phaser, and what an id is checked against, stay as they are. -/
def State.keepsPhasers (s t : State) : Prop :=
  t.treePhasers = s.treePhasers ∧ t.launches = s.launches ∧ (∀ n, (t.sheet n).phasers = (s.sheet n).phasers) ∧
    ∀ x, (t.thread x).launch = (s.thread x).launch ∧ (t.thread x).member = (s.thread x).member

theorem State.keepsPhasers_refl (s : State) : s.keepsPhasers s := ⟨rfl, rfl, fun _ => rfl, fun _ => ⟨rfl, rfl⟩⟩

theorem State.keepsPhasers.trans {r s t : State} (h : r.keepsPhasers s) (h' : s.keepsPhasers t) : r.keepsPhasers t := by
  obtain ⟨htree, hlaunches, hsheets, hthreads⟩ := h
  obtain ⟨htree', hlaunches', hsheets', hthreads'⟩ := h'
  exact ⟨htree'.trans htree, hlaunches'.trans hlaunches, fun n => (hsheets' n).trans (hsheets n),
    fun x => ⟨(hthreads' x).1.trans (hthreads x).1, (hthreads' x).2.trans (hthreads x).2⟩⟩

theorem State.keepsPhasers_mapSheet (s : State) (n : Nat) {f : Sheet → Sheet} (hf : ∀ h, (f h).phasers = h.phasers) : s.keepsPhasers (s.mapSheet n f) := by
  refine ⟨rfl, rfl, fun m => ?_, fun _ => ⟨rfl, rfl⟩⟩
  rw [State.sheet_mapSheet]
  split
  · next e => rw [hf, e]
  · rfl

theorem State.keepsPhasers_setThread (s : State) (n : Nat) {t : Thread} (hlaunch : t.launch = (s.thread n).launch) (hmember : t.member = (s.thread n).member) :
    s.keepsPhasers (s.setThread n t) := by
  refine ⟨rfl, rfl, fun _ => rfl, fun m => ?_⟩
  rw [State.thread_setThread]
  split
  · next e => rw [e]; exact ⟨hlaunch, hmember⟩
  · exact ⟨rfl, rfl⟩

/-- A change outside the contexts that keeps the phasers. -/
structure RecordEffect (f : State → State) : Prop extends Offstage f where
  keeps : ∀ s : State, s.keepsPhasers (f s)

/-- A state in which the recording of a thread is given up, before the record of it is written (R378). -/
def State.unrecorded (th code : Nat) (s : State) : State :=
  let it := s.item (s.thread th).itemSheet (s.thread th).item
  let key := (it.entryC, it.entryA, it.legend)
  (s.setThread th { s.thread th with recd := none, plate := 2 }).mapSheet (sheetOfThread th) (fun h => { h with
    plates := h.plates.filter (fun p => !(p.st == 1 && p.owner == th)),
    plateTypes := h.plateTypes.set key { h.plateTypes.get { reason := 0, norec := false } key with reason := code } })

/-- The record of a recording that is given up (R386). -/
def State.abandonEvent (th code : Nat) (s : State) : EventRec :=
  { cause := 0x12, flags := recFlags true false (s.thread th).post false false, source := addrOf (.task th .c), obj := BitVec.ofNat 64 code, epc := 0,
    cycle := s.cycle.toNat % 2 ^ 32, freeze := none }

theorem State.abandonRec_eq (th code : Nat) (s : State) :
    s.abandonRec th code = if (s.thread th).recd.isSome then (s.unrecorded th code).logEvent (sheetOfThread th) (s.abandonEvent th code) else s := by
  unfold State.abandonRec
  cases (s.thread th).recd <;> rfl

/-- Whether a plate was made from a page (R395). -/
def Plate.madeFrom (pg : Nat) (p : Plate) : Bool := p.page0 == pg || (p.page1 != 0 && p.page1 == pg)

/-- The step of an invalidation for one sheet: its recordings from the page are abandoned, and then its plates lose their validity (R395, R396). -/
def State.invalidateOn (pg n : Nat) (s : State) : State :=
  (fun s : State => if (s.sheet n).plates.any (fun p => p.madeFrom pg && p.st == 2) then
      s.mapSheet n (fun h => { h with plates := (h.plates.map (fun p => if p.madeFrom pg && p.st == 2 then { p with st := 3 } else p)).filter (fun p => !(p.st == 3 && p.pinned == 0)) })
    else s)
  (((s.sheet n).plates.filter (fun p => p.madeFrom pg && p.st == 1)).foldl (fun s p => s.abandonRec p.owner 14) s)

theorem State.invalidatePlates_eq (pa : Nat) (s : State) : s.invalidatePlates pa = s.sheets.foldl (fun s e => s.invalidateOn (pa / 65536) e.1) s := rfl

namespace RecordEffect

theorem refl : RecordEffect fun s => s := ⟨.refl, State.keepsPhasers_refl⟩

theorem comp {f g : State → State} (hg : RecordEffect g) (hf : RecordEffect f) : RecordEffect fun s => g (f s) :=
  ⟨hg.toOffstage.comp hf.toOffstage, fun s => (hf.keeps s).trans (hg.keeps _)⟩

/-- A change with an argument that is read outside the contexts. -/
theorem dep {α : Type} {a : State → α} {g : α → State → State} (ha : ∀ (s : State) ctxs, a { s with ctxs := ctxs } = a s) (hg : ∀ x, RecordEffect (g x)) :
    RecordEffect fun s => g (a s) s :=
  ⟨⟨fun s ctxs => by rw [ha, (hg _).blind], fun s => (hg _).cur s⟩, fun s => (hg _).keeps s⟩

theorem ite {c : State → Prop} [DecidablePred c] {f g : State → State} (hc : ∀ (s : State) ctxs, c { s with ctxs := ctxs } = c s) (hf : RecordEffect f)
    (hg : RecordEffect g) : RecordEffect fun s => if c s then f s else g s := by
  refine ⟨⟨fun s ctxs => ?_, fun s => ?_⟩, fun s => ?_⟩
  · by_cases h : c s
    · rw [if_pos h, if_pos (by rwa [hc]), hf.blind]
    · rw [if_neg h, if_neg (by rwa [hc]), hg.blind]
  · split
    · exact hf.cur s
    · exact hg.cur s
  · split
    · exact hf.keeps s
    · exact hg.keeps s

theorem foldl {α : Type} {f : State → α → State} (hf : ∀ a, RecordEffect fun s => f s a) (l : List α) : RecordEffect fun s => l.foldl f s := by
  induction l with
  | nil => exact refl
  | cons a l ih => exact ih.comp (hf a)

theorem mapSheet (n : Nat) {f : Sheet → Sheet} (hf : ∀ h, (f h).phasers = h.phasers) : RecordEffect (State.mapSheet n f) :=
  ⟨⟨fun _ _ => rfl, fun _ => rfl⟩, fun s => s.keepsPhasers_mapSheet n hf⟩

theorem setPage (pa : Nat) (r : PageRec) : RecordEffect (State.setPage pa r) := mapSheet _ (f := fun h => { h with pages := h.pages.set (pa / 65536) r }) fun _ => rfl

theorem storeByte (pa : Nat) (b : Byte) : RecordEffect (State.storeByte pa b) := by
  refine ⟨⟨fun s ctxs => ?_, fun s => ?_⟩, fun s => ?_⟩
  · have hregion : State.region { s with memPoison := s.memPoison.filter (· ≠ pa), ctxs := ctxs } pa = State.region { s with memPoison := s.memPoison.filter (· ≠ pa) } pa := rfl
    have hwindow : State.windowOf { s with memPoison := s.memPoison.filter (· ≠ pa), ctxs := ctxs } pa = State.windowOf { s with memPoison := s.memPoison.filter (· ≠ pa) } pa := rfl
    unfold State.storeByte
    dsimp only
    rw [hregion, hwindow]
    split <;> rfl
  · unfold State.storeByte
    dsimp only
    split <;> rfl
  · unfold State.storeByte
    dsimp only
    split <;> exact s.keepsPhasers_refl

theorem storeLine (line : Nat) (mask : LineMask) (data : LineData) : RecordEffect (State.storeLine line mask data) :=
  foldl (fun k => ite (c := fun _ => mask.getLsbD k = true) (fun _ _ => rfl) (storeByte _ _) refl) _

theorem dropReplicas (pa : Nat) (mask : BitVec 32) : RecordEffect (State.dropReplicas pa mask) :=
  foldl (fun r => ite (c := fun _ => mask.getLsbD r = true) (fun _ _ => rfl) (mapSheet _ fun _ => by rfl) refl) _

theorem pageWritten (pa : Nat) : RecordEffect (State.pageWritten pa) :=
  ite (c := fun s => s.region pa = .hbm) (fun _ _ => rfl)
    (dep (a := fun s => s.page pa) (g := fun r s => if r.repl then (s.dropReplicas pa r.mask).setPage pa { r with repl := false, hold := true, wseen := true, mask := 0 }
      else s.setPage pa { r with wseen := true }) (fun _ _ => rfl)
      fun r => ite (c := fun _ => r.repl = true) (fun _ _ => rfl) ((setPage _ _).comp (dropReplicas _ _)) (setPage _ _)) refl

theorem countUnbacked (pa : Nat) : RecordEffect (State.countUnbacked pa) :=
  ite (c := fun s => s.region pa = .unbacked ∧ paModule pa = 0 ∧ !paCfg pa) (fun _ _ => rfl) (mapSheet _ fun _ => by rfl) refl

theorem setTag (line : Nat) (x : BitVec 32) : RecordEffect (State.setTag line x) := ⟨⟨fun _ _ => rfl, fun _ => rfl⟩, fun s => s.keepsPhasers_refl⟩

theorem writeRecord (sheet : Nat) (e : EventRec) : RecordEffect (State.writeRecord sheet e) :=
  dep (a := fun s => (s.sheet sheet, s.tagOf ((s.sheet sheet).slotAt / 256 * 256)))
    (g := fun x s => State.mapSheet sheet (fun h => { h with evhead := h.evhead + 1, recordNo := h.recordNo + 1 })
      (if s.backed (x.1.slotAt / 256 * 256) then
        ((s.storeLine (x.1.slotAt / 256 * 256) (lineMask (x.1.slotAt % 256) 32) (BitVec.ofNat 2048 (leNat (e.bytes x.1.recordNo) * 2 ^ (8 * (x.1.slotAt % 256))))).setTag
          (x.1.slotAt / 256 * 256) (x.2 + 1)).pageWritten (x.1.slotAt / 256 * 256)
       else s.countUnbacked (x.1.slotAt / 256 * 256)))
    (fun _ _ => rfl) fun x => (mapSheet _ fun _ => by rfl).comp
      (ite (c := fun s => s.backed (x.1.slotAt / 256 * 256) = true) (fun _ _ => rfl) ((pageWritten _).comp ((setTag _ _).comp (storeLine _ _ _))) (countUnbacked _))

theorem logEvent (sheet : Nat) (e : EventRec) : RecordEffect (State.logEvent sheet e) :=
  ite (c := fun s => (s.sheet sheet).ringFull ∧ (e.cause = 0x12 ∨ e.cause = 0x16)) (fun _ _ => rfl) (mapSheet _ fun _ => by rfl)
    (ite (c := fun s => s.ringBlocked sheet = true) (fun _ _ => rfl) (mapSheet _ fun _ => by rfl) (writeRecord _ _))

theorem abandonRec (th code : Nat) : RecordEffect (State.abandonRec th code) := by
  have hunrecorded : RecordEffect (State.unrecorded th code) := by
    refine ⟨⟨fun _ _ => rfl, fun _ => rfl⟩, fun s => (s.keepsPhasers_setThread th (t := { s.thread th with recd := none, plate := 2 }) rfl rfl).trans ?_⟩
    exact State.keepsPhasers_mapSheet _ _ fun _ => by rfl
  rw [show State.abandonRec th code = _ from funext (State.abandonRec_eq th code)]
  exact ite (c := fun s => (s.thread th).recd.isSome = true) (fun _ _ => rfl)
    (dep (a := State.abandonEvent th code) (g := fun e s => (s.unrecorded th code).logEvent (sheetOfThread th) e) (fun _ _ => rfl)
      fun e => (logEvent _ e).comp hunrecorded) refl

theorem invalidateOn (pg n : Nat) : RecordEffect (State.invalidateOn pg n) :=
  (ite (c := fun s => (s.sheet n).plates.any (fun p => p.madeFrom pg && p.st == 2) = true) (fun _ _ => rfl) (mapSheet _ fun _ => by rfl) refl).comp
    (dep (a := fun s => (s.sheet n).plates.filter (fun p => p.madeFrom pg && p.st == 1)) (g := fun l s => l.foldl (fun s p => s.abandonRec p.owner 14) s) (fun _ _ => rfl)
      fun l => foldl (fun p => abandonRec p.owner 14) l)

theorem invalidatePlates (pa : Nat) : RecordEffect (State.invalidatePlates pa) := by
  rw [show State.invalidatePlates pa = _ from funext (State.invalidatePlates_eq pa)]
  exact dep (a := fun s => s.sheets) (g := fun l s => l.foldl (fun s e => s.invalidateOn (pa / 65536) e.1) s) (fun _ _ => rfl)
    fun l => foldl (fun e => invalidateOn (pa / 65536) e.1) l

theorem record (sheet : Nat) (e : EventRec) : RecordEffect (State.record sheet e) := by
  have hlater (h : Sheet) : RecordEffect fun t => if (t.sheet sheet).evhead = h.evhead then t else t.invalidatePlates h.slotAt :=
    ite (c := fun t => (t.sheet sheet).evhead = h.evhead) (fun _ _ => rfl) refl (invalidatePlates _)
  exact dep (a := fun s => s.sheet sheet) (g := fun h s => if ((s.logEvent sheet e).sheet sheet).evhead = h.evhead then s.logEvent sheet e
      else (s.logEvent sheet e).invalidatePlates h.slotAt) (fun _ _ => rfl) fun h => (hlater h).comp (logEvent sheet e)

theorem recordOf (sheet cause flags : Nat) (source obj : Word) : RecordEffect (State.recordOf sheet cause flags source obj) :=
  dep (a := fun s => s.eventOf cause flags source obj) (g := fun e s => s.record sheet e) (fun _ _ => rfl) (record sheet)

end RecordEffect
end Sys2Proof.Machine

namespace Sys2Proof.Machine
open Sys2Proof.Claims

/-! ### The phases of a phaser (R328, R351, R352) -/

theorem Phaser.mem_expected (p : Phaser) (ph : BitVec 32) (m : Nat) :
    m ∈ p.expected ph ↔ ∃ e ∈ p.members, e.1 = m ∧ e.2.1 % 2 = 1 ∧ (ph - e.2.2).toNat < 2 ^ 31 := by
  simp only [Phaser.expected, List.mem_map, List.mem_filter, signals, reached, Bool.and_eq_true, beq_iff_eq, decide_eq_true_eq]
  exact exists_congr fun e => ⟨fun ⟨⟨he, hs, hr⟩, hm⟩ => ⟨he, hm, hs, hr⟩, fun ⟨he, hm, hs, hr⟩ => ⟨⟨he, hs, hr⟩, hm⟩⟩

theorem Phaser.mem_expected_now (p : Phaser) (m : Nat) : m ∈ p.expected p.phase ↔ expectedNow p m := p.mem_expected p.phase m

theorem Phaser.isEmpty_expected (p : Phaser) : (p.expected p.phase).isEmpty = true ↔ ∀ m, ¬expectedNow p m := by
  rw [List.isEmpty_iff, List.eq_nil_iff_forall_not_mem]
  exact forall_congr' fun m => not_congr (p.mem_expected_now m)

theorem Phaser.allIn_iff (p : Phaser) : p.allIn = true ↔ allSignalled p := by
  simp only [Phaser.allIn, List.all_eq_true, List.contains_iff_mem, Phaser.mem_expected_now, allSignalled]

theorem Phaser.complete_iff (p : Phaser) : p.complete = true ↔ allSignalled p ∧ (p.counting = true → p.deliveries.get 0 p.phase = p.sums.get 0 p.phase) := by
  rw [Phaser.complete, Bool.and_eq_true, p.allIn_iff, Bool.or_eq_true, beq_iff_eq, Phaser.delivered, Phaser.sum]
  cases p.counting <;> simp

theorem Phaser.next_eq (p : Phaser) : p.next = nextPhase p := by simp only [Phaser.next, nextPhase, reached, decide_eq_true_eq]

theorem Phaser.settle_of_settlesIn {n : Nat} {p q : Phaser} (h : settlesIn n p q) : p.settle n = q := by
  induction n generalizing p with
  | zero => exact h.elim
  | succ n ih =>
    obtain ⟨hadvance, hbreak, hstand⟩ := h
    rw [Phaser.settle]
    by_cases hcomplete : p.complete = true
    · obtain ⟨hlast, hmore⟩ := hadvance (p.complete_iff.1 hcomplete)
      rw [if_pos hcomplete, Phaser.next_eq]
      by_cases hempty : ∀ m, ¬expectedNow (nextPhase p) m
      · rw [if_pos ((nextPhase p).isEmpty_expected.2 hempty), hlast hempty]
      · rw [if_neg (mt (nextPhase p).isEmpty_expected.1 hempty), ih (hmore (not_forall_not.1 hempty))]
    · rw [if_neg hcomplete]
      rw [p.complete_iff] at hcomplete
      have hover_iff : (p.counting && p.allIn && decide (p.sum p.phase < p.delivered p.phase)) = true ↔
          allSignalled p ∧ p.counting = true ∧ p.sum p.phase < p.delivered p.phase := by
        rw [Bool.and_eq_true, Bool.and_eq_true, p.allIn_iff, decide_eq_true_eq, and_comm (a := p.counting = true), and_assoc]
      by_cases hover : allSignalled p ∧ p.counting = true ∧ p.sum p.phase < p.delivered p.phase
      · rw [if_pos (hover_iff.2 hover), hbreak hover]
      · rw [if_neg (mt hover_iff.1 hover)]
        refine (hstand fun ⟨hall, hle⟩ => hcomplete ⟨hall, fun hcounting => le_antisymm ?_ (hle hcounting)⟩).symm
        exact not_lt.1 fun hlt => hover ⟨hall, hcounting, hlt⟩

/-- The number of the members that the present phase still waits for. -/
theorem Phaser.length_due (p : Phaser) : ((p.expected p.phase).filter (fun m => !p.signalled.contains (m, p.phase))).length =
    (p.members.filter (fun x => decide (x.2.1 % 2 = 1 ∧ (p.phase - x.2.2).toNat < 2 ^ 31 ∧ (x.1, p.phase) ∉ p.signalled))).length := by
  rw [Phaser.expected, List.filter_map, List.length_map, List.filter_filter]
  refine congrArg (fun f => (p.members.filter f).length) (funext fun x => Bool.eq_iff_iff.2 ?_)
  simp only [Function.comp_apply, signals, reached, Bool.and_eq_true, Bool.not_eq_true', beq_iff_eq, decide_eq_true_eq, Bool.eq_false_iff, ne_eq, List.contains_iff_mem]
  tauto

/-- From one phaser to another what an id is checked against, the scope and the modes of the members stay as they are. -/
def Phaser.sameClass (p q : Phaser) : Prop :=
  q.live = p.live ∧ q.gen = p.gen ∧ q.launch = p.launch ∧ q.scope = p.scope ∧ ∀ m, (q.members.get? m).map Prod.fst = (p.members.get? m).map Prod.fst

theorem Map.get?_map_entries {K V W : Type} [DecidableEq K] (f : K × V → K × V) (g : V → W) (hk : ∀ p, (f p).1 = p.1) (hv : ∀ p, g (f p).2 = g p.2) (m : Map K V) (k : K) :
    (Map.get? (m.map f) k).map g = (m.get? k).map g := by
  induction m with
  | nil => rfl
  | cons p rest ih => by_cases e : p.1 = k <;> simp [Map.get?, e, hk, hv, ih]

theorem Phaser.sameClass_next (p : Phaser) : p.sameClass p.next :=
  ⟨rfl, rfl, rfl, rfl, fun m => Map.get?_map_entries (fun m => (m.1, (m.2.1, if reached p.phase m.2.2 then p.phase + 1 else m.2.2))) Prod.fst (fun _ => rfl) (fun _ => rfl) p.members m⟩

theorem Phaser.sameClass_settle (n : Nat) (p : Phaser) : p.sameClass (p.settle n) := by
  induction n generalizing p with
  | zero => exact ⟨rfl, rfl, rfl, rfl, fun _ => rfl⟩
  | succ n ih =>
    rw [Phaser.settle]
    dsimp only
    split_ifs
    · exact p.sameClass_next
    · obtain ⟨hlive, hgen, hlaunch, hscope, hmembers⟩ := p.sameClass_next
      obtain ⟨hlive', hgen', hlaunch', hscope', hmembers'⟩ := ih p.next
      exact ⟨hlive'.trans hlive, hgen'.trans hgen, hlaunch'.trans hlaunch, hscope'.trans hscope, fun m => (hmembers' m).trans (hmembers m)⟩
    · exact ⟨rfl, rfl, rfl, rfl, fun _ => rfl⟩
    · exact ⟨rfl, rfl, rfl, rfl, fun _ => rfl⟩

/-- A member may wait where it is registered to. -/
theorem Phaser.mayWait_iff (p : Phaser) (m : Nat) : p.mayWait m = true ↔ ∃ e, p.members.get? m = some e ∧ e.1 / 2 % 2 = 1 := by
  unfold Phaser.mayWait
  cases p.members.get? m <;> simp [waits]

theorem Phaser.mayWait_eq_false_iff (p : Phaser) (m : Nat) : p.mayWait m = false ↔ ∀ e, p.members.get? m = some e → e.1 / 2 % 2 = 0 := by
  unfold Phaser.mayWait
  cases p.members.get? m <;> simp [waits]

theorem Phaser.sameClass.mayWait_eq {p q : Phaser} (h : p.sameClass q) (m : Nat) : q.mayWait m = p.mayWait m := by
  obtain ⟨-, -, -, -, hmembers⟩ := h
  have hm := hmembers m
  unfold Phaser.mayWait
  cases hp : p.members.get? m <;> cases hq : q.members.get? m <;> simp_all

theorem Phaser.signalPhase_eq (p : Phaser) (m : Nat) : p.signalPhase m = phaseOf p m := by
  unfold Phaser.signalPhase phaseOf
  cases p.members.get? m <;> simp [reached]

theorem Phaser.maySignal_iff (p : Phaser) (m : Nat) : p.maySignal m = true ↔ (∃ e, p.members.get? m = some e ∧ e.1 % 2 = 1) ∧ (m, phaseOf p m) ∉ p.signalled := by
  unfold Phaser.maySignal
  rw [p.signalPhase_eq]
  cases p.members.get? m <;> simp [signals]

/-! ### The phaser of an id (R351) -/

theorem State.setPhaser_eq {id : Nat} (hid : id < 2 ^ 31) (q : Phaser) (s : State) : s.setPhaser id q = putPhaser id q s := by
  unfold State.setPhaser putPhaser
  by_cases h : id < 2 ^ 30
  · rw [if_pos (by omega), if_pos h, show id / 2 ^ 25 % 32 = id / 2 ^ 25 by omega]
  · rw [if_neg (by omega), if_neg h]

theorem State.phaserAt_setPhaser (id : Nat) (q : Phaser) (s : State) : (s.setPhaser id q).phaserAt id = some q := by
  unfold State.setPhaser State.phaserAt
  by_cases h : id / 2 ^ 30 % 4 = 0
  · simp only [if_pos h, State.sheet_mapSheet, if_true, Map.get?_set_same]
  · simp only [if_neg h, Map.get?_set_same]

theorem State.phaserOf_eq_some {s : State} {id : Nat} {p : Phaser} : s.phaserOf id = some p ↔ liveAt s id p := by
  have hat : s.phaserAt id = if id / 2 ^ 30 % 4 = 0 then (s.sheet (id / 2 ^ 25 % 32)).phasers.get? (id % 4096) else s.treePhasers.get? (id % 4096) := rfl
  rw [State.phaserOf, liveAt, ← hat]
  cases h : s.phaserAt id with
  | none => simp
  | some r =>
    simp only [Bool.and_eq_true, beq_iff_eq, Bool.not_eq_true', Option.ite_none_right_eq_some, Option.some.injEq]
    constructor
    · rintro ⟨⟨⟨hlive, hgen⟩, hbroken⟩, rfl⟩
      exact ⟨hlive, hbroken, hgen, rfl⟩
    · rintro ⟨hlive, hbroken, hgen, rfl⟩
      exact ⟨⟨⟨hlive, hgen⟩, hbroken⟩, rfl⟩

/-- An id without reserved bits, of a class and home that its launch may use (R351). -/
def State.idAdmitted (s : State) (launch id : Nat) : Prop :=
  id < 2 ^ 31 ∧ id / 2 ^ 12 % 16 = 0 ∧ (2 ^ 30 ≤ id → id % 4096 < 256 ∧ id / 2 ^ 25 % 32 = (s.launch launch).origin)

theorem State.phaser?_eq_some {s : State} {launch : Nat} {x : Word} {p : Phaser} :
    s.phaser? launch x = some p ↔ s.idAdmitted launch x.toNat ∧ liveAt s x.toNat p ∧ p.launch = launch := by
  have hadmitted : (2 ^ 32 ≤ x.toNat ∨ 2 ≤ x.toNat / 2 ^ 30 ∨ x.toNat / 2 ^ 12 % 16 ≠ 0 ∨
      (x.toNat / 2 ^ 30 = 1 ∧ (256 ≤ x.toNat % 4096 ∨ x.toNat / 2 ^ 25 % 32 ≠ (s.launch launch).origin))) ↔ ¬s.idAdmitted launch x.toNat := by
    unfold State.idAdmitted
    generalize (s.launch launch).origin = home
    omega
  unfold State.phaser?
  dsimp only
  by_cases h : s.idAdmitted launch x.toNat
  · rw [if_neg (by rw [hadmitted, not_not]; exact h), ← State.phaserOf_eq_some, State.phaserOf]
    cases s.phaserAt x.toNat with
    | none => simp
    | some r =>
      simp only [Bool.and_eq_true, beq_iff_eq, Bool.not_eq_true', Option.ite_none_right_eq_some, Option.some.injEq]
      constructor
      · rintro ⟨⟨hlive, hlaunch, hgen, hbroken⟩, rfl⟩
        exact ⟨h, ⟨⟨⟨hlive, hgen⟩, hbroken⟩, rfl⟩, hlaunch⟩
      · rintro ⟨-, ⟨⟨⟨hlive, hgen⟩, hbroken⟩, rfl⟩, hlaunch⟩
        exact ⟨⟨hlive, hlaunch, hgen, hbroken⟩, rfl⟩
  · rw [if_pos (hadmitted.2 h)]
    exact ⟨nofun, fun ⟨hid, _⟩ => absurd hid h⟩

/-- A phaser that a task names is the one that its instructions find. -/
theorem namesPhaser_iff {s : State} {th : Nat} {x : Word} {p : Phaser} : namesPhaser s th x p ↔ s.phaser? (s.thread th).launch x = some p := by
  rw [State.phaser?_eq_some, namesPhaser, State.idAdmitted, liveAt]
  by_cases hsheet : x.toNat < 2 ^ 30
  · have hhome : x.toNat / 2 ^ 25 % 32 = x.toNat / 2 ^ 25 := by omega
    rw [if_pos (show x.toNat / 2 ^ 30 % 4 = 0 by omega), hhome]
    simp only [hsheet, forall_const, not_le.2 hsheet, false_implies, and_true]
    tauto
  · constructor
    · rintro ⟨hid, hreserved, hlive, hlaunch, hgen, hbroken, -, htree⟩
      obtain ⟨hindex, hhome, hat⟩ := htree (not_lt.1 hsheet)
      rw [if_neg (by omega)]
      exact ⟨⟨hid, hreserved, fun _ => ⟨hindex, hhome⟩⟩, ⟨hlive, hbroken, hgen, hat⟩, hlaunch⟩
    · rintro ⟨⟨hid, hreserved, htree⟩, ⟨hlive, hbroken, hgen, hat⟩, hlaunch⟩
      obtain ⟨hindex, hhome⟩ := htree (not_lt.1 hsheet)
      rw [if_neg (by omega)] at hat
      exact ⟨hid, hreserved, hlive, hlaunch, hgen, hbroken, fun h => absurd h hsheet, fun _ => ⟨hindex, hhome, hat⟩⟩

/-! ### An event on a phaser (R118, R352) -/

theorem State.thread_wakeMembers {s : State} {q : Phaser} (x : Nat) : (s.wakeMembers q).thread x =
    if (s.thread x).st ≠ .empty ∧ (s.thread x).launch = q.launch ∧ (q.members.get? (s.thread x).member).isSome = true then { s.thread x with wake := true } else s.thread x := by
  unfold State.wakeMembers State.thread
  dsimp only
  generalize s.threads = m
  induction m with
  | nil => rfl
  | cons e rest ih =>
    by_cases hkey : e.1 = x
    · simp only [List.map_cons, Map.get]
      split <;> simp_all
    · simp only [List.map_cons, Map.get]
      split <;> simp_all

/-- The state of a phaser's event before the record of one that breaks. -/
def State.settled (id : Nat) (p : Phaser) (s : State) : State :=
  if (p.settle 4).phase ≠ p.phase then (s.setPhaser id (p.settle 4)).wakeMembers (p.settle 4) else s.setPhaser id (p.settle 4)

theorem State.settlePhaser_eq {id : Nat} {p : Phaser} (hbroken : p.broken = false) (s : State) : s.settlePhaser id p =
    if (p.settle 4).broken = true then
      (s.settled id p).recordOf (id / 2 ^ 25 % 32) 0x1A 0 (BitVec.ofNat 64 (id / 2 ^ 25 % 32 * 2 ^ 17)) (BitVec.ofNat 64 id)
    else s.settled id p := by
  rw [State.settlePhaser, hbroken, Bool.not_false, Bool.and_true]
  rfl

theorem State.settled_frame (id : Nat) (p : Phaser) (s : State) : s.settled id p = { s.setPhaser id (p.settle 4) with threads := (s.settled id p).threads } := by
  unfold State.settled
  split <;> rfl

theorem State.phaserEvent_settlePhaser {s : State} {id : Nat} (hid : id < 2 ^ 31) {p p' q : Phaser} (hphase : p'.phase = p.phase) (hlaunch : p'.launch = p.launch)
    (hbroken : p'.broken = false) (h : settlesIn 4 p' q) : phaserEvent s (s.settlePhaser id p') id p q := by
  obtain rfl := Phaser.settle_of_settlesIn h
  have hset := State.setPhaser_eq hid (p'.settle 4) s
  refine ⟨s.settled id p', ?_, fun x => ?_, State.settlePhaser_eq hbroken s⟩
  · rw [← hset]; exact s.settled_frame id p'
  · have hthread : (s.setPhaser id (p'.settle 4)).thread x = s.thread x := by rw [hset]; unfold putPhaser; split <;> rfl
    obtain ⟨-, -, hlaunch', -⟩ := Phaser.sameClass_settle 4 p'
    rw [State.settled, ← hphase]
    by_cases hmoved : (p'.settle 4).phase = p'.phase
    · rw [if_neg (not_not.2 hmoved), hthread, if_neg fun h => h.1 hmoved]
    · rw [if_pos hmoved, State.thread_wakeMembers, hthread, hlaunch', hlaunch]
      simp only [hmoved, ne_eq, not_false_eq_true, true_and]

/-- What an event on a phaser leaves of it, and of what an id is checked against. -/
theorem State.settlePhaser_spec {s : State} {id : Nat} {p : Phaser} (hbroken : p.broken = false) :
    (s.settlePhaser id p).phaserAt id = some (p.settle 4) ∧ (s.settlePhaser id p).launches = s.launches ∧
      ∀ x, ((s.settlePhaser id p).thread x).launch = (s.thread x).launch ∧ ((s.settlePhaser id p).thread x).member = (s.thread x).member := by
  have hsettled : (s.settled id p).phaserAt id = some (p.settle 4) ∧ (s.settled id p).launches = s.launches ∧
      ∀ x, ((s.settled id p).thread x).launch = (s.thread x).launch ∧ ((s.settled id p).thread x).member = (s.thread x).member := by
    have hset : (s.setPhaser id (p.settle 4)).launches = s.launches ∧ ∀ x, (s.setPhaser id (p.settle 4)).thread x = s.thread x := by
      unfold State.setPhaser
      split <;> exact ⟨rfl, fun _ => rfl⟩
    obtain ⟨hlaunches, hthread⟩ := hset
    refine ⟨?_, ?_, fun x => ?_⟩
    · rw [s.settled_frame]; exact State.phaserAt_setPhaser id _ s
    · rw [s.settled_frame]; exact hlaunches
    · unfold State.settled
      split
      · rw [State.thread_wakeMembers, hthread]
        split <;> exact ⟨rfl, rfl⟩
      · rw [hthread]; exact ⟨rfl, rfl⟩
  rw [State.settlePhaser_eq hbroken]
  split
  · obtain ⟨hat, hlaunches, hthreads⟩ := hsettled
    obtain ⟨htree, hlaunches', hsheets, hthreads'⟩ := (RecordEffect.recordOf (id / 2 ^ 25 % 32) 0x1A 0 (BitVec.ofNat 64 (id / 2 ^ 25 % 32 * 2 ^ 17)) (BitVec.ofNat 64 id)).keeps
      (s.settled id p)
    refine ⟨?_, hlaunches'.trans hlaunches, fun x => ⟨(hthreads' x).1.trans (hthreads x).1, (hthreads' x).2.trans (hthreads x).2⟩⟩
    rw [← hat, State.phaserAt, State.phaserAt, htree, hsheets]
  · exact hsettled

end Sys2Proof.Machine

namespace Sys2Proof.Machine
open Sys2Proof.Claims

/-! ### A side that has come further in its word (R9, R312) -/

/-- The second state is the first with its side further in its word: outside the progress of the word nothing differs. -/
structure State.Progressed (s u : State) : Prop where
  frame : ∃ ctxs, u = { s with ctxs := ctxs }
  held : u.ctx.held = s.ctx.held
  others : ∀ c, c ≠ s.cur → u.ctxOf c = s.ctxOf c
  repeats : u.repeats = s.repeats
  pc : u.ctx.pc = s.ctx.pc

namespace State.Progressed

theorem refl (s : State) : s.Progressed s := ⟨⟨s.ctxs, rfl⟩, rfl, fun _ _ => rfl, rfl, rfl⟩

section
variable {s u w : State} (h : s.Progressed u)
include h

theorem frame_eq : u = { s with ctxs := u.ctxs } := by
  obtain ⟨ctxs, rfl⟩ := h.frame
  rfl

theorem cur_eq : u.cur = s.cur := by rw [h.frame_eq]

theorem thread_eq (x : Nat) : u.thread x = s.thread x := by rw [h.frame_eq]; rfl

theorem reg_eq (r : BitVec 5) : u.reg r = s.reg r := by
  show u.ctx.held.reg r = s.ctx.held.reg r
  rw [h.held]

theorem liveAt_iff {id : Nat} {p : Phaser} : liveAt u id p ↔ liveAt s id p := by rw [h.frame_eq]; rfl

theorem phaser?_eq (l : Nat) (x : Word) : u.phaser? l x = s.phaser? l x := by rw [h.frame_eq]; rfl

theorem trans (h' : u.Progressed w) : s.Progressed w where
  frame := by
    obtain ⟨ctxs, rfl⟩ := h.frame
    obtain ⟨ctxs', rfl⟩ := h'.frame
    exact ⟨ctxs', rfl⟩
  held := h'.held.trans h.held
  others c hc := (h'.others c (by rwa [h.cur_eq])).trans (h.others c hc)
  repeats := h'.repeats.trans h.repeats
  pc := h'.pc.trans h.pc

/-- A completion on the later state is one on the earlier. -/
theorem completes {o : Out} (ho : Completes u o) : Completes s o :=
  completesAt_of_held (by rw [← h.pc]; exact ho) h.frame_eq h.held h.others h.repeats h.pc

theorem map {f : State → State} (hf : Offstage f) : (f s).Progressed (f u) where
  frame := by
    obtain ⟨ctxs, rfl⟩ := h.frame
    exact ⟨ctxs, hf.blind s ctxs⟩
  held := by rw [hf.ctx, hf.ctx, h.held]
  others c hc := by
    rw [State.ctxOf, State.ctxOf, hf.ctxs, hf.ctxs]
    exact h.others c (by rwa [hf.cur] at hc)
  repeats := by
    have hrepeats := h.repeats
    simp only [State.repeats, hf.ctx] at hrepeats ⊢
    exact hrepeats
  pc := by rw [hf.ctx, hf.ctx, h.pc]

theorem setReg (d : BitVec 5) (v : Word) : (s.setReg d v).Progressed (u.setReg d v) where
  frame := by
    obtain ⟨ctxs, rfl⟩ := h.frame
    exact ⟨_, State.onlyCtxs_upd _ _⟩
  held := by
    have hset (k : Ctx) : (k.setReg d v).held = k.held.setReg d v := by unfold Ctx.setReg; split <;> rfl
    rw [State.ctx_setReg, State.ctx_setReg, hset, hset, h.held]
  others c hc := (u.ctxOf_upd_other _ (by rw [h.cur_eq]; exact hc)).trans ((h.others c hc).trans (s.ctxOf_upd_other _ hc).symm)
  repeats := by
    have hset (k : Ctx) : (k.setReg d v).buf = k.buf ∧ (k.setReg d v).hints = k.hints ∧ (k.setReg d v).repDone = k.repDone := by
      unfold Ctx.setReg; split <;> exact ⟨rfl, rfl, rfl⟩
    have hrepeats := h.repeats
    simp only [State.repeats, State.ctx_setReg, hset] at hrepeats ⊢
    exact hrepeats
  pc := by
    have hset (k : Ctx) : (k.setReg d v).pc = k.pc := by unfold Ctx.setReg; split <;> rfl
    rw [State.ctx_setReg, State.ctx_setReg, hset, hset, h.pc]

theorem waits {c : WaitCond} {x : Wait} (hx : x.cond = c) : waitsFor c s (.next (u.block x)) := by
  have hctx : (u.block x).ctx = { u.ctx with wait := some x } := State.ctx_upd _ _
  refine ⟨u.block x, rfl, ?_, ?_, by rw [hctx, ← hx]; rfl, fun y hy => ?_⟩
  · obtain ⟨ctxs, rfl⟩ := h.frame
    rfl
  · rw [hctx]; exact h.held
  · rw [State.block, State.ctxOf_upd_other _ _ (by rwa [h.cur_eq]), h.others y hy]

end

theorem upd (s : State) {f : Ctx → Ctx} (hf : ∃ stage keep kept, f s.ctx = { s.ctx with stage := stage, keep := keep, kept := kept }) : s.Progressed (s.upd f) := by
  obtain ⟨stage, keep, kept, hf⟩ := hf
  refine ⟨⟨_, rfl⟩, ?_, fun c hc => s.ctxOf_upd_other f hc, ?_, ?_⟩
  · rw [State.ctx_upd, hf]; rfl
  · rw [State.repeats, State.ctx_upd, hf]; rfl
  · rw [State.ctx_upd, hf]

end State.Progressed

/-- A release that has nothing to wait for, or that has already waited. -/
def State.releaseReady (s : State) : Prop := (s.ctx.stage = 0 ∧ settledHere s) ∨ s.ctx.stage = 2 ∨ s.ctx.stage = 3

theorem State.release_ready {s : State} (h : s.releaseReady) (scope : Nat) : ∃ u, s.Progressed u ∧ s.release scope = .ok () u := by
  rcases h with ⟨hstage, hnet, hclean⟩ | hstage | hstage
  · exact ⟨_, .upd s ⟨3, s.ctx.keep, s.ctx.kept, rfl⟩, State.release_settled scope hclean hnet hstage⟩
  · refine ⟨s.upd (fun k => { k with stage := 3 }), .upd s ⟨3, s.ctx.keep, s.ctx.kept, rfl⟩, ?_⟩
    simp only [State.release, hstage, show ¬ 3 ≤ 2 by decide, if_false, if_true]
  · refine ⟨s, .refl s, ?_⟩
    simp only [State.release, hstage, le_refl, if_true]

theorem offstage_acquire (scope : Nat) : Offstage (State.acquire scope) := by
  unfold State.acquire
  split <;> exact ⟨fun _ _ => rfl, fun _ => rfl⟩

theorem offstage_setPhaser (id : Nat) (p : Phaser) : Offstage (State.setPhaser id p) := by
  unfold State.setPhaser
  split <;> exact ⟨fun _ _ => rfl, fun _ => rfl⟩

theorem offstage_settlePhaser (id : Nat) {p : Phaser} (hbroken : p.broken = false) : Offstage (State.settlePhaser id p) := by
  have hsettled : Offstage (State.settled id p) := by
    unfold State.settled
    split
    · exact Offstage.comp ⟨fun _ _ => rfl, fun _ => rfl⟩ (offstage_setPhaser id (p.settle 4))
    · exact offstage_setPhaser id (p.settle 4)
  rw [show State.settlePhaser id p = _ from funext (State.settlePhaser_eq hbroken)]
  split
  · exact (RecordEffect.recordOf _ _ _ _ _).toOffstage.comp hsettled
  · exact hsettled

/-! ### Signals, deliveries and drops (R329, R352, R357) -/

section
variable {s : State} {id : Nat} {p : Phaser} (h : liveAt s id p)
include h

theorem State.signal_eq (m : Nat) (t : BitVec 32) (n : Nat) : s.signal id m t n = s.settlePhaser id (signalled p m t n) := by
  rw [State.signal, State.phaserOf_eq_some.2 h]
  rfl

theorem State.deliver_eq (t : BitVec 32) : s.deliver id t = s.settlePhaser id { p with deliveries := p.deliveries.set t (p.deliveries.get 0 t + 1) } := by
  rw [State.deliver, State.phaserOf_eq_some.2 h]
  rfl

end

/-- An id names its phaser after an event on it, unless the phaser broke. -/
theorem State.phaser?_settlePhaser {s : State} {l : Nat} {x : Word} {p p' : Phaser} (h : s.phaser? l x = some p) (hclass : p.sameClass p') (hbroken : p'.broken = false) :
    (s.settlePhaser x.toNat p').phaser? l x = if (p'.settle 4).broken = true then none else some (p'.settle 4) := by
  obtain ⟨hadmitted, ⟨hlive, -, hgen, -⟩, hlaunch⟩ := State.phaser?_eq_some.1 h
  obtain ⟨hat, hlaunches, -⟩ := State.settlePhaser_spec (s := s) (id := x.toNat) hbroken
  obtain ⟨hlive', hgen', hlaunch', -⟩ := hclass
  obtain ⟨hlive'', hgen'', hlaunch'', -⟩ := Phaser.sameClass_settle 4 p'
  have hfound {r : Phaser} (hr : liveAt (s.settlePhaser x.toNat p') x.toNat r) : r = p'.settle 4 := by
    obtain ⟨-, -, -, hr⟩ := hr
    exact Option.some.inj (hr.symm.trans hat)
  split
  · next hq =>
    rw [Option.eq_none_iff_forall_ne_some]
    intro r hr
    obtain ⟨-, hlive, -⟩ := State.phaser?_eq_some.1 hr
    obtain ⟨-, hunbroken, -⟩ := id hlive
    rw [hfound hlive, hq] at hunbroken
    cases hunbroken
  · next hq =>
    refine State.phaser?_eq_some.2 ⟨?_, ⟨hlive''.trans (hlive'.trans hlive), Bool.eq_false_iff.2 hq, hgen''.trans (hgen'.trans hgen), hat⟩,
      hlaunch''.trans (hlaunch'.trans hlaunch)⟩
    rw [State.idAdmitted, State.launch, hlaunches]
    exact hadmitted

/-! ### The instructions of the group (R328, R329, R356 to R358) -/

section
variable {s : State} {g : Guard} {d a b : BitVec 5} {th : Nat} {side : Side} (hcur : s.cur = .task th side)
include hcur

theorem State.launchOf_task : s.launchOf s.cur = (s.thread th).launch := by rw [hcur]; rfl

theorem State.memberId_task : s.memberId = (s.thread th).member := by rw [State.memberId, hcur]; rfl

theorem State.isPost_task : s.isPost s.cur = (s.thread th).post := by rw [hcur]; rfl

variable (hguard : s.selected g = true)

section
include hguard

theorem phaserOp_of_names {i : Instr} (h : Issues i s) {p : Phaser} (hp : namesPhaser s th (s.reg a) p) (f : Nat → Phaser → State → Out) :
    phaserOp i g a s f = f (s.reg a).toNat p s := by
  rw [phaserOp, issueScalar_of_issues h hguard, State.launchOf_task hcur, namesPhaser_iff.1 hp]

theorem phaserOp_refused {i : Instr} (h : Issues i s) (hp : ∀ p, ¬namesPhaser s th (s.reg a) p) (f : Nat → Phaser → State → Out) :
    phaserOp i g a s f = raise0 0x1A s := by
  rw [phaserOp, issueScalar_of_issues h hguard, State.launchOf_task hcur,
    Option.eq_none_iff_forall_ne_some.2 fun p => mt namesPhaser_iff.2 (hp p)]

end

end

section
variable {s : State} {id : Nat} {p : Phaser} {ph : BitVec 32} {d : BitVec 5}

theorem State.phaseWait_reached (h : (p.phase - ph).toNat < 2 ^ 31) :
    s.phaseWait id p ph d = done ((s.setReg d (BitVec.ofNat 64 p.phase.toNat)).acquire p.scope) := by
  rw [State.phaseWait, reached, if_pos (decide_eq_true h)]

theorem State.phaseWait_ahead (h : 2 ^ 31 ≤ (p.phase - ph).toNat) :
    s.phaseWait id p ph d = .next (s.block (sync 1 (BitVec.ofNat 64 (id * 2 ^ 32 + ph.toNat)) (.phase id ph.toNat))) := by
  rw [State.phaseWait, reached, if_neg (by rw [decide_eq_true_eq]; omega)]

/-- A wait whose phase is reached completes, and acquires. -/
theorem State.Progressed.phaseWait_completes {u : State} (h : s.Progressed u) (hreached : (p.phase - ph).toNat < 2 ^ 31) :
    Completes ((s.setReg d (BitVec.ofNat 64 p.phase.toNat)).acquire p.scope) (u.phaseWait id p ph d) := by
  rw [State.phaseWait_reached hreached]
  exact ((h.setReg d _).map (offstage_acquire p.scope)).completes (completes_done _)

theorem State.Progressed.phaseWait_waits {u : State} (h : s.Progressed u) (hahead : 2 ^ 31 ≤ (p.phase - ph).toNat) :
    waitsFor (.phase id ph.toNat) s (u.phaseWait id p ph d) := by
  rw [State.phaseWait_ahead hahead]
  exact h.waits rfl

end

end Sys2Proof.Machine

namespace Sys2Proof.Machine
open Sys2Proof.Claims

/-! ### PHWAIT, PHSIG and PHNEXT -/

theorem liveAt_of_names {s : State} {th : Nat} {x : Word} {p : Phaser} (hp : namesPhaser s th x p) : liveAt s x.toNat p := by
  obtain ⟨-, hlive, -⟩ := State.phaser?_eq_some.1 (namesPhaser_iff.1 hp)
  exact hlive

theorem broken_of_live {s : State} {n : Nat} {p : Phaser} (h : liveAt s n p) : p.broken = false := by
  obtain ⟨-, hbroken, -⟩ := h
  exact hbroken

section
variable {s : State} {g : Guard} {d a b : BitVec 5} {th : Nat} {side : Side} {p : Phaser} (hcur : s.cur = .task th side)
include hcur

theorem signalOp_refused {id : Nat} {f : BitVec 32 → State → Out} (hkept : s.ctx.kept = [])
    (h : (∀ e, p.members.get? (s.thread th).member = some e → e.1 % 2 = 0) ∨ ((s.reg b).toNat ≠ 0 ∧ p.counting = false) ∨
      ((s.thread th).member, phaseOf p (s.thread th).member) ∈ p.signalled) : signalOp s id p b f = raise0 0x1A s := by
  rw [signalOp, State.memberId_task hcur]
  refine if_pos ⟨hkept, ?_⟩
  rcases h with hmode | ⟨hcount, hcounting⟩ | hheard
  · refine .inl ?_
    rw [Bool.not_eq_true', Bool.eq_false_iff, ne_eq, p.maySignal_iff]
    rintro ⟨⟨e, he, hsignals⟩, -⟩
    rw [hmode e he] at hsignals
    cases hsignals
  · exact .inr ⟨fun hzero => hcount (by rw [hzero]; rfl), by rw [hcounting]; rfl⟩
  · refine .inl ?_
    rw [Bool.not_eq_true', Bool.eq_false_iff, ne_eq, p.maySignal_iff]
    exact fun ⟨_, hunheard⟩ => hunheard hheard

theorem signalOp_start {id : Nat} {f : BitVec 32 → State → Out} {t : BitVec 32} (hpost : (s.thread th).post = true)
    (h : signalStart s p (s.thread th).member (s.reg b).toNat t) :
    ∃ u, s.Progressed u ∧ signalOp s id p b f = f t (u.signal id (s.thread th).member t (s.reg b).toNat) := by
  have hready : s.releaseReady := by
    rcases h with ⟨hstage, -, hsettled, -⟩ | ⟨hstage, -⟩
    · exact .inl ⟨hstage, hsettled⟩
    · exact .inr hstage
  have hphase : (if s.ctx.kept = [] then p.signalPhase (s.thread th).member else BitVec.ofNat 32 (leNat s.ctx.kept)) = t := by
    rcases h with ⟨-, hkept, -, -, -, -, rfl⟩ | ⟨-, hkept⟩
    · rw [if_pos hkept, p.signalPhase_eq]
    · rw [hkept, if_neg (by simp [leBytes]), leNat_leBytes, Nat.mod_eq_of_lt (by have := t.isLt; omega), BitVec.ofNat_toNat, BitVec.setWidth_eq]
  have hchecked : ¬(s.ctx.kept = [] ∧ ((!p.maySignal (s.thread th).member) = true ∨ (s.reg b ≠ 0 ∧ (!p.counting) = true))) := by
    rintro ⟨hkept, hrefused⟩
    rcases h with ⟨-, -, -, hmode, hcount, hunheard, -⟩ | ⟨-, hkept'⟩
    · have hmay := (p.maySignal_iff (s.thread th).member).2 ⟨hmode, hunheard⟩
      rcases hrefused with hno | ⟨hcarried, hcounting⟩
      · rw [hmay] at hno; cases hno
      · rcases hcount with hzero | hyes
        · exact hcarried (BitVec.eq_of_toNat_eq hzero)
        · rw [hyes] at hcounting; cases hcounting
    · rw [hkept] at hkept'
      simp [leBytes] at hkept'
  have hstart : s.Progressed (s.upd (fun k => { k with kept := leBytes 4 t.toNat })) := .upd s ⟨s.ctx.stage, s.ctx.keep, leBytes 4 t.toNat, rfl⟩
  obtain ⟨u, hu, hrelease⟩ := State.release_ready (s := s.upd (fun k => { k with kept := leBytes 4 t.toNat })) (by rw [State.releaseReady, State.ctx_upd]; exact hready) p.scope
  refine ⟨u, hstart.trans hu, ?_⟩
  have hcommit : (s.upd (fun k => { k with kept := leBytes 4 t.toNat })).commit = s.upd (fun k => { k with kept := leBytes 4 t.toNat }) := by
    rw [State.commit_task (by rw [hstart.cur_eq, hcur]), State.commitThread_of_post (by rw [hstart.thread_eq, hpost])]
  rw [signalOp, State.memberId_task hcur, if_neg hchecked]
  simp only [hphase, hcommit, hrelease, Acc.run_ok, (hstart.trans hu).reg_eq]

variable (hguard : s.selected g = true) (hp : namesPhaser s th (s.reg a) p)
include hguard hp

theorem exec_phwait_eq (h : Issues (.phwait g d a b) s) : exec (.phwait g d a b) s =
    if s.ctx.kept = [] ∧ p.mayWait (s.thread th).member = false then raise0 0x1A s
    else (s.upd (fun k => { k with kept := [1] })).phaseWait (s.reg a).toNat p (BitVec.ofNat 32 (s.reg b).toNat) d := by
  rw [exec_phwait, execPhwait, phaserOp_of_names hcur hguard h hp]
  simp only [State.memberId_task hcur, Bool.not_eq_true']

theorem exec_phsig_eq (h : Issues (.phsig g d a b) s) :
    exec (.phsig g d a b) s = signalOp s (s.reg a).toNat p b fun t s => done (s.setReg d (BitVec.ofNat 64 t.toNat)) := by
  rw [exec_phsig, execPhsig, phaserOp_of_names hcur hguard h hp]

/-- What PHNEXT does after its signal. -/
def phnextAfter (id : Nat) (a d : BitVec 5) (t : BitVec 32) (s : State) : Out :=
  match s.phaser? (s.launchOf s.cur) (s.reg a) with
  | some p => if p.mayWait s.memberId = false then raise0 0x1A s
              else (s.upd (fun k => { k with stage := 4, keep := BitVec.ofNat 64 (t + 1).toNat })).phaseWait id p (t + 1) d
  | none => raise0 0x1A s

theorem exec_phnext_eq (h : Issues (.phnext g d a b) s) : exec (.phnext g d a b) s =
    if s.ctx.stage = 4 then s.phaseWait (s.reg a).toNat p (BitVec.ofNat 32 s.ctx.keep.toNat) d else signalOp s (s.reg a).toNat p b (phnextAfter (s.reg a).toNat a d) := by
  rw [exec_phnext, execPhnext, phaserOp_of_names hcur hguard h hp]
  unfold phnextAfter
  simp only [Bool.not_eq_true'] <;> rfl

omit hguard in
/-- After its signal PHNEXT finds the phaser as the signal has left it. -/
theorem phnextAfter_signal {t : BitVec 32} {n : Nat} {q : Phaser} {u : State} (hu : s.Progressed u) (hq : (signalled p (s.thread th).member t n).settle 4 = q) :
    phnextAfter (s.reg a).toNat a d t (u.signal (s.reg a).toNat (s.thread th).member t n) =
      if q.broken = true ∨ p.mayWait (s.thread th).member = false then raise0 0x1A (u.signal (s.reg a).toNat (s.thread th).member t n)
      else ((u.signal (s.reg a).toNat (s.thread th).member t n).upd (fun k => { k with stage := 4, keep := BitVec.ofNat 64 (t + 1).toNat })).phaseWait (s.reg a).toNat q (t + 1) d := by
  have hlive := liveAt_of_names hp
  have hbroken := broken_of_live hlive
  have hclass : p.sameClass (signalled p (s.thread th).member t n) := ⟨rfl, rfl, rfl, rfl, fun _ => rfl⟩
  have hfound := State.phaser?_settlePhaser (s := u) ((hu.phaser?_eq _ _).trans (namesPhaser_iff.1 hp)) hclass hbroken
  obtain ⟨-, -, hthreads⟩ := State.settlePhaser_spec (s := u) (id := (s.reg a).toNat) (p := signalled p (s.thread th).member t n) hbroken
  have hoff := offstage_settlePhaser (s.reg a).toNat (p := signalled p (s.thread th).member t n) hbroken
  rw [State.signal_eq (hu.liveAt_iff.2 hlive)]
  have hcur' : (u.settlePhaser (s.reg a).toNat (signalled p (s.thread th).member t n)).cur = .task th side := by rw [hoff.cur, hu.cur_eq, hcur]
  have hreg : (u.settlePhaser (s.reg a).toNat (signalled p (s.thread th).member t n)).reg a = s.reg a := by
    rw [State.reg, hoff.ctx, ← State.reg, hu.reg_eq]
  rw [phnextAfter, State.launchOf_task hcur', State.memberId_task hcur', hreg, (hthreads th).1, (hthreads th).2, hu.thread_eq, hfound, hq]
  have hmay : q.mayWait (s.thread th).member = p.mayWait (s.thread th).member := by
    rw [← hq, (Phaser.sameClass_settle 4 _).mayWait_eq, hclass.mayWait_eq]
  cases q.broken with
  | true => rw [if_pos rfl, if_pos (.inl rfl)]
  | false => simp only [hmay, Bool.false_eq_true, if_false, false_or]

end

end Sys2Proof.Machine

namespace Sys2Proof.Machine
open Sys2Proof.Claims

/-! ### PHREG, PHDROP, PHREAD and PHFREE -/

section
variable {s : State} {g : Guard} {d a b : BitVec 5} {th : Nat} {side : Side} {p : Phaser} (hcur : s.cur = .task th side) (hguard : s.selected g = true)
  (hp : namesPhaser s th (s.reg a) p)
include hcur hguard hp

theorem exec_phreg_eq (h : Issues (.phreg g d a b) s) : exec (.phreg g d a b) s =
    if (s.thread th).post = false ∨ 2 ^ 18 ≤ (s.reg b).toNat ∨ (s.reg b).toNat / 65536 % 4 = 0 ∨ (p.members.get? ((s.reg b).toNat % 65536)).isSome = true then raise0 0x1A s
    else
      let first := if (p.expected p.phase).isEmpty then p.phase else p.phase + 1
      done ((putPhaser (s.reg a).toNat { p with members := p.members.set ((s.reg b).toNat % 65536) ((s.reg b).toNat / 65536 % 4, first) } s).setReg d
        (if signals ((s.reg b).toNat / 65536 % 4) then BitVec.ofNat 64 first.toNat else BitVec.allOnes 64)) := by
  obtain ⟨hid, -⟩ := id hp
  rw [exec_phreg, execPhreg, phaserOp_of_names hcur hguard h hp]
  simp only [State.isPost_task hcur, Bool.not_eq_true', State.setPhaser_eq hid]

theorem exec_phdrop_refused (h : Issues (.phdrop g d a b) s) (hmember : p.members.get? ((s.reg b).toNat % 2 ^ 16) = none) : exec (.phdrop g d a b) s = raise0 0x1A s := by
  rw [exec_phdrop, execPhdrop, phaserOp_of_names hcur hguard h hp]
  exact if_pos (by rw [show (65536 : Nat) = 2 ^ 16 from rfl, hmember]; rfl)

/-- A phaser without a member. -/
def Phaser.without (p : Phaser) (m : Nat) : Phaser := { p with members := p.members.del m }

/-- A drop whose release is done removes its member, on a state further in the word. -/
theorem exec_phdrop_ready (h : Issues (.phdrop g d a b) s) (hmember : (p.members.get? ((s.reg b).toNat % 2 ^ 16)).isSome = true) (hpost : (s.thread th).post = true)
    (hready : s.releaseReady) : ∃ u, s.Progressed u ∧ exec (.phdrop g d a b) s =
      (fun t : State => done (t.setReg d (BitVec.ofNat 64 (((t.phaserAt (s.reg a).toNat).map (fun p => p.phase.toNat)).getD 0))))
        (if (p.expected p.phase).contains ((s.reg b).toNat % 2 ^ 16) && !p.signalled.contains ((s.reg b).toNat % 2 ^ 16, p.phase) then
          u.settlePhaser (s.reg a).toNat (p.without ((s.reg b).toNat % 2 ^ 16)) else u.setPhaser (s.reg a).toNat (p.without ((s.reg b).toNat % 2 ^ 16))) := by
  obtain ⟨u, hu, hrelease⟩ := State.release_ready hready p.scope
  have hmember' : ¬(p.members.get? ((s.reg b).toNat % 65536)).isNone = true := by
    rw [show (65536 : Nat) = 2 ^ 16 from rfl, Option.isNone_iff_eq_none]
    intro hnone
    rw [hnone] at hmember
    cases hmember
  refine ⟨u, hu, ?_⟩
  rw [exec_phdrop, execPhdrop, phaserOp_of_names hcur hguard h hp]
  simp only [if_neg hmember', State.commit_task hcur, State.commitThread_of_post hpost, hrelease, Acc.run_ok, State.phaserOf_eq_some.2 (hu.liveAt_iff.2 (liveAt_of_names hp)),
    Option.getD_some]
  rfl

theorem exec_phread_counts (h : Issues (.phread g d a b) s) (hy : (s.reg b).toNat = 0) : exec (.phread g d a b) s =
    done (s.setReg d (BitVec.ofNat 64 (p.phase.toNat * 2 ^ 32 +
      min 0xFFFF ((p.expected p.phase).filter (fun m => !p.signalled.contains (m, p.phase))).length * 2 ^ 16 + min 0xFFFF (p.members.filter (fun m => signals m.2.1)).length))) := by
  rw [exec_phread, execPhread, phaserOp_of_names hcur hguard h hp]
  exact if_pos (BitVec.eq_of_toNat_eq hy)

theorem exec_phread_sums (h : Issues (.phread g d a b) s) (hy : (s.reg b).toNat = 1) (hcounting : p.counting = true) : exec (.phread g d a b) s =
    done (s.setReg d (BitVec.ofNat 64 (min 0xFFFFFFFF (p.sums.get 0 p.phase) * 2 ^ 32 + min 0xFFFFFFFF (p.deliveries.get 0 p.phase)))) := by
  rw [exec_phread, execPhread, phaserOp_of_names hcur hguard h hp]
  have hone : s.reg b = 1 := BitVec.eq_of_toNat_eq hy
  exact (if_neg (by rw [hone]; decide)).trans (if_pos ⟨hone, hcounting⟩)

theorem exec_phread_refused (h : Issues (.phread g d a b) s) (hy : 2 ≤ (s.reg b).toNat ∨ ((s.reg b).toNat = 1 ∧ p.counting = false)) :
    exec (.phread g d a b) s = raise0 0x1A s := by
  rw [exec_phread, execPhread, phaserOp_of_names hcur hguard h hp]
  refine (if_neg fun hzero => ?_).trans (if_neg ?_)
  · rw [hzero] at hy
    rcases hy with hy | ⟨hy, -⟩ <;> cases hy
  · rintro ⟨hone, hcounting⟩
    rw [hone] at hy
    rcases hy with hy | ⟨-, hno⟩
    · exact absurd hy (by decide)
    · rw [hno] at hcounting; cases hcounting

end

section
variable {s : State} {g : Guard} {d a : BitVec 5} {th : Nat} {side : Side} (hcur : s.cur = .task th side) (hguard : s.selected g = true)
include hcur hguard

theorem exec_phfree_eq (h : Issues (.phfree g d a) s) : exec (.phfree g d a) s =
    if (s.thread th).post = false then raise0 0x1A s
    else match s.phaser? (s.thread th).launch (s.reg a) with
      | none => raise0 0x1A s
      | some p => if s.phaserBusy (s.reg a).toNat then done (s.setReg d 0)
        else done ((s.setPhaser (s.reg a).toNat { p with live := false, gen := (p.gen + 1) % 512 }).setReg d 1) := by
  rw [exec_phfree, execPhfree, issueScalar_of_issues h hguard]
  simp only [State.isPost_task hcur, State.launchOf_task hcur, Bool.not_eq_true'] <;> rfl

theorem exec_phfree_pre (h : Issues (.phfree g d a) s) (hpost : (s.thread th).post = false) : exec (.phfree g d a) s = raise0 0x1A s := by
  rw [exec_phfree_eq hcur hguard h, if_pos hpost]

theorem exec_phfree_unnamed (h : Issues (.phfree g d a) s) (hp : ∀ p, ¬namesPhaser s th (s.reg a) p) : exec (.phfree g d a) s = raise0 0x1A s := by
  rw [exec_phfree_eq hcur hguard h, Option.eq_none_iff_forall_ne_some.2 fun p => mt namesPhaser_iff.2 (hp p), ite_self]

theorem exec_phfree_named (h : Issues (.phfree g d a) s) (hpost : (s.thread th).post = true) {p : Phaser} (hp : namesPhaser s th (s.reg a) p) : exec (.phfree g d a) s =
    if s.phaserBusy (s.reg a).toNat then done (s.setReg d 0)
    else done ((putPhaser (s.reg a).toNat { p with live := false, gen := (p.gen + 1) % 512 } s).setReg d 1) := by
  obtain ⟨hid, -⟩ := id hp
  rw [exec_phfree_eq hcur hguard h, if_neg (by rw [hpost]; decide), namesPhaser_iff.1 hp, ← State.setPhaser_eq hid]

end

theorem State.phaserBusy_iff (s : State) (id : Nat) : s.phaserBusy id = true ↔
    (∃ c ∈ s.ctxs, ∃ w ph, c.2.wait = some w ∧ w.cond = .phase id ph) ∨ ∃ c ∈ s.clusters, ∃ t ∈ c.2.tracers, t.2.d.sig = true ∧ t.2.d.phaser = id := by
  simp only [State.phaserBusy, Bool.or_eq_true, List.any_eq_true, Option.any_eq_true, Bool.and_eq_true, beq_iff_eq]
  refine or_congr (exists_congr fun c => and_congr_right fun _ => exists_congr fun w => ?_) Iff.rfl
  cases w.cond <;> simp

/-! ### PHNEW (R356) -/

/-- The table of a class: its home, its phasers and its size (R351). -/
def State.phaserTable (s : State) (tree : Bool) (home : Nat) : Map Nat Phaser := if tree then s.treePhasers else (s.sheet home).phasers

/-- An id that PHNEW answers names its index in the table of its class. -/
theorem State.setPhaser_new {tree : Prop} [Decidable tree] {home gen k : Nat} (hhome : home < 32) (hgen : gen < 512) (hk : k < if tree then 256 else 4096) {s : State} (q : Phaser) :
    s.setPhaser ((if tree then 2 ^ 30 else 0) + home * 2 ^ 25 + gen * 2 ^ 16 + k) q =
      if tree then { s with treePhasers := s.treePhasers.set k q } else s.mapSheet home (fun h => { h with phasers := h.phasers.set k q }) := by
  unfold State.setPhaser
  by_cases htree : tree
  · simp only [htree, if_true] at hk ⊢
    rw [if_neg (by omega), show (2 ^ 30 + home * 2 ^ 25 + gen * 2 ^ 16 + k) % 4096 = k by omega]
  · simp only [htree, if_false] at hk ⊢
    rw [if_pos (by omega), show (0 + home * 2 ^ 25 + gen * 2 ^ 16 + k) % 4096 = k by omega, show (0 + home * 2 ^ 25 + gen * 2 ^ 16 + k) / 2 ^ 25 % 32 = home by omega]

theorem Phaser.get?_members_new (scope : Nat) (counting : Bool) (launch gen mode n m : Nat) :
    (Phaser.new scope counting launch gen mode n).members.get? m = if m < n then some (mode, 0) else none := by
  have hrange (l : List Nat) : Map.get? (l.map fun m => (m, (mode, (0 : BitVec 32)))) m = if m ∈ l then some (mode, 0) else none := by
    induction l with
    | nil => rfl
    | cons x l ih =>
      rw [List.map_cons, Map.get?, ih]
      by_cases hx : x = m
      · rw [if_pos hx, if_pos (by rw [hx]; exact List.mem_cons_self)]
      · rw [if_neg hx]
        exact if_congr (by rw [List.mem_cons]; exact ⟨.inr, fun h => h.resolve_left fun e => hx e.symm⟩) rfl rfl
  rw [Phaser.new, hrange]
  exact if_congr List.mem_range rfl rfl

section
variable {s : State} {launch sheet scope mode n : Nat} {counting : Bool}

/-- An index is free where it holds no live phaser. -/
theorem not_any_live {q : Option Phaser} : (!q.any Phaser.live) = true ↔ ¬∃ r, q = some r ∧ r.live = true := by
  cases q <;> simp

theorem State.newPhaser_full (home : Nat) (hhome : home = if 4 ≤ scope then (s.launch launch).origin else sheet)
    (hfull : ∀ k, k < (if 4 ≤ scope then 256 else 4096) → ∃ r, (s.phaserTable (decide (4 ≤ scope)) home).get? k = some r ∧ r.live = true) :
    s.newPhaser launch sheet scope counting mode n = (0, s) := by
  have hfind : (List.range (if decide (4 ≤ scope) = true then 256 else 4096)).find? (fun i => !((s.phaserTable (decide (4 ≤ scope)) home).get? i).any Phaser.live) = none := by
    rw [List.find?_eq_none]
    intro k hk
    rw [not_any_live, not_not]
    exact hfull k (by simpa using hk)
  subst hhome
  unfold State.newPhaser
  simp only [State.phaserTable, decide_eq_true_eq] at hfind ⊢
  rw [hfind]

theorem State.newPhaser_free (home : Nat) (hhome : home = if 4 ≤ scope then (s.launch launch).origin else sheet) {k : Nat} (hk : k < if 4 ≤ scope then 256 else 4096)
    (hbelow : ∀ i, i < k → ∃ r, (s.phaserTable (decide (4 ≤ scope)) home).get? i = some r ∧ r.live = true)
    (hfree : ¬∃ r, (s.phaserTable (decide (4 ≤ scope)) home).get? k = some r ∧ r.live = true) :
    s.newPhaser launch sheet scope counting mode n =
      let gen := (((s.phaserTable (decide (4 ≤ scope)) home).get? k).map Phaser.gen).getD 0
      let id := (if 4 ≤ scope then 2 ^ 30 else 0) + home * 2 ^ 25 + gen * 2 ^ 16 + k
      (id, s.setPhaser id (Phaser.new scope counting launch gen mode n)) := by
  have hfind : (List.range (if decide (4 ≤ scope) = true then 256 else 4096)).find? (fun i => !((s.phaserTable (decide (4 ≤ scope)) home).get? i).any Phaser.live) = some k := by
    rw [List.find?_range_eq_some]
    refine ⟨not_any_live.2 hfree, by simpa using hk, fun i hi => ?_⟩
    rw [Bool.not_eq_true', Bool.eq_false_iff, ne_eq, not_any_live, not_not]
    exact hbelow i hi
  subst hhome
  unfold State.newPhaser
  simp only [State.phaserTable, decide_eq_true_eq] at hfind ⊢
  rw [hfind]

end

section
variable {s : State} {g : Guard} {d a : BitVec 5} {th : Nat} {side : Side} (hcur : s.cur = .task th side) (hguard : s.selected g = true)
include hcur hguard

theorem exec_phnew_eq (h : Issues (.phnew g d a) s) : exec (.phnew g d a) s =
    if (s.thread th).post = false ∨ 2 ^ 32 ≤ (s.reg a).toNat ∨ (s.reg a).toNat / 64 % 1024 ≠ 0 ∨ (s.reg a).toNat % 8 = 7 ∨
      ((s.reg a).toNat / 16 % 4 = 0 ∧ (s.reg a).toNat / 65536 % 65536 ≠ 0) then raise0 0x1A s
    else
      let r := s.newPhaser (s.thread th).launch (th / 64 / 256) ((s.reg a).toNat % 8) ((s.reg a).toNat / 8 % 2 == 1) ((s.reg a).toNat / 16 % 4) ((s.reg a).toNat / 65536 % 65536)
      done (r.2.setReg d (BitVec.ofNat 64 r.1)) := by
  have hsheet : s.sheetId = th / 64 / 256 := by
    have hcore : s.sheetId = th / 8 / 2048 := by rw [State.sheetId, State.coreId, hcur]; rfl
    omega
  rw [exec_phnew, execPhnew, issueScalar_of_issues h hguard]
  simp only [State.isPost_task hcur, State.launchOf_task hcur, Bool.not_eq_true', hsheet]

end

end Sys2Proof.Machine

namespace Sys2Proof.Proofs
open Sys2Proof.Machine Sys2Proof.Claims

/-- What an event does to its phaser: the first part of O41. -/
theorem phaserEvents (s : State) (i : Nat) (p q : Phaser) (hi : i < 2 ^ 31) (hlive : liveAt s i p) :
    (∀ m t n, settlesIn 4 (signalled p m t n) q → phaserEvent s (s.signal i m t n) i p q) ∧
    (∀ t, settlesIn 4 { p with deliveries := p.deliveries.set t (p.deliveries.get 0 t + 1) } q → phaserEvent s (s.deliver i t) i p q) ∧
    (∀ m, settlesIn 4 { p with members := p.members.del m } q → phaserEvent s (s.settlePhaser i { p with members := p.members.del m }) i p q) := by
  have hbroken := broken_of_live hlive
  refine ⟨fun m t n h => ?_, fun t h => ?_, fun m h => State.phaserEvent_settlePhaser hi rfl rfl hbroken h⟩
  · rw [State.signal_eq hlive]
    exact State.phaserEvent_settlePhaser hi rfl rfl hbroken h
  · rw [State.deliver_eq hlive]
    exact State.phaserEvent_settlePhaser hi rfl rfl hbroken h

section
variable {s : State} {g : Guard} {d a b : BitVec 5} {th : Nat} {side : Side} {p : Phaser} (hcur : s.cur = .task th side) (hguard : s.selected g = true)
  (hp : namesPhaser s th (s.reg a) p)
include hcur hguard

/-- An instruction of the group whose id is not admitted raises cause 0x1A. -/
theorem phaser_refused {i : Instr} (hi : i ∈ [Instr.phwait g d a b, .phsig g d a b, .phnext g d a b, .phreg g d a b, .phdrop g d a b, .phread g d a b])
    (h : Issues i s) (hp : ∀ p, ¬namesPhaser s th (s.reg a) p) : exec i s = raise0 0x1A s := by
  simp only [List.mem_cons, List.not_mem_nil, or_false] at hi
  rcases hi with rfl | rfl | rfl | rfl | rfl | rfl
  · rw [exec_phwait, execPhwait, phaserOp_refused hcur hguard h hp]
  · rw [exec_phsig, execPhsig, phaserOp_refused hcur hguard h hp]
  · rw [exec_phnext, execPhnext, phaserOp_refused hcur hguard h hp]
  · rw [exec_phreg, execPhreg, phaserOp_refused hcur hguard h hp]
  · rw [exec_phdrop, execPhdrop, phaserOp_refused hcur hguard h hp]
  · rw [exec_phread, execPhread, phaserOp_refused hcur hguard h hp]

include hp

/-- PHWAIT raises, completes or waits (R328). -/
theorem phwait_spec (h : Issues (.phwait g d a b) s) :
    (s.ctx.kept = [] → (∀ e, p.members.get? (s.thread th).member = some e → e.1 / 2 % 2 = 0) → exec (.phwait g d a b) s = raise0 0x1A s) ∧
    (s.ctx.kept ≠ [] ∨ (∃ e, p.members.get? (s.thread th).member = some e ∧ e.1 / 2 % 2 = 1) →
      ((p.phase - BitVec.ofNat 32 (s.reg b).toNat).toNat < 2 ^ 31 →
        Completes ((s.setReg d (BitVec.ofNat 64 p.phase.toNat)).acquire p.scope) (exec (.phwait g d a b) s)) ∧
      (2 ^ 31 ≤ (p.phase - BitVec.ofNat 32 (s.reg b).toNat).toNat → waitsFor (.phase (s.reg a).toNat ((s.reg b).toNat % 2 ^ 32)) s (exec (.phwait g d a b) s))) := by
  have hmarked : s.Progressed (s.upd fun k => { k with kept := [1] }) := .upd s ⟨s.ctx.stage, s.ctx.keep, [1], rfl⟩
  rw [exec_phwait_eq hcur hguard hp h]
  refine ⟨fun hkept hmode => if_pos ⟨hkept, (p.mayWait_eq_false_iff _).2 hmode⟩, fun hadmitted => ?_⟩
  rw [if_neg]
  · exact ⟨hmarked.phaseWait_completes, fun hahead => by rw [← BitVec.toNat_ofNat]; exact hmarked.phaseWait_waits hahead⟩
  · rintro ⟨hkept, hmode⟩
    rcases hadmitted with hno | hyes
    · exact hno hkept
    · rw [(p.mayWait_iff _).2 hyes] at hmode; cases hmode

/-- PHSIG signals, and writes its phase (R329). -/
theorem phsig_spec {t : BitVec 32} (hpost : (s.thread th).post = true) (hstart : signalStart s p (s.thread th).member (s.reg b).toNat t) (h : Issues (.phsig g d a b) s) :
    Completes ((s.signal (s.reg a).toNat (s.thread th).member t (s.reg b).toNat).setReg d (BitVec.ofNat 64 t.toNat)) (exec (.phsig g d a b) s) := by
  obtain ⟨u, hu, hop⟩ := signalOp_start hcur (b := b) (id := (s.reg a).toNat) (f := fun t s => done (s.setReg d (BitVec.ofNat 64 t.toNat))) hpost hstart
  have hlive := liveAt_of_names hp
  have hbroken := broken_of_live hlive
  rw [exec_phsig_eq hcur hguard hp h, hop, State.signal_eq hlive, State.signal_eq (hu.liveAt_iff.2 hlive)]
  exact ((hu.map (offstage_settlePhaser _ (p := signalled p _ t _) hbroken)).setReg d _).completes (completes_done _)

omit hcur hguard hp in
/-- The wait of PHNEXT after its signal completes, or keeps its phase for the next issue. -/
theorem phnextWait_spec {r w : State} (hr : r.Progressed w) {i : Nat} {t : BitVec 32} {q : Phaser} :
    ((q.phase - (t + 1)).toNat < 2 ^ 31 → Completes ((r.setReg d (BitVec.ofNat 64 q.phase.toNat)).acquire q.scope)
      ((w.upd fun k => { k with stage := 4, keep := BitVec.ofNat 64 (t + 1).toNat }).phaseWait i q (t + 1) d)) ∧
    (2 ^ 31 ≤ (q.phase - (t + 1)).toNat →
      waitsFor (.phase i (t + 1).toNat) r ((w.upd fun k => { k with stage := 4, keep := BitVec.ofNat 64 (t + 1).toNat }).phaseWait i q (t + 1) d) ∧
      ∀ u, (w.upd fun k => { k with stage := 4, keep := BitVec.ofNat 64 (t + 1).toNat }).phaseWait i q (t + 1) d = .next u →
        u.ctx.stage = 4 ∧ u.ctx.keep = BitVec.ofNat 64 (t + 1).toNat) := by
  have hmarked := hr.trans (.upd w (f := fun k => { k with stage := 4, keep := BitVec.ofNat 64 (t + 1).toNat }) ⟨4, BitVec.ofNat 64 (t + 1).toNat, w.ctx.kept, rfl⟩)
  refine ⟨hmarked.phaseWait_completes, fun hahead => ⟨hmarked.phaseWait_waits hahead, fun u hu => ?_⟩⟩
  rw [State.phaseWait_ahead hahead] at hu
  obtain rfl := Host.Outcome.next.inj hu
  rw [State.block, State.ctx_upd, State.ctx_upd]
  exact ⟨rfl, rfl⟩

/-- PHNEXT signals, and then raises, completes or waits (R358). -/
theorem phnext_spec {t : BitVec 32} {q : Phaser} (hpost : (s.thread th).post = true) (hstart : signalStart s p (s.thread th).member (s.reg b).toNat t)
    (h : Issues (.phnext g d a b) s) (hq : settlesIn 4 (signalled p (s.thread th).member t (s.reg b).toNat) q) :
    (q.broken = true ∨ (∀ e, p.members.get? (s.thread th).member = some e → e.1 / 2 % 2 = 0) →
      ∃ u, exec (.phnext g d a b) s = raise0 0x1A u ∧ u = { s.signal (s.reg a).toNat (s.thread th).member t (s.reg b).toNat with ctxs := u.ctxs } ∧
        u.ctx.held = (s.signal (s.reg a).toNat (s.thread th).member t (s.reg b).toNat).ctx.held) ∧
    (q.broken = false → (∃ e, p.members.get? (s.thread th).member = some e ∧ e.1 / 2 % 2 = 1) →
      ((q.phase - (t + 1)).toNat < 2 ^ 31 →
        Completes (((s.signal (s.reg a).toNat (s.thread th).member t (s.reg b).toNat).setReg d (BitVec.ofNat 64 q.phase.toNat)).acquire p.scope) (exec (.phnext g d a b) s)) ∧
      (2 ^ 31 ≤ (q.phase - (t + 1)).toNat →
        waitsFor (.phase (s.reg a).toNat (t + 1).toNat) (s.signal (s.reg a).toNat (s.thread th).member t (s.reg b).toNat) (exec (.phnext g d a b) s) ∧
        ∀ u, exec (.phnext g d a b) s = .next u → u.ctx.stage = 4 ∧ u.ctx.keep = BitVec.ofNat 64 (t + 1).toNat)) := by
  obtain ⟨u, hu, hop⟩ := signalOp_start hcur (b := b) (id := (s.reg a).toNat) (f := phnextAfter (s.reg a).toNat a d) hpost hstart
  have hlive := liveAt_of_names hp
  have hbroken := broken_of_live hlive
  have hstage : s.ctx.stage ≠ 4 := by
    rcases hstart with ⟨hstage, -⟩ | ⟨hstage | hstage, -⟩ <;> rw [hstage] <;> decide
  have hsettle := Phaser.settle_of_settlesIn hq
  have hr : (s.signal (s.reg a).toNat (s.thread th).member t (s.reg b).toNat).Progressed (u.signal (s.reg a).toNat (s.thread th).member t (s.reg b).toNat) := by
    rw [State.signal_eq hlive, State.signal_eq (hu.liveAt_iff.2 hlive)]
    exact hu.map (offstage_settlePhaser _ (p := signalled p _ t _) hbroken)
  have hscope : q.scope = p.scope := by
    obtain ⟨-, -, -, hscope, -⟩ := Phaser.sameClass_settle 4 (signalled p (s.thread th).member t (s.reg b).toNat)
    rw [← hsettle, hscope]; rfl
  rw [exec_phnext_eq hcur hguard hp h, if_neg hstage, hop, phnextAfter_signal hcur hp hu hsettle]
  refine ⟨fun hrefused => ⟨_, if_pos (hrefused.imp_right (p.mayWait_eq_false_iff _).2), hr.frame_eq, hr.held⟩, fun hunbroken hmode => ?_⟩
  rw [if_neg (by rw [hunbroken, (p.mayWait_iff _).2 hmode]; decide), ← hscope]
  exact phnextWait_spec hr

/-- PHREG refuses or registers (R356, R357). -/
theorem phreg_spec (h : Issues (.phreg g d a b) s) :
    ((s.thread th).post = false ∨ 2 ^ 18 ≤ (s.reg b).toNat ∨ (s.reg b).toNat / 2 ^ 16 % 4 = 0 ∨ (p.members.get? ((s.reg b).toNat % 2 ^ 16)).isSome = true →
      exec (.phreg g d a b) s = raise0 0x1A s) ∧
    ((s.thread th).post = true → (s.reg b).toNat < 2 ^ 18 → (s.reg b).toNat / 2 ^ 16 ≠ 0 → p.members.get? ((s.reg b).toNat % 2 ^ 16) = none →
      ∀ first : BitVec 32, ((∃ k, expectedNow p k) → first = p.phase + 1) → ((∀ k, ¬expectedNow p k) → first = p.phase) →
        Completes ((putPhaser (s.reg a).toNat { p with members := p.members.set ((s.reg b).toNat % 2 ^ 16) ((s.reg b).toNat / 2 ^ 16, first) } s).setReg d
          (if (s.reg b).toNat / 2 ^ 16 = 2 then BitVec.allOnes 64 else BitVec.ofNat 64 first.toNat)) (exec (.phreg g d a b) s)) := by
  have hexec := exec_phreg_eq hcur hguard hp h
  refine ⟨fun hrefused => hexec.trans (if_pos hrefused), fun hpost hlt hmode hmember first hnext hnow => ?_⟩
  have hfirst : (if (p.expected p.phase).isEmpty then p.phase else p.phase + 1) = first := by
    by_cases hempty : ∀ k, ¬expectedNow p k
    · rw [if_pos (p.isEmpty_expected.2 hempty), hnow hempty]
    · rw [if_neg (mt p.isEmpty_expected.1 hempty), hnext (not_forall_not.1 hempty)]
  have hmod : (s.reg b).toNat / 65536 % 4 = (s.reg b).toNat / 2 ^ 16 := by omega
  have hsignals : signals ((s.reg b).toNat / 2 ^ 16) = decide ((s.reg b).toNat / 2 ^ 16 ≠ 2) := by
    have hcases : (s.reg b).toNat / 2 ^ 16 = 1 ∨ (s.reg b).toNat / 2 ^ 16 = 2 ∨ (s.reg b).toNat / 2 ^ 16 = 3 := by omega
    rcases hcases with hmode | hmode | hmode <;> rw [hmode] <;> rfl
  rw [if_neg, hfirst, hmod, hsignals] at hexec
  · rw [hexec]
    simp only [decide_eq_true_eq, ite_not]
    exact completes_done _
  · rw [hpost, hmod, show (65536 : Nat) = 2 ^ 16 from rfl, hmember]
    simp only [Bool.true_eq_false, Option.isSome_none, Bool.false_eq_true, or_false, false_or]
    omega

/-- PHDROP raises, or removes its member, which may advance the phase (R357). -/
theorem phdrop_spec (h : Issues (.phdrop g d a b) s) :
    (p.members.get? ((s.reg b).toNat % 2 ^ 16) = none → exec (.phdrop g d a b) s = raise0 0x1A s) ∧
    ((p.members.get? ((s.reg b).toNat % 2 ^ 16)).isSome = true → (s.thread th).post = true → s.releaseReady →
      (¬expectedNow p ((s.reg b).toNat % 2 ^ 16) ∨ ((s.reg b).toNat % 2 ^ 16, p.phase) ∈ p.signalled →
        Completes ((putPhaser (s.reg a).toNat { p with members := p.members.del ((s.reg b).toNat % 2 ^ 16) } s).setReg d (BitVec.ofNat 64 p.phase.toNat)) (exec (.phdrop g d a b) s)) ∧
      (∀ q, expectedNow p ((s.reg b).toNat % 2 ^ 16) → ((s.reg b).toNat % 2 ^ 16, p.phase) ∉ p.signalled →
        settlesIn 4 { p with members := p.members.del ((s.reg b).toNat % 2 ^ 16) } q →
        Completes ((s.settlePhaser (s.reg a).toNat { p with members := p.members.del ((s.reg b).toNat % 2 ^ 16) }).setReg d (BitVec.ofNat 64 q.phase.toNat)) (exec (.phdrop g d a b) s))) := by
  refine ⟨exec_phdrop_refused hcur hguard hp h, fun hmember hpost hready => ?_⟩
  obtain ⟨u, hu, hexec⟩ := exec_phdrop_ready hcur hguard hp h hmember hpost hready
  have hbroken := broken_of_live (liveAt_of_names hp)
  obtain ⟨hid, -⟩ := id hp
  have hdue : ((p.expected p.phase).contains ((s.reg b).toNat % 2 ^ 16) && !p.signalled.contains ((s.reg b).toNat % 2 ^ 16, p.phase)) = true ↔
      expectedNow p ((s.reg b).toNat % 2 ^ 16) ∧ ((s.reg b).toNat % 2 ^ 16, p.phase) ∉ p.signalled := by
    rw [Bool.and_eq_true, List.contains_iff_mem, p.mem_expected_now, Bool.not_eq_true', Bool.eq_false_iff, ne_eq, List.contains_iff_mem]
  refine ⟨fun hidle => ?_, fun q hexpected hunheard hq => ?_⟩
  · rw [hexec, if_neg (by rw [hdue]; rintro ⟨hexpected, hunheard⟩; exact hidle.elim (fun hno => hno hexpected) hunheard)]
    dsimp only
    rw [State.phaserAt_setPhaser, ← State.setPhaser_eq hid]
    exact ((hu.map (offstage_setPhaser _ _)).setReg d _).completes (completes_done _)
  · obtain ⟨hat, -⟩ := State.settlePhaser_spec (s := u) (id := (s.reg a).toNat) (p := p.without ((s.reg b).toNat % 2 ^ 16)) hbroken
    rw [hexec, if_pos (hdue.2 ⟨hexpected, hunheard⟩)]
    dsimp only
    rw [hat, Phaser.settle_of_settlesIn (p := p.without ((s.reg b).toNat % 2 ^ 16)) hq]
    exact ((hu.map (offstage_settlePhaser _ (p := p.without _) hbroken)).setReg d _).completes (completes_done _)

/-- PHREAD reads the counts or the sums, or raises (R358). -/
theorem phread_spec (h : Issues (.phread g d a b) s) :
    ((s.reg b).toNat = 0 → p.members.length < 2 ^ 16 → ∃ v : Word, Completes (s.setReg d v) (exec (.phread g d a b) s) ∧ bitsAt v 63 32 = p.phase.toNat ∧
      bitsAt v 15 0 = (p.members.filter (fun x => decide (x.2.1 % 2 = 1))).length ∧
      bitsAt v 31 16 = (p.members.filter (fun x => decide (x.2.1 % 2 = 1 ∧ (p.phase - x.2.2).toNat < 2 ^ 31 ∧ (x.1, p.phase) ∉ p.signalled))).length) ∧
    ((s.reg b).toNat = 1 → p.counting = true → ∃ v : Word, Completes (s.setReg d v) (exec (.phread g d a b) s) ∧ bitsAt v 63 32 = min 0xFFFFFFFF (p.sums.get 0 p.phase) ∧
      bitsAt v 31 0 = min 0xFFFFFFFF (p.deliveries.get 0 p.phase)) ∧
    (2 ≤ (s.reg b).toNat ∨ ((s.reg b).toNat = 1 ∧ p.counting = false) → exec (.phread g d a b) s = raise0 0x1A s) := by
  refine ⟨fun hy hlen => ⟨_, exec_phread_counts hcur hguard hp h hy ▸ completes_done _, ?_⟩, fun hy hcounting =>
    ⟨_, exec_phread_sums hcur hguard hp h hy hcounting ▸ completes_done _, ?_⟩, exec_phread_refused hcur hguard hp h⟩
  · have hall := p.members.length_filter_le fun x => signals x.2.1
    have hdue := p.members.length_filter_le fun x => decide (x.2.1 % 2 = 1 ∧ (p.phase - x.2.2).toNat < 2 ^ 31 ∧ (x.1, p.phase) ∉ p.signalled)
    have hsignals : (p.members.filter fun x => decide (x.2.1 % 2 = 1)) = p.members.filter fun x => signals x.2.1 := rfl
    have hphase := p.phase.isLt
    rw [p.length_due, hsignals]
    simp only [bitsAt, BitVec.toNat_ofNat]
    omega
  · have hlow := min_le_left 0xFFFFFFFF (p.deliveries.get 0 p.phase)
    have hhigh := min_le_left 0xFFFFFFFF (p.sums.get 0 p.phase)
    simp only [bitsAt, BitVec.toNat_ofNat]
    omega

omit hp in
/-- PHFREE answers whether it has freed its phaser (R356). -/
theorem phfree_spec {p : Phaser} (hp : namesPhaser s th (s.reg a) p) (h : Issues (.phfree g d a) s) (hpost : (s.thread th).post = true) :
    let busy : Prop := (∃ c ∈ s.ctxs, ∃ w ph, c.2.wait = some w ∧ w.cond = .phase (s.reg a).toNat ph) ∨
      ∃ c ∈ s.clusters, ∃ t ∈ c.2.tracers, t.2.d.sig = true ∧ t.2.d.phaser = (s.reg a).toNat
    (busy → Completes (s.setReg d 0) (exec (.phfree g d a) s)) ∧
    (¬busy → Completes ((putPhaser (s.reg a).toNat { p with live := false, gen := (p.gen + 1) % 512 } s).setReg d 1) (exec (.phfree g d a) s)) := by
  intro busy
  have hbusy : s.phaserBusy (s.reg a).toNat = true ↔ busy := s.phaserBusy_iff _
  rw [exec_phfree_named hcur hguard h hpost hp]
  refine ⟨fun h => ?_, fun h => ?_⟩
  · rw [if_pos (hbusy.2 h)]; exact completes_done _
  · rw [if_neg (mt hbusy.1 h)]; exact completes_done _

omit hp in
/-- PHNEW refuses its operand, finds no free index, or makes a phaser at the lowest one (R356). -/
theorem phnew_spec (h : Issues (.phnew g d a) s) (hpost : (s.thread th).post = true) :
    let id := (s.reg a).toNat
    (2 ^ 32 ≤ id ∨ id / 64 % 1024 ≠ 0 ∨ id % 8 = 7 ∨ (id / 16 % 4 = 0 ∧ 2 ^ 16 ≤ id) → exec (.phnew g d a) s = raise0 0x1A s) ∧
    (id < 2 ^ 32 → id / 64 % 1024 = 0 → id % 8 ≠ 7 → id / 16 % 4 ≠ 0 ∨ id < 2 ^ 16 →
      let tree : Prop := 4 ≤ id % 8
      let home := if tree then (s.launch (s.thread th).launch).origin else th / 64 / 256
      let table := if tree then s.treePhasers else (s.sheet home).phasers
      let size := if tree then 256 else 4096
      let taken := fun (n : Nat) => ∃ q, table.get? n = some q ∧ q.live = true
      ((∀ n, n < size → taken n) → Completes (s.setReg d 0) (exec (.phnew g d a) s)) ∧
      (∀ k, k < size → (∀ n, n < k → taken n) → ¬taken k →
        let gen := ((table.get? k).map Phaser.gen).getD 0
        home < 32 → gen < 512 →
        ∃ (r : State) (q : Phaser), Completes (r.setReg d (BitVec.ofNat 64 ((if tree then 2 ^ 30 else 0) + home * 2 ^ 25 + gen * 2 ^ 16 + k))) (exec (.phnew g d a) s) ∧
          r = (if tree then { s with treePhasers := s.treePhasers.set k q } else s.mapSheet home (fun h => { h with phasers := h.phasers.set k q })) ∧ q.live = true ∧ q.gen = gen ∧
          q.phase = 0 ∧ q.scope = id % 8 ∧ q.counting = decide (id / 8 % 2 = 1) ∧ q.launch = (s.thread th).launch ∧ q.broken = false ∧ q.signalled = [] ∧
          ∀ n, q.members.get? n = if n < id / 2 ^ 16 then some (id / 16 % 4, 0) else none)) := by
  intro id
  have hexec := exec_phnew_eq hcur hguard h
  refine ⟨fun hrefused => ?_, fun hid hreserved hscope hmode => ?_⟩
  · rw [if_pos] at hexec
    · exact hexec
    · omega
  intro tree home table size taken
  have htable : s.phaserTable (decide (4 ≤ (s.reg a).toNat % 8)) home = table := by
    rw [State.phaserTable]
    exact if_congr decide_eq_true_iff rfl rfl
  rw [if_neg] at hexec
  swap
  · rw [hpost]
    simp only [Bool.true_eq_false, false_or]
    omega
  refine ⟨fun hfull => ?_, fun k hk hbelow hfree => ?_⟩
  · rw [State.newPhaser_full home rfl fun k hk => by rw [htable]; exact hfull k hk] at hexec
    rw [hexec]
    exact completes_done _
  · intro gen hhome hgen
    rw [State.newPhaser_free home rfl hk (by rw [htable]; exact hbelow) (by rw [htable]; exact hfree), htable] at hexec
    refine ⟨_, Phaser.new (id % 8) (id / 8 % 2 == 1) (s.thread th).launch gen (id / 16 % 4) (id / 65536 % 65536), hexec ▸ completes_done _,
      State.setPhaser_new hhome hgen hk _, rfl, rfl, rfl, rfl, beq_eq_decide .., rfl, rfl, rfl, fun n => ?_⟩
    rw [Phaser.get?_members_new, show id / 65536 % 65536 = id / 2 ^ 16 by omega]

end

end Sys2Proof.Proofs

namespace Sys2Proof.Proofs
open Sys2Proof.Machine Sys2Proof.Claims

/-- Settles O41, from what an event on a phaser leaves of it, and from what each instruction of the group does with the phaser that its register names. -/
theorem phasersAdvanceAndSynchronise : Obligations.PhasersAdvanceAndSynchronise := by
  refine ⟨phaserEvents, fun s g d a b th side hcur hguard => ?_⟩
  intro id y m ops
  refine ⟨fun i hi h hp => phaser_refused hcur hguard hi h hp, fun p hp => ⟨phwait_spec hcur hguard hp, fun i hi h hstage hkept hrefused => ?_,
      fun t hstart hpost => ⟨phsig_spec hcur hguard hp hpost hstart, fun q h hq => phnext_spec hcur hguard hp hpost hstart h hq⟩,
      fun h hstage hreached => ?_, phreg_spec hcur hguard hp, phdrop_spec hcur hguard hp, phread_spec hcur hguard hp, phfree_spec hcur hguard hp⟩,
    exec_phfree_unnamed hcur hguard, fun i hi h hpost => ?_, phnew_spec hcur hguard⟩
  · rcases hi with rfl | rfl
    · exact (exec_phsig_eq hcur hguard hp h).trans (signalOp_refused hcur hkept hrefused)
    · exact (exec_phnext_eq hcur hguard hp h).trans ((if_neg (by rw [hstage]; decide)).trans (signalOp_refused hcur hkept hrefused))
  · rw [exec_phnext_eq hcur hguard hp h, if_pos hstage]
    exact (State.Progressed.refl s).phaseWait_completes hreached
  · rcases hi with rfl | rfl
    · exact (exec_phnew_eq hcur hguard h).trans (if_pos (.inl hpost))
    · exact exec_phfree_pre hcur hguard h hpost

end Sys2Proof.Proofs

/-! # Loads and stores of global memory (O19) -/

namespace Sys2Proof.Machine
open Sys2Proof.Claims

/-! ### Bytes of a line -/

theorem getLsbD_widen (m : LineMask) {j : Nat} (hj : j < 2048) : (widen m).getLsbD j = m.getLsbD (j / 8) := by
  have hfold (l : List Nat) : (l.foldr (fun k acc => if m.getLsbD k then acc ||| BitVec.ofNat 2048 (255 * 2 ^ (8 * k)) else acc) (0 : LineData)).getLsbD j = true ↔
      j / 8 ∈ l ∧ m.getLsbD (j / 8) = true := by
    induction l with
    | nil => exact ⟨fun h => absurd h (by rw [List.foldr_nil, show (0 : LineData) = 0#2048 from rfl, BitVec.getLsbD_zero]; decide), fun ⟨h, _⟩ => nomatch h⟩
    | cons k l ih =>
      have hbit : (BitVec.ofNat 2048 (255 * 2 ^ (8 * k))).getLsbD j = decide (j / 8 = k) := by
        rw [BitVec.getLsbD_ofNat, Nat.testBit_mul_two_pow, show (255 : Nat) = 2 ^ 8 - 1 from rfl, Nat.testBit_two_pow_sub_one]
        simp only [hj, decide_true, Bool.true_and, ← Bool.decide_and]
        exact decide_eq_decide.2 (by omega)
      rw [List.foldr_cons, List.mem_cons]
      split
      · next hm =>
        rw [BitVec.getLsbD_or, hbit, Bool.or_eq_true, decide_eq_true_eq, ih]
        exact ⟨fun h => h.elim (fun ⟨hl, hj⟩ => ⟨.inr hl, hj⟩) fun hk => ⟨.inl hk, hk ▸ hm⟩, fun ⟨h, hj⟩ => h.elim .inr fun hl => .inl ⟨hl, hj⟩⟩
      · next hm =>
        rw [ih]
        exact and_congr_left fun hj => ⟨.inr, fun h => h.resolve_left fun hk => hm (hk ▸ hj)⟩
  rw [Bool.eq_iff_iff, widen, hfold]
  exact and_iff_right (List.mem_range.2 (by omega))

/-- A byte of a line with the marked bytes taken from another. -/
theorem getBytes_overlay (old new : LineData) (m : LineMask) {k : Nat} (hk : k < 256) :
    getBytes (overlay old new m) k 1 = if m.getLsbD k then getBytes new k 1 else getBytes old k 1 := by
  refine Nat.eq_of_testBit_eq fun i => ?_
  by_cases hi : i < 8
  · have hj : 8 * k + i < 2048 := by omega
    have hmark := getLsbD_widen m hj
    rw [show (8 * k + i) / 8 = k by omega] at hmark
    rw [testBit_getBytes, overlay, BitVec.getLsbD_or, BitVec.getLsbD_and, BitVec.getLsbD_and, BitVec.getLsbD_not, hmark, apply_ite (Nat.testBit · i), testBit_getBytes, testBit_getBytes]
    cases m.getLsbD k <;> simp [hi, hj]
  · have hhigh (v : LineData) : (getBytes v k 1).testBit i = false := by rw [testBit_getBytes]; simp; omega
    rw [hhigh]
    split <;> rw [hhigh]

/-- A byte of a range of a line. -/
theorem getBytes_div (v : LineData) (off : Nat) {n k : Nat} (hk : k < n) : getBytes v off n / 2 ^ (8 * k) % 2 ^ 8 = getBytes v (off + k) 1 := by
  refine Nat.eq_of_testBit_eq fun i => ?_
  rw [Nat.testBit_mod_two_pow, Nat.testBit_div_two_pow, testBit_getBytes, testBit_getBytes, show 8 * off + (i + 8 * k) = 8 * (off + k) + i by ring, ← Bool.and_assoc, ← Bool.decide_and]
  exact congrArg (· && _) (decide_eq_decide.2 (by omega))

theorem lineBytes_eq (d : LineData) (off n : Nat) : lineBytes d off n = (List.range n).map fun k => BitVec.ofNat 8 (getBytes d (off + k) 1) := by
  have hlen : (lineBytes d off n).length = n := length_leBytes n _
  refine List.ext_getElem (by rw [hlen, List.length_map, List.length_range]) fun k hk _ => ?_
  have hbyte : (lineBytes d off n).getD k 0 = BitVec.ofNat 8 (getBytes d off n / 2 ^ (8 * k)) := getD_leBytes (getBytes d off n) (hlen ▸ hk)
  rw [List.getElem_map, List.getElem_range, ← getBytes_div d off (hlen ▸ hk), ← List.getD_eq_getElem (d := 0) (hn := hk), hbyte]
  exact BitVec.eq_of_toNat_eq (by simp only [BitVec.toNat_ofNat, Nat.mod_mod])

/-- A byte that a store places in a line. -/
theorem getBytes_lineOf {off k : Nat} {bs : List Byte} (hlo : off ≤ k) (hk : k < 256) : getBytes (lineOf off bs) k 1 = leNat bs / 2 ^ (8 * (k - off)) % 256 := by
  refine Nat.eq_of_testBit_eq fun i => ?_
  rw [testBit_getBytes, lineOf, BitVec.getLsbD_ofNat, Nat.testBit_mul_two_pow, show (256 : Nat) = 2 ^ 8 from rfl, Nat.testBit_mod_two_pow, Nat.testBit_div_two_pow]
  by_cases hi : i < 8
  · have hin : 8 * k + i < 2048 := by omega
    have hge : 8 * off ≤ 8 * k + i := by omega
    simp [hi, hin, hge, show 8 * k + i - 8 * off = i + 8 * (k - off) by omega]
  · simp [hi]

/-- A byte that a store of a number places in a line. -/
theorem getBytes_lineOf_leBytes {off k n x : Nat} (hlo : off ≤ k) (hhi : k < off + n) (hk : k < 256) :
    getBytes (lineOf off (leBytes n x)) k 1 = x / 2 ^ (8 * (k - off)) % 256 := by
  rw [getBytes_lineOf hlo hk, leNat_leBytes, show (256 : Nat) ^ n = 2 ^ (8 * n) by rw [Nat.pow_mul], show (256 : Nat) = 2 ^ 8 from rfl]
  refine Nat.eq_of_testBit_eq fun i => ?_
  rw [Nat.testBit_mod_two_pow, Nat.testBit_mod_two_pow, Nat.testBit_div_two_pow, Nat.testBit_div_two_pow, Nat.testBit_mod_two_pow]
  by_cases hi : i < 8
  · simp [hi, show i + 8 * (k - off) < 8 * n by omega]
  · simp [hi]

/-- A byte of a line over which a store is laid. -/
theorem getBytes_overlay_store (old : LineData) {off n x k : Nat} (hk : k < 256) : getBytes (overlay old (lineOf off (leBytes n x)) (lineMask off n)) k 1 =
    if off ≤ k ∧ k < off + n then x / 2 ^ (8 * (k - off)) % 256 else getBytes old k 1 := by
  rw [getBytes_overlay _ _ _ hk, getLsbD_lineMask hk]
  by_cases h : off ≤ k ∧ k < off + n
  · rw [if_pos h, if_pos (decide_eq_true h), getBytes_lineOf_leBytes h.1 h.2 hk]
  · rw [if_neg h, if_neg (by rwa [decide_eq_true_eq])]

theorem getLsbD_sectorBytes (v : BitVec 4) {k : Nat} (hk : k < 256) : (sectorBytes v).getLsbD k = v.getLsbD (k / 64) := by
  have hsector (m : LineMask) (i : Nat) : (if v.getLsbD i then m ||| lineMask (64 * i) 64 else m).getLsbD k = (m.getLsbD k || (v.getLsbD i && decide (k / 64 = i))) := by
    cases v.getLsbD i
    · simp
    · rw [if_pos rfl, BitVec.getLsbD_or, getLsbD_lineMask hk, Bool.true_and]
      exact congrArg _ (decide_eq_decide.2 (by omega))
  have hrange : List.range 4 = [0, 1, 2, 3] := rfl
  rw [sectorBytes, hrange]
  simp only [List.foldl_cons, List.foldl_nil, hsector]
  have hcases : k / 64 = 0 ∨ k / 64 = 1 ∨ k / 64 = 2 ∨ k / 64 = 3 := by omega
  rcases hcases with h | h | h | h <;> rw [h] <;> simp

end Sys2Proof.Machine

namespace Sys2Proof.Machine
open Sys2Proof.Claims

/-! ### LD and ST of global memory (R124, R127) -/

theorem aligned_fits (z : BitVec 3) {va : Nat} (h : va % accessSize z = 0) : va % 256 + accessSize z ≤ 256 := by
  have hsize (z : BitVec 3) : accessSize z = 1 ∨ accessSize z = 2 ∨ accessSize z = 4 ∨ accessSize z = 8 := by revert z; decide
  rcases hsize z with hz | hz | hz | hz <;> rw [hz] at h ⊢ <;> omega

section
variable {s : State} {g : Guard} {d b : BitVec 5} {z : BitVec 3} {o : BitVec 6} (hguard : s.selected g = true) (hsurveyor : s.cur.isSurveyor = false) (hplain : plainOrder s)
include hguard hsurveyor hplain

theorem exec_ld_global (h : Issues (.ld g d b z 0 o) s) :
    exec (.ld g d b z 0 o) s =
      (s.loadGlobal (address s b z o).toNat (accessSize z) 0 s.ordHint.2 s.l1Policy).run fun r t => done ((t.acquirePart r.2).setReg d (loadValue z r.1)) := by
  rw [exec_ld, execLd, issueScalar_of_issues h hguard, s.dataAddr_eq, sizeOf_eq, State.readAt, State.ordHint_plain hplain]
  simp only [show ((0 : BitVec 1) == 1) = false from rfl, Bool.false_eq_true, if_false, State.load, hsurveyor]

theorem exec_st_global (h : Issues (.st g d b z 0 o) s) :
    exec (.st g d b z 0 o) s =
      (s.storeGlobal (address s b z o).toNat (leBytes (accessSize z) (s.reg d).toNat) 0 s.ordHint.2 s.l1Policy).run fun _ t => done t := by
  rw [exec_st, execSt, issueScalar_of_issues h hguard, s.dataAddr_eq, sizeOf_eq, State.writeAt, State.ordHint_plain hplain]
  simp only [show ((0 : BitVec 1) == 1) = false from rfl, Bool.false_eq_true, if_false, State.store, hsurveyor]

/-- A misaligned global address raises cause 0x05 before any translation (R124, R126). -/
theorem exec_ld_global_misaligned (h : Issues (.ld g d b z 0 o) s) (hmis : (address s b z o).toNat % accessSize z ≠ 0) :
    exec (.ld g d b z 0 o) s = raise 5 (address s b z o) s := by
  rw [exec_ld_global hguard hsurveyor hplain h, State.loadGlobal]
  dsimp only
  rw [if_pos hmis, Acc.run_trap, BitVec.ofNat_toNat, BitVec.setWidth_eq]

theorem exec_st_global_misaligned (h : Issues (.st g d b z 0 o) s) (hmis : (address s b z o).toNat % accessSize z ≠ 0) :
    exec (.st g d b z 0 o) s = raise 5 (address s b z o) s := by
  rw [exec_st_global hguard hsurveyor hplain h, State.storeGlobal, length_leBytes, if_pos hmis, Acc.run_trap, BitVec.ofNat_toNat, BitVec.setWidth_eq]

/-- A plain store has no release part (R285). -/
theorem exec_st_global_aligned (h : Issues (.st g d b z 0 o) s) (halign : (address s b z o).toNat % accessSize z = 0) :
    exec (.st g d b z 0 o) s =
      (s.placeStore (address s b z o).toNat (lineMask ((address s b z o).toNat % 256) (accessSize z))
        (lineOf ((address s b z o).toNat % 256) (leBytes (accessSize z) (s.reg d).toNat)) 0 s.ordHint.2 s.l1Policy .whole).run fun _ t => done t := by
  rw [exec_st_global hguard hsurveyor hplain h, State.storeGlobal, length_leBytes, if_neg fun hmis => hmis halign, State.storeMasked]
  rfl

end

/-! ### A load that hits (R261 to R264) -/

theorem Core.entry?_key {k : Core} {asid line : Nat} {e : L1Entry} (h : k.entry? asid line = some e) : e.asid = asid ∧ e.line = line := by
  have hfound := List.find?_some h
  rwa [Bool.and_eq_true, beq_iff_eq, beq_iff_eq] at hfound

theorem Core.spec?_key {k : Core} {asid line slot : Nat} {p : SpecEntry} (h : k.spec? asid line slot = some p) : p.asid = asid ∧ p.line = line ∧ p.slot = slot := by
  have hfound := List.find?_some h
  rwa [Bool.and_eq_true, Bool.and_eq_true, beq_iff_eq, beq_iff_eq, beq_iff_eq, and_assoc] at hfound

/-- The mask of a speculative entry that there may be. -/
def specMask (p : Option SpecEntry) : LineMask := match p with | some p => p.mask | none => 0

/-- A line under the bytes of a speculative entry that there may be (R263). -/
def underSpec (p : Option SpecEntry) (d : LineData) : LineData := match p with | some p => overlay d p.data p.mask | none => d

/-- Every byte of the access stands in the L1d. -/
theorem hit_mask {e : L1Entry} {p : Option SpecEntry} {off n : Nat} (hall : ∀ k, k < n → holdsByte e p (off + k)) :
    lineMask off n &&& ~~~(specMask p ||| e.present) = 0 := by
  refine BitVec.eq_of_getLsbD_eq fun k hk => ?_
  rw [BitVec.getLsbD_and, BitVec.getLsbD_not, BitVec.getLsbD_or, L1Entry.present, BitVec.getLsbD_or, getLsbD_lineMask hk, getLsbD_sectorBytes _ hk]
  by_cases hin : off ≤ k ∧ k < off + n
  · have hholds := hall (k - off) (by omega)
    rw [show off + (k - off) = k by omega] at hholds
    have hany : ((specMask p).getLsbD k || (e.dirty.getLsbD k || e.valid.getLsbD (k / 64))) = true := by
      rw [Bool.or_eq_true, Bool.or_eq_true]
      rcases hholds with ⟨q, rfl, hq⟩ | hdirty | hvalid
      · exact .inl hq
      · exact .inr (.inl hdirty)
      · exact .inr (.inr hvalid)
    simp [hany]
  · simp [hin]

theorem lineBytes_seen (e : L1Entry) (p : Option SpecEntry) {off n : Nat} (hfit : off + n ≤ 256) :
    lineBytes (underSpec p (overlay e.data e.data e.dirty)) off n = (List.range n).map fun k => seenByte e p (off + k) := by
  rw [lineBytes_eq]
  refine List.map_congr_left fun k hk => ?_
  have hk' : off + k < 256 := by have := List.mem_range.1 hk; omega
  cases p with
  | none => rw [underSpec, getBytes_overlay _ _ _ hk', ite_self]; rfl
  | some p =>
    rw [underSpec, getBytes_overlay _ _ _ hk', getBytes_overlay _ _ _ hk', ite_self, seenByte]
    exact apply_ite _ _ _ _

theorem State.loadGlobal_hit {s : State} {va n scope pol : Nat} {e : L1Entry} (halign : va % n = 0) (hfit : va % 256 + n ≤ 256)
    (he : (s.core s.coreId).entry? (s.asidOf s.cur) (va / 256) = some e) (hall : ∀ k, k < n → holdsByte e (s.ownSpec (s.asidOf s.cur) (va / 256)) (va % 256 + k)) :
    s.loadGlobal va n 0 scope pol =
      if e.r then .ok ((List.range n).map (fun k => seenByte e (s.ownSpec (s.asidOf s.cur) (va / 256)) (va % 256 + k)), e.kind)
        ((s.hitLine s.coreId (s.asidOf s.cur) (va / 256) pol).useSpec (s.asidOf s.cur) (va / 256) (lineMask (va % 256) n))
      else .trap 8 (BitVec.ofNat 64 va) s := by
  have hmask := hit_mask hall
  have hbytes := lineBytes_seen e (s.ownSpec (s.asidOf s.cur) (va / 256)) hfit
  have hbits : hitBits (some e) (s.ownSpec (s.asidOf s.cur) (va / 256)) = some e.bits := rfl
  rw [State.loadGlobal]
  simp only [he, hbits]
  rw [if_neg fun hmis => hmis halign]
  rw [← hbytes, if_pos]
  · have hread : e.bits.r = e.r := rfl
    cases hr : e.r <;> rw [hread, hr] <;> rfl
  · rw [Bool.and_eq_true, beq_iff_eq]
    exact ⟨rfl, hmask⟩

theorem State.useSpec_frame (s : State) (asid line : Nat) (m : LineMask) : s.useSpec asid line m = { s with cores := (s.useSpec asid line m).cores } := by
  unfold State.useSpec
  split
  · split <;> rfl
  · rfl

section
variable {s : State} {g : Guard} {d b : BitVec 5} {z : BitVec 3} {o : BitVec 6} {e : L1Entry} (hguard : s.selected g = true) (hsurveyor : s.cur.isSurveyor = false)
  (hplain : plainOrder s)
include hguard hsurveyor hplain

/-- A load whose bytes all stand in the L1d takes them, or raises cause 0x08 where it may not read (R262, R263). -/
theorem exec_ld_global_hit (h : Issues (.ld g d b z 0 o) s) (halign : (address s b z o).toNat % accessSize z = 0)
    (he : (s.core s.coreId).entry? (s.asidOf s.cur) ((address s b z o).toNat / 256) = some e)
    (hall : ∀ k, k < accessSize z → holdsByte e (s.ownSpec (s.asidOf s.cur) ((address s b z o).toNat / 256)) ((address s b z o).toNat % 256 + k)) :
    exec (.ld g d b z 0 o) s =
      if e.r then done (((s.hitLine s.coreId (s.asidOf s.cur) ((address s b z o).toNat / 256) s.l1Policy).useSpec (s.asidOf s.cur) ((address s b z o).toNat / 256)
          (lineMask ((address s b z o).toNat % 256) (accessSize z))).setReg d
        (extended z ((List.range (accessSize z)).map (fun k => seenByte e (s.ownSpec (s.asidOf s.cur) ((address s b z o).toNat / 256)) ((address s b z o).toNat % 256 + k)))))
      else raise 8 (address s b z o) s := by
  rw [exec_ld_global hguard hsurveyor hplain h, State.loadGlobal_hit halign (aligned_fits z halign) he hall]
  cases e.r
  · simp only [Bool.false_eq_true, if_false, Acc.run_trap, BitVec.ofNat_toNat, BitVec.setWidth_eq]
  · simp only [if_true, Acc.run_ok]
    rw [State.acquirePart_plain, loadValue_eq]
    · rw [List.length_map, List.length_range]
    · rw [State.useSpec_frame]
      exact hplain

end

/-! ### A store to a line of the L1d (R261) -/

/-- An entry that a hit uses: its stamp and whether it is retained may change (R264, R286). -/
def L1Entry.usedFrom (e e' : L1Entry) : Prop := ∃ used retain, e' = { e with used := used, retain := retain }

/-- An entry of a core whose entries change by a function that keeps their keys. -/
theorem Core.entry?_of_map {k k' : Core} {f : L1Entry → L1Entry} (hl1 : k'.l1 = k.l1.map f) (hkey : ∀ e, (f e).asid = e.asid ∧ (f e).line = e.line) (asid line : Nat) :
    k'.entry? asid line = (k.entry? asid line).map f := by
  rw [Core.entry?, hl1, List.find?_map, Core.entry?]
  refine congrArg (fun q => (k.l1.find? q).map f) (funext fun e => ?_)
  rw [Function.comp_apply, (hkey e).1, (hkey e).2]

theorem Core.entry?_putEntry (k : Core) (e : L1Entry) : (k.putEntry e).entry? e.asid e.line = some e := by
  rw [Core.putEntry, Core.entry?, List.find?_cons_of_pos (by simp)]

/-- A hit on a line leaves its entry, with another stamp of its use. -/
theorem State.entry?_hitLine {s : State} {core asid line pol : Nat} {e : L1Entry} (he : (s.core core).entry? asid line = some e) :
    ∃ e', ((s.hitLine core asid line pol).core core).entry? asid line = some e' ∧ e.usedFrom e' := by
  have htouch := Core.entry?_of_map (k := s.core core) (k' := (s.core core).touch asid line) rfl
    (fun e => by split <;> exact ⟨rfl, rfl⟩) asid line
  have hretain := Core.entry?_of_map (k := (s.core core).touch asid line) (k' := (s.hitLine core asid line pol).core core)
    (by rw [State.hitLine, State.core_mapCore, if_pos rfl]) (fun e => by split <;> exact ⟨rfl, rfl⟩) asid line
  rw [htouch, he] at hretain
  refine ⟨_, hretain, ?_⟩
  have hkey := Core.entry?_key he
  dsimp only
  rw [if_pos hkey]
  exact ⟨_, _, if_pos hkey⟩

/-- The entry that a store leaves in place of one that its line has. -/
def L1Entry.stored (e : L1Entry) (m : LineMask) (x : LineData) : L1Entry := { e with dirty := e.dirty ||| m, data := overlay e.data x m }

/-- A store to a line that the L1d holds, by a context that does not speculate, leaves its bytes in the entry. -/
theorem State.placeStore_hit {s : State} {va scope pol : Nat} {m : LineMask} {x : LineData} {q : Piece} {e : L1Entry} (hspec : s.speculative = false)
    (he : (s.core s.coreId).entry? (s.asidOf s.cur) (va / 256) = some e) (hw : e.w = true) (hkind : e.kind ≠ 1) :
    s.placeStore va m x 0 scope pol q = .ok () ((s.mapCore s.coreId (fun k => k.putEntry (e.stored m x))).hitLine
      s.coreId (s.asidOf s.cur) (va / 256) pol) := by
  have hbits : hitBits (some e) (s.ownSpec (s.asidOf s.cur) (va / 256)) = some e.bits := rfl
  have hso : soStore e.bits.kind 0 = false := by rw [soStore, show e.bits.kind = e.kind from rfl, Bool.or_eq_false_iff, beq_eq_false_iff_ne]; exact ⟨hkind, rfl⟩
  have hwrite : e.bits.w = true := hw
  rw [State.placeStore]
  simp only [he, hbits, hspec, hso, hwrite, Bool.false_or, Bool.not_false, if_true, Bool.not_true, Bool.false_eq_true, if_false]
  rfl

/-! ### A store to the speculative entry of a task (R263) -/

theorem State.ownSpec_eq {s : State} (h : s.speculative = true) (asid line : Nat) : s.ownSpec asid line = (s.core s.coreId).spec? asid line (s.threadId % 8) := if_pos h

theorem SpecEntry.ordinary (p : SpecEntry) (hkind : p.kind ≠ 1) : soStore p.bits.kind 0 = false := by
  rw [soStore, show p.bits.kind = p.kind from rfl, Bool.or_eq_false_iff, beq_eq_false_iff_ne]
  exact ⟨hkind, rfl⟩

/-- The entry that a store of a task leaves in place of its own entry of the line. -/
def SpecEntry.stored (p : SpecEntry) (m : LineMask) (x : LineData) (pol used : Nat) : SpecEntry :=
  { p with mask := p.mask ||| m, so := p.so &&& ~~~m, late := p.late &&& ~~~m, sent := p.sent &&& ~~~m, data := overlay p.data x m, pol := pol, used := used }

/-- A core whose speculative entry of a key gives way to another. -/
def Core.putSpec (k : Core) (asid line slot : Nat) (p : SpecEntry) : Core :=
  { k with useCtr := k.useCtr + 1, spec := p :: k.spec.filter (fun e => !(e.asid == asid && e.line == line && e.slot == slot)) }

theorem Core.spec?_putSpec (k : Core) {asid line slot : Nat} {p : SpecEntry} (hasid : p.asid = asid) (hline : p.line = line) (hslot : p.slot = slot) :
    (k.putSpec asid line slot p).spec? asid line slot = some p := by
  rw [Core.putSpec, Core.spec?, List.find?_cons_of_pos (by simp [hasid, hline, hslot])]

theorem State.placeStore_spec {s : State} {va scope pol : Nat} {m : LineMask} {x : LineData} {p : SpecEntry} (hspec : s.speculative = true)
    (he : (s.core s.coreId).entry? (s.asidOf s.cur) (va / 256) = none) (hp : s.ownSpec (s.asidOf s.cur) (va / 256) = some p) (hw : p.w = true) (hkind : p.kind ≠ 1) :
    s.placeStore va m x 0 scope pol .whole = .ok () (s.mapCore s.coreId (fun k =>
      k.putSpec (s.asidOf s.cur) (va / 256) (s.threadId % 8) (p.stored m x pol (s.core s.coreId).useCtr))) := by
  have hbits : hitBits none (some p) = some p.bits := rfl
  have hso := p.ordinary hkind
  have hwrite : p.bits.w = true := hw
  have hrel : relStore p.bits.kind 0 scope = false := rfl
  rw [State.placeStore]
  simp only [he, hp, hbits, hspec, hso, hwrite, hrel, Bool.true_or, if_true, Bool.not_true, Bool.false_eq_true, if_false, State.specStore, Bool.false_and, Bool.or_false, Piece.whole]
  rfl

end Sys2Proof.Machine

namespace Sys2Proof.Machine
open Sys2Proof.Claims

/-! ### What a translation and a read of a line leave as they were (R188, R273, R276) -/

/-- From one state to another only the clusters, the sheets and the requests on their way changed. -/
def State.translatesOnly (s t : State) : Prop := t = { s with clusters := t.clusters, sheets := t.sheets, net := t.net, nextPkt := t.nextPkt }

theorem State.translatesOnly.trans {r s t : State} (h : r.translatesOnly s) (h' : s.translatesOnly t) : r.translatesOnly t := by
  rw [State.translatesOnly] at h h' ⊢
  rw [h] at h'
  exact h'

theorem State.translatesOnly_of_readsOnly {s t : State} (h : s.readsOnly t) : s.translatesOnly t := by
  obtain ⟨h, -⟩ := h
  rw [State.translatesOnly, h]

theorem State.translatesOnly_spillHc (s : State) (cl : Nat) (e : TlbEntry) : s.translatesOnly (s.spillHc cl e) := by
  unfold State.spillHc
  dsimp only
  split <;> rfl

theorem State.translatesOnly_tlbFill (s : State) (cl asid va : Nat) (l : Leaf) : s.translatesOnly (s.tlbFill cl asid va l) := by
  have hroom : s.translatesOnly (if 2048 ≤ (s.cluster cl).tlb.length then (s.cluster cl).tlb.getLast?.elim s (fun e => s.spillHc cl e) else s) := by
    split
    · cases (s.cluster cl).tlb.getLast? with
      | none => rfl
      | some e => exact s.translatesOnly_spillHc cl e
    · rfl
  exact hroom.trans rfl

theorem State.translatesOnly_translate (s : State) (cl asid va : Nat) (acc : Access) (secure : Bool) : s.translatesOnly (s.translate cl asid va acc secure).2 := by
  have hwalked := State.translatesOnly_of_readsOnly (s.readsOnly_walked (sheetOfCluster cl) asid va)
  unfold State.translate
  split
  · dsimp only
    refine State.translatesOnly.trans ?_ (rfl : State.translatesOnly _ (State.mapCluster _ _ _))
    split
    · exact s.translatesOnly_spillHc _ _
    · rfl
  · dsimp only
    split
    · exact hwalked.trans (State.translatesOnly_tlbFill _ _ _ _ _)
    · exact hwalked

/-- From one state to another only the clusters and the sheets changed, and of a sheet neither its windows nor the size of its atlas store: every address holds the same byte. -/
def State.sameHomes (s t : State) : Prop :=
  t = { s with clusters := t.clusters, sheets := t.sheets } ∧ ∀ n, (t.sheet n).windows = (s.sheet n).windows ∧ (t.sheet n).atlas = (s.sheet n).atlas

theorem State.sameHomes.trans {r s t : State} (h : r.sameHomes s) (h' : s.sameHomes t) : r.sameHomes t := by
  obtain ⟨hframe, hsheets⟩ := h
  obtain ⟨hframe', hsheets'⟩ := h'
  rw [hframe] at hframe'
  exact ⟨hframe', fun n => ⟨(hsheets' n).1.trans (hsheets n).1, (hsheets' n).2.trans (hsheets n).2⟩⟩

theorem State.sameHomes_refl (s : State) : s.sameHomes s := ⟨rfl, fun _ => ⟨rfl, rfl⟩⟩

theorem State.sameHomes_mapCluster (s : State) (n : Nat) (f : Cluster → Cluster) : s.sameHomes (s.mapCluster n f) := ⟨rfl, fun _ => ⟨rfl, rfl⟩⟩

theorem State.sameHomes_mapSheet (s : State) (n : Nat) {f : Sheet → Sheet} (hf : ∀ h, (f h).windows = h.windows ∧ (f h).atlas = h.atlas) : s.sameHomes (s.mapSheet n f) := by
  refine ⟨rfl, fun m => ?_⟩
  rw [State.sheet_mapSheet]
  split
  · next e => rw [e]; exact hf _
  · exact ⟨rfl, rfl⟩

theorem State.sameHomes_foldl {α : Type} {f : State → α → State} (hf : ∀ (s : State) a, s.sameHomes (f s a)) (l : List α) (s : State) : s.sameHomes (l.foldl f s) :=
  List.foldlRecOn (motive := s.sameHomes) _ _ s.sameHomes_refl (fun t ht a _ => ht.trans (hf t a))

theorem State.sameHomes_countUnbacked (s : State) (pa : Nat) : s.sameHomes (s.countUnbacked pa) := by
  unfold State.countUnbacked
  split
  · exact s.sameHomes_mapSheet _ fun _ => ⟨rfl, rfl⟩
  · exact s.sameHomes_refl

theorem State.sameHomes_countLate (s : State) (cl : Nat) : s.sameHomes (s.countLate cl) := ⟨rfl, fun _ => ⟨rfl, rfl⟩⟩

theorem State.sameHomes_forwardPacket (s : State) (cl : Nat) (p : Nat × Option Nat × Nat) : s.sameHomes (s.forwardPacket cl p) := by
  have hcounted (t : State) : t.sameHomes (if t.isLate p.2.1 then t.countLate cl else t) := by
    split
    · exact t.sameHomes_countLate _
    · exact t.sameHomes_refl
  have hleft := (s.sameHomes_mapCluster cl (fun c => { c with packets := c.packets.filter (· ≠ p) })).trans (hcounted _)
  unfold State.forwardPacket
  dsimp only
  split
  · exact hleft
  · split
    · exact hleft
    · exact hleft.trans (State.sameHomes_mapCluster _ _ _)

theorem State.sameHomes_yieldAt (cl : Nat) (x : Nat × Option Nat × Nat) (n : Nat) (s : State) : s.sameHomes (s.yieldAt cl x n) := by
  induction n generalizing s with
  | zero => exact s.sameHomes_refl
  | succ n ih =>
    unfold State.yieldAt
    split
    · exact s.sameHomes_refl
    · split
      · exact s.sameHomes_refl
      · exact (s.sameHomes_forwardPacket cl _).trans (ih _)

theorem State.sameHomes_travel (s : State) (src dst : Nat) (c : Option Nat) : s.sameHomes (s.travel src dst c) := by
  have hpass (t : State) : t.sameHomes (t.pass src dst c) := by
    unfold State.pass
    split
    · exact State.sameHomes_foldl (fun u r => u.sameHomes_countLate r) _ t
    · exact t.sameHomes_refl
  unfold State.travel
  refine State.sameHomes.trans ?_ (hpass _)
  split
  · exact s.sameHomes_refl
  · exact State.sameHomes_foldl (fun u _ => State.sameHomes_yieldAt _ _ _ u) _ s

theorem State.sameHomes_readPass (s : State) (cl pa : Nat) (c : Option Nat) : s.sameHomes (s.readPass cl pa c) :=
  (s.sameHomes_travel _ _ _).trans (State.sameHomes_travel _ _ _ _)

/-- A sheet reads a line of its own at the home. -/
theorem State.sameHomes_readLine_own {s : State} {sheet line : Nat} (h : paSheet line = sheet) :
    (s.readLine sheet line).1 = s.homeLine line ∧ s.sameHomes (s.readLine sheet line).2 := by
  refine ⟨s.readLine_home (.inl h), ?_⟩
  unfold State.readLine
  simp only [h, ne_eq, not_true_eq_false, if_false]
  cases s.windowOf line with
  | none => exact s.sameHomes_refl
  | some w => exact s.sameHomes_mapSheet _ fun _ => ⟨rfl, rfl⟩

theorem State.sameHomes.homeBytes_eq {s t : State} (h : s.sameHomes t) (pa n : Nat) : t.homeBytes pa n = s.homeBytes pa n := by
  obtain ⟨hframe, hsheets⟩ := h
  have hmem : t.mem = s.mem := by rw [hframe]
  have hregion (a : Nat) : t.region a = s.region a := by simp only [State.region, (hsheets _).2]
  have hwindow (a : Nat) : t.windowOf a = s.windowOf a := by simp only [State.windowOf, (hsheets _).1]
  unfold State.homeBytes
  refine List.map_congr_left fun k _ => ?_
  simp only [State.homeByte, hregion, hwindow, hmem]

theorem State.sameHomes.homeLine_eq {s t : State} (h : s.sameHomes t) (line : Nat) : t.homeLine line = s.homeLine line := by
  rw [State.homeLine, State.homeLine, h.homeBytes_eq]

/-- The bytes of a line at its home, from an address of it upward. -/
theorem State.lineBytes_homeLine (s : State) {pa n : Nat} (hfit : pa % 256 + n ≤ 256) : lineBytes (s.homeLine (pa / 256 * 256)) (pa % 256) n = s.homeBytes pa n := by
  have hbytes := s.homeBytes_drop_take (pa / 256 * 256) 256 (pa % 256) n hfit
  rw [show pa / 256 * 256 + pa % 256 = pa by omega] at hbytes
  rw [lineBytes, byteList, getBytes, State.toNat_homeLine, two_pow_eight_mul, two_pow_eight_mul, leNat_div_pow, leNat_mod_pow, hbytes]
  have hback := leBytes_leNat (s.homeBytes pa n)
  rwa [s.length_homeBytes] at hback

/-! ### A load that misses (R254, R261, R264) -/

/-- The entry of a line with room in its set, or with an entry already, changes the core alone. -/
theorem State.fillLine_frame {s : State} {core line : Nat} (hways : (s.core core).ways line < 10) (asid : Nat) (l : Leaf) (d : LineData) (m : LineMask) (pol : Nat) :
    s.fillLine core asid line l d m pol = { s with cores := (s.fillLine core asid line l d m pol).cores } := by
  have hroom : (s.allocLine core asid line l.bits pol).2 = s := by
    unfold State.allocLine
    split
    · rfl
    · exact if_pos hways
  have hkeep (e : L1Entry) : s.keepLine core e pol = { s with cores := (s.keepLine core e pol).cores } := by
    unfold State.keepLine
    dsimp only
    split <;> rfl
  unfold State.fillLine
  dsimp only
  rw [hroom]
  split
  · rfl
  · exact hkeep _

/-- A mask of an access marks a byte. -/
theorem lineMask_ne_zero {off n : Nat} (hoff : off < 256) (hn : 0 < n) : lineMask off n ≠ 0 := by
  intro hzero
  have hbit := getLsbD_lineMask (off := off) (n := n) hoff
  rw [hzero, decide_eq_true (by omega)] at hbit
  exact absurd hbit (by rw [show (0 : LineMask) = 0#256 from rfl, BitVec.getLsbD_zero]; decide)

/-- No byte of an access stands in an L1d without an entry of its line. -/
theorem miss_mask {off n : Nat} (hoff : off < 256) (hn : 0 < n) : (lineMask off n &&& ~~~((0 : LineMask) ||| 0) == 0) = false := by
  rw [beq_eq_false_iff_ne, show ~~~((0 : LineMask) ||| 0) = BitVec.allOnes 256 from rfl, BitVec.and_allOnes]
  exact lineMask_ne_zero hoff hn

/-- A load that misses raises the cause that the translation gives. -/
theorem State.loadGlobal_refused {s u : State} {va n scope pol c : Nat} (halign : va % n = 0) (hn : 0 < n)
    (he : (s.core s.coreId).entry? (s.asidOf s.cur) (va / 256) = none) (hp : s.ownSpec (s.asidOf s.cur) (va / 256) = none)
    (htranslate : s.translate s.clusterId (s.asidOf s.cur) va .load (s.coreSecure s.coreId) = (.cause c, u)) :
    s.loadGlobal va n 0 scope pol = .trap c (BitVec.ofNat 64 va) u := by
  have hmask := miss_mask (show va % 256 < 256 by omega) hn
  rw [State.loadGlobal]
  simp only [he, hp, htranslate, hmask, Bool.and_false, Bool.false_eq_true, if_false]
  exact if_neg fun hmis => hmis halign

/-- A load that finds its line nowhere in the L1d, on a page that is not SO, takes the bytes at the home and fills its line. -/
theorem State.loadGlobal_miss {s u : State} {va n scope pol pa : Nat} {l : Leaf} (halign : va % n = 0) (hn : 0 < n) (hfit : va % 256 + n ≤ 256)
    (he : (s.core s.coreId).entry? (s.asidOf s.cur) (va / 256) = none) (hp : s.ownSpec (s.asidOf s.cur) (va / 256) = none)
    (htranslate : s.translate s.clusterId (s.asidOf s.cur) va .load (s.coreSecure s.coreId) = (.page l pa, u)) (hkind : l.kind ≠ 1) (hmoving : u.moving pa = false)
    (hpoison : u.memPoison = []) (hnet : u.net = []) (hways : (u.core s.coreId).ways (va / 256) < 10)
    (halias : (u.cluster s.clusterId).rmap.get? (pa / 256 * 256) = none) (hsheet : paSheet pa = s.sheetId) (hoff : pa % 256 = va % 256) :
    ∃ w t, s.loadGlobal va n 0 scope pol = .ok (u.homeBytes pa n, l.kind) t ∧ u.sameHomes w ∧ t = { w with cores := t.cores } := by
  have hu : s.translatesOnly u := by
    have htranslates := s.translatesOnly_translate s.clusterId (s.asidOf s.cur) va .load (s.coreSecure s.coreId)
    rwa [htranslate] at htranslates
  have hmask := miss_mask (show va % 256 < 256 by omega) hn
  have hbits : hitBits none none = none := rfl
  have hso : (l.kind == 1) = false := beq_eq_false_iff_ne.2 hkind
  have hchange : u.aliasChange s.clusterId (pa / 256 * 256) (s.asidOf s.cur) (va / 256) = .ok () (u.setAlias s.clusterId (pa / 256 * 256) (s.asidOf s.cur) (va / 256)) := by
    rw [State.aliasChange, State.aliasFlush, halias]
    rfl
  rw [State.loadGlobal]
  simp only [he, hp, hbits, htranslate, hmoving, hpoison, hmask, hso, hchange, show ((0 : Nat) == 4) = false from rfl, show ((0 : Nat) == 1) = false from rfl, Bool.false_and,
    Bool.or_false, Bool.and_false, List.any_nil, Bool.false_eq_true, if_false, Acc.bind_ok]
  rw [if_neg fun hmis => hmis halign]
  generalize hw : State.readPass s.clusterId pa _ _ = w
  have hsame : u.sameHomes w := by
    rw [← hw]
    exact ((u.sameHomes_mapCluster _ _).trans (State.sameHomes_countUnbacked _ _)).trans (State.sameHomes_readPass _ _ _ _)
  have hwsheet : w.sheetId = s.sheetId := by
    rw [hsame.1, hu]; rfl
  have hpaLine : paSheet (pa / 256 * 256) = w.sheetId := by
    rw [hwsheet, ← hsheet]
    simp only [paSheet]
    omega
  obtain ⟨hline, hread⟩ := State.sameHomes_readLine_own hpaLine
  rw [hsame.homeLine_eq] at hline
  replace hread := hsame.trans hread
  generalize w.readLine w.sheetId (pa / 256 * 256) = r at hline hread ⊢
  obtain ⟨d, v⟩ := r
  dsimp only at hline hread ⊢
  subst hline
  have hvnet : v.net = [] := by rw [hread.1]; exact hnet
  have hvpoison : v.memPoison = [] := by rw [hread.1]; exact hpoison
  have hinflight : v.inflight s.coreId (s.asidOf s.cur) (va / 256) (pa / 256 * 256) (u.homeLine (pa / 256 * 256)) = u.homeLine (pa / 256 * 256) := by
    rw [State.inflight, hvnet]; rfl
  have hclean : v.poisoned (pa / 256 * 256 + va % 256 / 64 * 64) 64 = false := by
    rw [State.poisoned, hvpoison]; rfl
  have hvspec : v.useSpec (s.asidOf s.cur) (va / 256) (lineMask (va % 256) n) = v := by
    have hown : v.ownSpec (s.asidOf s.cur) (va / 256) = none := by
      rw [← hp, hread.1, hu]; rfl
    rw [State.useSpec, hown]
  have hvways : (v.core s.coreId).ways (va / 256) < 10 := by rw [hread.1]; exact hways
  have hfill := v.fillLine_frame hvways (s.asidOf s.cur) l (u.homeLine (pa / 256 * 256)) (lineMask (va % 256) n) pol
  have hkept : s.lost (v.fillLine s.coreId (s.asidOf s.cur) (va / 256) l (u.homeLine (pa / 256 * 256)) (lineMask (va % 256) n) pol) = false := by
    have hthreads : (v.fillLine s.coreId (s.asidOf s.cur) (va / 256) l (u.homeLine (pa / 256 * 256)) (lineMask (va % 256) n) pol).threads = s.threads := by
      rw [hfill, hread.1, hu]
    rw [State.lost, State.thread, hthreads, ← State.thread]
    simp
  have hvalue := State.lineBytes_homeLine u (pa := pa) (n := n) (by rwa [hoff])
  rw [hoff] at hvalue
  rw [hinflight, hclean, hvspec, hkept, hvalue]
  exact ⟨v, _, rfl, hread, hfill⟩

end Sys2Proof.Machine

namespace Sys2Proof.Proofs
open Sys2Proof.Machine Sys2Proof.Claims

/-- The loads of O19 that hit. -/
theorem globalLoadsThatHit : GlobalLoadsThatHit := by
  intro s g d b z o e hguard h hsurveyor hplain a va n p
  refine ⟨exec_ld_global_misaligned hguard hsurveyor hplain h, fun halign he hall => ?_⟩
  have hexec := exec_ld_global_hit hguard hsurveyor hplain h halign he hall
  refine ⟨fun hr => ?_, fun hr => ?_⟩
  · rw [if_pos hr] at hexec
    rw [hexec]
    exact completes_done _
  · rw [hexec, hr]
    rfl

/-- The loads of O19 that miss. -/
theorem globalLoadsThatMiss : GlobalLoadsThatMiss := by
  intro s u g d b z o hguard h hsurveyor hplain a va n halign he hp
  have hexec := exec_ld_global hguard hsurveyor hplain h
  refine ⟨fun l pa htranslate hkind hmoving hpoison hnet hways halias hsheet hoff => ?_, fun c htranslate => ?_⟩
  · obtain ⟨w, t, hload, ⟨hw, -⟩, ht⟩ := State.loadGlobal_miss (scope := s.ordHint.2) (pol := s.l1Policy) halign (accessSize_pos z) (aligned_fits z halign) he hp htranslate hkind
      hmoving hpoison hnet hways halias hsheet hoff
    have hu : s.translatesOnly u := by
      have htranslates := s.translatesOnly_translate s.clusterId (s.asidOf s.cur) va .load (s.coreSecure s.coreId)
      rwa [htranslate] at htranslates
    have hctx : t.ctx = s.ctx := by rw [ht, hw, hu]; rfl
    rw [hload, Acc.run_ok, State.acquirePart_plain (by rw [plainOrder, hctx]; exact hplain), loadValue_eq (u.length_homeBytes pa _)] at hexec
    obtain ⟨v, hv, hframe, hheld, -, -, -, hpc⟩ := completes_done (t.setReg d (extended z (u.homeBytes pa n)))
    have hset : (t.setReg d (extended z (u.homeBytes pa n))).ctx = s.ctx.setReg d (extended z (u.homeBytes pa n)) := by rw [State.ctx_setReg, hctx]
    refine ⟨v, hexec.trans hv, ?_, ?_, ?_, ?_⟩
    · rw [hheld, hset, State.ctx_setReg]
    · rw [hframe]
      show t.mem = u.mem
      rw [ht, hw]
    · rw [hframe]
      show t.net = []
      rw [ht, hw]
      exact hnet
    · have hkept : (t.setReg d (extended z (u.homeBytes pa n))).repeats = s.repeats ∧ (t.setReg d (extended z (u.homeBytes pa n))).ctx.pc = s.ctx.pc := by
        rw [State.repeats, State.repeats, hset]
        unfold Ctx.setReg
        split <;> exact ⟨rfl, rfl⟩
      rw [hpc, hkept.1, hkept.2]
  · rw [hexec, State.loadGlobal_refused halign (accessSize_pos z) he hp htranslate, Acc.run_trap, BitVec.ofNat_toNat, BitVec.setWidth_eq]

/-- The stores of O19. -/
theorem globalStoresStayInTheL1d : GlobalStoresStayInTheL1d := by
  intro s g d b z o e hguard h hsurveyor hplain a va n asid line
  refine ⟨exec_st_global_misaligned hguard hsurveyor hplain h, fun halign hpost he hw hkind => ?_, fun th side p hcur halign hpost he hp hw hkind => ?_⟩
  · have hspec : s.speculative = false := by rw [State.speculative, hpost, Bool.not_true, Bool.and_false]
    have hexec := exec_st_global_aligned hguard hsurveyor hplain h halign
    rw [State.placeStore_hit hspec he hw hkind, Acc.run_ok] at hexec
    obtain ⟨hasid, hline⟩ := Core.entry?_key he
    have hput (e' : L1Entry) (hkey : e'.asid = e.asid ∧ e'.line = e.line) : ((s.mapCore s.coreId (fun k => k.putEntry e')).core s.coreId).entry? asid line = some e' := by
      rw [State.core_mapCore, if_pos rfl, ← hasid, ← hline, ← hkey.1, ← hkey.2]
      exact Core.entry?_putEntry _ e'
    obtain ⟨e', he', used, retain, hused⟩ := State.entry?_hitLine (pol := s.l1Policy)
      (hput (e.stored (lineMask (va % 256) n) (lineOf (va % 256) (leBytes n (s.reg d).toNat))) ⟨rfl, rfl⟩)
    refine ⟨_, e', hexec ▸ completes_done _, rfl, fun c hc => ?_, he', by rw [hused]; rfl, by rw [hused]; rfl, fun k hk => ?_, fun k hk => ?_, ?_, ?_⟩
    · rw [State.hitLine, State.core_mapCore, if_neg hc, State.core_mapCore, if_neg hc]
    · rw [hused, ← getLsbD_lineMask hk, ← BitVec.getLsbD_or]
      rfl
    · rw [hused]
      exact getBytes_overlay_store e.data hk
    · rw [State.hitLine, State.core_mapCore, if_pos rfl, State.core_mapCore, if_pos rfl]
      rfl
    · rw [State.hitLine, State.core_mapCore, if_pos rfl, State.core_mapCore, if_pos rfl]
      rfl
  · have hspec : s.speculative = true := by rw [State.speculative, hcur]; simp [CtxId.isTask, State.isPost, hpost]
    have hexec := exec_st_global_aligned hguard hsurveyor hplain h halign
    rw [State.placeStore_spec hspec he hp hw hkind, Acc.run_ok] at hexec
    rw [State.ownSpec_eq hspec] at hp
    obtain ⟨hasid, hline, hslot⟩ := Core.spec?_key hp
    refine ⟨_, p.stored (lineMask (va % 256) n) (lineOf (va % 256) (leBytes n (s.reg d).toNat)) s.l1Policy (s.core s.coreId).useCtr, hexec ▸ completes_done _, rfl,
      fun c hc => (s.core_mapCore _ _ _).trans (if_neg hc), ?_, fun k hk => ?_, fun k hk => getBytes_overlay_store p.data hk, ?_, ?_⟩
    · refine (State.ownSpec_eq (s := s.mapCore _ _) hspec asid line).trans ?_
      show ((s.mapCore s.coreId _).core s.coreId).spec? asid line (s.threadId % 8) = _
      rw [State.core_mapCore, if_pos rfl]
      exact Core.spec?_putSpec _ hasid hline hslot
    · rw [← getLsbD_lineMask hk, ← BitVec.getLsbD_or]
      rfl
    · rw [State.core_mapCore, if_pos rfl]
      rfl
    · rw [State.core_mapCore, if_pos rfl]
      rfl

/-- Settles O19, from the bytes that a load takes of its line's entry or home, and from the entry that a store leaves. -/
theorem globalLoadsAndStores : Obligations.GlobalLoadsAndStores := ⟨globalLoadsThatHit, globalLoadsThatMiss, globalStoresStayInTheL1d⟩

end Sys2Proof.Proofs
